-- ==== Sys2Proof/Word.lean ====
section
/-! DEFINITION. The byte and its plainest arithmetic. Register values are natural numbers kept below 2^width by the one
operation that writes them (Machine/Fields.lean); bytes of memories and of structures are bit vectors. -/

namespace Sys2Proof

/-- One byte of a memory, of a host structure, of a chart image or of a parcel (spec/00_scope.md, R12). -/
abbrev Byte := BitVec 8

/-- A byte from a number, low eight bits. -/
def byte (n : Nat) : Byte := BitVec.ofNat 8 n

end Sys2Proof
end

