-- ==== Sys2Proof/Machine/Inputs.lean ====
section
/-! DEFINITION. What the outside supplies with a command: samples, levels seen, the content of parcels and of host
structures. -/

namespace Sys2Proof.Machine

/-- The samples the Surveyor took in a tick (Table SVY-1). -/
structure SurveyIn where
  /-- The four VIN samples, in mV. -/
  vin : List Nat
  /-- The four VM samples, in mV. -/
  vm : List Nat
  /-- The shock peaks of the two axes, in units of 0.5 g. -/
  peak0 : Nat
  peak1 : Nat
  /-- The samples of the eight die sites, in 1/4096 °C. -/
  temps : List Int
  deriving DecidableEq, Repr

/-- A request of a bench master (R377, Table BEN-4): a write of a word of 32 bytes at a 32-byte-aligned buffer address, or a read of it. -/
structure BReq where
  m : Nat
  addr : Nat
  data : Option (List Byte) := none
  deriving DecidableEq, Repr

/-- What the tick that ends at an edge has shown of the supplies, the shock axes, the pins and the slots' work. -/
structure TickIn where
  /-- Slots whose work is unfinished at the edge, in the bit order of Table CLK-5. -/
  overran : Nat := 0
  /-- The lowest and the highest VIN, and the lowest VM, of any cycle, in mV (R82, R86). -/
  vinMin : Nat := 3300
  vinMax : Nat := 3300
  vmMin : Nat := 12000
  /-- The cycle of the last rise of a recovery comparator in the tick. -/
  rise : Option Nat := none
  /-- The largest magnitudes of the two shock axes, in mg (R111). -/
  shock0 : Nat := 0
  shock1 : Nat := 0
  /-- PWRFAIL_N was low in every cycle (R92). -/
  pwrfailLow : Bool := false
  /-- The tick's samples, where the post slot has not taken them (R109). -/
  survey : Option SurveyIn := none
  /-- Pins of port A that were low, and high, at every reference sample of the tick (R148). -/
  lowA : Nat := 0
  highA : Nat := 0
  /-- From this edge on: the pads that the board drives, and their levels (R128). -/
  padDrv : Nat := 0
  padLvl : Nat := 0
  /-- The requests that masters first presented, cycle by cycle, in the cycles of the tick that STALL_PROMOTION has not shown (R382). -/
  bench : List (List BReq) := []
  deriving DecidableEq, Repr

/-- What the Surveyor sees before it releases a reset (R57, R84, R98, R114, R152, R198, R706). -/
structure ReleaseIn where
  /-- The lowest VIN of each of the last ticks in mV, the newest first. -/
  vin : List Nat
  /-- Gap-free presence of the reference, in ms. -/
  refMs : Nat
  /-- PWRFAIL_N is high. -/
  pwrfailHigh : Bool
  /-- The samples of the eight die sites in each tick of the reset, the oldest first, in 1/4096 °C. -/
  die : List (List Int)
  /-- RESET_N is high. -/
  resetHigh : Bool
  /-- STRAP0 to STRAP3 in bits 0 to 3 as sampled (R154). -/
  straps : Nat
  deriving DecidableEq, Repr

/-- The stages with a bound and a failure exit (Tables SYS-10 and SYS-12). -/
inductive Stage where
  | clock | bist | chart | dram | spindle | heads | training | discovery
  deriving DecidableEq, Repr

/-- What an observer update gives (R228, R242): back-EMF estimate, in a listen the measured amplitude A, in µV; corrected speed in 0.1 rpm; residual
and current amplitude in mA; the rotor angle in 1 / 150 000 000 of an electrical turn. -/
structure ObsIn where
  emf : Nat
  speed : Int
  resid : Nat
  iamp : Nat
  angle : Int
  deriving DecidableEq, Repr

/-- What the demodulator sees for an estimate (R259 to R261, Table SRV-1): position within the track, velocity, quality; Aa + Ab above the quality
floor, a legal carrier pair; stripes crossed since the last estimate, inward positive; a code word that completed in it: whether it passed its check,
and its track. -/
structure DemodIn where
  frac : BitVec 16
  vel : BitVec 16
  qual : BitVec 6
  above : Bool
  legal : Bool
  cross : Int := 0
  word : Option (Bool × BitVec 24) := none
  deriving DecidableEq, Repr

/-- What a control run meets: the measured back-EMF in mV, inward positive, the coil current in node format (node 5), corrected coefficient words,
re-reads, and 1 or 2 for a stop by parity or by a word uncorrectable in both copies (R304, R305). -/
structure CtlIn where
  bemf : Int := 0
  icoil : Int := 0
  corrected : Nat := 0
  rereads : Nat := 0
  stop : Nat := 0
  deriving DecidableEq, Repr

/-- A parcel of the fabric: its header (Table FAB-3) and its payload. The first LBA and the number of blocks of the piece it belongs to
(`first`, `count`) have no place in the header's layout; the port it arrived on is the receiver's (assumption log 16). -/
structure Parcel where
  kind : Nat
  src : Nat := 0
  dst : Nat := 0
  hops : Nat := 0
  dlc : Bool := false
  waypt : Option Nat := none
  passed : Bool := false
  first : Nat := 0
  count : Nat := 1
  inPort : Nat := 0
  lba : Nat := 0
  modes : Nat := 0
  volc : Nat := 0xFF
  xid : Nat := 0
  keyTick : Nat := 0
  keyNode : Nat := 0
  span : Nat := 0
  resend : Bool := false
  epoch : Nat := 0
  /-- HCRC as it arrives; of a parcel in this node, by how much it differs from the header's CRC (R543). -/
  hcrc : Nat := 0
  body : List Byte := []
  deriving DecidableEq, Repr

/-- What the host sets in a function's Device Control register: Relaxed Ordering enabled (R411). PRESUMED (log 160): enabled after a reset, as PCI
Express has it. -/
structure DevCtl where
  relaxed : Bool := true
  deriving DecidableEq, Repr

/-- The outcome of reading host memory: the bytes, or an error of R421, logged under AER or not. -/
inductive HRead where
  | ok (bytes : List Byte)
  | err (aer : Bool)
  deriving DecidableEq, Repr

/-- The descriptor lists of a command's transfer as read from the host, in order, and an error that ended the reading (R419 to R421). -/
structure DescIn where
  lists : List (List Byte) := []
  err : Option Bool := none
  deriving DecidableEq, Repr

/-- What a channel accumulated in a tick with reads: the gradient sums of the lead and of the trail taps, and the mean level errors of the two
readers (spec/10_channel.md, Equaliser and threshold loops). -/
structure ChanSums where
  lead : List Int
  trail : List Int
  ofsL : Int
  ofsT : Int
  deriving DecidableEq, Repr

/-- What a read tick shows of the clearance of the selected head: the estimate in 0.01 nm, and its error in 0.1 mW (spec/10_channel.md, The
loop). -/
structure ClearIn where
  est : Int
  err : Int
  deriving DecidableEq, Repr

/-- What decoding a sector shows: a sync mark found, and the iterations it takes to converge, 0 where the hard decisions satisfy every check
(Table CHN-2). -/
structure DecodeIn where
  sync : Bool
  iters : Nat
  deriving DecidableEq, Repr

/-- How a sector decodes with both readers, with the lead reader alone and with the trail reader alone (R327). -/
structure ReadIn where
  joint : DecodeIn
  lead : DecodeIn
  trail : DecodeIn
  deriving DecidableEq, Repr

/-- The outcome for a READER code: 0 joint, 1 lead, 2 trail (Table CHN-4). -/
def ReadIn.by (x : ReadIn) (reader : Nat) : DecodeIn := if reader = 0 then x.joint else if reader = 1 then x.lead else x.trail

/-- What the start-up calibration of a head meets: the preamp's identity and temperature, none for a sideband read that failed; the calibration track
written and read, the separation measured there in channel bits, the adapted taps and offsets (R351, R326). -/
structure CalIn where
  id : Option (BitVec 16)
  temp : Option (BitVec 8)
  track : Bool
  sep : Int
  lead : List Int
  trail : List Int
  ofsL : Int
  ofsT : Int
  deriving DecidableEq, Repr

/-- The error class that a DRAM read shows (Table DRM-2): none, a link error corrected, one bit of a lane corrected, uncorrectable. -/
inductive DramCls where
  | ok | link | corrected | uncorrectable
  deriving DecidableEq, Repr

/-- What a line of the table region holds, at the addresses that the device chooses (R397): the tags of a slab's block, the forward map, nothing,
or anything else. -/
inductive TableUse where
  | tag (slab : Nat) (block : Fin 256)
  | map
  | free
  | other
  deriving DecidableEq, Repr

/-- What owns the bench word that shows a class B error (R405): a command's data, a parcel in receive, a twin copy in receive, or a solid bench. -/
inductive BenchOwner where
  | command (slot : Nat)
  | parcel (p : Parcel)
  | copy (p : Parcel)
  | solid
  deriving DecidableEq, Repr

/-- A link-state record (R557): the node's serial, flags, root, its ports as (up, peer), origination tick, sequence number, and the tick in
which its discovery ended (R562). -/
structure Lsr where
  serial : List Byte := []
  rootOk : Bool := false
  aligned : Bool := false
  root : Nat := 0x3FF
  ports : List (Bool × Nat) := []
  tick : Nat := 0
  seq : Nat := 0
  ended : Option Nat := none
  deriving DecidableEq, Repr

/-- A flit as the codeword's decoder gives it (R532): the codeword decoded, the symbols corrected in it, and the flit's 640 bytes (Table FAB-1). -/
structure FlitIn where
  decoded : Bool
  corrected : Nat
  bytes : List Byte
  deriving DecidableEq, Repr

/-- What a lane's eye metric of the previous tick calls for (R541): DFE tap 1 and CTLE peaking up (+1), down (−1) or as they are. -/
structure EyeIn where
  dfe : Int
  ctle : Int
  deriving DecidableEq, Repr

end Sys2Proof.Machine
end

