-- ==== Sys2Proof/Syntax.lean ====
section
/-! DEFINITION. The commands of the block: one constructor per row of spec/opcode_table.json,
those with operands before those without, each part in the table's order (compiled Lean knows only 244 constructors with operands). -/

namespace Sys2Proof

open Sys2Proof.Machine

/-- A command of the block: a register access, an occurrence on a pin or a supply, a slot of the tick, an operation of a
protocol, with the operands that the outside supplies. -/
inductive Instr where
  /-- REG_WRITE (R13): A BAR0 write to a register that has no row of its own takes effect according to the access codes of its fields; narrow or unaligned writes are discarded. -/
  | regWrite (fn : Fin 16) (a : BitVec 26) (len : Fin 5) (v : BitVec 32)
  /-- READ_LOW_DWORD (R18): A read of the low dword of a 64-bit register loads the function's read latch with the high dword as it stands in that cycle. -/
  | readLowDword (fn : Fin 16) (a : BitVec 26)
  /-- WRITE_HIGH_DWORD (R18): A write of the high dword of a 64-bit register goes into the function's staging dword and changes nothing else. -/
  | writeHighDword (fn : Fin 16) (a : BitVec 26) (v : BitVec 32)
  /-- WRITE_LOW_DWORD (R18): A write of the low dword of a 64-bit register commits the low dword and the staging dword together, then reloads the staging dword. -/
  | writeLowDword (fn : Fin 16) (a : BitVec 26) (v : BitVec 32)
  /-- WIDE_ACCESS (R696): An access of 8 bytes or more reads or commits each covered 64-bit register whole in one cycle and handles the other dwords one per cycle. -/
  | wideAccess (fn : Fin 16) (a : BitVec 26) (n : Nat) (w : Option (List Byte))
  /-- TICK_EDGE (R58): At each tick edge the tick counter increments and the edge latch captures the values of the previous tick. -/
  | tickEdge (x : TickIn)
  /-- CONTROL_RUN (R287): Each control engine runs its selected coefficient set in the control slot and applies its VCM and milliactuator outputs at the output cycle. -/
  | controlRun (k : Fin 4) (x : CtlIn)
  /-- SURVEYOR_POST (R109): The filtered shock, temperature, VIN and VM samples are posted to the core-visible registers in the Surveyor post slot. -/
  | surveyorPost (x : SurveyIn)
  /-- CREDIT_REFRESH (R430): At cycle 600 each function's fetch credit is set from tunable 0x000D and the bench counters and utilization are published. -/
  | creditRefresh (corrA corrB : Nat)
  /-- AVS_STEP (R118): The AVS loop takes one step: it adjusts VCORE from the margin and latches clock requests from the bench utilization. -/
  | avsStep (m : Nat)
  /-- CHANNEL_STEP (R331): Each channel loop adapts the taps and offsets from the sums of the previous tick, bounded by the effective envelopes. -/
  | channelStep (x : List (Option ChanSums))
  /-- FLY_HEIGHT_STEP (R334): Each fly-height loop moves the heater toward its wanted value within the slew limit, the touchdown guard and the envelope. -/
  | flyHeightStep (x : List (Option ClearIn))
  /-- SERDES_STEP (R541): Each SerDes loop adjusts its CTLE and DFE settings from the eye metric of the previous tick, within the envelopes. -/
  | serdesStep (x : List (Option EyeIn))
  /-- SNAPSHOT_SLOT (R626): Up to four armed snapshot lists are captured from the registers in the snapshot slot. -/
  | snapshotSlot (captured : Option Nat)
  /-- PINNED_EPISODE_EVENT (R48): When a loop has been pinned in 64 consecutive ticks, its pinned event is raised once for the episode. -/
  | pinnedEpisodeEvent (kind : Fin 5) (place : Nat)
  /-- REFERENCE_LOSS (R56): A reference missing for 1 µs puts the PLL into holdover, drops the write gates and starts an emergency park. -/
  | referenceLoss (ns : Nat := 1000)
  /-- PLL_UNLOCK (R56): A PLL unlock declaration puts the PLL into holdover, drops the write gates and starts an emergency park. -/
  | pllUnlock (periods : Nat := 64)
  /-- TICK_NUMBER_LOAD (R74): Fabric alignment loads the tick counter once, at the first edge after the first TIME parcel, and writes a tick-load record. -/
  | tickNumberLoad (x : TickIn)
  /-- POWER_GOOD_FAILURE (R80): A buck power-good failure lasting 2 µs drops the write gates and resets the device with cause regulator fault. -/
  | powerGoodFailure (rail : Fin 3 := 0) (v : Nat := 0) (ns : Nat := 2000)
  /-- ALWAYS_ON_RESET (R81): VIN below 1.8 V resets the always-on domain, which clears the retained registers; the next cause reads power-on. -/
  | alwaysOnReset (mv : Nat := 0)
  /-- VIN_WARNING_CROSSING (R83): A VIN warning crossing drops every write gate within 6 cycles and starts a supply hold. -/
  | vinWarningCrossing (mv : Nat := 0) (ns : Nat := 20)
  /-- VIN_OVER_CROSSING (R83): A VIN over crossing drops every write gate within 6 cycles and starts a supply hold. -/
  | vinOverCrossing (mv : Nat := 5750) (ns : Nat := 20)
  /-- VM_WARNING_CROSSING (R83): A VM warning crossing drops every write gate within 6 cycles and starts a supply hold. -/
  | vmWarningCrossing (mv : Nat := 0) (ns : Nat := 20)
  /-- VIN_RESET_CROSSING (R84): A VIN reset crossing resets the device, except the always-on domain, with cause VIN reset. -/
  | vinResetCrossing (mv : Nat := 0) (ns : Nat := 20)
  /-- VM_LOSS_CROSSING (R90): A VM loss crossing turns the bridge into a rectifier and starts the back-EMF retract of every loaded actuator. -/
  | vmLossCrossing (mv : Nat := 0) (ns : Nat := 20)
  /-- HOLD_CAUSE_CLEAR (R86): A hold cause clears after 25 consecutive ticks with its recovery comparator high in every cycle. -/
  | holdCauseClear (cause : Fin 3)
  /-- RESET_RELEASE (R198): The Surveyor releases the reset once the hold condition of its cause has ended, and the start-up sequence begins. -/
  | resetRelease (x : ReleaseIn)
  /-- POWER_LOSS_DECLARED (R94): A power loss is declared from PWRFAIL_N or from both rails; the device retracts, stops its links and writes the power-loss journal. -/
  | powerLossDeclared (byPin : Bool)
  /-- SHOCK_CROSSING (R110): A shock comparator crossing drops every write gate within 6 cycles and starts write inhibit. -/
  | shockCrossing (mg : Nat := 127501)
  /-- BOARD_SENSOR_READ (R116): The Surveyor reads a declared I²C board sensor every 25 000 ticks and converts the value. -/
  | boardSensorRead (k : Fin 4) (b : Option (List Byte))
  /-- SENSOR_ALERT_READ (R116): A sensor whose SENSALERT input was seen low is read in the next tick. -/
  | sensorAlertRead (k : Fin 4) (b : Option (List Byte))
  /-- WAKE_QUALIFY (R149): A port A wake condition or a PERST_N deassertion qualifies in Vigil; the PLL is enabled and the Vigil exit starts with cause 0x6. -/
  | wakeQualify (levels : BitVec 16) (perst : Bool)
  /-- EXTINT_EDGE (R133): An edge accepted through the stability filter sets PEND, stamps PIN_EXTTS and raises event 48 + n; OVF is set when PEND was already set. -/
  | extintEdge (n : Fin 16) (rising : Bool) (held : Nat := 512)
  /-- EXTINT_LEVEL (R136): In level mode, PEND follows the filtered level and the event is raised on entry to the active level. -/
  | extintLevel (n : Fin 16) (high : Bool) (held : Nat := 512)
  /-- EVO_PULSE_END (R139): The pulse of an event-output line in pulse mode ends after 8 × (PW + 1) cycles. -/
  | evoPulseEnd (n : Fin 16)
  /-- RESET_N_ASSERT (R152): RESET_N low for 1 µs resets the whole device, the always-on domain included. -/
  | resetNAssert (ns : Nat := 1000)
  /-- BIST_END (R644): The boot self-test ends, writes a BIST record, and enters fault mode on a failure. -/
  | bistEnd (fail : Option (BitVec 8 × BitVec 16))
  /-- CHART_STAGE (R201): The chart stage scans the mark journal and wear table, selects and checks a slot, scans the journals and the Gazetteer and applies the chart. -/
  | chartStage (differs : List Bool)
  /-- FLASH_ERASE_COMPLETE (R175): A sector erase ends; the sector is read back and a completion mark is programmed. -/
  | flashEraseComplete (t : Nat) (blank : Bool)
  /-- FLASH_PROGRAM_COMPLETE (R185): A page program ends and the page is read back. -/
  | flashProgramComplete (same : Bool) (us : Nat := 0)
  /-- DRAM_INIT_COMPLETE (R391): DRAM training and initialisation with zero data and valid inline ECC complete, and the DRAM branch ends. -/
  | dramInitComplete (ok : Bool) (gib0 : Nat := 0) (gib1 : Nat := 0)
  /-- STAGE_BOUND_EXPIRY (R199): A start-up stage that passes its bound takes its failure exit from Table SYS-12. -/
  | stageBoundExpiry (st : Stage) (us : Nat := 4000000000)
  /-- HEAD_CALIBRATION (R351): The start-up calibration of a head runs: identity, link check, touchdown, calibration track and separation. -/
  | headCalibration (head : Fin 20) (x : CalIn)
  /-- SYS_RSTCTL_GO (R220): A write of GO with KEY 0x9440 to SYS_RSTCTL starts a host-ordered reset. -/
  | sysRstctlGo (key : BitVec 16)
  /-- PCIE_LINK_UP (R409): The PCIe link trains at the widest allowed width, raising event 147 when it runs below its maximum. -/
  | pcieLinkUp (speed : Fin 5) (lanes : Fin 4)
  /-- LISTEN_END (R230): Listen ends at its first determined case, or after 20 ms; a spin-start record is written and the machine moves to CATCH, BRAKE or ALIGN. -/
  | listenEnd (c : Nat)
  /-- BRAKE_END (R231): Braking ends at the second consecutive listen window with the back-EMF below A30. -/
  | brakeEnd (a b : Nat)
  /-- OBSERVER_UPDATE (R242): Every 80 cycles the observer corrects its angle and speed and updates its confidence. -/
  | observerUpdate (x : ObsIn)
  /-- OVERCURRENT_TRIP (R226): The overcurrent comparator turns all bridge gates and write gates off within 6 cycles. -/
  | overcurrentTrip (gate : Nat)
  /-- DEMOD_ESTIMATE (R259): The demodulator delivers one of 16 position estimates per tick. -/
  | demodEstimate (k : Fin 4) (j : Fin 16) (x : DemodIn)
  /-- GUARD_REENABLE (R274): A tripped guard re-enables after WG_N consecutive valid estimates below WG_ON, and a write-guard record is written. -/
  | guardReenable (k : Fin 4)
  /-- SERVO_LOSS (R279): 64 consecutive invalid estimates declare servo loss and start an emergency park of that actuator. -/
  | servoLoss (k : Fin 4)
  /-- SEEK_DISPATCH (R265): The channel sequencer dispatches a seek to a head and track, which begins at the next edge. -/
  | seekDispatch (k : Fin 4) (head : Fin 20) (track : BitVec 24) (write : Bool)
  /-- SEEK_SETTLE_ENTRY (R266): When the seek reference reaches the target, the actuator enters SETTLE. -/
  | seekSettleEntry (k : Fin 4)
  /-- READ_READY (R266): After RSETTLE_N consecutive estimates inside the window, the actuator is read ready and enters FOLLOW. -/
  | readReady (k : Fin 4)
  /-- WRITE_READY (R266): After WSETTLE_N further estimates below WG_ON, the actuator is write ready. -/
  | writeReady (k : Fin 4)
  /-- SEEK_TIMEOUT (R267): A seek without read ready after T_MAX ticks raises event 104 and seeks again, or fails with 0x0212 the second time. -/
  | seekTimeout (k : Fin 4)
  /-- HEAD_SWITCH (R270): A head switch blocks the write gate and selects the new head's servo reader and preamp at the next edge. -/
  | headSwitch (k : Fin 4) (head : Fin 20) (track : BitVec 24) (write : Bool)
  /-- HEAD_SWITCH_ACQUIRE (R270): After 16 consecutive valid ID_OK estimates, acquisition succeeds and the actuator seeks to its target. -/
  | headSwitchAcquire (k : Fin 4)
  /-- HEAD_SWITCH_ACQUIRE_FAIL (R271): Acquisition not reached within 64 estimates takes the servo-loss path. -/
  | headSwitchAcquireFail (k : Fin 4)
  /-- LOAD_START (R281): A load measures R_COIL, drives inward at UL_BEMF to acquisition and seeks to the calibration track. -/
  | loadStart (k : Fin 4) (rcoil : BitVec 16) (moved : Bool)
  /-- LOAD_TIMEOUT (R282): A load that passes T_LOAD_MAX is unloaded and retried once; a second failure is a load failure. -/
  | loadTimeout (k : Fin 4)
  /-- PARK_COMPLETE (R283): A park completes when the back-EMF has stayed below 5 % of UL_BEMF for 2 ticks; the actuator is UNLOADED and a park record is written. -/
  | parkComplete (k : Fin 4) (a b : Nat)
  /-- EPARK_TIMEOUT (R284): An emergency park that passes T_EMG_MAX drops the VCM current and leaves the actuator in place. -/
  | eparkTimeout (k : Fin 4)
  /-- RETRACT_END (R285): A retract ends after T_RET. -/
  | retractEnd (k : Fin 4) (speed : Nat)
  /-- SAFE_HOLD_END (R308): Safe hold ends after SAFE_TICKS clean ticks, and the actuator seeks to its target. -/
  | safeHoldEnd (k : Fin 4)
  /-- CTL_TRACE_ARM (R316): A write of ARM to CTL_TRCCTL restarts the trace ring at index 0 and clears its state. -/
  | ctlTraceArm (k : Fin 4)
  /-- CTL_TRACE_STOP (R314): A host STOP is a trigger with a post count of 0. -/
  | ctlTraceStop (k : Fin 4)
  /-- CTL_TRACE_TRIG (R314): A host TRIG triggers the armed trace. -/
  | ctlTraceTrig (k : Fin 4)
  /-- TRACE_CAPTURE_STOP (R315): After POST further words the trace stops, and event 111 is raised. -/
  | traceCaptureStop (k : Fin 4)
  /-- LINK_FRAME (R319): A preamp link frame carries a command word and CRC, with a data response in a read frame. -/
  | linkFrame (k : Fin 4) (word : BitVec 32) (data crc : BitVec 16) (hit : Bool)
  /-- CONTACT_HOLD_END (R337): After 250 ticks the fly-height loop resumes from 0 at HSLEW. -/
  | contactHoldEnd (head : Fin 20)
  /-- PREAMP_FAULT (R325): PFAULT_N low for 16 cycles drops the write gate, raises event 119 and reads the fault register. -/
  | preampFault (k : Fin 4) (cycles : Nat := 16)
  /-- SIDEBAND_READ (R318): The preamp identity and temperature are read over the I²C sideband every 25 000 ticks. -/
  | sidebandRead (k : Fin 4) (id : Option (BitVec 16)) (temp : Option (BitVec 8))
  /-- TOUCHDOWN_STEP (R333): Every 25 ticks, touchdown calibration raises the heater by 1 mW and checks the contact sensor. -/
  | touchdownStep (k : Fin 4) (contact : Bool)
  /-- SECTOR_DECODE (R329): A decoded sector receives its LDPC outcome class, and classes 3 and 4 enter recovery. -/
  | sectorDecode (k : Fin 4) (head : Fin 20) (track : BitVec 24) (pos : BitVec 12) (x : ReadIn)
  /-- RECOVERY_STEP_END (R344): A ladder step ends; the sector is recovered, or the next step starts if its worst-case cost fits the deadline. -/
  | recoveryStepEnd (k : Fin 4) (x : ReadIn)
  /-- RECOVERY_ABORT_END (R349): An aborted recovery ends at the next sector or phase boundary and completes with 0x0600. -/
  | recoveryAbortEnd (k : Fin 4)
  /-- SECTOR_WRITE (R272): At a sector start requested by the channel, the write gate asserts when nothing blocks it, and the sector is written. -/
  | sectorWrite (k : Fin 4) (head : Fin 20) (track : BitVec 24) (pos : BitVec 12) (bad : Bool)
  /-- SECTOR_REWRITE (R338): An abandoned sector is rewritten in full at the first pass of its location after the gate may assert again. -/
  | sectorRewrite (k : Fin 4) (head : Fin 20) (track : BitVec 24) (pos : BitVec 12) (bad : Bool)
  /-- VERIFY_RESULT (R339): The read-while-write verify of a sector passes or fails; a failure triggers a rewrite. -/
  | verifyResult (k : Fin 4) (head : Fin 20) (track : BitVec 24) (pos : BitVec 12) (x : ReadIn) (unsat : Nat)
  /-- MAP_LOAD (R359): At boot, both copies of every map block are read and the forward map and free lists are built in DRAM. -/
  | mapLoad (bad : List (Nat × Nat × Nat))
  /-- PIECE_LANDED (R358): A piece lands when its sectors are written and verified and both copies of its map blocks are stored. -/
  | pieceLanded (id failA : Nat) (failB : Nat := 0)
  /-- MARGINAL_REFRESH (R363): A queued marginal sector is rewritten in place while its actuator has no host operation waiting. -/
  | marginalRefresh (k : Fin 4)
  /-- STALL_PROMOTION (R384): A bench master whose stall run reaches STALL_MAX is promoted. -/
  | stallPromotion (cycles : List (List BReq))
  /-- DRAM_READ_COMPLETE (R396): A DRAM read completes into the benches with its inline ECC checked. -/
  | dramReadComplete (reader lba : Nat) (line : Fin 64) (c : DramCls) (late : Bool := false)
  /-- BENCH_UNCORRECTABLE (R405): A class B error in a bench word fails the transfer that owns it. -/
  | benchUncorrectable (m : Fin 26) (o : BenchOwner)
  /-- SCRUB_READ (R401): The patrol scrub reads a data line in a cycle in which the channel is idle and writes back a corrected line. -/
  | scrubRead (c : DramCls) (t : TableUse) (late : Bool := false)
  /-- ADMIN_ENABLE (R416): A write of 1 to MQP_CTL.EN enables the admin queue pair. -/
  | adminEnable (fn : Fin 16)
  /-- ADMIN_READY (R416): MQP_STS.RDY rises at the second tick edge after EN is set. -/
  | adminReady (fn : Fin 16)
  /-- FUNCTION_DISABLE (R449): A write of 0 to MQP_CTL.EN resets the function as a Function Level Reset does. -/
  | functionDisable (fn : Fin 16)
  /-- FUNCTION_LEVEL_RESET (R449): A Function Level Reset discards the function's unfetched work, clears its queues and raises event 148. -/
  | functionLevelReset (fn : Fin 16)
  /-- SQ_TAIL_DOORBELL (R425): An accepted SQ tail write submits the entries up to the new tail. -/
  | sqTailDoorbell (fn : Fin 16) (q : Fin 4096) (t : BitVec 32)
  /-- CQ_HEAD_DOORBELL (R425): An accepted CQ head write frees CQ entries up to the new head. -/
  | cqHeadDoorbell (fn : Fin 16) (q : Fin 4096) (h : BitVec 32)
  /-- PUSH_WRITE (R428): A push write advances the SQ tail by one and places the entry in the push buffer. -/
  | pushWrite (fn : Fin 16) (q : Fin 4096) (b : List Byte) (aligned : Bool)
  /-- SQ_ENTRY_FETCH (R429): The fetch engine reads SQ entries into command slots under credits, in round-robin order. -/
  | sqEntryFetch (r : HRead)
  /-- HOST_DATA_BLOCK (R433): A block of write data is fetched from the host when staging has room, checked at ingest and landed in the benches. -/
  | hostDataBlock (slot : Nat) (r : HRead)
  /-- DEADLINE_EXPIRY (R454): A command not completed at its deadline instant completes with 0x0601 or 0x0602. -/
  | deadlineExpiry (slot : Nat)
  /-- CQ_ENTRY_POST (R422): A CQ entry is written with the current phase when the CQ has room. -/
  | cqEntryPost (fn : Fin 16) (q : Fin 4096)
  /-- COALESCE_TIMER (R434): At the edge that begins tick n + CTIME, the CQ's message for its oldest unsignalled entry is sent. -/
  | coalesceTimer (fn : Fin 16) (q : Fin 4096)
  /-- MSIX_UNMASK (R435): Unmasking a vector or function sends one message for its collected pending bit. -/
  | msixUnmask (fn : Fin 16) (vec : Option (Fin 256))
  /-- UNKNOWN_OPCODE (R450): An opcode not listed for its kind of SQ completes with 0x0100. -/
  | unknownOpcode (slot : Nat)
  /-- DELETE_IO_SQ (R458): Delete I/O SQ moves the SQ to DRAINING and completes after its last in-flight command has posted. -/
  | deleteIoSq (slot : Nat)
  /-- SQ_DRAINED (R458): When the last in-flight command of a draining SQ posts, the SQ becomes ABSENT and the delete completes. -/
  | sqDrained (fn : Fin 16) (q : Fin 4096)
  /-- CREATE_IO_SQ (R457): Create I/O SQ creates an ACTIVE SQ bound to an existing I/O CQ. -/
  | createIoSq (slot : Nat)
  /-- DELETE_IO_CQ (R459): Delete I/O CQ removes a CQ that no SQ names. -/
  | deleteIoCq (slot : Nat)
  /-- CREATE_IO_CQ (R457): Create I/O CQ creates an ACTIVE CQ with phase 1, a vector and coalescing values. -/
  | createIoCq (slot : Nat)
  /-- IDENTIFY_NODE (R480): Identify with CNS 0 returns the node data. -/
  | identifyNode (slot : Nat) (d : DescIn)
  /-- IDENTIFY_FUNCTION (R480): Identify with CNS 1 returns the issuing function's resources. -/
  | identifyFunction (slot : Nat) (d : DescIn)
  /-- IDENTIFY_VOLUME (R480): Identify with CNS 2 returns the data of the volume or span that VOL names. -/
  | identifyVolume (slot : Nat) (d : DescIn)
  /-- QUEUE_ERROR_LOG (R527): Get Log Page 0x01 returns the queue error log of one SQ. -/
  | queueErrorLog (slot : Nat) (d : DescIn)
  /-- LOST_RANGES (R482): Get Log Page 0x02 returns the lost-range groups, emptied afterwards when CLEAR is set on a whole-page PF read. -/
  | lostRanges (slot : Nat) (d : DescIn)
  /-- SELF_TEST_RESULTS (R657): Get Log Page 0x03 returns the self-test results. -/
  | selfTestResults (slot : Nat) (d : DescIn)
  /-- VOLUME_STATISTICS (R483): Get Log Page 0x04 returns the statistics of one volume or span. -/
  | volumeStatistics (slot : Nat) (d : DescIn)
  /-- GAZETTEER_RING_PAGE (R611): Get Log Page 0x10 returns the ring and its header as they stood at the start of the command. -/
  | gazetteerRingPage (slot : Nat) (d : DescIn)
  /-- GAZETTEER_SECTOR_PAGE (R612): Get Log Page 0x11 returns one sector of the persistent area as stored. -/
  | gazetteerSectorPage (slot : Nat) (d : DescIn)
  /-- HISTOGRAM_PAGE (R622): Get Log Page 0x12 returns a histogram of the current or previous page. -/
  | histogramPage (slot : Nat) (d : DescIn)
  /-- EXTREMES_PAGE (R623): Get Log Page 0x13 returns the extremes of one source. -/
  | extremesPage (slot : Nat) (d : DescIn)
  /-- ABORT (R484): Abort stops its target if it has not passed its abort point, and reports the outcome in RESULT. -/
  | abort (slot : Nat)
  /-- THAW_RESUME (R522): Thaw with ACTION 0 returns a settled frozen SQ to ACTIVE with its head and tail unchanged. -/
  | thawResume (slot : Nat)
  /-- THAW_DISCARD (R523): Thaw with ACTION 1 sets the head to the tail, empties the push buffer and returns the SQ to ACTIVE. -/
  | thawDiscard (slot : Nat)
  /-- ADMIN_THAW_RESUME (R525): A write of GO with ACTION 0 to MQP_ADMTHAW thaws the admin SQ at its head. -/
  | adminThawResume (fn : Fin 16)
  /-- ADMIN_THAW_DISCARD (R525): A write of GO with ACTION 1 to MQP_ADMTHAW thaws the admin SQ and discards to its tail. -/
  | adminThawDiscard (fn : Fin 16)
  /-- SET_TUNABLE (R471): Set Tunable replaces, or with RESTORE removes, the host bounds of a tunable, with clamping. -/
  | setTunable (slot : Nat)
  /-- GET_TUNABLE (R472): Get Tunable returns the chart, host and effective bounds and the value in force. -/
  | getTunable (slot : Nat)
  /-- VOLUME_CREATE (R466): Volume Manage create reserves extents and stores a new volume definition. -/
  | volumeCreate (slot : Nat)
  /-- VOLUME_DELETE (R467): Volume Manage delete frees an idle volume's extents, key and statistics. -/
  | volumeDelete (slot : Nat)
  /-- VOLUME_GROW (R466): Volume Manage grow raises the capacity of a volume and reserves the new extents. -/
  | volumeGrow (slot : Nat)
  /-- VOLUME_SET_MODES (R470): Volume Manage set modes changes the acknowledgement, read and tag modes for commands fetched later. -/
  | volumeSetModes (slot : Nat)
  /-- SPAN_ATTACH (R468): Span Manage attach makes this node an ingress node for a chart-declared span, with MODES. -/
  | spanAttach (slot : Nat)
  /-- SPAN_DETACH (R469): Span Manage detach ends this node's ingress role for a span with no command in flight. -/
  | spanDetach (slot : Nat)
  /-- SPAN_SET_MODES (R468): Span Manage set modes changes the MODES of this node's attachment. -/
  | spanSetModes (slot : Nat)
  /-- KEY_LOAD (R473): Key Load places a data key and a tweak key in the key RAM after the KCHK and KVER checks. -/
  | keyLoad (slot : Nat) (r : HRead)
  /-- KEY_CLEAR (R475): Key Clear removes the key of an idle volume or span. -/
  | keyClear (slot : Nat)
  /-- POWER_STATE_RUN (R476): Power State TARGET 0 cancels a pending transition or starts the Standby-to-Run path. -/
  | powerStateRun (slot : Nat)
  /-- POWER_STATE_STANDBY (R476): Power State TARGET 2 orders Standby, which is deferred with 0x0002 while its conditions are unmet. -/
  | powerStateStandby (slot : Nat)
  /-- POWER_STATE_VIGIL (R476): Power State TARGET 3 orders Vigil through Standby, which is deferred while its conditions are unmet. -/
  | powerStateVigil (slot : Nat)
  /-- RESET (R477): The admin Reset command runs a host-ordered reset and posts no completion. -/
  | reset (slot : Nat)
  /-- TOUCHDOWN_NOW (R654): Self-Test 0x01 makes touchdown due on every head of the named actuators. -/
  | touchdownNow (slot : Nat)
  /-- SEPARATION_NOW (R654): Self-Test 0x02 makes separation calibration due on every head of the named actuators. -/
  | separationNow (slot : Nat)
  /-- SEEK_SWEEP (R656): Self-Test 0x10, exclusive, runs 16 seeks per profile row against T_MAX. -/
  | seekSweep (slot : Nat)
  /-- SURFACE_SCAN (R656): Self-Test 0x11, exclusive, reads every placed extent of the named actuators. -/
  | surfaceScan (slot : Nat)
  /-- RECALIBRATE (R656): Self-Test 0x12, exclusive, runs the start-up calibration of every head of the named actuators. -/
  | recalibrate (slot : Nat)
  /-- FREE_SLAB_TEST (R654): Self-Test 0x20 runs March C− over every free capture-pool slab, one slab per tick. -/
  | freeSlabTest (slot : Nat)
  /-- SELF_TEST_COMPLETE (R657): A test completes when its last slice on every actuator has ended, and it writes a results entry. -/
  | selfTestComplete (slabs : Nat)
  /-- CHART_WRITE (R184): Chart Write opens or continues an update session and erases and programs sectors of the inactive slot. -/
  | chartWrite (slot : Nat) (d : DescIn) (r : HRead)
  /-- CHART_COMMIT (R187): Chart Commit checks the staged image and programs its header on a pass. -/
  | chartCommit (slot : Nat)
  /-- WRITE (R460): The Write command checks its fields, takes an exclusive lock and fetches its blocks from the host. -/
  | write (slot : Nat) (d : DescIn)
  /-- READ (R447): The Read command takes a shared lock and serves its blocks from staging, a slab or the media, by read mode. -/
  | read (slot : Nat) (d : DescIn)
  /-- FLUSH (R463): The Flush command covers every earlier-fetched write of its volumes. -/
  | flush (slot : Nat)
  /-- FLUSH_COMPLETE (R464): Flush completes once every covered write has completed and landed. -/
  | flushComplete (slot : Nat) (remoteLanded : Bool)
  /-- KEY_RAM_PARITY (R512): A key RAM parity error clears the affected key and raises event 157. -/
  | keyRamParity (code : Fin 80)
  /-- FLIT_RECEIVE (R532): A flit is received, decoded and checked; good flits deliver parcel data, credits and acknowledgements, and bad ones draw a NAK. -/
  | flitReceive (p : Fin 4) (f : FlitIn)
  /-- LINK_FAILURE (R534): A port declares link failure on lost lock, repeated NAKs, stalled ACK, no good flit or a changed HELLO. -/
  | linkFailure (p : Fin 4) (cause : Fin 5)
  /-- PORT_TRAINING (R536): An enabled port trains at the chart end, after a link failure and every 250 ticks while down. -/
  | portTraining (p : Fin 4)
  /-- PORT_UP (R536): A port is up when training step 6 ends; event 176 is raised and a link record is written. -/
  | portUp (p : Fin 4) (half : Bool) (lanes : List (Int × Int))
  /-- PORT_TRAINING_TIMEOUT (R536): A port not trained within 30 ms of its start is down. -/
  | portTrainingTimeout (p : Fin 4)
  /-- PORT_HOLD_EXPIRY (R539): A port held down after 8 failures may train again 250 000 ticks after its last failure. -/
  | portHoldExpiry (p : Fin 4)
  /-- HELLO (R538): A HELLO parcel is checked for the peer's port pairing and mode; a mismatch holds the port down. -/
  | hello (p : Fin 4) (serial : List Byte) (port : Nat) (id : Nat) (mode : Nat)
  /-- DELAY (R566): DELAY exchanges measure the link delay as a median of 16. -/
  | delay (p : Fin 4) (t1 : Int) (t2 : Int) (t3 : Int) (t4 : Int)
  /-- DELAY_MEASURE (R566): The link delay is measured again every 25 000 ticks. -/
  | delayMeasure (p : Fin 4)
  /-- TIME (R568): A TIME parcel from the upstream port gives the alignment error, from which the trim and ALIGNED are updated. -/
  | time (p : Fin 4) (tx : Int) (es : Int) (rx : Int)
  /-- ELECT (R559): An ELECT parcel carries the lowest serial heard, and a lower value is passed on. -/
  | elect (p : Fin 4) (serial : List Byte)
  /-- RING (R559): A RING parcel is relayed around a dimension with its count, measuring W or H at the origin. -/
  | ring (p : Fin 4) (dim : Fin 2) (count : Nat)
  /-- ASSIGN (R559): An ASSIGN parcel gives a node its coordinates, and it is passed on; conflicting values fail discovery. -/
  | assign (p : Fin 4) (w : Nat) (h : Nat) (x : Nat) (y : Nat)
  /-- LSR (R557): A newer link-state record is accepted into the view and flooded on every other up port. -/
  | lsr (p : Fin 4) (id : Nat) (x : Lsr)
  /-- PARCEL_FORWARD (R549): A passing parcel is routed in dimension order, with dateline and waypoint handling, by cut-through. -/
  | parcelForward (p : Parcel)
  /-- HEARTBEAT (R587): A consumed HEARTBEAT refreshes twin liveness and may trigger resync, reclaim or Solo on FRESH. -/
  | heartbeat (p : Parcel)
  /-- PIECE (R579): A PIECE parcel is consumed into staging and its piece is held in the settle queue. -/
  | piece (p : Parcel)
  /-- PIECE_SEND (R576): The ingress node stamps a piece with its span key and sends its parcels, or hands a local piece to its settle queue. -/
  | pieceSend (slot k : Nat)
  /-- PIECE_RETRY (R578): A piece answered NOTREADY is sent again 250 ticks later. -/
  | pieceRetry (slot k : Nat)
  /-- READ_PARCEL (R598): A READ parcel asks the owner for a range, and the owner answers with RDATA or forwards it for a redirected stripe. -/
  | readParcel (p : Parcel)
  /-- QUERY (R570): A QUERY is answered with DONE when the piece's status is determined. -/
  | query (p : Parcel)
  /-- RESTORE (R404): A RESTORE parcel asks the twin for a block and its tag to repair a class U slab error. -/
  | restore (p : Parcel)
  /-- REMAP (R597): A REMAP asks a peer for a peer-spare extent for a stripe. -/
  | remap (p : Parcel)
  /-- REMAPR (R597): A REMAPR grant or refusal continues the remap or moves it to the next candidate. -/
  | remapr (p : Parcel)
  /-- LANDED (R584): A LANDED parcel makes the twin free its copies of the extent and answer ACK. -/
  | landed (p : Parcel)
  /-- ACCEPT (R543): An ACCEPT parcel reports to the ingress node the blocks accepted at transit. -/
  | accept (p : Parcel)
  /-- DONE (R578): A DONE parcel reports a piece's status to the ingress node, which completes the command when all have reported. -/
  | done (p : Parcel)
  /-- RDATA (R502): An RDATA parcel delivers one block, checked at transit. -/
  | rdata (p : Parcel)
  /-- CONFIRM (R583): A CONFIRM parcel reports that the twin holds a copy, completing Held acknowledgement. -/
  | confirm (p : Parcel)
  /-- NOTREADY (R578): A NOTREADY parcel refuses a piece at a node before Ready. -/
  | notready (p : Parcel)
  /-- RESENDQ (R502): A RESENDQ parcel asks the sender to resend a block that failed its transit check. -/
  | resendq (p : Parcel)
  /-- ACK (R584): An ACK parcel answers a LANDED. -/
  | ack (p : Parcel)
  /-- COPY (R582): A COPY parcel is stored in a twin slab and answered with CONFIRM. -/
  | copy (p : Parcel)
  /-- RESYNC (R593): A RESYNC parcel carries a block of a LACK extent to the twin, which answers CONFIRM. -/
  | resync (p : Parcel)
  /-- RECLAIM (R596): A RECLAIM parcel returns a copied block to its owner, which stores it as unlanded Held data. -/
  | reclaim (p : Parcel)
  /-- EVENT (R640): A consumed EVENT parcel enters the receive queue and raises event 187. -/
  | event (payload : List Byte)
  /-- EVT_MASK_WRITE (R636): A write that clears the mask bit of a pending event queues one MSI-X message. -/
  | evtMaskWrite (r : Fin 6) (v : BitVec 32)
  /-- RING_HOLD_RELEASE (R610): Records held during a ring page transfer enter the ring as the transfer passes their bytes. -/
  | ringHoldRelease (upTo : Nat)
  /-- CAL_SLICE_START (R648): A due calibration slice starts at the first edge at which its actuator conditions hold. -/
  | calSliceStart (head : Fin 20) (sep : Bool)
  /-- CAL_SLICE_END (R649): A slice releases its actuator at its last step's end, or 500 ticks after its start. -/
  | calSliceEnd (k : Fin 4) (sep : Option Int)
  /-- TST_DBGCTL_OPEN (R662): A write of OPEN with KEY 0x0DB6 opens the debug window when allowed, and raises event 27. -/
  | tstDbgctlOpen (key : BitVec 16)
  /-- TST_DBGWIN_WRITE (R663): A write to the debug window takes effect only in development mode and is otherwise discarded and counted. -/
  | tstDbgwinWrite (index : Fin 1024) (v : BitVec 32)
  /-- TST_DBGWIN_READ (R663): A read of the debug window reads the buffer through bench master 25 under arbitration. -/
  | tstDbgwinRead (index : Fin 1024)
  /-- TST_SNAPARM (R666): A write of 1 to bit i arms Gazetteer snapshot list i as its trigger event would. -/
  | tstSnaparm (m : BitVec 16)
  /-- EXTEST (R659): The EXTEST instruction drives and captures the boundary cells when SCANHOLD is 1. -/
  | extest (cells pins : BitVec 968)
  /-- SAMPLE_PRELOAD (R659): The SAMPLE/PRELOAD instruction samples and preloads the boundary register. -/
  | samplePreload (cells pins : BitVec 968)
  /-- EXTEST_PULSE (R659): The IEEE 1149.6 EXTEST_PULSE instruction tests the AC-coupled lanes. -/
  | extestPulse (cells pins : BitVec 968)
  /-- EXTEST_TRAIN (R659): The IEEE 1149.6 EXTEST_TRAIN instruction tests the AC-coupled lanes with a pulse train. -/
  | extestTrain (cells pins : BitVec 968)
  /-- BYPASS (R659): The BYPASS instruction, or any other opcode, selects the bypass register. -/
  | bypass (op : BitVec 8)
  /-- DRAM_WRITE_COMPLETE (R582): A block's write into its capture-pool slab completes in DRAM, committing it: a COPY goes to the twin for Held, Local acknowledgement may follow, and Solo marks the extent LACK. -/
  | dramWriteComplete (id : Nat)
  /-- DRAM_PERIODIC_TRAINING (R406): Periodic retraining of a DRAM channel ends, and a failure declares a channel fault on that channel. -/
  | dramPeriodicTraining (m : Fin 2) (ok : Bool)
  /-- PREAMP_FAULT_CLEAR (R325): PFAULT_N returns high; when this is within 1 tick of the fault, the abandoned sector is re-issued. -/
  | preampFaultClear (k : Fin 4)
  /-- COMPLETION_TIMEOUT (R421): A host memory read for data, descriptors or an SQ entry gets no completion in time, and the command fails with 0x0110, or the SQ freezes with 0x0111. -/
  | completionTimeout (slot : Option Nat) (aer : Bool)
  /-- PCIE_CONFIG_REQUEST (R691): A PCIe configuration request gets Configuration Request Retry Status until the chart stage ends, or until chart-absent or fault mode, and is completed normally after that. -/
  | pcieConfigRequest (fn : Fin 16) (dc : Option DevCtl := none)
  /-- I2C_TARGET_TRANSACTION (R680): The board controller starts a transaction on GPA0/GPA1 addressed to TADDR; the I²C target answers and may stretch SCL by up to 4 µs per byte. -/
  | i2cTargetTransaction (addr : BitVec 7)
  /-- COMMUTATOR_SLOT (R239): The spindle commutator computes the next schedule and loads the bridge PWM at cycle 119, checking the speed against the write band. -/
  | commutatorSlot
  /-- STATISTICS_SLOT (R620): The samples of the previous tick are binned into histograms and extremes, and the event records that fall due are written. -/
  | statisticsSlot
  /-- MARGIN_THROTTLE_END (R120): A margin throttle ends when the margin has stayed at or above M_LO for 256 consecutive ticks. -/
  | marginThrottleEnd
  /-- PLACEMENT_STEP (R364): The placement loop places up to BATCH eligible pieces in an actuator, zone and extent within the effective envelope. -/
  | placementStep
  /-- COMMIT_SLOT (R53): Latched frequency requests are committed for the next tick edge. -/
  | commitSlot
  /-- CLOCK_FAULT_RESET (R57): When every actuator has parked, or 5 ms after a clock fault, the device enters reset with cause clock fault. -/
  | clockFaultReset
  /-- PLL_LOCK (R52): The core PLL locks; the BIST stage begins and tick counting starts at the next edge. -/
  | pllLock
  /-- TRIM_LIMIT_EPISODE (R76): A trim held at ±200 ppm for 64 consecutive ticks raises event 21 once per episode. -/
  | trimLimitEpisode
  /-- HOLD_UNLOAD (R89): A hold lasting 1250 ticks with a recovery count of 0 starts an orderly unload of every loaded actuator. -/
  | holdUnload
  /-- JOURNAL_COMPLETE (R94): When the journal is complete, or at once when none is written, the device enters reset with cause power loss. -/
  | journalComplete
  /-- WRITE_INHIBIT_END (R111): Write inhibit ends after QUIET quiet ticks, and the abandoned writes are re-issued. -/
  | writeInhibitEnd
  /-- THERMAL_THROTTLE_END (R113): Thermal throttle ends after 2500 ticks below THROT − 5 °C, and the AVS loop is released. -/
  | thermalThrottleEnd
  /-- CRITICAL_TEMP_RESET (R114): When every actuator has parked, or 5 ms after the 112 °C reading, the device enters reset with cause critical temperature. -/
  | criticalTempReset
  /-- IDLE_TIMER (R705): After PWR_TMR.IDLE ticks with no media operation, the node moves from Run to Idle. -/
  | idleTimer
  /-- STANDBY_TIMER (R104): The expiry of the Standby timer orders a Standby entry, subject to the entry conditions. -/
  | standbyTimer
  /-- PENDING_TRANSITION_PROCEED (R105): A pending Standby or Vigil transition proceeds at the first edge at which its conditions hold. -/
  | pendingTransitionProceed
  /-- PIN_CONFIG_APPLY (R143): The chart's pin configuration is applied to all 64 pins at the first tick edge after the chart is applied. -/
  | pinConfigApply
  /-- FLASH_BACKGROUND_ERASE (R159): The 9440 re-erases a fully used journal sector or a half-erased sector in the background. -/
  | flashBackgroundErase
  /-- HANDOVER_END (R203): The hand-over stage ends when VM has been in range for 25 ticks and the die is below THROT, and the spindle stage begins. -/
  | handoverEnd
  /-- READY (R207): The node reaches Ready when the DRAM, media and fabric branches have ended; event 0 is raised and the boot record is written. -/
  | ready
  /-- HOST_RESET_ENTER (R220): When the unload and the journal of a host-ordered reset are complete, the device enters reset with cause 0x7. -/
  | hostResetEnter
  /-- PERST_N_ASSERT (R213): PERST_N assertion holds the endpoint and every queue in reset; fully fetched writes continue and everything else is discarded. -/
  | perstNAssert
  /-- PERST_N_DEASSERT (R151): PERST_N deassertion lets the LTSSM start, no earlier than the end of BIST. -/
  | perstNDeassert
  /-- SPINDLE_START_ORDER (R228): A start order moves the spindle machine to LISTEN with the bridge off. -/
  | spindleStartOrder
  /-- ALIGN_END (R232): After ALIGN_T, the machine moves from ALIGN to an open-loop RAMP. -/
  | alignEnd
  /-- ATTEMPT_SUCCESS (R232): A start attempt succeeds after 64 consecutive ticks of confidence at or above CONF_TH, and the machine enters ACCEL. -/
  | attemptSuccess
  /-- ATTEMPT_FAIL (R234): A start attempt that passes its time limit leads to BRAKE; the third failure leads to FAILED. -/
  | attemptFail
  /-- ACCEL_IN_BAND (R235): When the speed enters TARGET ± RBAND, the machine moves from ACCEL to REGULATE. -/
  | accelInBand
  /-- AT_SPEED (R238): AT_SPEED is set after 250 consecutive ticks inside the regulation band, and event 80 is raised. -/
  | atSpeed
  /-- SPINUP_LIMIT (R236): A start order that passes SPINUP_MAX turns the bridge off and enters FAILED. -/
  | spinupLimit
  /-- BRAKE_MAX_EXPIRY (R253): A brake that passes BRAKE_MAX leaves the spindle coasting or FAILED and raises event 90. -/
  | brakeMaxExpiry
  /-- WRITE_BAND_RESUME (R240): Writes resume after 25 consecutive ticks inside the write band, and event 88 is raised. -/
  | writeBandResume
  /-- RECOVER_LISTEN_WINDOW (R247): A listen window at the end of a coast period is tested; two qualifying windows in a row return the machine to REGULATE. -/
  | recoverListenWindow
  /-- REACQUISITION_FAIL (R248): After 16 coast periods without re-acquisition, the actuators park and the spindle coasts. -/
  | reacquisitionFail
  /-- ROTOR_RESTART_ORDER (R248): When every actuator has parked after failed re-acquisition, a start order takes the already-turning path. -/
  | rotorRestartOrder
  /-- RELOCK_COUNT_RESET (R250): The relock count returns to 0 after 250 000 consecutive ticks at speed. -/
  | relockCountReset
  /-- STANDBY_BRAKE_START (R253): Once the heads are unloaded for a Standby entry, the spindle brakes from REGULATE toward OFF. -/
  | standbyBrakeStart
  /-- RETRACT_COMPLETE (R254): When every retract is complete, the bridge turns off and the spindle machine enters COAST. -/
  | retractComplete
  /-- SLAB_GRANT (R399): A waiting slab request is granted in arrival order when a slab is freed. -/
  | slabGrant
  /-- LOCK_REQUEST (R441): A command presents its range-lock request, which enters the lock table one per cycle in requester order. -/
  | lockRequest
  /-- LOCK_GRANT (R442): A waiting lock is granted in the first cycle in which no earlier-arrived conflicting entry remains. -/
  | lockGrant
  /-- ALIGNED_TIMEOUT (R569): No TIME from upstream for 16 ticks drops ALIGNED and holds the trim at F. -/
  | alignedTimeout
  /-- ELECTION_END (R559): Election ends when the lowest serial has not changed for 250 ticks. -/
  | electionEnd
  /-- RING_WALK_TIMEOUT (R559): A ring walk that does not return within 250 ticks fails discovery. -/
  | ringWalkTimeout
  /-- DISCOVERY_END (R561): Discovery ends once the ID is known, the view is stable for 250 ticks, the routes are computed and the tick is loaded. -/
  | discoveryEnd
  /-- DISCOVERY_TIMEOUT (R561): Discovery that passes DISC_WIN fails with FCODE 0x30 and holds the ports down. -/
  | discoveryTimeout
  /-- ROUTE_EPOCH_SWITCH (R554): At edge S every node switches to the new route table and increments the epoch. -/
  | routeEpochSwitch
  /-- HEARTBEAT_SEND (R586): A node with a declared twin sends HEARTBEAT at every tick edge that is a multiple of 8. -/
  | heartbeatSend
  /-- TWIN_LOSS (R588): No heartbeat for 64 ticks, an unreachable twin or a FRESH heartbeat while paired puts the node into Solo. -/
  | twinLoss
  /-- RESYNC_COMPLETE (R594): When the dirty list is empty and every CONFIRM has arrived, the node leaves Solo at the next edge. -/
  | resyncComplete
  /-- SETTLE_RELEASE (R579): At KEY_TICK + 2, the held pieces are presented to the lock table in key order. -/
  | settleRelease
  /-- EVT_FABCTL_POP (R640): A write of POP removes the oldest entry from the fabric event receive queue. -/
  | evtFabctlPop
  /-- STATISTICS_PAGE_EDGE (R624): After PAGE_TICKS edges the current page becomes the previous page, and persistent page records are made. -/
  | statisticsPageEdge
  /-- OPSEC_TICK (R614): OPSEC increments once for every 250 000 tick edges. -/
  | opsecTick
  /-- PERSISTENT_WRITE (R616): A queued persistent record is programmed into the write sector of the persistent area. -/
  | persistentWrite
  /-- TST_DBGCTL_CLOSE (R662): A write of OPEN at 0 closes the debug window. -/
  | tstDbgctlClose
  /-- TAP_RESET (R659): TRST_N low, or power-on, resets the TAP and loads IDCODE. -/
  | tapReset
  /-- IDCODE (R659): The IDCODE instruction selects the device identification register. -/
  | idcode
  /-- HIGHZ (R659): The HIGHZ instruction places the outputs in high impedance when SCANHOLD is 1. -/
  | highz
  /-- CLAMP (R659): The CLAMP instruction holds the outputs from the boundary register with the bypass register selected. -/
  | clamp
  deriving DecidableEq, Repr

end Sys2Proof
end

