-- ==== Sys2Proof/Machine/Bits.lean ====
section
/-! DEFINITION. Bit fields, two's complement, byte order and the check codes of Table SYS-31. -/

namespace Sys2Proof.Machine

/-- Bits [lo + w - 1 : lo] of `v`. -/
def bitsOf (v lo w : Nat) : Nat := v / 2 ^ lo % 2 ^ w

/-- Bit `b` of `v`. -/
def bitAt (v b : Nat) : Bool := v / 2 ^ b % 2 == 1

/-- A flag as a one-bit field. -/
def b2n (b : Bool) : Nat := if b then 1 else 0

/-- The signed value of a `w`-bit two's complement field. -/
def toSigned (w v : Nat) : Int := if v % 2 ^ w < 2 ^ (w - 1) then (v % 2 ^ w : Nat) else (v % 2 ^ w : Nat) - (2 ^ w : Nat)

/-- The `w`-bit two's complement field of a signed value. -/
def ofSigned (w : Nat) (i : Int) : Nat := (i % (2 ^ w : Nat)).toNat

/-- `i` held to `[lo, hi]`: the nearer bound outside it. -/
def clampI (lo hi i : Int) : Int := if i < lo then lo else if hi < i then hi else i

/-- `i` held to `[lo, hi]`. -/
def clampN (lo hi i : Nat) : Nat := if i < lo then lo else if hi < i then hi else i

/-- A saturating count of `w` bits. -/
def satAdd (w v d : Nat) : Nat := if v + d < 2 ^ w then v + d else 2 ^ w - 1

/-- Set bit `b` of `v`. -/
def setBit (v b : Nat) : Nat := if bitAt v b then v else v + 2 ^ b

/-- Clear bit `b` of `v`. -/
def clrBit (v b : Nat) : Nat := if bitAt v b then v - 2 ^ b else v

/-- The number of set bits among bits [n - 1 : 0]. -/
def popCount (v : Nat) : Nat → Nat
  | 0 => 0
  | n + 1 => b2n (bitAt v n) + popCount v n

/-- `n` bytes of a number, least significant first (R12). -/
def leBytes (v : Nat) : Nat → List Byte
  | 0 => []
  | n + 1 => byte v :: leBytes (v / 256) n

/-- The number a little-endian byte string holds (R12). -/
def ofLe : List Byte → Nat
  | [] => 0
  | b :: t => b.toNat + 256 * ofLe t

/-- `n` zero bytes. -/
def zeros (n : Nat) : List Byte := List.replicate n 0

/-- The `n`-byte little-endian number at offset `o` of a byte string. -/
def leAt (l : List Byte) (o n : Nat) : Nat := ofLe ((l.drop o).take n)

/-- The signed `n`-byte number at offset `o`. -/
def leSigned (l : List Byte) (o n : Nat) : Int := toSigned (8 * n) (leAt l o n)

/-- The byte string `l` with `v` as `n` little-endian bytes at offset `o`. -/
def putLe (l : List Byte) (o n v : Nat) : List Byte := l.take o ++ leBytes v n ++ l.drop (o + n)

/-- One bit of an unreflected code: shift left, with the polynomial where the top bit leaves. -/
def crcShiftL (w poly r : Nat) : Nat :=
  if bitAt r (w - 1) then (Nat.xor (r * 2 % 2 ^ w) poly) else r * 2 % 2 ^ w

/-- One bit of a reflected code: shift right, with the reflected polynomial where the low bit leaves. -/
def crcShiftR (poly r : Nat) : Nat := if r % 2 == 1 then Nat.xor (r / 2) poly else r / 2

/-- `n` times `f`. -/
def iter {α : Type} (f : α → α) : Nat → α → α
  | 0, a => a
  | n + 1, a => iter f n (f a)

/-- CRC-16/CCITT of Table SYS-31: polynomial 0x1021, initial value 0xFFFF, not reflected (R700). -/
def crc16 (l : List Byte) : Nat :=
  l.foldl (fun r b => iter (crcShiftL 16 0x1021) 8 (Nat.xor r (b.toNat * 256))) 0xFFFF

/-- CRC-32C of Table SYS-31: polynomial 0x1EDC6F41, reflected, initial value and final XOR all ones (R700). -/
def crc32c (l : List Byte) : Nat :=
  Nat.xor (l.foldl (fun r b => iter (crcShiftR 0x82F63B78) 8 (Nat.xor r b.toNat)) 0xFFFFFFFF) 0xFFFFFFFF

/-- CRC-64/ECMA-182 of Table SYS-31: polynomial 0x42F0E1EBA9EA3693, initial value 0, not reflected (R700). -/
def crc64 (l : List Byte) : Nat :=
  l.foldl (fun r b => iter (crcShiftL 64 0x42F0E1EBA9EA3693) 8 (Nat.xor r (b.toNat * 2 ^ 56))) 0

/-- The first value of a list that passes a test, with its place. -/
def findIdxFrom {α : Type} (p : α → Bool) : Nat → List α → Option (Nat × α)
  | _, [] => none
  | i, a :: t => if p a then some (i, a) else findIdxFrom p (i + 1) t

/-- The largest number of a list, 0 for none. -/
def maxOf (l : List Nat) : Nat := l.foldl max 0

/-- The smallest number of a list, `d` for none. -/
def minOf (d : Nat) (l : List Nat) : Nat := l.foldl min d

/-- The number of elements that pass a test. -/
def countP {α : Type} (p : α → Bool) (l : List α) : Nat := (l.filter p).length

/-- The absolute difference of two numbers. -/
def distN (a b : Nat) : Nat := if a ≤ b then b - a else a - b

/-- The ceiling of a quotient. -/
def ceilDiv (a b : Nat) : Nat := (a + b - 1) / b

/-- A quotient rounded as the spec leaves open: exact where it is whole, else up or down by a free bit (assumption log 14). -/
def roundFree (num den free : Nat) : Nat := if num % den = 0 then num / den else num / den + free % 2

/-- The bits of the numbers below `n` that pass a test. -/
def maskOf (n : Nat) (f : Nat → Bool) : Nat := (List.range n).foldl (fun m i => m + (if f i then 2 ^ i else 0)) 0

end Sys2Proof.Machine
end

