-- ==== Sys2Proof/Machine/Crypto.lean ====
section
/-! DEFINITION. The standard functions that the spec names: SHA-256 of FIPS 180-4 and Ed25519 of RFC 8032, which also takes SHA-512
(spec/05_chart.md R164); AES-256 and XTS of IEEE 1619 (spec/15_integrity_errors.md R508, R510). -/

namespace Sys2Proof.Machine

/-! ### SHA-2 -/

/-- What tells SHA-256 and SHA-512 apart: the word's width, the rounds, and the rotations of the functions Σ0, Σ1, σ0, σ1, the last of σ0 and σ1
being shifts. -/
structure Sha where
  w : Nat
  rounds : Nat
  S0 : Nat × Nat × Nat
  S1 : Nat × Nat × Nat
  s0 : Nat × Nat × Nat
  s1 : Nat × Nat × Nat
  deriving DecidableEq, Repr

def sha256Par : Sha := { w := 32, rounds := 64, S0 := (2, 13, 22), S1 := (6, 11, 25), s0 := (7, 18, 3), s1 := (17, 19, 10) }
def sha512Par : Sha := { w := 64, rounds := 80, S0 := (28, 34, 39), S1 := (14, 18, 41), s0 := (1, 8, 7), s1 := (19, 61, 6) }

/-- A `w`-bit word rotated right by `n`. -/
def rotR (w x n : Nat) : Nat := x / 2 ^ n + x % 2 ^ n * 2 ^ (w - n)

/-- The exclusive or of three words. -/
def xor3 (a b c : Nat) : Nat := Nat.xor (Nat.xor a b) c

/-- Σ: three rotations; σ: two rotations and a shift. -/
def Sha.big (P : Sha) (r : Nat × Nat × Nat) (x : Nat) : Nat := xor3 (rotR P.w x r.1) (rotR P.w x r.2.1) (rotR P.w x r.2.2)
def Sha.small (P : Sha) (r : Nat × Nat × Nat) (x : Nat) : Nat := xor3 (rotR P.w x r.1) (rotR P.w x r.2.1) (x / 2 ^ r.2.2)

/-- The largest `x` below `2 ^ n` with `x ^ e ≤ v`, bit by bit from bit `n - 1` on. -/
def rootFrom (e v : Nat) : Nat → Nat → Nat
  | 0, x => x
  | n + 1, x => rootFrom e v n (if (x + 2 ^ n) ^ e ≤ v then x + 2 ^ n else x)

/-- The first `w` bits of the fraction of the `e`-th root of `p`. -/
def rootFrac (w e p : Nat) : Nat := rootFrom e (p * 2 ^ (e * w)) (w + 5) 0 % 2 ^ w

/-- The first 80 primes. -/
def primes80 : List Nat := ((List.range 410).filter fun n => decide (2 ≤ n) && (List.range 21).all fun d => decide (d < 2) || n == d || n % d != 0)

/-- The initial hash value: fractions of the square roots of the first eight primes. The round constants: of the cube roots. -/
def Sha.init (P : Sha) : List Nat := (primes80.take 8).map (rootFrac P.w 2)
def Sha.consts (P : Sha) : List Nat := (primes80.take P.rounds).map (rootFrac P.w 3)

/-- The number that bytes spell, most significant first. -/
def ofBe (l : List Byte) : Nat := l.foldl (fun v b => v * 256 + b.toNat) 0

/-- `n` bytes of a number, most significant first. -/
def beBytes (v n : Nat) : List Byte := (leBytes v n).reverse

/-- The padded message: a 1 bit, zeros, the length in bits. -/
def Sha.pad (P : Sha) (m : List Byte) : List Byte :=
  let blk := P.w * 2
  let n := (m.length + 1 + P.w / 4 + blk - 1) / blk * blk
  m ++ byte 0x80 :: zeros (n - m.length - 1 - P.w / 4) ++ beBytes (8 * m.length) (P.w / 4)

/-- The message schedule, the newest word first: `l` holds the words so far. -/
def Sha.sched (P : Sha) : Nat → List Nat → List Nat
  | 0, l => l
  | n + 1, l => Sha.sched P n ((P.small P.s1 (l.getD 1 0) + l.getD 6 0 + P.small P.s0 (l.getD 14 0) + l.getD 15 0) % 2 ^ P.w :: l)

/-- One round on the eight working variables. -/
def Sha.round (P : Sha) (h : List Nat) (kw : Nat) : List Nat :=
  match h with
  | [a, b, c, d, e, f, g, x] =>
    let t1 := x + P.big P.S1 e + Nat.xor (Nat.land e f) (Nat.land (2 ^ P.w - 1 - e) g) + kw
    let t2 := P.big P.S0 a + xor3 (Nat.land a b) (Nat.land a c) (Nat.land b c)
    [(t1 + t2) % 2 ^ P.w, a, b, c, (d + t1) % 2 ^ P.w, e, f, g]
  | _ => h

/-- One block of 16 words. -/
def Sha.block (P : Sha) (k : List Nat) (h : List Nat) (b : List Byte) : List Nat :=
  let m := (List.range 16).map fun i => ofBe ((b.drop (P.w / 8 * i)).take (P.w / 8))
  let w := (P.sched (P.rounds - 16) m.reverse).reverse
  let r := ((k.zip w).map fun x => x.1 + x.2).foldl P.round h
  (h.zip r).map fun x => (x.1 + x.2) % 2 ^ P.w

/-- A byte string cut in pieces of `n` bytes. -/
def chunks (n : Nat) (l : List Byte) : List (List Byte) := (List.range (l.length / n)).map fun i => (l.drop (n * i)).take n

/-- The digest of a message. -/
def Sha.hash (P : Sha) (m : List Byte) : List Byte :=
  let k := P.consts
  ((chunks (P.w * 2) (P.pad m)).foldl (P.block k) P.init).flatMap fun v => beBytes v (P.w / 8)

def sha256 (m : List Byte) : List Byte := sha256Par.hash m
def sha512 (m : List Byte) : List Byte := sha512Par.hash m

/-! ### Ed25519 (RFC 8032) -/

/-- The field's prime and the order of the base point. -/
def edP : Nat := 2 ^ 255 - 19
def edL : Nat := 2 ^ 252 + 27742317777372353535851937790883648493

/-- `b ^ e` modulo `p`, by the `n` low bits of `e`. -/
def powMod (p b e : Nat) : Nat → Nat
  | 0 => 1
  | n + 1 =>
    let h := powMod p (b * b % p) (e / 2) n
    if e % 2 = 1 then b * h % p else h

/-- The inverse in the field. -/
def edInv (x : Nat) : Nat := powMod edP x (edP - 2) 255

/-- A difference in the field. -/
def edSub (a b : Nat) : Nat := (a + edP - b % edP) % edP

/-- The curve's constant d = −121665 / 121666, and a square root of −1. -/
def edD : Nat := (edP - 121665) * edInv 121666 % edP
def edI : Nat := powMod edP 2 ((edP - 1) / 4) 255

/-- A point as X, Y, Z, T with x = X / Z, y = Y / Z, x y = T / Z. -/
structure EdPt where
  X : Nat
  Y : Nat
  Z : Nat
  T : Nat
  deriving DecidableEq, Repr

def edZero : EdPt := ⟨0, 1, 1, 0⟩

/-- Addition (RFC 8032, 5.1.4). -/
def edAdd (d : Nat) (p q : EdPt) : EdPt :=
  let a := edSub p.Y p.X * edSub q.Y q.X % edP
  let b := (p.Y + p.X) * (q.Y + q.X) % edP
  let c := 2 * p.T * q.T % edP * d % edP
  let z := 2 * p.Z * q.Z % edP
  let e := edSub b a
  let f := edSub z c
  let g := (z + c) % edP
  let h := (b + a) % edP
  ⟨e * f % edP, g * h % edP, f * g % edP, e * h % edP⟩

/-- The multiple of a point by the `n` low bits of `k`. -/
def edMul (d k : Nat) (p : EdPt) : Nat → EdPt
  | 0 => edZero
  | n + 1 =>
    let r := edMul d (k / 2) (edAdd d p p) n
    if k % 2 = 1 then edAdd d p r else r

/-- Points are equal. -/
def edEq (p q : EdPt) : Bool := p.X * q.Z % edP == q.X * p.Z % edP && p.Y * q.Z % edP == q.Y * p.Z % edP

/-- A point from its 32 bytes (RFC 8032, 5.1.3); none where they spell no point. -/
def edDecode (d : Nat) (b : List Byte) : Option EdPt :=
  let v := ofLe b
  let y := v % 2 ^ 255
  let sign := v / 2 ^ 255
  if b.length ≠ 32 ∨ edP ≤ y then none
  else
    let u := edSub (y * y) 1
    let w := (d * (y * y % edP) + 1) % edP
    let w3 := w * w % edP * w % edP
    let x := u * w3 % edP * powMod edP (u * (w3 * w3 % edP * w % edP) % edP) ((edP - 5) / 8) 255 % edP
    let c := w * (x * x % edP) % edP
    let x := if c = u then some x else if c = edSub 0 u then some (x * edI % edP) else none
    match x with
    | none => none
    | some x =>
      if x = 0 ∧ sign = 1 then none
      else
        let x := if x % 2 = sign then x else edP - x
        some ⟨x, y, 1, x * y % edP⟩

/-- The base point: y = 4 / 5, x even. -/
def edBase (d : Nat) : EdPt := (edDecode d (leBytes (4 * edInv 5 % edP) 32)).getD edZero

/-- Verification of a signature of 64 bytes on a message under a public key of 32 bytes (RFC 8032, 5.1.7), by the group equation with the factor 8,
as that text gives it first. -/
def ed25519 (key msg sig : List Byte) : Bool :=
  let d := edD
  let s := ofLe (sig.drop 32)
  match edDecode d key, edDecode d (sig.take 32) with
  | some a, some r =>
    let k := ofLe (sha512 (sig.take 32 ++ key ++ msg)) % edL
    sig.length == 64 && decide (s < edL) &&
      edEq (edMul d (8 * s) (edBase d) 256) (edAdd d (edMul d 8 r 4) (edMul d (8 * k) a 256))
  | _, _ => false

/-! ### AES-256 and XTS -/

/-- A product in GF(2^8) with the polynomial x^8 + x^4 + x^3 + x + 1, by the `n` low bits of `b`. -/
def gfMul (a b : Nat) : Nat → Nat
  | 0 => 0
  | n + 1 =>
    let r := gfMul (if 128 ≤ a then Nat.xor (a * 2 % 256) 0x1B else a * 2) (b / 2) n
    if b % 2 = 1 then Nat.xor a r else r

/-- A product of two bytes in GF(2^8). -/
def gf (a b : Nat) : Nat := gfMul a b 8

/-- The power `a ^ 254`, the inverse of a byte, 0 for 0. -/
def gfInv (a : Nat) : Nat :=
  let a2 := gf a a
  let a4 := gf a2 a2
  let a8 := gf a4 a4
  let a16 := gf a8 a8
  let a32 := gf a16 a16
  let a64 := gf a32 a32
  gf (gf (gf a2 a4) (gf a8 a16)) (gf (gf a32 a64) (gf a64 a64))

/-- A byte rotated left by `n`. -/
def rotL8 (x n : Nat) : Nat := x * 2 ^ n % 256 + x / 2 ^ (8 - n)

/-- The S-box and its table, and the table of its inverse. -/
def sbox (a : Nat) : Nat :=
  let b := gfInv a
  Nat.xor (xor3 (xor3 b (rotL8 b 1) (rotL8 b 2)) (rotL8 b 3) (rotL8 b 4)) 0x63
def sboxTab : List Nat := (List.range 256).map sbox
def sboxInvTab (t : List Nat) : List Nat := (List.range 256).map fun v => (t.idxOf v)

/-- Bytes combined by exclusive or. -/
def xorL (a b : List Nat) : List Nat := (a.zip b).map fun x => Nat.xor x.1 x.2

/-- The key schedule: the words, newest first; `i` counts up from 8. -/
def aesExpand (t : List Nat) : Nat → Nat → Nat → List (List Nat) → List (List Nat)
  | 0, _, _, l => l
  | n + 1, i, rcon, l =>
    let p := l.getD 0 []
    let sub := fun (w : List Nat) => w.map fun x => t.getD x 0
    let q := if i % 8 = 0 then xorL (sub (p.drop 1 ++ p.take 1)) [rcon, 0, 0, 0] else if i % 8 = 4 then sub p else p
    aesExpand t n (i + 1) (if i % 8 = 0 then gf rcon 2 else rcon) (xorL (l.getD 7 []) q :: l)

/-- The fifteen round keys of a key of 32 bytes, each of 16 bytes. -/
def aesKeys (t : List Nat) (key : List Nat) : List (List Nat) :=
  let w := (aesExpand t 52 8 1 ((List.range 8).map fun i => (key.drop (4 * i)).take 4).reverse).reverse
  (List.range 15).map fun r => ((w.drop (4 * r)).take 4).flatten

/-- The row shift, to the left by `m` for each row; the state's bytes are in columns. -/
def shiftRows (m : Nat) (s : List Nat) : List Nat := (List.range 16).map fun i => s.getD ((i + 4 * m * (i % 4)) % 16) 0

/-- The column mix with the coefficients `c` of a column's first byte. -/
def mixCols (c : List Nat) (s : List Nat) : List Nat :=
  (List.range 16).map fun i => (List.range 4).foldl (fun v j => Nat.xor v (gf (c.getD ((j + 4 - i % 4) % 4) 0) (s.getD (i / 4 * 4 + j) 0))) 0

/-- One block under the round keys. -/
def aesEnc (t : List Nat) (ks : List (List Nat)) (b : List Nat) : List Nat :=
  let sub := fun (s : List Nat) => shiftRows 1 (s.map fun x => t.getD x 0)
  let s := ((ks.drop 1).take 13).foldl (fun s k => xorL (mixCols [2, 3, 1, 1] (sub s)) k) (xorL b (ks.getD 0 []))
  xorL (sub s) (ks.getD 14 [])
def aesDec (ti : List Nat) (ks : List (List Nat)) (b : List Nat) : List Nat :=
  let sub := fun (s : List Nat) => (shiftRows 3 s).map fun x => ti.getD x 0
  let s := ((ks.drop 1).take 13).reverse.foldl (fun s k => mixCols [14, 11, 13, 9] (xorL (sub s) k)) (xorL b (ks.getD 14 []))
  xorL (sub s) (ks.getD 0 [])

/-- Bytes as numbers, and back. -/
def nats (l : List Byte) : List Nat := l.map (·.toNat)
def bytesOf (l : List Nat) : List Byte := l.map byte

/-- The key verifier: the first four bytes of the AES-256 encryption of sixteen zero bytes under a data key (R510). -/
def keyVerifier (key : List Byte) : Nat := ofLe (bytesOf ((aesEnc sboxTab (aesKeys sboxTab (nats key)) (List.replicate 16 0)).take 4))

/-- The tweak times α in GF(2^128), as a little-endian number. -/
def xtsNext (t : Nat) : Nat := Nat.xor (t * 2 % 2 ^ 128) (if 2 ^ 127 ≤ t then 0x87 else 0)

/-- Blocks under their tweaks, the first one `t` (IEEE 1619). -/
def xtsRun (f : List Nat → List Nat) : Nat → List (List Byte) → List (List Byte)
  | _, [] => []
  | t, b :: l =>
    let w := nats (leBytes t 16)
    bytesOf (xorL (f (xorL (nats b) w)) w) :: xtsRun f (xtsNext t) l

/-- One data unit under 64 key bytes, the data key before the tweak key, with the data unit's number (R508). -/
def xts (dec : Bool) (keys : List Byte) (num : Nat) (u : List Byte) : List Byte :=
  let t := sboxTab
  let k1 := aesKeys t (nats (keys.take 32))
  let k2 := aesKeys t (nats ((keys.drop 32).take 32))
  let t0 := ofLe (bytesOf (aesEnc t k2 (nats (leBytes num 16))))
  let ti := sboxInvTab t
  (xtsRun (if dec then aesDec ti k1 else aesEnc t k1) t0 (chunks 16 u)).flatten

def xtsEncrypt (keys : List Byte) (num : Nat) (u : List Byte) : List Byte := xts false keys num u
def xtsDecrypt (keys : List Byte) (num : Nat) (u : List Byte) : List Byte := xts true keys num u

end Sys2Proof.Machine
end

