-- ==== Sys2Proof/Config.lean ====
section
/-! DEFINITION. What the spec leaves open: constants with no body, of which nothing can be computed or proved. -/

namespace Sys2Proof.Config

/-- A value the spec leaves open, one for each count of the state's `freeCount` (assumption log 3). -/
opaque freeValue : Nat → Nat

/-- The node's serial number, 16 ASCII bytes (spec/14_commands.md, Table MQP-18; spec/16_efina.md, R559; log 5). -/
opaque serial : List Byte

/-- The device stepping that MIN_STEP is compared with (spec/05_chart.md, Table CHT-5 order 4; log 5). -/
opaque stepping : Nat

/-- The SECDED check bits of an 8-byte lane of a DRAM line, of which the spec gives the purpose and the number, not the code (spec/12_benches_dram.md,
Inline ECC and interleave; log 159). -/
opaque secded : BitVec 64 → BitVec 8

/-- The boundary cells of the gate-driver balls: the spec orders the cells by ball and gives no count of cells for a ball
(spec/20_selftest_debug.md, R660, R661; log 168). -/
opaque gateCell : Nat → Bool

end Sys2Proof.Config
end

