-- ==== Sys2Proof/Machine/Tbl.lean ====
section
/-! DEFINITION. Sparse tables: a list of (key, value) pairs in ONE canonical form, keys strictly rising. Registers,
memories and every indexed collection of the block (actuators, queues, slabs, extents) are held so. -/

namespace Sys2Proof.Machine

/-- A sparse table from a numeric key to a value. -/
abbrev Tbl (α : Type) := List (Nat × α)

/-- The value of key `k`, if listed. -/
def Tbl.find {α : Type} : Tbl α → Nat → Option α
  | [], _ => none
  | (k', v) :: t, k => if k' = k then some v else Tbl.find t k

/-- The value of key `k`, or `d` if `k` is not listed. -/
def Tbl.getD {α : Type} (t : Tbl α) (k : Nat) (d : α) : α := (Tbl.find t k).getD d

/-- Set key `k` to `v`, keeping the keys rising. -/
def Tbl.put {α : Type} : Tbl α → Nat → α → Tbl α
  | [], k, v => [(k, v)]
  | (k', v') :: t, k, v =>
    if k < k' then (k, v) :: (k', v') :: t
    else if k' = k then (k, v) :: t
    else (k', v') :: Tbl.put t k v

/-- Remove key `k`. -/
def Tbl.del {α : Type} (t : Tbl α) (k : Nat) : Tbl α := t.filter fun e => !(e.1 == k)

/-- Is key `k` listed. -/
def Tbl.has {α : Type} (t : Tbl α) (k : Nat) : Bool := (Tbl.find t k).isSome

/-- The keys of the table are strictly rising. -/
def Tbl.sortedFrom {α : Type} : Nat → Tbl α → Bool
  | _, [] => true
  | lo, (k, _) :: t => decide (lo ≤ k) && Tbl.sortedFrom (k + 1) t

/-- The canonical form of a table: keys strictly rising. -/
def Tbl.wf {α : Type} (t : Tbl α) : Bool := Tbl.sortedFrom 0 t

/-- The smallest key in `[lo, lo + n)` that the table does not list, for allocating an index. -/
def Tbl.firstFree {α : Type} (t : Tbl α) (lo : Nat) : Nat → Option Nat
  | 0 => none
  | n + 1 => if Tbl.has t lo then Tbl.firstFree t (lo + 1) n else some lo

end Sys2Proof.Machine
end

