-- ==== Sys2Proof/Machine/Fields.lean ====
section
/-! DEFINITION. Register fields: what a register table's row says of a field, and the one place where a field is read
and written. -/

namespace Sys2Proof.Machine

/-- The access codes of Table SYS-1 (R13). -/
inductive Acc where
  | ro | rw | w1c | w1s | ch | tn
  deriving DecidableEq, Repr

/-- One register field. `addr` is the byte address of its register in BAR0 (the low dword of a 64-bit register), `lo` and
`w` its bits, `dflt` its reset value. An array of like fields has `n` members, `per` of them in a register at `step` bits,
registers `stride` bytes apart; a block that is repeated has `bn` copies, `bs` bytes apart. -/
structure Fld where
  addr : Nat
  lo : Nat
  w : Nat
  acc : Acc
  dflt : Nat
  n : Nat := 1
  per : Nat := 1
  step : Nat := 0
  stride : Nat := 4
  bn : Nat := 1
  bs : Nat := 0
  wide : Bool := false
  deriving DecidableEq, Repr

/-- The byte address of the register that holds member `i` of the field in block copy `k`. -/
def Fld.at (F : Fld) (k i : Nat) : Nat := F.addr + F.bs * k + F.stride * (i / F.per)

/-- The lowest bit of member `i` of the field in its register. -/
def Fld.bit (F : Fld) (i : Nat) : Nat := F.lo + F.step * (i % F.per)

/-- The key under which the register file stores the field. -/
def Fld.key (F : Fld) (k i : Nat) : Nat := F.at k i * 64 + F.bit i

/-- The register file: stored fields by key; a field that is not listed holds its reset value. -/
abbrev RegFile := Tbl Nat

/-- The value of a field. -/
def RegFile.get (rf : RegFile) (F : Fld) (k i : Nat) : Nat := Tbl.getD rf (F.key k i) F.dflt

/-- Store a field, low `w` bits. -/
def RegFile.put (rf : RegFile) (F : Fld) (k i v : Nat) : RegFile := Tbl.put rf (F.key k i) (v % 2 ^ F.w)

end Sys2Proof.Machine
end

