-- ==== Sys2Proof/Machine/Regs.lean ====
section
/-! DEFINITION. The register fields of the block, one descriptor per field, as the register tables of the spec's home
chapters give them: address (block base of Table SYS-29 plus offset), bits, access code, reset value. -/

namespace Sys2Proof.Machine

/-- SYS_LOOPPIN_AVS_PIN, Table SYS-8 (spec/01_capture_model.md). -/
def SYS_LOOPPIN_AVS_PIN : Fld := { addr := 0x40, lo := 0, w := 1, acc := .ro, dflt := 0 }
/-- SYS_LOOPPIN_FH_PIN, Table SYS-8 (spec/01_capture_model.md). -/
def SYS_LOOPPIN_FH_PIN : Fld := { addr := 0x40, lo := 1, w := 1, acc := .ro, dflt := 0 }
/-- SYS_LOOPPIN_CHN_PIN, Table SYS-8 (spec/01_capture_model.md). -/
def SYS_LOOPPIN_CHN_PIN : Fld := { addr := 0x40, lo := 2, w := 1, acc := .ro, dflt := 0 }
/-- SYS_LOOPPIN_SD_PIN, Table SYS-8 (spec/01_capture_model.md). -/
def SYS_LOOPPIN_SD_PIN : Fld := { addr := 0x40, lo := 3, w := 1, acc := .ro, dflt := 0 }
/-- SYS_LOOPPIN_PLC_PIN, Table SYS-8 (spec/01_capture_model.md). -/
def SYS_LOOPPIN_PLC_PIN : Fld := { addr := 0x40, lo := 4, w := 1, acc := .ro, dflt := 0 }
/-- SYS_LOOPPIN_EPI_SEEN, Table SYS-8 (spec/01_capture_model.md). -/
def SYS_LOOPPIN_EPI_SEEN : Fld := { addr := 0x40, lo := 8, w := 5, acc := .w1c, dflt := 0 }
/-- SYS_LOOPPIN_HELD, Table SYS-8 (spec/01_capture_model.md). -/
def SYS_LOOPPIN_HELD : Fld := { addr := 0x40, lo := 16, w := 5, acc := .ro, dflt := 0 }
/-- CLK_CFG_ECON_EN, Table CLK-1 (spec/02_graticule.md). -/
def CLK_CFG_ECON_EN : Fld := { addr := 0x1000, lo := 0, w := 1, acc := .ch, dflt := 1 }
/-- CLK_CFG_TRIM_EN, Table CLK-1 (spec/02_graticule.md). -/
def CLK_CFG_TRIM_EN : Fld := { addr := 0x1000, lo := 1, w := 1, acc := .ch, dflt := 1 }
/-- CLK_CFG_XTAL_MODE, Table CLK-1 (spec/02_graticule.md). -/
def CLK_CFG_XTAL_MODE : Fld := { addr := 0x1000, lo := 2, w := 1, acc := .ch, dflt := 0 }
/-- CLK_STAT_LOCK, Table CLK-2 (spec/02_graticule.md). -/
def CLK_STAT_LOCK : Fld := { addr := 0x1004, lo := 0, w := 1, acc := .ro, dflt := 0 }
/-- CLK_STAT_REF_OK, Table CLK-2 (spec/02_graticule.md). -/
def CLK_STAT_REF_OK : Fld := { addr := 0x1004, lo := 1, w := 1, acc := .ro, dflt := 0 }
/-- CLK_STAT_HOLDOVER, Table CLK-2 (spec/02_graticule.md). -/
def CLK_STAT_HOLDOVER : Fld := { addr := 0x1004, lo := 2, w := 1, acc := .ro, dflt := 0 }
/-- CLK_STAT_ECON, Table CLK-2 (spec/02_graticule.md). -/
def CLK_STAT_ECON : Fld := { addr := 0x1004, lo := 3, w := 1, acc := .ro, dflt := 0 }
/-- CLK_STAT_ECON_PEND, Table CLK-2 (spec/02_graticule.md). -/
def CLK_STAT_ECON_PEND : Fld := { addr := 0x1004, lo := 4, w := 1, acc := .ro, dflt := 0 }
/-- CLK_STAT_TICK_LOADED, Table CLK-2 (spec/02_graticule.md). -/
def CLK_STAT_TICK_LOADED : Fld := { addr := 0x1004, lo := 5, w := 1, acc := .ro, dflt := 0 }
/-- CLK_STAT_ALIGNED, Table CLK-2 (spec/02_graticule.md). -/
def CLK_STAT_ALIGNED : Fld := { addr := 0x1004, lo := 6, w := 1, acc := .ro, dflt := 0 }
/-- CLK_OVR_CTL, Table CLK-5 (spec/02_graticule.md). -/
def CLK_OVR_CTL : Fld := { addr := 0x1014, lo := 0, w := 4, acc := .w1c, dflt := 0 }
/-- CLK_OVR_COMM, Table CLK-5 (spec/02_graticule.md). -/
def CLK_OVR_COMM : Fld := { addr := 0x1014, lo := 4, w := 1, acc := .w1c, dflt := 0 }
/-- CLK_OVR_SVYP, Table CLK-5 (spec/02_graticule.md). -/
def CLK_OVR_SVYP : Fld := { addr := 0x1014, lo := 5, w := 1, acc := .w1c, dflt := 0 }
/-- CLK_OVR_CRED, Table CLK-5 (spec/02_graticule.md). -/
def CLK_OVR_CRED : Fld := { addr := 0x1014, lo := 6, w := 1, acc := .w1c, dflt := 0 }
/-- CLK_OVR_STAT, Table CLK-5 (spec/02_graticule.md). -/
def CLK_OVR_STAT : Fld := { addr := 0x1014, lo := 7, w := 1, acc := .w1c, dflt := 0 }
/-- CLK_OVR_AVS, Table CLK-5 (spec/02_graticule.md). -/
def CLK_OVR_AVS : Fld := { addr := 0x1014, lo := 8, w := 1, acc := .w1c, dflt := 0 }
/-- CLK_OVR_PLC, Table CLK-5 (spec/02_graticule.md). -/
def CLK_OVR_PLC : Fld := { addr := 0x1014, lo := 9, w := 1, acc := .w1c, dflt := 0 }
/-- CLK_OVR_CHN, Table CLK-5 (spec/02_graticule.md). -/
def CLK_OVR_CHN : Fld := { addr := 0x1014, lo := 10, w := 1, acc := .w1c, dflt := 0 }
/-- CLK_OVR_FH, Table CLK-5 (spec/02_graticule.md). -/
def CLK_OVR_FH : Fld := { addr := 0x1014, lo := 11, w := 1, acc := .w1c, dflt := 0 }
/-- CLK_OVR_SD, Table CLK-5 (spec/02_graticule.md). -/
def CLK_OVR_SD : Fld := { addr := 0x1014, lo := 12, w := 1, acc := .w1c, dflt := 0 }
/-- CLK_OVR_SNAP, Table CLK-5 (spec/02_graticule.md). -/
def CLK_OVR_SNAP : Fld := { addr := 0x1014, lo := 13, w := 1, acc := .w1c, dflt := 0 }
/-- CLK_OVR_CMT, Table CLK-5 (spec/02_graticule.md). -/
def CLK_OVR_CMT : Fld := { addr := 0x1014, lo := 14, w := 1, acc := .w1c, dflt := 0 }
/-- CLK_OVRCNT, Table CLK-6 (spec/02_graticule.md). -/
def CLK_OVRCNT : Fld := { addr := 0x1018, lo := 0, w := 32, acc := .ro, dflt := 0 }
/-- CLK_OVRTS, Table CLK-6 (spec/02_graticule.md). -/
def CLK_OVRTS : Fld := { addr := 0x1020, lo := 0, w := 64, acc := .ro, dflt := 0, wide := true }
/-- CLK_TRIM_TRIM, Table CLK-9 (spec/02_graticule.md). -/
def CLK_TRIM_TRIM : Fld := { addr := 0x1010, lo := 0, w := 16, acc := .ro, dflt := 0 }
/-- CLK_TRIM_AT_LIMIT, Table CLK-9 (spec/02_graticule.md). -/
def CLK_TRIM_AT_LIMIT : Fld := { addr := 0x1010, lo := 16, w := 1, acc := .ro, dflt := 0 }
/-- PWR_CFG_VINWARN, Table PWR-2 (spec/03_supplies_surveyor.md). -/
def PWR_CFG_VINWARN : Fld := { addr := 0x2000, lo := 0, w := 8, acc := .ch, dflt := 44 }
/-- PWR_CFG_VMWARN, Table PWR-2 (spec/03_supplies_surveyor.md). -/
def PWR_CFG_VMWARN : Fld := { addr := 0x2000, lo := 8, w := 8, acc := .ch, dflt := 210 }
/-- PWR_CFG_PF_EN, Table PWR-2 (spec/03_supplies_surveyor.md). -/
def PWR_CFG_PF_EN : Fld := { addr := 0x2000, lo := 16, w := 1, acc := .ch, dflt := 0 }
/-- PWR_HOLD_ACTIVE, Table PWR-3 (spec/03_supplies_surveyor.md). -/
def PWR_HOLD_ACTIVE : Fld := { addr := 0x200c, lo := 0, w := 1, acc := .ro, dflt := 0 }
/-- PWR_HOLD_VIN_LO, Table PWR-3 (spec/03_supplies_surveyor.md). -/
def PWR_HOLD_VIN_LO : Fld := { addr := 0x200c, lo := 1, w := 1, acc := .ro, dflt := 0 }
/-- PWR_HOLD_VIN_HI, Table PWR-3 (spec/03_supplies_surveyor.md). -/
def PWR_HOLD_VIN_HI : Fld := { addr := 0x200c, lo := 2, w := 1, acc := .ro, dflt := 0 }
/-- PWR_HOLD_VM_LO, Table PWR-3 (spec/03_supplies_surveyor.md). -/
def PWR_HOLD_VM_LO : Fld := { addr := 0x200c, lo := 3, w := 1, acc := .ro, dflt := 0 }
/-- PWR_HOLD_UNLOADED, Table PWR-3 (spec/03_supplies_surveyor.md). -/
def PWR_HOLD_UNLOADED : Fld := { addr := 0x200c, lo := 4, w := 1, acc := .ro, dflt := 0 }
/-- PWR_HOLD_RETRACTED, Table PWR-3 (spec/03_supplies_surveyor.md). -/
def PWR_HOLD_RETRACTED : Fld := { addr := 0x200c, lo := 5, w := 1, acc := .ro, dflt := 0 }
/-- PWR_HOLD_RCVCNT, Table PWR-3 (spec/03_supplies_surveyor.md). -/
def PWR_HOLD_RCVCNT : Fld := { addr := 0x200c, lo := 6, w := 5, acc := .ro, dflt := 0 }
/-- PWR_HOLD_ELAPSED, Table PWR-3 (spec/03_supplies_surveyor.md). -/
def PWR_HOLD_ELAPSED : Fld := { addr := 0x200c, lo := 16, w := 16, acc := .ro, dflt := 0 }
/-- PWR_TMR_IDLE, Table PWR-9 (spec/03_supplies_surveyor.md). -/
def PWR_TMR_IDLE : Fld := { addr := 0x2004, lo := 0, w := 16, acc := .tn, dflt := 2500 }
/-- PWR_TMR_STBY, Table PWR-9 (spec/03_supplies_surveyor.md). -/
def PWR_TMR_STBY : Fld := { addr := 0x2004, lo := 16, w := 16, acc := .tn, dflt := 0 }
/-- PWR_STATE_CUR, Table PWR-9 (spec/03_supplies_surveyor.md). -/
def PWR_STATE_CUR : Fld := { addr := 0x2008, lo := 0, w := 3, acc := .ro, dflt := 0 }
/-- PWR_STATE_PEND, Table PWR-9 (spec/03_supplies_surveyor.md). -/
def PWR_STATE_PEND : Fld := { addr := 0x2008, lo := 3, w := 3, acc := .ro, dflt := 0 }
/-- PWR_STATE_JNL_RDY, Table PWR-9 (spec/03_supplies_surveyor.md). -/
def PWR_STATE_JNL_RDY : Fld := { addr := 0x2008, lo := 6, w := 1, acc := .ro, dflt := 0 }
/-- PWR_STATE_DEFER_WHY, Table PWR-9 (spec/03_supplies_surveyor.md). -/
def PWR_STATE_DEFER_WHY : Fld := { addr := 0x2008, lo := 8, w := 5, acc := .ro, dflt := 0 }
/-- SVY_I2CCFG_BMODE, Table SVY-8 (spec/03_supplies_surveyor.md). -/
def SVY_I2CCFG_BMODE : Fld := { addr := 0x3030, lo := 0, w := 2, acc := .ch, dflt := 1 }
/-- SVY_I2CCFG_PMODE, Table SVY-8 (spec/03_supplies_surveyor.md). -/
def SVY_I2CCFG_PMODE : Fld := { addr := 0x3030, lo := 2, w := 2, acc := .ch, dflt := 1 }
/-- SVY_I2CCFG_TMODE, Table SVY-8 (spec/03_supplies_surveyor.md). -/
def SVY_I2CCFG_TMODE : Fld := { addr := 0x3030, lo := 4, w := 2, acc := .ch, dflt := 1 }
/-- SVY_I2CCFG_TADDR, Table SVY-8 (spec/03_supplies_surveyor.md). -/
def SVY_I2CCFG_TADDR : Fld := { addr := 0x3030, lo := 8, w := 7, acc := .ch, dflt := 44 }
/-- SVY_BSENS_EN, Table SVY-8 (spec/03_supplies_surveyor.md). -/
def SVY_BSENS_EN : Fld := { addr := 0x3050, lo := 0, w := 1, acc := .ch, dflt := 0, n := 4, per := 1, step := 0, stride := 0x4 }
/-- SVY_BSENS_ADDR, Table SVY-8 (spec/03_supplies_surveyor.md). -/
def SVY_BSENS_ADDR : Fld := { addr := 0x3050, lo := 1, w := 7, acc := .ch, dflt := 0, n := 4, per := 1, step := 0, stride := 0x4 }
/-- SVY_BSENS_REG, Table SVY-8 (spec/03_supplies_surveyor.md). -/
def SVY_BSENS_REG : Fld := { addr := 0x3050, lo := 8, w := 8, acc := .ch, dflt := 0, n := 4, per := 1, step := 0, stride := 0x4 }
/-- SVY_BSENS_FORMAT, Table SVY-8 (spec/03_supplies_surveyor.md). -/
def SVY_BSENS_FORMAT : Fld := { addr := 0x3050, lo := 16, w := 1, acc := .ch, dflt := 0, n := 4, per := 1, step := 0, stride := 0x4 }
/-- SVY_VIN_MEAN, Table SVY-2 (spec/03_supplies_surveyor.md). -/
def SVY_VIN_MEAN : Fld := { addr := 0x3000, lo := 0, w := 13, acc := .ro, dflt := 0 }
/-- SVY_VIN_MIN, Table SVY-2 (spec/03_supplies_surveyor.md). -/
def SVY_VIN_MIN : Fld := { addr := 0x3000, lo := 16, w := 13, acc := .ro, dflt := 0 }
/-- SVY_VM_MEAN, Table SVY-2 (spec/03_supplies_surveyor.md). -/
def SVY_VM_MEAN : Fld := { addr := 0x3004, lo := 0, w := 16, acc := .ro, dflt := 0 }
/-- SVY_TEMP_TMAX, Table SVY-2 (spec/03_supplies_surveyor.md). -/
def SVY_TEMP_TMAX : Fld := { addr := 0x3008, lo := 0, w := 12, acc := .ro, dflt := 0 }
/-- SVY_TEMP_SITE, Table SVY-2 (spec/03_supplies_surveyor.md). -/
def SVY_TEMP_SITE : Fld := { addr := 0x3008, lo := 12, w := 3, acc := .ro, dflt := 0 }
/-- SVY_TEMP_THROT, Table SVY-2 (spec/03_supplies_surveyor.md). -/
def SVY_TEMP_THROT : Fld := { addr := 0x3008, lo := 16, w := 1, acc := .ro, dflt := 0 }
/-- SVY_SHOCK_PEAK0, Table SVY-2 (spec/03_supplies_surveyor.md). -/
def SVY_SHOCK_PEAK0 : Fld := { addr := 0x300c, lo := 0, w := 8, acc := .ro, dflt := 0 }
/-- SVY_SHOCK_PEAK1, Table SVY-2 (spec/03_supplies_surveyor.md). -/
def SVY_SHOCK_PEAK1 : Fld := { addr := 0x300c, lo := 8, w := 8, acc := .ro, dflt := 0 }
/-- SVY_SHOCK_INH, Table SVY-2 (spec/03_supplies_surveyor.md). -/
def SVY_SHOCK_INH : Fld := { addr := 0x300c, lo := 16, w := 1, acc := .ro, dflt := 0 }
/-- SVY_SHKCFG_THR, Table SVY-2 (spec/03_supplies_surveyor.md). -/
def SVY_SHKCFG_THR : Fld := { addr := 0x3020, lo := 0, w := 8, acc := .ch, dflt := 24 }
/-- SVY_SHKCFG_QUIET, Table SVY-2 (spec/03_supplies_surveyor.md). -/
def SVY_SHKCFG_QUIET : Fld := { addr := 0x3020, lo := 8, w := 8, acc := .ch, dflt := 25 }
/-- SVY_THERM_THROT, Table SVY-2 (spec/03_supplies_surveyor.md). -/
def SVY_THERM_THROT : Fld := { addr := 0x3024, lo := 0, w := 8, acc := .ch, dflt := 105 }
/-- SVY_AVS_VCORE, Table SVY-5 (spec/03_supplies_surveyor.md). -/
def SVY_AVS_VCORE : Fld := { addr := 0x3010, lo := 0, w := 11, acc := .ro, dflt := 1700 }
/-- SVY_AVS_PIN, Table SVY-5 (spec/03_supplies_surveyor.md). -/
def SVY_AVS_PIN : Fld := { addr := 0x3010, lo := 11, w := 1, acc := .ro, dflt := 0 }
/-- SVY_AVS_MTHROT, Table SVY-5 (spec/03_supplies_surveyor.md). -/
def SVY_AVS_MTHROT : Fld := { addr := 0x3010, lo := 12, w := 1, acc := .ro, dflt := 0 }
/-- SVY_AVS_MARGIN, Table SVY-5 (spec/03_supplies_surveyor.md). -/
def SVY_AVS_MARGIN : Fld := { addr := 0x3010, lo := 16, w := 8, acc := .ro, dflt := 0 }
/-- SVY_AVSCFG0_F125, Table SVY-7 (spec/03_supplies_surveyor.md). -/
def SVY_AVSCFG0_F125 : Fld := { addr := 0x3028, lo := 0, w := 11, acc := .ch, dflt := 1600 }
/-- SVY_AVSCFG0_F100, Table SVY-7 (spec/03_supplies_surveyor.md). -/
def SVY_AVSCFG0_F100 : Fld := { addr := 0x3028, lo := 16, w := 11, acc := .ch, dflt := 1500 }
/-- SVY_AVSCFG1_M_LO, Table SVY-7 (spec/03_supplies_surveyor.md). -/
def SVY_AVSCFG1_M_LO : Fld := { addr := 0x302c, lo := 0, w := 8, acc := .ch, dflt := 32 }
/-- SVY_AVSCFG1_M_HI, Table SVY-7 (spec/03_supplies_surveyor.md). -/
def SVY_AVSCFG1_M_HI : Fld := { addr := 0x302c, lo := 8, w := 8, acc := .ch, dflt := 60 }
/-- SVY_AVSCFG1_U_LO, Table SVY-7 (spec/03_supplies_surveyor.md). -/
def SVY_AVSCFG1_U_LO : Fld := { addr := 0x302c, lo := 16, w := 8, acc := .ch, dflt := 30 }
/-- SVY_AVSCFG1_U_HI, Table SVY-7 (spec/03_supplies_surveyor.md). -/
def SVY_AVSCFG1_U_HI : Fld := { addr := 0x302c, lo := 24, w := 8, acc := .ch, dflt := 60 }
/-- PIN_OUT_OUT, Table PIN-7 (spec/04_pins.md). -/
def PIN_OUT_OUT : Fld := { addr := 0x4080, lo := 0, w := 16, acc := .tn, dflt := 0, n := 4, per := 1, step := 0, stride := 0x8 }
/-- PIN_OUT_OE, Table PIN-7 (spec/04_pins.md). -/
def PIN_OUT_OE : Fld := { addr := 0x4080, lo := 16, w := 16, acc := .ch, dflt := 0, n := 4, per := 1, step := 0, stride := 0x8 }
/-- PIN_EXTSEL_PORT, Table PIN-8 (spec/04_pins.md). -/
def PIN_EXTSEL_PORT : Fld := { addr := 0x40c0, lo := 0, w := 2, acc := .ch, dflt := 0, n := 16, per := 16, step := 2, stride := 0x4 }
/-- PIN_EXTCFG_MODE, Table PIN-8 (spec/04_pins.md). -/
def PIN_EXTCFG_MODE : Fld := { addr := 0x40c4, lo := 0, w := 3, acc := .ch, dflt := 0, n := 16, per := 4, step := 8, stride := 0x4 }
/-- PIN_EXTCFG_FILT, Table PIN-8 (spec/04_pins.md). -/
def PIN_EXTCFG_FILT : Fld := { addr := 0x40c4, lo := 3, w := 3, acc := .ch, dflt := 0, n := 16, per := 4, step := 8, stride := 0x4 }
/-- PIN_EXTPEND_PEND, Table PIN-9 (spec/04_pins.md). -/
def PIN_EXTPEND_PEND : Fld := { addr := 0x40d4, lo := 0, w := 16, acc := .w1c, dflt := 0 }
/-- PIN_EXTPEND_OVF, Table PIN-9 (spec/04_pins.md). -/
def PIN_EXTPEND_OVF : Fld := { addr := 0x40d4, lo := 16, w := 16, acc := .w1c, dflt := 0 }
/-- PIN_EVOCFG_POL, Table PIN-11 (spec/04_pins.md). -/
def PIN_EVOCFG_POL : Fld := { addr := 0x4180, lo := 0, w := 1, acc := .ch, dflt := 0, n := 16, per := 4, step := 8, stride := 0x4 }
/-- PIN_EVOCFG_MODE, Table PIN-11 (spec/04_pins.md). -/
def PIN_EVOCFG_MODE : Fld := { addr := 0x4180, lo := 1, w := 1, acc := .ch, dflt := 0, n := 16, per := 4, step := 8, stride := 0x4 }
/-- PIN_EVOCFG_PW, Table PIN-11 (spec/04_pins.md). -/
def PIN_EVOCFG_PW : Fld := { addr := 0x4180, lo := 2, w := 6, acc := .ch, dflt := 0, n := 16, per := 4, step := 8, stride := 0x4 }
/-- PIN_WAKECFG_EN, Table PIN-13 (spec/04_pins.md). -/
def PIN_WAKECFG_EN : Fld := { addr := 0x41c0, lo := 0, w := 1, acc := .ch, dflt := 0, n := 16, per := 8, step := 4, stride := 0x4 }
/-- PIN_WAKECFG_MODE, Table PIN-13 (spec/04_pins.md). -/
def PIN_WAKECFG_MODE : Fld := { addr := 0x41c0, lo := 1, w := 2, acc := .ch, dflt := 0, n := 16, per := 8, step := 4, stride := 0x4 }
/-- PIN_WAKEFILT_FILT, Table PIN-13 (spec/04_pins.md). -/
def PIN_WAKEFILT_FILT : Fld := { addr := 0x41c8, lo := 0, w := 8, acc := .ch, dflt := 0 }
/-- PIN_WAKESRC_PINS, Table PIN-13 (spec/04_pins.md). -/
def PIN_WAKESRC_PINS : Fld := { addr := 0x41cc, lo := 0, w := 16, acc := .ro, dflt := 0 }
/-- PIN_WAKESRC_PERST, Table PIN-13 (spec/04_pins.md). -/
def PIN_WAKESRC_PERST : Fld := { addr := 0x41cc, lo := 16, w := 1, acc := .ro, dflt := 0 }
/-- PIN_STRAP_XSPI1, Table PIN-14 (spec/04_pins.md). -/
def PIN_STRAP_XSPI1 : Fld := { addr := 0x41d0, lo := 0, w := 1, acc := .ro, dflt := 0 }
/-- PIN_STRAP_PCIEW, Table PIN-14 (spec/04_pins.md). -/
def PIN_STRAP_PCIEW : Fld := { addr := 0x41d0, lo := 1, w := 2, acc := .ro, dflt := 0 }
/-- PIN_STRAP_SCANHOLD, Table PIN-14 (spec/04_pins.md). -/
def PIN_STRAP_SCANHOLD : Fld := { addr := 0x41d0, lo := 3, w := 1, acc := .ro, dflt := 0 }
/-- CHT_STAT_ACTIVE, Table CHT-10 (spec/05_chart.md). -/
def CHT_STAT_ACTIVE : Fld := { addr := 0x5000, lo := 0, w := 2, acc := .ro, dflt := 0 }
/-- CHT_STAT_ABSENT, Table CHT-10 (spec/05_chart.md). -/
def CHT_STAT_ABSENT : Fld := { addr := 0x5000, lo := 2, w := 1, acc := .ro, dflt := 0 }
/-- CHT_STAT_FELLBACK, Table CHT-10 (spec/05_chart.md). -/
def CHT_STAT_FELLBACK : Fld := { addr := 0x5000, lo := 3, w := 1, acc := .ro, dflt := 0 }
/-- CHT_STAT_PEND, Table CHT-10 (spec/05_chart.md). -/
def CHT_STAT_PEND : Fld := { addr := 0x5000, lo := 4, w := 2, acc := .ro, dflt := 0 }
/-- CHT_STAT_XSPI_1, Table CHT-10 (spec/05_chart.md). -/
def CHT_STAT_XSPI_1 : Fld := { addr := 0x5000, lo := 6, w := 1, acc := .ro, dflt := 0 }
/-- CHT_STAT_REJ_A, Table CHT-10 (spec/05_chart.md). -/
def CHT_STAT_REJ_A : Fld := { addr := 0x5000, lo := 8, w := 8, acc := .ro, dflt := 255 }
/-- CHT_STAT_REJ_B, Table CHT-10 (spec/05_chart.md). -/
def CHT_STAT_REJ_B : Fld := { addr := 0x5000, lo := 16, w := 8, acc := .ro, dflt := 255 }
/-- CHT_SEQ, Table CHT-10 (spec/05_chart.md). -/
def CHT_SEQ : Fld := { addr := 0x5004, lo := 0, w := 32, acc := .ro, dflt := 0 }
/-- CHT_UPD_STATE, Table CHT-10 (spec/05_chart.md). -/
def CHT_UPD_STATE : Fld := { addr := 0x5008, lo := 0, w := 2, acc := .ro, dflt := 0 }
/-- CHT_UPD_REJ, Table CHT-10 (spec/05_chart.md). -/
def CHT_UPD_REJ : Fld := { addr := 0x5008, lo := 8, w := 8, acc := .ro, dflt := 0 }
/-- CHT_UPDOFF, Table CHT-10 (spec/05_chart.md). -/
def CHT_UPDOFF : Fld := { addr := 0x500c, lo := 0, w := 32, acc := .ro, dflt := 0 }
/-- CHT_WEAR_SPARES, Table CHT-10 (spec/05_chart.md). -/
def CHT_WEAR_SPARES : Fld := { addr := 0x5010, lo := 0, w := 4, acc := .ro, dflt := 8 }
/-- CHT_WEAR_SEALED, Table CHT-10 (spec/05_chart.md). -/
def CHT_WEAR_SEALED : Fld := { addr := 0x5010, lo := 4, w := 1, acc := .ro, dflt := 0 }
/-- CHT_WEAR_SLOW, Table CHT-10 (spec/05_chart.md). -/
def CHT_WEAR_SLOW : Fld := { addr := 0x5010, lo := 8, w := 10, acc := .ro, dflt := 0 }
/-- CHT_EPOCH_FUSED, Table CHT-10 (spec/05_chart.md). -/
def CHT_EPOCH_FUSED : Fld := { addr := 0x5018, lo := 0, w := 6, acc := .ro, dflt := 0 }
/-- CHT_KEYHASH, Table CHT-10 (spec/05_chart.md). -/
def CHT_KEYHASH : Fld := { addr := 0x5020, lo := 0, w := 32, acc := .ro, dflt := 0, n := 8, per := 1, step := 0, stride := 0x4 }
/-- SYS_BOOT_STAGE, Table SYS-11 (spec/06_power_to_ready.md). -/
def SYS_BOOT_STAGE : Fld := { addr := 0x80, lo := 0, w := 4, acc := .ro, dflt := 0 }
/-- SYS_BOOT_DRAM, Table SYS-11 (spec/06_power_to_ready.md). -/
def SYS_BOOT_DRAM : Fld := { addr := 0x80, lo := 4, w := 2, acc := .ro, dflt := 0 }
/-- SYS_BOOT_MEDIA, Table SYS-11 (spec/06_power_to_ready.md). -/
def SYS_BOOT_MEDIA : Fld := { addr := 0x80, lo := 6, w := 3, acc := .ro, dflt := 0 }
/-- SYS_BOOT_FAB, Table SYS-11 (spec/06_power_to_ready.md). -/
def SYS_BOOT_FAB : Fld := { addr := 0x80, lo := 9, w := 3, acc := .ro, dflt := 0 }
/-- SYS_BOOT_ACTFAIL, Table SYS-11 (spec/06_power_to_ready.md). -/
def SYS_BOOT_ACTFAIL : Fld := { addr := 0x80, lo := 12, w := 4, acc := .ro, dflt := 0 }
/-- SYS_BOOT_JNL, Table SYS-11 (spec/06_power_to_ready.md). -/
def SYS_BOOT_JNL : Fld := { addr := 0x80, lo := 16, w := 2, acc := .ro, dflt := 0 }
/-- SYS_BOOT_WARM, Table SYS-11 (spec/06_power_to_ready.md). -/
def SYS_BOOT_WARM : Fld := { addr := 0x80, lo := 18, w := 1, acc := .ro, dflt := 0 }
/-- SYS_BOOT_FCODE, Table SYS-11 (spec/06_power_to_ready.md). -/
def SYS_BOOT_FCODE : Fld := { addr := 0x80, lo := 24, w := 8, acc := .ro, dflt := 0 }
/-- SYS_RSTCTL_KEY, Table SYS-14 (spec/06_power_to_ready.md). -/
def SYS_RSTCTL_KEY : Fld := { addr := 0x84, lo := 0, w := 16, acc := .rw, dflt := 0 }
/-- SYS_RSTCTL_GO, Table SYS-14 (spec/06_power_to_ready.md). -/
def SYS_RSTCTL_GO : Fld := { addr := 0x84, lo := 16, w := 1, acc := .w1s, dflt := 0 }
/-- SPN_STAT_STATE, Table SPN-6 (spec/07_spindle.md). -/
def SPN_STAT_STATE : Fld := { addr := 0x6000, lo := 0, w := 4, acc := .ro, dflt := 0 }
/-- SPN_STAT_CASE, Table SPN-6 (spec/07_spindle.md). -/
def SPN_STAT_CASE : Fld := { addr := 0x6000, lo := 4, w := 3, acc := .ro, dflt := 0 }
/-- SPN_STAT_AT_SPEED, Table SPN-6 (spec/07_spindle.md). -/
def SPN_STAT_AT_SPEED : Fld := { addr := 0x6000, lo := 7, w := 1, acc := .ro, dflt := 0 }
/-- SPN_STAT_WB_OK, Table SPN-6 (spec/07_spindle.md). -/
def SPN_STAT_WB_OK : Fld := { addr := 0x6000, lo := 8, w := 1, acc := .ro, dflt := 0 }
/-- SPN_STAT_RECT, Table SPN-6 (spec/07_spindle.md). -/
def SPN_STAT_RECT : Fld := { addr := 0x6000, lo := 9, w := 1, acc := .ro, dflt := 0 }
/-- SPN_STAT_ATTEMPT, Table SPN-6 (spec/07_spindle.md). -/
def SPN_STAT_ATTEMPT : Fld := { addr := 0x6000, lo := 10, w := 2, acc := .ro, dflt := 0 }
/-- SPN_SPEED_SPEED, Table SPN-6 (spec/07_spindle.md). -/
def SPN_SPEED_SPEED : Fld := { addr := 0x6004, lo := 0, w := 21, acc := .ro, dflt := 0 }
/-- SPN_OBS_CONF, Table SPN-6 (spec/07_spindle.md). -/
def SPN_OBS_CONF : Fld := { addr := 0x6008, lo := 0, w := 8, acc := .ro, dflt := 0 }
/-- SPN_OBS_IAMP, Table SPN-6 (spec/07_spindle.md). -/
def SPN_OBS_IAMP : Fld := { addr := 0x6008, lo := 16, w := 16, acc := .ro, dflt := 0 }
/-- SPN_LISTEN_DUR, Table SPN-6 (spec/07_spindle.md). -/
def SPN_LISTEN_DUR : Fld := { addr := 0x600c, lo := 0, w := 16, acc := .ro, dflt := 0 }
/-- SPN_LISTEN_RPM, Table SPN-6 (spec/07_spindle.md). -/
def SPN_LISTEN_RPM : Fld := { addr := 0x600c, lo := 16, w := 16, acc := .ro, dflt := 0 }
/-- SPN_RELOCK_COUNT, Table SPN-6 (spec/07_spindle.md). -/
def SPN_RELOCK_COUNT : Fld := { addr := 0x6010, lo := 0, w := 4, acc := .ro, dflt := 0 }
/-- SRV_POS, Table SRV-11 (spec/08_servo_band.md). -/
def SRV_POS : Fld := { addr := 0x7000, lo := 0, w := 64, acc := .ro, dflt := 0, bn := 4, bs := 0x100, wide := true }
/-- SRV_TGT_TRACK, Table SRV-11 (spec/08_servo_band.md). -/
def SRV_TGT_TRACK : Fld := { addr := 0x7008, lo := 0, w := 24, acc := .ro, dflt := 0, bn := 4, bs := 0x100 }
/-- SRV_TGT_HEAD, Table SRV-11 (spec/08_servo_band.md). -/
def SRV_TGT_HEAD : Fld := { addr := 0x7008, lo := 24, w := 5, acc := .ro, dflt := 0, bn := 4, bs := 0x100 }
/-- SRV_STAT_STATE, Table SRV-11 (spec/08_servo_band.md). -/
def SRV_STAT_STATE : Fld := { addr := 0x700c, lo := 0, w := 4, acc := .ro, dflt := 0, bn := 4, bs := 0x100 }
/-- SRV_STAT_RREADY, Table SRV-11 (spec/08_servo_band.md). -/
def SRV_STAT_RREADY : Fld := { addr := 0x700c, lo := 4, w := 1, acc := .ro, dflt := 0, bn := 4, bs := 0x100 }
/-- SRV_STAT_WREADY, Table SRV-11 (spec/08_servo_band.md). -/
def SRV_STAT_WREADY : Fld := { addr := 0x700c, lo := 5, w := 1, acc := .ro, dflt := 0, bn := 4, bs := 0x100 }
/-- SRV_STAT_STALE, Table SRV-11 (spec/08_servo_band.md). -/
def SRV_STAT_STALE : Fld := { addr := 0x700c, lo := 6, w := 1, acc := .ro, dflt := 0, bn := 4, bs := 0x100 }
/-- SRV_STAT_MA_CLIP, Table SRV-11 (spec/08_servo_band.md). -/
def SRV_STAT_MA_CLIP : Fld := { addr := 0x700c, lo := 7, w := 1, acc := .ro, dflt := 0, bn := 4, bs := 0x100 }
/-- SRV_STAT_GUARD, Table SRV-11 (spec/08_servo_band.md). -/
def SRV_STAT_GUARD : Fld := { addr := 0x700c, lo := 8, w := 1, acc := .ro, dflt := 0, bn := 4, bs := 0x100 }
/-- SRV_WGCNT, Table SRV-11 (spec/08_servo_band.md). -/
def SRV_WGCNT : Fld := { addr := 0x7014, lo := 0, w := 32, acc := .ro, dflt := 0, bn := 4, bs := 0x100 }
/-- SRV_SEEK_DUR, Table SRV-11 (spec/08_servo_band.md). -/
def SRV_SEEK_DUR : Fld := { addr := 0x7018, lo := 0, w := 16, acc := .ro, dflt := 0, bn := 4, bs := 0x100 }
/-- SRV_SEEK_ROW, Table SRV-11 (spec/08_servo_band.md). -/
def SRV_SEEK_ROW : Fld := { addr := 0x7018, lo := 16, w := 4, acc := .ro, dflt := 0, bn := 4, bs := 0x100 }
/-- SRV_SEEK_FAIL, Table SRV-11 (spec/08_servo_band.md). -/
def SRV_SEEK_FAIL : Fld := { addr := 0x7018, lo := 20, w := 1, acc := .ro, dflt := 0, bn := 4, bs := 0x100 }
/-- SRV_RCOIL, Table SRV-11 (spec/08_servo_band.md). -/
def SRV_RCOIL : Fld := { addr := 0x701c, lo := 0, w := 16, acc := .ro, dflt := 0, bn := 4, bs := 0x100 }
/-- CTL_STAT_SET, Table CTL-10 (spec/09_control_engine.md). -/
def CTL_STAT_SET : Fld := { addr := 0x20000, lo := 0, w := 3, acc := .ro, dflt := 7, bn := 4, bs := 0x2000 }
/-- CTL_STAT_SAFE, Table CTL-10 (spec/09_control_engine.md). -/
def CTL_STAT_SAFE : Fld := { addr := 0x20000, lo := 3, w := 1, acc := .ro, dflt := 0, bn := 4, bs := 0x2000 }
/-- CTL_STAT_DELAYED, Table CTL-10 (spec/09_control_engine.md). -/
def CTL_STAT_DELAYED : Fld := { addr := 0x20000, lo := 4, w := 1, acc := .ro, dflt := 0, bn := 4, bs := 0x2000 }
/-- CTL_STAT_STOPC, Table CTL-10 (spec/09_control_engine.md). -/
def CTL_STAT_STOPC : Fld := { addr := 0x20000, lo := 5, w := 3, acc := .ro, dflt := 0, bn := 4, bs := 0x2000 }
/-- CTL_STAT_OUTCYC, Table CTL-10 (spec/09_control_engine.md). -/
def CTL_STAT_OUTCYC : Fld := { addr := 0x20000, lo := 8, w := 9, acc := .ro, dflt := 0, bn := 4, bs := 0x2000 }
/-- CTL_STAT_SAFECNT, Table CTL-10 (spec/09_control_engine.md). -/
def CTL_STAT_SAFECNT : Fld := { addr := 0x20000, lo := 17, w := 5, acc := .ro, dflt := 0, bn := 4, bs := 0x2000 }
/-- CTL_SAT_FLAGS, Table CTL-10 (spec/09_control_engine.md). -/
def CTL_SAT_FLAGS : Fld := { addr := 0x20004, lo := 0, w := 5, acc := .ro, dflt := 0, bn := 4, bs := 0x2000 }
/-- CTL_SAT_STICKY, Table CTL-10 (spec/09_control_engine.md). -/
def CTL_SAT_STICKY : Fld := { addr := 0x20004, lo := 8, w := 5, acc := .w1c, dflt := 0, bn := 4, bs := 0x2000 }
/-- CTL_SATSEC, Table CTL-10 (spec/09_control_engine.md). -/
def CTL_SATSEC : Fld := { addr := 0x20008, lo := 0, w := 6, acc := .ro, dflt := 0, bn := 4, bs := 0x2000 }
/-- CTL_SATSEC_VALID, Table CTL-10 (spec/09_control_engine.md). -/
def CTL_SATSEC_VALID : Fld := { addr := 0x20008, lo := 6, w := 1, acc := .ro, dflt := 0, bn := 4, bs := 0x2000 }
/-- CTL_VSATCNT, Table CTL-10 (spec/09_control_engine.md). -/
def CTL_VSATCNT : Fld := { addr := 0x2000c, lo := 0, w := 32, acc := .ro, dflt := 0, bn := 4, bs := 0x2000 }
/-- CTL_ECC_CORR, Table CTL-10 (spec/09_control_engine.md). -/
def CTL_ECC_CORR : Fld := { addr := 0x20010, lo := 0, w := 16, acc := .ro, dflt := 0, bn := 4, bs := 0x2000 }
/-- CTL_ECC_REREAD, Table CTL-10 (spec/09_control_engine.md). -/
def CTL_ECC_REREAD : Fld := { addr := 0x20010, lo := 16, w := 8, acc := .ro, dflt := 0, bn := 4, bs := 0x2000 }
/-- CTL_ECC_UNCORR, Table CTL-10 (spec/09_control_engine.md). -/
def CTL_ECC_UNCORR : Fld := { addr := 0x20010, lo := 24, w := 8, acc := .ro, dflt := 0, bn := 4, bs := 0x2000 }
/-- CTL_PEEKSEL_NODE, Table CTL-10 (spec/09_control_engine.md). -/
def CTL_PEEKSEL_NODE : Fld := { addr := 0x20020, lo := 0, w := 6, acc := .rw, dflt := 0, bn := 4, bs := 0x2000 }
/-- CTL_TRCSEL_NODE, Table CTL-10 (spec/09_control_engine.md). -/
def CTL_TRCSEL_NODE : Fld := { addr := 0x20040, lo := 0, w := 6, acc := .rw, dflt := 0, n := 8, per := 4, step := 8, stride := 0x4, bn := 4, bs := 0x2000 }
/-- CTL_TRCCTL_ARM, Table CTL-10 (spec/09_control_engine.md). -/
def CTL_TRCCTL_ARM : Fld := { addr := 0x20048, lo := 0, w := 1, acc := .w1s, dflt := 0, bn := 4, bs := 0x2000 }
/-- CTL_TRCCTL_STOP, Table CTL-10 (spec/09_control_engine.md). -/
def CTL_TRCCTL_STOP : Fld := { addr := 0x20048, lo := 1, w := 1, acc := .w1s, dflt := 0, bn := 4, bs := 0x2000 }
/-- CTL_TRCCTL_TRIG, Table CTL-10 (spec/09_control_engine.md). -/
def CTL_TRCCTL_TRIG : Fld := { addr := 0x20048, lo := 2, w := 1, acc := .w1s, dflt := 0, bn := 4, bs := 0x2000 }
/-- CTL_TRCCTL_MODE, Table CTL-10 (spec/09_control_engine.md). -/
def CTL_TRCCTL_MODE : Fld := { addr := 0x20048, lo := 3, w := 1, acc := .rw, dflt := 0, bn := 4, bs := 0x2000 }
/-- CTL_TRCCTL_SRC, Table CTL-10 (spec/09_control_engine.md). -/
def CTL_TRCCTL_SRC : Fld := { addr := 0x20048, lo := 4, w := 3, acc := .rw, dflt := 0, bn := 4, bs := 0x2000 }
/-- CTL_TRCCTL_POST, Table CTL-10 (spec/09_control_engine.md). -/
def CTL_TRCCTL_POST : Fld := { addr := 0x20048, lo := 8, w := 13, acc := .rw, dflt := 0, bn := 4, bs := 0x2000 }
/-- CTL_TRCSTAT_STATE, Table CTL-10 (spec/09_control_engine.md). -/
def CTL_TRCSTAT_STATE : Fld := { addr := 0x2004c, lo := 0, w := 2, acc := .ro, dflt := 0, bn := 4, bs := 0x2000 }
/-- CTL_TRCSTAT_NOBENCH, Table CTL-10 (spec/09_control_engine.md). -/
def CTL_TRCSTAT_NOBENCH : Fld := { addr := 0x2004c, lo := 2, w := 1, acc := .ro, dflt := 1, bn := 4, bs := 0x2000 }
/-- CTL_TRCSTAT_WRAPPED, Table CTL-10 (spec/09_control_engine.md). -/
def CTL_TRCSTAT_WRAPPED : Fld := { addr := 0x2004c, lo := 3, w := 1, acc := .ro, dflt := 0, bn := 4, bs := 0x2000 }
/-- CTL_TRCSTAT_WPTR, Table CTL-10 (spec/09_control_engine.md). -/
def CTL_TRCSTAT_WPTR : Fld := { addr := 0x2004c, lo := 4, w := 13, acc := .ro, dflt := 0, bn := 4, bs := 0x2000 }
/-- CTL_TRCSTAT_IGNORED, Table CTL-10 (spec/09_control_engine.md). -/
def CTL_TRCSTAT_IGNORED : Fld := { addr := 0x2004c, lo := 24, w := 8, acc := .ro, dflt := 0, bn := 4, bs := 0x2000 }
/-- CTL_TRCCMP_NODE, Table CTL-10 (spec/09_control_engine.md). -/
def CTL_TRCCMP_NODE : Fld := { addr := 0x20050, lo := 0, w := 6, acc := .rw, dflt := 0, bn := 4, bs := 0x2000 }
/-- CTL_TRCCMP_CMP, Table CTL-10 (spec/09_control_engine.md). -/
def CTL_TRCCMP_CMP : Fld := { addr := 0x20050, lo := 6, w := 2, acc := .rw, dflt := 0, bn := 4, bs := 0x2000 }
/-- CTL_TRCCMP_EVT, Table CTL-10 (spec/09_control_engine.md). -/
def CTL_TRCCMP_EVT : Fld := { addr := 0x20050, lo := 8, w := 8, acc := .rw, dflt := 0, bn := 4, bs := 0x2000 }
/-- CTL_TRCTHR, Table CTL-10 (spec/09_control_engine.md). -/
def CTL_TRCTHR : Fld := { addr := 0x20054, lo := 0, w := 32, acc := .rw, dflt := 0, bn := 4, bs := 0x2000 }
/-- CTL_TRCTS, Table CTL-10 (spec/09_control_engine.md). -/
def CTL_TRCTS : Fld := { addr := 0x20058, lo := 0, w := 64, acc := .ro, dflt := 0, bn := 4, bs := 0x2000, wide := true }
/-- CTL_TRCTRIGW, Table CTL-10 (spec/09_control_engine.md). -/
def CTL_TRCTRIGW : Fld := { addr := 0x20060, lo := 0, w := 13, acc := .ro, dflt := 0, bn := 4, bs := 0x2000 }
/-- CTL_TRCPAGE_PAGE, Table CTL-10 (spec/09_control_engine.md). -/
def CTL_TRCPAGE_PAGE : Fld := { addr := 0x20064, lo := 0, w := 6, acc := .rw, dflt := 0, bn := 4, bs := 0x2000 }
/-- CHN_STAT_MODE, Table CHN-7 (spec/10_channel.md). -/
def CHN_STAT_MODE : Fld := { addr := 0x8000, lo := 0, w := 3, acc := .ro, dflt := 0, bn := 4, bs := 0x400 }
/-- CHN_STAT_HEAD, Table CHN-7 (spec/10_channel.md). -/
def CHN_STAT_HEAD : Fld := { addr := 0x8000, lo := 3, w := 5, acc := .ro, dflt := 0, bn := 4, bs := 0x400 }
/-- CHN_STAT_FIR_PIN, Table CHN-7 (spec/10_channel.md). -/
def CHN_STAT_FIR_PIN : Fld := { addr := 0x8000, lo := 8, w := 1, acc := .ro, dflt := 0, bn := 4, bs := 0x400 }
/-- CHN_STAT_THR_PIN, Table CHN-7 (spec/10_channel.md). -/
def CHN_STAT_THR_PIN : Fld := { addr := 0x8000, lo := 9, w := 1, acc := .ro, dflt := 0, bn := 4, bs := 0x400 }
/-- CHN_STAT_WDIS, Table CHN-7 (spec/10_channel.md). -/
def CHN_STAT_WDIS : Fld := { addr := 0x8000, lo := 10, w := 1, acc := .ro, dflt := 0, bn := 4, bs := 0x400 }
/-- CHN_STAT_SBUF, Table CHN-7 (spec/10_channel.md). -/
def CHN_STAT_SBUF : Fld := { addr := 0x8000, lo := 11, w := 3, acc := .ro, dflt := 0, bn := 4, bs := 0x400 }
/-- CHN_LDPC, Table CHN-7 (spec/10_channel.md). -/
def CHN_LDPC : Fld := { addr := 0x8004, lo := 0, w := 32, acc := .ro, dflt := 0, n := 5, per := 1, step := 0, stride := 0x4, bn := 4, bs := 0x400 }
/-- CHN_RCV, Table CHN-7 (spec/10_channel.md). -/
def CHN_RCV : Fld := { addr := 0x8020, lo := 0, w := 32, acc := .ro, dflt := 0, bn := 4, bs := 0x400 }
/-- CHN_UNREC, Table CHN-7 (spec/10_channel.md). -/
def CHN_UNREC : Fld := { addr := 0x8024, lo := 0, w := 32, acc := .ro, dflt := 0, bn := 4, bs := 0x400 }
/-- CHN_RCVSTOP_CUT, Table CHN-7 (spec/10_channel.md). -/
def CHN_RCVSTOP_CUT : Fld := { addr := 0x8028, lo := 0, w := 16, acc := .ro, dflt := 0, bn := 4, bs := 0x400 }
/-- CHN_RCVSTOP_ABORT, Table CHN-7 (spec/10_channel.md). -/
def CHN_RCVSTOP_ABORT : Fld := { addr := 0x8028, lo := 16, w := 16, acc := .ro, dflt := 0, bn := 4, bs := 0x400 }
/-- CHN_VFY_FAIL, Table CHN-7 (spec/10_channel.md). -/
def CHN_VFY_FAIL : Fld := { addr := 0x8030, lo := 0, w := 16, acc := .ro, dflt := 0, bn := 4, bs := 0x400 }
/-- CHN_VFY_EXH, Table CHN-7 (spec/10_channel.md). -/
def CHN_VFY_EXH : Fld := { addr := 0x8030, lo := 16, w := 16, acc := .ro, dflt := 0, bn := 4, bs := 0x400 }
/-- CHN_PLINK_ERR, Table CHN-7 (spec/10_channel.md). -/
def CHN_PLINK_ERR : Fld := { addr := 0x8040, lo := 0, w := 8, acc := .ro, dflt := 0, bn := 4, bs := 0x400 }
/-- CHN_PLINK_FAIL, Table CHN-7 (spec/10_channel.md). -/
def CHN_PLINK_FAIL : Fld := { addr := 0x8040, lo := 8, w := 1, acc := .ro, dflt := 0, bn := 4, bs := 0x400 }
/-- CHN_PLINK_FHEAD, Table CHN-7 (spec/10_channel.md). -/
def CHN_PLINK_FHEAD : Fld := { addr := 0x8040, lo := 9, w := 5, acc := .ro, dflt := 0, bn := 4, bs := 0x400 }
/-- CHN_PLINK_FCODE, Table CHN-7 (spec/10_channel.md). -/
def CHN_PLINK_FCODE : Fld := { addr := 0x8040, lo := 16, w := 16, acc := .ro, dflt := 0, bn := 4, bs := 0x400 }
/-- CHN_SB_ID, Table CHN-7 (spec/10_channel.md). -/
def CHN_SB_ID : Fld := { addr := 0x8044, lo := 0, w := 16, acc := .ro, dflt := 0, bn := 4, bs := 0x400 }
/-- CHN_SB_TEMP, Table CHN-7 (spec/10_channel.md). -/
def CHN_SB_TEMP : Fld := { addr := 0x8044, lo := 16, w := 8, acc := .ro, dflt := 0, bn := 4, bs := 0x400 }
/-- CHN_SB_ERR, Table CHN-7 (spec/10_channel.md). -/
def CHN_SB_ERR : Fld := { addr := 0x8044, lo := 24, w := 8, acc := .ro, dflt := 0, bn := 4, bs := 0x400 }
/-- CHN_FH_HTR, Table CHN-7 (spec/10_channel.md). -/
def CHN_FH_HTR : Fld := { addr := 0x9000, lo := 0, w := 11, acc := .ro, dflt := 0, bn := 20, bs := 0x10 }
/-- CHN_FH_PIN, Table CHN-7 (spec/10_channel.md). -/
def CHN_FH_PIN : Fld := { addr := 0x9000, lo := 11, w := 1, acc := .ro, dflt := 0, bn := 20, bs := 0x10 }
/-- CHN_FH_HELD, Table CHN-7 (spec/10_channel.md). -/
def CHN_FH_HELD : Fld := { addr := 0x9000, lo := 12, w := 1, acc := .ro, dflt := 0, bn := 20, bs := 0x10 }
/-- CHN_PTD_PTD, Table CHN-7 (spec/10_channel.md). -/
def CHN_PTD_PTD : Fld := { addr := 0x9004, lo := 0, w := 11, acc := .ro, dflt := 0, bn := 20, bs := 0x10 }
/-- CHN_CLR_EST, Table CHN-7 (spec/10_channel.md). -/
def CHN_CLR_EST : Fld := { addr := 0x9008, lo := 0, w := 16, acc := .ro, dflt := 0, bn := 20, bs := 0x10 }
/-- MED_STAT_MAP1, Table MED-6 (spec/11_media.md). -/
def MED_STAT_MAP1 : Fld := { addr := 0xa000, lo := 0, w := 1, acc := .ro, dflt := 0 }
/-- MED_STAT_MAPLOST, Table MED-6 (spec/11_media.md). -/
def MED_STAT_MAPLOST : Fld := { addr := 0xa000, lo := 1, w := 1, acc := .ro, dflt := 0 }
/-- MED_STAT_NOSPARE, Table MED-6 (spec/11_media.md). -/
def MED_STAT_NOSPARE : Fld := { addr := 0xa000, lo := 2, w := 1, acc := .ro, dflt := 0 }
/-- MED_STAT_STRAND, Table MED-6 (spec/11_media.md). -/
def MED_STAT_STRAND : Fld := { addr := 0xa000, lo := 3, w := 1, acc := .ro, dflt := 0 }
/-- MED_FREE, Table MED-6 (spec/11_media.md). -/
def MED_FREE : Fld := { addr := 0xa004, lo := 0, w := 32, acc := .ro, dflt := 0 }
/-- MED_RESV, Table MED-6 (spec/11_media.md). -/
def MED_RESV : Fld := { addr := 0xa008, lo := 0, w := 32, acc := .ro, dflt := 0 }
/-- MED_SPARE, Table MED-6 (spec/11_media.md). -/
def MED_SPARE : Fld := { addr := 0xa00c, lo := 0, w := 32, acc := .ro, dflt := 0 }
/-- MED_UNWR_RANGES, Table MED-6 (spec/11_media.md). -/
def MED_UNWR_RANGES : Fld := { addr := 0xa010, lo := 0, w := 13, acc := .ro, dflt := 0 }
/-- MED_UNWR_MERGED, Table MED-6 (spec/11_media.md). -/
def MED_UNWR_MERGED : Fld := { addr := 0xa010, lo := 13, w := 1, acc := .ro, dflt := 0 }
/-- MED_PLC_PIN, Table MED-6 (spec/11_media.md). -/
def MED_PLC_PIN : Fld := { addr := 0xa014, lo := 0, w := 1, acc := .ro, dflt := 0 }
/-- MED_PLC_WAITFREE, Table MED-6 (spec/11_media.md). -/
def MED_PLC_WAITFREE : Fld := { addr := 0xa014, lo := 1, w := 1, acc := .ro, dflt := 0 }
/-- MED_PLC_WAITING, Table MED-6 (spec/11_media.md). -/
def MED_PLC_WAITING : Fld := { addr := 0xa014, lo := 8, w := 8, acc := .ro, dflt := 0 }
/-- MED_PLC_PLACED, Table MED-6 (spec/11_media.md). -/
def MED_PLC_PLACED : Fld := { addr := 0xa014, lo := 16, w := 5, acc := .ro, dflt := 0 }
/-- MED_BKLOG, Table MED-6 (spec/11_media.md). -/
def MED_BKLOG : Fld := { addr := 0xa020, lo := 0, w := 32, acc := .ro, dflt := 0, n := 4, per := 1, step := 0, stride := 0x4 }
/-- MED_REALLOC, Table MED-6 (spec/11_media.md). -/
def MED_REALLOC : Fld := { addr := 0xa030, lo := 0, w := 32, acc := .ro, dflt := 0 }
/-- MED_REFRESH_QUEUED, Table MED-6 (spec/11_media.md). -/
def MED_REFRESH_QUEUED : Fld := { addr := 0xa034, lo := 0, w := 16, acc := .ro, dflt := 0 }
/-- MED_REFRESH_DROPPED, Table MED-6 (spec/11_media.md). -/
def MED_REFRESH_DROPPED : Fld := { addr := 0xa034, lo := 16, w := 16, acc := .ro, dflt := 0 }
/-- MED_STRAND, Table MED-6 (spec/11_media.md). -/
def MED_STRAND : Fld := { addr := 0xa038, lo := 0, w := 32, acc := .ro, dflt := 0 }
/-- BEN_CFG_MODE, Table BEN-6 (spec/12_benches_dram.md). -/
def BEN_CFG_MODE : Fld := { addr := 0xb000, lo := 0, w := 1, acc := .ch, dflt := 0 }
/-- BEN_CFG_STALL_MAX, Table BEN-6 (spec/12_benches_dram.md). -/
def BEN_CFG_STALL_MAX : Fld := { addr := 0xb000, lo := 8, w := 8, acc := .ch, dflt := 32 }
/-- BEN_OWN, Table BEN-6 (spec/12_benches_dram.md). -/
def BEN_OWN : Fld := { addr := 0xb004, lo := 0, w := 8, acc := .ch, dflt := 0, n := 8, per := 4, step := 8, stride := 0x4 }
/-- BEN_UTIL_UTIL, Table BEN-6 (spec/12_benches_dram.md). -/
def BEN_UTIL_UTIL : Fld := { addr := 0xb010, lo := 0, w := 10, acc := .ro, dflt := 0 }
/-- BEN_UTIL_MERGED, Table BEN-6 (spec/12_benches_dram.md). -/
def BEN_UTIL_MERGED : Fld := { addr := 0xb010, lo := 10, w := 1, acc := .ro, dflt := 0 }
/-- BEN_WDOG_LAST, Table BEN-6 (spec/12_benches_dram.md). -/
def BEN_WDOG_LAST : Fld := { addr := 0xb014, lo := 0, w := 5, acc := .ro, dflt := 0 }
/-- BEN_WDOG_COUNT, Table BEN-6 (spec/12_benches_dram.md). -/
def BEN_WDOG_COUNT : Fld := { addr := 0xb014, lo := 8, w := 24, acc := .ro, dflt := 0 }
/-- BEN_ECC_CORR, Table BEN-6 (spec/12_benches_dram.md). -/
def BEN_ECC_CORR : Fld := { addr := 0xb018, lo := 0, w := 24, acc := .ro, dflt := 0 }
/-- BEN_ECC_UNCORR, Table BEN-6 (spec/12_benches_dram.md). -/
def BEN_ECC_UNCORR : Fld := { addr := 0xb018, lo := 24, w := 8, acc := .ro, dflt := 0 }
/-- BEN_ERR_BADADDR, Table BEN-6 (spec/12_benches_dram.md). -/
def BEN_ERR_BADADDR : Fld := { addr := 0xb01c, lo := 0, w := 1, acc := .w1c, dflt := 0 }
/-- BEN_ERR_MASTER, Table BEN-6 (spec/12_benches_dram.md). -/
def BEN_ERR_MASTER : Fld := { addr := 0xb01c, lo := 1, w := 5, acc := .ro, dflt := 0 }
/-- BEN_MCNT_GRANTS, Table BEN-6 (spec/12_benches_dram.md). -/
def BEN_MCNT_GRANTS : Fld := { addr := 0xb100, lo := 0, w := 32, acc := .ro, dflt := 0, n := 26, per := 1, step := 0, stride := 0x8, wide := true }
/-- BEN_MCNT_STALLS, Table BEN-6 (spec/12_benches_dram.md). -/
def BEN_MCNT_STALLS : Fld := { addr := 0xb100, lo := 32, w := 16, acc := .ro, dflt := 0, n := 26, per := 1, step := 0, stride := 0x8, wide := true }
/-- BEN_MCNT_MAXRUN, Table BEN-6 (spec/12_benches_dram.md). -/
def BEN_MCNT_MAXRUN : Fld := { addr := 0xb100, lo := 48, w := 8, acc := .ro, dflt := 0, n := 26, per := 1, step := 0, stride := 0x8, wide := true }
/-- BEN_MCNT_PROMO, Table BEN-6 (spec/12_benches_dram.md). -/
def BEN_MCNT_PROMO : Fld := { addr := 0xb100, lo := 56, w := 8, acc := .ro, dflt := 0, n := 26, per := 1, step := 0, stride := 0x8, wide := true }
/-- DRM_STAT_STATE, Table DRM-3 (spec/12_benches_dram.md). -/
def DRM_STAT_STATE : Fld := { addr := 0xc000, lo := 0, w := 3, acc := .ro, dflt := 0 }
/-- DRM_STAT_FAULT, Table DRM-3 (spec/12_benches_dram.md). -/
def DRM_STAT_FAULT : Fld := { addr := 0xc000, lo := 3, w := 2, acc := .ro, dflt := 0 }
/-- DRM_STAT_LINK_ECC, Table DRM-3 (spec/12_benches_dram.md). -/
def DRM_STAT_LINK_ECC : Fld := { addr := 0xc000, lo := 5, w := 1, acc := .ro, dflt := 0 }
/-- DRM_USABLE_MIB, Table DRM-3 (spec/12_benches_dram.md). -/
def DRM_USABLE_MIB : Fld := { addr := 0xc004, lo := 0, w := 16, acc := .ro, dflt := 0 }
/-- DRM_POOL_BASE, Table DRM-3 (spec/12_benches_dram.md). -/
def DRM_POOL_BASE : Fld := { addr := 0xc008, lo := 0, w := 16, acc := .ro, dflt := 0 }
/-- DRM_POOL_SIZE, Table DRM-3 (spec/12_benches_dram.md). -/
def DRM_POOL_SIZE : Fld := { addr := 0xc008, lo := 16, w := 16, acc := .ro, dflt := 0 }
/-- DRM_FREE_SLABS, Table DRM-3 (spec/12_benches_dram.md). -/
def DRM_FREE_SLABS : Fld := { addr := 0xc00c, lo := 0, w := 16, acc := .ro, dflt := 0 }
/-- DRM_FREE_FULL, Table DRM-3 (spec/12_benches_dram.md). -/
def DRM_FREE_FULL : Fld := { addr := 0xc00c, lo := 16, w := 1, acc := .ro, dflt := 0 }
/-- DRM_CE, Table DRM-3 (spec/12_benches_dram.md). -/
def DRM_CE : Fld := { addr := 0xc010, lo := 0, w := 32, acc := .ro, dflt := 0, n := 2, per := 1, step := 0, stride := 0x4 }
/-- DRM_UE, Table DRM-3 (spec/12_benches_dram.md). -/
def DRM_UE : Fld := { addr := 0xc018, lo := 0, w := 32, acc := .ro, dflt := 0, n := 2, per := 1, step := 0, stride := 0x4 }
/-- DRM_LINK, Table DRM-3 (spec/12_benches_dram.md). -/
def DRM_LINK : Fld := { addr := 0xc020, lo := 0, w := 32, acc := .ro, dflt := 0, n := 2, per := 1, step := 0, stride := 0x4 }
/-- DRM_ERRADDR_D, Table DRM-3 (spec/12_benches_dram.md). -/
def DRM_ERRADDR_D : Fld := { addr := 0xc028, lo := 0, w := 36, acc := .ro, dflt := 0, wide := true }
/-- DRM_ERRADDR_USE, Table DRM-3 (spec/12_benches_dram.md). -/
def DRM_ERRADDR_USE : Fld := { addr := 0xc028, lo := 36, w := 4, acc := .ro, dflt := 0, wide := true }
/-- DRM_SCRUB, Table DRM-3 (spec/12_benches_dram.md). -/
def DRM_SCRUB : Fld := { addr := 0xc030, lo := 0, w := 32, acc := .ro, dflt := 0 }
/-- MQP_CAP_QMAX, Table MQP-9 (spec/13_queues.md). -/
def MQP_CAP_QMAX : Fld := { addr := 0x10000, lo := 0, w := 12, acc := .ch, dflt := 0, bn := 16, bs := 0x4000000 }
/-- MQP_CAP_VECN, Table MQP-9 (spec/13_queues.md). -/
def MQP_CAP_VECN : Fld := { addr := 0x10000, lo := 12, w := 9, acc := .ch, dflt := 0, bn := 16, bs := 0x4000000 }
/-- MQP_CAP_PUSH, Table MQP-9 (spec/13_queues.md). -/
def MQP_CAP_PUSH : Fld := { addr := 0x10000, lo := 21, w := 1, acc := .ro, dflt := 1, bn := 16, bs := 0x4000000 }
/-- MQP_CTL_EN, Table MQP-9 (spec/13_queues.md). -/
def MQP_CTL_EN : Fld := { addr := 0x10004, lo := 0, w := 1, acc := .rw, dflt := 0, bn := 16, bs := 0x4000000 }
/-- MQP_STS_RDY, Table MQP-9 (spec/13_queues.md). -/
def MQP_STS_RDY : Fld := { addr := 0x10008, lo := 0, w := 1, acc := .ro, dflt := 0, bn := 16, bs := 0x4000000 }
/-- MQP_STS_AFRZ, Table MQP-9 (spec/13_queues.md). -/
def MQP_STS_AFRZ : Fld := { addr := 0x10008, lo := 1, w := 1, acc := .ro, dflt := 0, bn := 16, bs := 0x4000000 }
/-- MQP_STS_NODE_RDY, Table MQP-9 (spec/13_queues.md). -/
def MQP_STS_NODE_RDY : Fld := { addr := 0x10008, lo := 2, w := 1, acc := .ro, dflt := 0, bn := 16, bs := 0x4000000 }
/-- MQP_AQSZ_ASQS, Table MQP-9 (spec/13_queues.md). -/
def MQP_AQSZ_ASQS : Fld := { addr := 0x1000c, lo := 0, w := 16, acc := .rw, dflt := 0, bn := 16, bs := 0x4000000 }
/-- MQP_AQSZ_ACQS, Table MQP-9 (spec/13_queues.md). -/
def MQP_AQSZ_ACQS : Fld := { addr := 0x1000c, lo := 16, w := 16, acc := .rw, dflt := 0, bn := 16, bs := 0x4000000 }
/-- MQP_ASQB_BASE, Table MQP-9 (spec/13_queues.md). -/
def MQP_ASQB_BASE : Fld := { addr := 0x10010, lo := 12, w := 52, acc := .rw, dflt := 0, bn := 16, bs := 0x4000000, wide := true }
/-- MQP_ACQB_BASE, Table MQP-9 (spec/13_queues.md). -/
def MQP_ACQB_BASE : Fld := { addr := 0x10018, lo := 12, w := 52, acc := .rw, dflt := 0, bn := 16, bs := 0x4000000, wide := true }
/-- MQP_CRED_LIMIT, Table MQP-9 (spec/13_queues.md). -/
def MQP_CRED_LIMIT : Fld := { addr := 0x10020, lo := 0, w := 11, acc := .tn, dflt := 0, bn := 16, bs := 0x4000000 }
/-- MQP_CRED_USED, Table MQP-9 (spec/13_queues.md). -/
def MQP_CRED_USED : Fld := { addr := 0x10020, lo := 11, w := 11, acc := .ro, dflt := 0, bn := 16, bs := 0x4000000 }
/-- MQP_CRED_HALVED, Table MQP-9 (spec/13_queues.md). -/
def MQP_CRED_HALVED : Fld := { addr := 0x10020, lo := 22, w := 1, acc := .ro, dflt := 0, bn := 16, bs := 0x4000000 }
/-- MQP_DBERR_QID, Table MQP-9 (spec/13_queues.md). -/
def MQP_DBERR_QID : Fld := { addr := 0x10024, lo := 0, w := 12, acc := .ro, dflt := 0, bn := 16, bs := 0x4000000 }
/-- MQP_DBERR_KIND, Table MQP-9 (spec/13_queues.md). -/
def MQP_DBERR_KIND : Fld := { addr := 0x10024, lo := 12, w := 3, acc := .ro, dflt := 0, bn := 16, bs := 0x4000000 }
/-- MQP_DBERR_VALID, Table MQP-9 (spec/13_queues.md). -/
def MQP_DBERR_VALID : Fld := { addr := 0x10024, lo := 15, w := 1, acc := .w1c, dflt := 0, bn := 16, bs := 0x4000000 }
/-- MQP_DBERR_COUNT, Table MQP-9 (spec/13_queues.md). -/
def MQP_DBERR_COUNT : Fld := { addr := 0x10024, lo := 16, w := 16, acc := .ro, dflt := 0, bn := 16, bs := 0x4000000 }
/-- MQP_QSEL_QID, Table MQP-9 (spec/13_queues.md). -/
def MQP_QSEL_QID : Fld := { addr := 0x10028, lo := 0, w := 12, acc := .rw, dflt := 0, bn := 16, bs := 0x4000000 }
/-- MQP_INFL_COUNT, Table MQP-9 (spec/13_queues.md). -/
def MQP_INFL_COUNT : Fld := { addr := 0x10038, lo := 0, w := 16, acc := .ro, dflt := 0, bn := 16, bs := 0x4000000 }
/-- MQP_INFL_CAP, Table MQP-9 (spec/13_queues.md). -/
def MQP_INFL_CAP : Fld := { addr := 0x10038, lo := 16, w := 16, acc := .ch, dflt := 0, bn := 16, bs := 0x4000000 }
/-- MQP_PCIE_UP, Table MQP-9 (spec/13_queues.md). -/
def MQP_PCIE_UP : Fld := { addr := 0x10040, lo := 0, w := 1, acc := .ro, dflt := 0, bn := 16, bs := 0x4000000 }
/-- MQP_PCIE_SPEED, Table MQP-9 (spec/13_queues.md). -/
def MQP_PCIE_SPEED : Fld := { addr := 0x10040, lo := 1, w := 3, acc := .ro, dflt := 0, bn := 16, bs := 0x4000000 }
/-- MQP_PCIE_WIDTH, Table MQP-9 (spec/13_queues.md). -/
def MQP_PCIE_WIDTH : Fld := { addr := 0x10040, lo := 4, w := 4, acc := .ro, dflt := 0, bn := 16, bs := 0x4000000 }
/-- MQP_PCIE_DOWN, Table MQP-9 (spec/13_queues.md). -/
def MQP_PCIE_DOWN : Fld := { addr := 0x10040, lo := 8, w := 1, acc := .ro, dflt := 0, bn := 16, bs := 0x4000000 }
/-- MQP_PCIE_RETRAIN, Table MQP-9 (spec/13_queues.md). -/
def MQP_PCIE_RETRAIN : Fld := { addr := 0x10040, lo := 16, w := 16, acc := .ro, dflt := 0, bn := 16, bs := 0x4000000 }
/-- MQP_LOCK_USED, Table MQP-9 (spec/13_queues.md). -/
def MQP_LOCK_USED : Fld := { addr := 0x10044, lo := 0, w := 16, acc := .ro, dflt := 0, bn := 16, bs := 0x4000000 }
/-- MQP_LOCK_QUEUED, Table MQP-9 (spec/13_queues.md). -/
def MQP_LOCK_QUEUED : Fld := { addr := 0x10044, lo := 16, w := 16, acc := .ro, dflt := 0, bn := 16, bs := 0x4000000 }
/-- MQP_ADMTHAW_GO, Table MQP-28 (spec/15_integrity_errors.md). -/
def MQP_ADMTHAW_GO : Fld := { addr := 0x10048, lo := 0, w := 1, acc := .w1s, dflt := 0, bn := 16, bs := 0x4000000 }
/-- MQP_ADMTHAW_ACTION, Table MQP-28 (spec/15_integrity_errors.md). -/
def MQP_ADMTHAW_ACTION : Fld := { addr := 0x10048, lo := 1, w := 1, acc := .rw, dflt := 0, bn := 16, bs := 0x4000000 }
/-- MQP_ADMTHAW_RES, Table MQP-28 (spec/15_integrity_errors.md). -/
def MQP_ADMTHAW_RES : Fld := { addr := 0x10048, lo := 4, w := 2, acc := .ro, dflt := 0, bn := 16, bs := 0x4000000 }
/-- MQP_ADMTHAW_DISC, Table MQP-28 (spec/15_integrity_errors.md). -/
def MQP_ADMTHAW_DISC : Fld := { addr := 0x10048, lo := 16, w := 16, acc := .ro, dflt := 0, bn := 16, bs := 0x4000000 }
/-- MQP_INTCNT0_REPAIRED, Table MQP-31 (spec/15_integrity_errors.md). -/
def MQP_INTCNT0_REPAIRED : Fld := { addr := 0x10050, lo := 0, w := 16, acc := .ro, dflt := 0, bn := 16, bs := 0x4000000 }
/-- MQP_INTCNT0_UNVERIFIED, Table MQP-31 (spec/15_integrity_errors.md). -/
def MQP_INTCNT0_UNVERIFIED : Fld := { addr := 0x10050, lo := 16, w := 16, acc := .ro, dflt := 0, bn := 16, bs := 0x4000000 }
/-- MQP_INTCNT1_REJECTED, Table MQP-31 (spec/15_integrity_errors.md). -/
def MQP_INTCNT1_REJECTED : Fld := { addr := 0x10054, lo := 0, w := 16, acc := .ro, dflt := 0, bn := 16, bs := 0x4000000 }
/-- MQP_INTCNT1_RESEND, Table MQP-31 (spec/15_integrity_errors.md). -/
def MQP_INTCNT1_RESEND : Fld := { addr := 0x10054, lo := 16, w := 16, acc := .ro, dflt := 0, bn := 16, bs := 0x4000000 }
/-- MQP_INTCNT2_EGRESS, Table MQP-31 (spec/15_integrity_errors.md). -/
def MQP_INTCNT2_EGRESS : Fld := { addr := 0x10058, lo := 0, w := 16, acc := .ro, dflt := 0, bn := 16, bs := 0x4000000 }
/-- MQP_INTCNT2_KEYFAULT, Table MQP-31 (spec/15_integrity_errors.md). -/
def MQP_INTCNT2_KEYFAULT : Fld := { addr := 0x10058, lo := 16, w := 16, acc := .ro, dflt := 0, bn := 16, bs := 0x4000000 }
/-- FAB_CFG_MODE, Table FAB-9 (spec/16_efina.md). -/
def FAB_CFG_MODE : Fld := { addr := 0xf000, lo := 0, w := 1, acc := .ch, dflt := 1 }
/-- FAB_CFG_PORT_EN, Table FAB-9 (spec/16_efina.md). -/
def FAB_CFG_PORT_EN : Fld := { addr := 0xf000, lo := 4, w := 4, acc := .ch, dflt := 15 }
/-- FAB_NODE_ID, Table FAB-9 (spec/16_efina.md). -/
def FAB_NODE_ID : Fld := { addr := 0xf004, lo := 0, w := 10, acc := .ro, dflt := 1023 }
/-- FAB_NODE_W, Table FAB-9 (spec/16_efina.md). -/
def FAB_NODE_W : Fld := { addr := 0xf004, lo := 16, w := 6, acc := .ro, dflt := 0 }
/-- FAB_NODE_H, Table FAB-9 (spec/16_efina.md). -/
def FAB_NODE_H : Fld := { addr := 0xf004, lo := 24, w := 6, acc := .ro, dflt := 0 }
/-- FAB_DISC_STATE, Table FAB-9 (spec/16_efina.md). -/
def FAB_DISC_STATE : Fld := { addr := 0xf008, lo := 0, w := 3, acc := .ro, dflt := 0 }
/-- FAB_DISC_ROOT, Table FAB-9 (spec/16_efina.md). -/
def FAB_DISC_ROOT : Fld := { addr := 0xf008, lo := 16, w := 10, acc := .ro, dflt := 1023 }
/-- FAB_TIME_ERR, Table FAB-9 (spec/16_efina.md). -/
def FAB_TIME_ERR : Fld := { addr := 0xf00c, lo := 0, w := 16, acc := .ro, dflt := 0 }
/-- FAB_TIME_UP, Table FAB-9 (spec/16_efina.md). -/
def FAB_TIME_UP : Fld := { addr := 0xf00c, lo := 16, w := 3, acc := .ro, dflt := 7 }
/-- FAB_TIME_HOPS, Table FAB-9 (spec/16_efina.md). -/
def FAB_TIME_HOPS : Fld := { addr := 0xf00c, lo := 19, w := 6, acc := .ro, dflt := 0 }
/-- FAB_TIME_ISROOT, Table FAB-9 (spec/16_efina.md). -/
def FAB_TIME_ISROOT : Fld := { addr := 0xf00c, lo := 25, w := 1, acc := .ro, dflt := 0 }
/-- FAB_FREQ_F, Table FAB-9 (spec/16_efina.md). -/
def FAB_FREQ_F : Fld := { addr := 0xf010, lo := 0, w := 16, acc := .ro, dflt := 0 }
/-- FAB_EPOCH_EPOCH, Table FAB-9 (spec/16_efina.md). -/
def FAB_EPOCH_EPOCH : Fld := { addr := 0xf014, lo := 0, w := 16, acc := .ro, dflt := 0 }
/-- FAB_EPOCH_DOWN, Table FAB-9 (spec/16_efina.md). -/
def FAB_EPOCH_DOWN : Fld := { addr := 0xf014, lo := 16, w := 16, acc := .ro, dflt := 0 }
/-- FAB_RTSEL_DST, Table FAB-9 (spec/16_efina.md). -/
def FAB_RTSEL_DST : Fld := { addr := 0xf018, lo := 0, w := 10, acc := .rw, dflt := 0 }
/-- FAB_E2E_RESENT, Table FAB-9 (spec/16_efina.md). -/
def FAB_E2E_RESENT : Fld := { addr := 0xf020, lo := 0, w := 16, acc := .ro, dflt := 0 }
/-- FAB_E2E_DUP, Table FAB-9 (spec/16_efina.md). -/
def FAB_E2E_DUP : Fld := { addr := 0xf020, lo := 16, w := 16, acc := .ro, dflt := 0 }
/-- FAB_DROP, Table FAB-9 (spec/16_efina.md). -/
def FAB_DROP : Fld := { addr := 0xf024, lo := 0, w := 32, acc := .ro, dflt := 0 }
/-- FAB_PSTAT_STATE, Table FAB-9 (spec/16_efina.md). -/
def FAB_PSTAT_STATE : Fld := { addr := 0xf100, lo := 0, w := 3, acc := .ro, dflt := 0, bn := 4, bs := 0x40 }
/-- FAB_PSTAT_NBR, Table FAB-9 (spec/16_efina.md). -/
def FAB_PSTAT_NBR : Fld := { addr := 0xf100, lo := 10, w := 10, acc := .ro, dflt := 1023, bn := 4, bs := 0x40 }
/-- FAB_PSTAT_NPORT, Table FAB-9 (spec/16_efina.md). -/
def FAB_PSTAT_NPORT : Fld := { addr := 0xf100, lo := 20, w := 2, acc := .ro, dflt := 0, bn := 4, bs := 0x40 }
/-- FAB_PCORR_COUNT, Table FAB-9 (spec/16_efina.md). -/
def FAB_PCORR_COUNT : Fld := { addr := 0xf104, lo := 0, w := 32, acc := .ro, dflt := 0, bn := 4, bs := 0x40 }
/-- FAB_PERR_UNCORR, Table FAB-9 (spec/16_efina.md). -/
def FAB_PERR_UNCORR : Fld := { addr := 0xf108, lo := 0, w := 16, acc := .ro, dflt := 0, bn := 4, bs := 0x40 }
/-- FAB_PERR_REPLAY, Table FAB-9 (spec/16_efina.md). -/
def FAB_PERR_REPLAY : Fld := { addr := 0xf108, lo := 16, w := 16, acc := .ro, dflt := 0, bn := 4, bs := 0x40 }
/-- FAB_PDLY_DELAY, Table FAB-9 (spec/16_efina.md). -/
def FAB_PDLY_DELAY : Fld := { addr := 0xf10c, lo := 0, w := 16, acc := .ro, dflt := 0, bn := 4, bs := 0x40 }
/-- FAB_PDLY_DOWNS, Table FAB-9 (spec/16_efina.md). -/
def FAB_PDLY_DOWNS : Fld := { addr := 0xf10c, lo := 16, w := 16, acc := .ro, dflt := 0, bn := 4, bs := 0x40 }
/-- FAB_LANE_CTLE, Table FAB-9 (spec/16_efina.md). -/
def FAB_LANE_CTLE : Fld := { addr := 0xf200, lo := 0, w := 6, acc := .ro, dflt := 0, n := 24, per := 1, step := 0, stride := 0x4 }
/-- FAB_LANE_DFE, Table FAB-9 (spec/16_efina.md). -/
def FAB_LANE_DFE : Fld := { addr := 0xf200, lo := 8, w := 8, acc := .ro, dflt := 0, n := 24, per := 1, step := 0, stride := 0x4 }
/-- FAB_LANE_PIN, Table FAB-9 (spec/16_efina.md). -/
def FAB_LANE_PIN : Fld := { addr := 0xf200, lo := 16, w := 1, acc := .ro, dflt := 0, n := 24, per := 1, step := 0, stride := 0x4 }
/-- FAB_LANE_IDLE, Table FAB-9 (spec/16_efina.md). -/
def FAB_LANE_IDLE : Fld := { addr := 0xf200, lo := 17, w := 1, acc := .ro, dflt := 1, n := 24, per := 1, step := 0, stride := 0x4 }
/-- TWN_STAT_STATE, Table TWN-5 (spec/17_twins_spans.md). -/
def TWN_STAT_STATE : Fld := { addr := 0xd000, lo := 0, w := 2, acc := .ro, dflt := 0 }
/-- TWN_STAT_FRESH, Table TWN-5 (spec/17_twins_spans.md). -/
def TWN_STAT_FRESH : Fld := { addr := 0xd000, lo := 2, w := 1, acc := .ro, dflt := 1 }
/-- TWN_STAT_TWRCD, Table TWN-5 (spec/17_twins_spans.md). -/
def TWN_STAT_TWRCD : Fld := { addr := 0xd000, lo := 3, w := 1, acc := .ro, dflt := 0 }
/-- TWN_STAT_TWIN, Table TWN-5 (spec/17_twins_spans.md). -/
def TWN_STAT_TWIN : Fld := { addr := 0xd000, lo := 16, w := 10, acc := .ro, dflt := 1023 }
/-- TWN_STAT_HBAGE, Table TWN-5 (spec/17_twins_spans.md). -/
def TWN_STAT_HBAGE : Fld := { addr := 0xd000, lo := 26, w := 6, acc := .ro, dflt := 0 }
/-- TWN_DIRTY_LACK, Table TWN-5 (spec/17_twins_spans.md). -/
def TWN_DIRTY_LACK : Fld := { addr := 0xd004, lo := 0, w := 16, acc := .ro, dflt := 0 }
/-- TWN_DIRTY_FREE, Table TWN-5 (spec/17_twins_spans.md). -/
def TWN_DIRTY_FREE : Fld := { addr := 0xd004, lo := 16, w := 15, acc := .ro, dflt := 0 }
/-- TWN_DIRTY_OVF, Table TWN-5 (spec/17_twins_spans.md). -/
def TWN_DIRTY_OVF : Fld := { addr := 0xd004, lo := 31, w := 1, acc := .ro, dflt := 0 }
/-- TWN_COPIES_SLABS, Table TWN-5 (spec/17_twins_spans.md). -/
def TWN_COPIES_SLABS : Fld := { addr := 0xd008, lo := 0, w := 16, acc := .ro, dflt := 0 }
/-- TWN_SETTLE_HELD, Table TWN-5 (spec/17_twins_spans.md). -/
def TWN_SETTLE_HELD : Fld := { addr := 0xd00c, lo := 0, w := 16, acc := .ro, dflt := 0 }
/-- TWN_SETTLE_LATE, Table TWN-5 (spec/17_twins_spans.md). -/
def TWN_SETTLE_LATE : Fld := { addr := 0xd00c, lo := 16, w := 16, acc := .ro, dflt := 0 }
/-- TWN_SPANSEL_SPAN, Table TWN-5 (spec/17_twins_spans.md). -/
def TWN_SPANSEL_SPAN : Fld := { addr := 0xd010, lo := 0, w := 4, acc := .rw, dflt := 0 }
/-- TWN_REMAP_SPARES, Table TWN-5 (spec/17_twins_spans.md). -/
def TWN_REMAP_SPARES : Fld := { addr := 0xd018, lo := 0, w := 16, acc := .ro, dflt := 0 }
/-- TWN_REMAP_COUNT, Table TWN-5 (spec/17_twins_spans.md). -/
def TWN_REMAP_COUNT : Fld := { addr := 0xd018, lo := 16, w := 16, acc := .ro, dflt := 0 }
/-- GAZ_STAT_SEALED, Table GAZ-7 (spec/18_gazetteer.md). -/
def GAZ_STAT_SEALED : Fld := { addr := 0x80000, lo := 0, w := 1, acc := .ro, dflt := 0 }
/-- GAZ_STAT_PREADY, Table GAZ-7 (spec/18_gazetteer.md). -/
def GAZ_STAT_PREADY : Fld := { addr := 0x80000, lo := 1, w := 1, acc := .ro, dflt := 0 }
/-- GAZ_STAT_PDIS, Table GAZ-7 (spec/18_gazetteer.md). -/
def GAZ_STAT_PDIS : Fld := { addr := 0x80000, lo := 2, w := 1, acc := .ch, dflt := 0 }
/-- GAZ_STAT_SOLID, Table GAZ-7 (spec/18_gazetteer.md). -/
def GAZ_STAT_SOLID : Fld := { addr := 0x80000, lo := 3, w := 1, acc := .ro, dflt := 0 }
/-- GAZ_STAT_PQUEUE, Table GAZ-7 (spec/18_gazetteer.md). -/
def GAZ_STAT_PQUEUE : Fld := { addr := 0x80000, lo := 8, w := 8, acc := .ro, dflt := 0 }
/-- GAZ_STAMP_OPSEC, Table GAZ-7 (spec/18_gazetteer.md). -/
def GAZ_STAMP_OPSEC : Fld := { addr := 0x80008, lo := 0, w := 40, acc := .ro, dflt := 0, wide := true }
/-- GAZ_STAMP_PCYCLE, Table GAZ-7 (spec/18_gazetteer.md). -/
def GAZ_STAMP_PCYCLE : Fld := { addr := 0x80008, lo := 40, w := 24, acc := .ro, dflt := 0, wide := true }
/-- GAZ_NEWEST_SEQ, Table GAZ-7 (spec/18_gazetteer.md). -/
def GAZ_NEWEST_SEQ : Fld := { addr := 0x80010, lo := 0, w := 48, acc := .ro, dflt := 0, wide := true }
/-- GAZ_NEWEST_WPTR, Table GAZ-7 (spec/18_gazetteer.md). -/
def GAZ_NEWEST_WPTR : Fld := { addr := 0x80010, lo := 48, w := 14, acc := .ro, dflt := 0, wide := true }
/-- GAZ_OLDEST_SEQ, Table GAZ-7 (spec/18_gazetteer.md). -/
def GAZ_OLDEST_SEQ : Fld := { addr := 0x80018, lo := 0, w := 48, acc := .ro, dflt := 1, wide := true }
/-- GAZ_OLDEST_OPTR, Table GAZ-7 (spec/18_gazetteer.md). -/
def GAZ_OLDEST_OPTR : Fld := { addr := 0x80018, lo := 48, w := 14, acc := .ro, dflt := 0, wide := true }
/-- GAZ_PSECT, Table GAZ-7 (spec/18_gazetteer.md). -/
def GAZ_PSECT : Fld := { addr := 0x80020, lo := 0, w := 9, acc := .ro, dflt := 0 }
/-- GAZ_SGEN, Table GAZ-7 (spec/18_gazetteer.md). -/
def GAZ_SGEN : Fld := { addr := 0x80024, lo := 0, w := 32, acc := .ro, dflt := 0 }
/-- GAZ_PAGE, Table GAZ-7 (spec/18_gazetteer.md). -/
def GAZ_PAGE : Fld := { addr := 0x80028, lo := 0, w := 48, acc := .ro, dflt := 0, wide := true }
/-- GAZ_INCOMP, Table GAZ-7 (spec/18_gazetteer.md). -/
def GAZ_INCOMP : Fld := { addr := 0x80030, lo := 0, w := 32, acc := .ro, dflt := 0 }
/-- GAZ_DROP_PRECHART, Table GAZ-7 (spec/18_gazetteer.md). -/
def GAZ_DROP_PRECHART : Fld := { addr := 0x80034, lo := 0, w := 8, acc := .ro, dflt := 0 }
/-- GAZ_DROP_HOLD, Table GAZ-7 (spec/18_gazetteer.md). -/
def GAZ_DROP_HOLD : Fld := { addr := 0x80034, lo := 8, w := 8, acc := .ro, dflt := 0 }
/-- GAZ_DROP_PQUEUE, Table GAZ-7 (spec/18_gazetteer.md). -/
def GAZ_DROP_PQUEUE : Fld := { addr := 0x80034, lo := 16, w := 8, acc := .ro, dflt := 0 }
/-- GAZ_DROP_PRATE, Table GAZ-7 (spec/18_gazetteer.md). -/
def GAZ_DROP_PRATE : Fld := { addr := 0x80034, lo := 24, w := 8, acc := .ro, dflt := 0 }
/-- EVT_PEND, Table EVT-5 (spec/19_event_map.md). -/
def EVT_PEND : Fld := { addr := 0xe000, lo := 0, w := 32, acc := .w1c, dflt := 0, n := 6, per := 1, step := 0, stride := 0x4 }
/-- EVT_MASK, Table EVT-5 (spec/19_event_map.md). -/
def EVT_MASK : Fld := { addr := 0xe020, lo := 0, w := 32, acc := .rw, dflt := 4294967295, n := 6, per := 1, step := 0, stride := 0x4 }
/-- EVT_SEL_EVENT, Table EVT-5 (spec/19_event_map.md). -/
def EVT_SEL_EVENT : Fld := { addr := 0xe044, lo := 0, w := 8, acc := .rw, dflt := 0 }
/-- EVT_FABCFG_DST, Table EVT-5 (spec/19_event_map.md). -/
def EVT_FABCFG_DST : Fld := { addr := 0xe050, lo := 0, w := 10, acc := .ch, dflt := 1023 }
/-- EVT_FABCFG_MAX, Table EVT-5 (spec/19_event_map.md). -/
def EVT_FABCFG_MAX : Fld := { addr := 0xe050, lo := 16, w := 4, acc := .ch, dflt := 4 }
/-- EVT_FABCTL_POP, Table EVT-5 (spec/19_event_map.md). -/
def EVT_FABCTL_POP : Fld := { addr := 0xe070, lo := 0, w := 1, acc := .w1s, dflt := 0 }
/-- EVT_FABCTL_N, Table EVT-5 (spec/19_event_map.md). -/
def EVT_FABCTL_N : Fld := { addr := 0xe070, lo := 8, w := 5, acc := .ro, dflt := 0 }
/-- EVT_FABCTL_DROPIN, Table EVT-5 (spec/19_event_map.md). -/
def EVT_FABCTL_DROPIN : Fld := { addr := 0xe070, lo := 16, w := 8, acc := .ro, dflt := 0 }
/-- EVT_FABCTL_LOST, Table EVT-5 (spec/19_event_map.md). -/
def EVT_FABCTL_LOST : Fld := { addr := 0xe070, lo := 24, w := 8, acc := .ro, dflt := 0 }
/-- TST_BIST_BLOCK, Table TST-9 (spec/20_selftest_debug.md). -/
def TST_BIST_BLOCK : Fld := { addr := 0x28000, lo := 0, w := 8, acc := .ro, dflt := 0 }
/-- TST_BIST_DETAIL, Table TST-9 (spec/20_selftest_debug.md). -/
def TST_BIST_DETAIL : Fld := { addr := 0x28000, lo := 8, w := 16, acc := .ro, dflt := 0 }
/-- TST_BIST_FAIL, Table TST-9 (spec/20_selftest_debug.md). -/
def TST_BIST_FAIL : Fld := { addr := 0x28000, lo := 24, w := 1, acc := .ro, dflt := 0 }
/-- TST_BIST_COLD, Table TST-9 (spec/20_selftest_debug.md). -/
def TST_BIST_COLD : Fld := { addr := 0x28000, lo := 25, w := 1, acc := .ro, dflt := 0 }
/-- TST_CAL_SLICE, Table TST-9 (spec/20_selftest_debug.md). -/
def TST_CAL_SLICE : Fld := { addr := 0x28004, lo := 0, w := 4, acc := .ro, dflt := 0 }
/-- TST_CAL_EXCL, Table TST-9 (spec/20_selftest_debug.md). -/
def TST_CAL_EXCL : Fld := { addr := 0x28004, lo := 4, w := 4, acc := .ro, dflt := 0 }
/-- TST_CAL_DUE, Table TST-9 (spec/20_selftest_debug.md). -/
def TST_CAL_DUE : Fld := { addr := 0x28004, lo := 8, w := 20, acc := .ro, dflt := 0 }
/-- TST_TEST_TEST, Table TST-9 (spec/20_selftest_debug.md). -/
def TST_TEST_TEST : Fld := { addr := 0x28008, lo := 0, w := 8, acc := .ro, dflt := 0 }
/-- TST_TEST_ACTMASK, Table TST-9 (spec/20_selftest_debug.md). -/
def TST_TEST_ACTMASK : Fld := { addr := 0x28008, lo := 8, w := 8, acc := .ro, dflt := 0 }
/-- TST_TEST_SLICES, Table TST-9 (spec/20_selftest_debug.md). -/
def TST_TEST_SLICES : Fld := { addr := 0x28008, lo := 16, w := 16, acc := .ro, dflt := 0 }
/-- TST_FUSE_DEV, Table TST-9 (spec/20_selftest_debug.md). -/
def TST_FUSE_DEV : Fld := { addr := 0x2800c, lo := 0, w := 1, acc := .ro, dflt := 0 }
/-- TST_FUSE_DEVMODE, Table TST-9 (spec/20_selftest_debug.md). -/
def TST_FUSE_DEVMODE : Fld := { addr := 0x2800c, lo := 1, w := 1, acc := .ro, dflt := 0 }
/-- TST_FUSE_LOCK, Table TST-9 (spec/20_selftest_debug.md). -/
def TST_FUSE_LOCK : Fld := { addr := 0x2800c, lo := 2, w := 1, acc := .ro, dflt := 0 }
/-- TST_IDCODE, Table TST-9 (spec/20_selftest_debug.md). -/
def TST_IDCODE : Fld := { addr := 0x28010, lo := 0, w := 32, acc := .ro, dflt := 0 }
/-- TST_DBGCTL_OPEN, Table TST-9 (spec/20_selftest_debug.md). -/
def TST_DBGCTL_OPEN : Fld := { addr := 0x28020, lo := 0, w := 1, acc := .rw, dflt := 0 }
/-- TST_DBGCTL_WDROP, Table TST-9 (spec/20_selftest_debug.md). -/
def TST_DBGCTL_WDROP : Fld := { addr := 0x28020, lo := 16, w := 16, acc := .ro, dflt := 0 }
/-- TST_DBGADDR_PAGE, Table TST-9 (spec/20_selftest_debug.md). -/
def TST_DBGADDR_PAGE : Fld := { addr := 0x28024, lo := 0, w := 12, acc := .rw, dflt := 0 }
/-- TST_TRCCFG_NODE, Table TST-9 (spec/20_selftest_debug.md). -/
def TST_TRCCFG_NODE : Fld := { addr := 0x28028, lo := 0, w := 6, acc := .rw, dflt := 63, n := 4, per := 4, step := 8, stride := 0x4 }
/-- TST_TRCEVT, Table TST-9 (spec/20_selftest_debug.md). -/
def TST_TRCEVT : Fld := { addr := 0x28030, lo := 0, w := 32, acc := .rw, dflt := 0, n := 6, per := 1, step := 0, stride := 0x4 }
/-- TST_SNAPARM_ARM, Table TST-9 (spec/20_selftest_debug.md). -/
def TST_SNAPARM_ARM : Fld := { addr := 0x28048, lo := 0, w := 16, acc := .w1s, dflt := 0 }
/-- SVY_RSTCAUSE.CAUSE (spec/03_supplies_surveyor.md R117). -/
def SVY_RSTCAUSE_CAUSE : Fld := { addr := 0x3040, lo := 0, w := 4, acc := .ro, dflt := 0 }
/-- SVY_RSTCAUSE.PREV (spec/03_supplies_surveyor.md R117). -/
def SVY_RSTCAUSE_PREV : Fld := { addr := 0x3040, lo := 4, w := 4, acc := .ro, dflt := 0 }
/-- SVY_RSTCAUSE.DIPCNT (spec/03_supplies_surveyor.md R117). -/
def SVY_RSTCAUSE_DIPCNT : Fld := { addr := 0x3040, lo := 8, w := 16, acc := .ro, dflt := 0 }
/-- PIN_FUNC: the function of pin p, 4 bits (spec/04_pins.md Table PIN-6). -/
def PIN_FUNC : Fld := { addr := 0x4000, lo := 0, w := 4, acc := .ch, dflt := 0, n := 64, per := 8, step := 4, stride := 0x4 }
/-- PIN_PAD: the pad setting of pin p, 7 bits and a reserved one (spec/04_pins.md Table PIN-6). -/
def PIN_PAD : Fld := { addr := 0x4040, lo := 0, w := 7, acc := .ch, dflt := 80, n := 64, per := 4, step := 8, stride := 0x4 }
/-- PIN_SLP: the sleep state of a pin of ports B to D, 2 bits (spec/04_pins.md). -/
def PIN_SLP : Fld := { addr := 0x40a4, lo := 0, w := 2, acc := .ch, dflt := 3, n := 48, per := 16, step := 2, stride := 0x4 }
/-- PIN_HMASK: the host mask of pin p, 1 bit (spec/04_pins.md). -/
def PIN_HMASK : Fld := { addr := 0x40b0, lo := 0, w := 1, acc := .ch, dflt := 0, n := 64, per := 32, step := 1, stride := 0x4 }
/-- PIN_EXTTS: the timestamp of EXTINT line n (spec/04_pins.md Table PIN-9). -/
def PIN_EXTTS : Fld := { addr := 0x4100, lo := 0, w := 64, acc := .ro, dflt := 0, n := 16, per := 1, step := 0, stride := 0x8, wide := true }

/-- Every stored field of the SYS block. -/
def fldsSys : List Fld :=
  [SYS_LOOPPIN_AVS_PIN, SYS_LOOPPIN_FH_PIN, SYS_LOOPPIN_CHN_PIN, SYS_LOOPPIN_SD_PIN, SYS_LOOPPIN_PLC_PIN, SYS_LOOPPIN_EPI_SEEN, SYS_LOOPPIN_HELD, SYS_BOOT_STAGE, SYS_BOOT_DRAM, SYS_BOOT_MEDIA, SYS_BOOT_FAB, SYS_BOOT_ACTFAIL, SYS_BOOT_JNL, SYS_BOOT_WARM, SYS_BOOT_FCODE, SYS_RSTCTL_KEY, SYS_RSTCTL_GO]

/-- Every stored field of the CLK block. -/
def fldsClk : List Fld :=
  [CLK_CFG_ECON_EN, CLK_CFG_TRIM_EN, CLK_CFG_XTAL_MODE, CLK_STAT_LOCK, CLK_STAT_REF_OK, CLK_STAT_HOLDOVER, CLK_STAT_ECON, CLK_STAT_ECON_PEND, CLK_STAT_TICK_LOADED, CLK_STAT_ALIGNED, CLK_OVR_CTL, CLK_OVR_COMM, CLK_OVR_SVYP, CLK_OVR_CRED, CLK_OVR_STAT, CLK_OVR_AVS, CLK_OVR_PLC, CLK_OVR_CHN, CLK_OVR_FH, CLK_OVR_SD, CLK_OVR_SNAP, CLK_OVR_CMT, CLK_OVRCNT, CLK_OVRTS, CLK_TRIM_TRIM, CLK_TRIM_AT_LIMIT]

/-- Every stored field of the PWR block. -/
def fldsPwr : List Fld :=
  [PWR_CFG_VINWARN, PWR_CFG_VMWARN, PWR_CFG_PF_EN, PWR_HOLD_ACTIVE, PWR_HOLD_VIN_LO, PWR_HOLD_VIN_HI, PWR_HOLD_VM_LO, PWR_HOLD_UNLOADED, PWR_HOLD_RETRACTED, PWR_HOLD_RCVCNT, PWR_HOLD_ELAPSED, PWR_TMR_IDLE, PWR_TMR_STBY, PWR_STATE_CUR, PWR_STATE_PEND, PWR_STATE_JNL_RDY, PWR_STATE_DEFER_WHY]

/-- Every stored field of the SVY block. -/
def fldsSvy : List Fld :=
  [SVY_I2CCFG_BMODE, SVY_I2CCFG_PMODE, SVY_I2CCFG_TMODE, SVY_I2CCFG_TADDR, SVY_BSENS_EN, SVY_BSENS_ADDR, SVY_BSENS_REG, SVY_BSENS_FORMAT, SVY_VIN_MEAN, SVY_VIN_MIN, SVY_VM_MEAN, SVY_TEMP_TMAX, SVY_TEMP_SITE, SVY_TEMP_THROT, SVY_SHOCK_PEAK0, SVY_SHOCK_PEAK1, SVY_SHOCK_INH, SVY_SHKCFG_THR, SVY_SHKCFG_QUIET, SVY_THERM_THROT, SVY_AVS_VCORE, SVY_AVS_PIN, SVY_AVS_MTHROT, SVY_AVS_MARGIN, SVY_AVSCFG0_F125, SVY_AVSCFG0_F100, SVY_AVSCFG1_M_LO, SVY_AVSCFG1_M_HI, SVY_AVSCFG1_U_LO, SVY_AVSCFG1_U_HI, SVY_RSTCAUSE_CAUSE, SVY_RSTCAUSE_PREV, SVY_RSTCAUSE_DIPCNT]

/-- Every stored field of the PIN block. -/
def fldsPin : List Fld :=
  [PIN_OUT_OUT, PIN_OUT_OE, PIN_EXTSEL_PORT, PIN_EXTCFG_MODE, PIN_EXTCFG_FILT, PIN_EXTPEND_PEND, PIN_EXTPEND_OVF, PIN_EVOCFG_POL, PIN_EVOCFG_MODE, PIN_EVOCFG_PW, PIN_WAKECFG_EN, PIN_WAKECFG_MODE, PIN_WAKEFILT_FILT, PIN_WAKESRC_PINS, PIN_WAKESRC_PERST, PIN_STRAP_XSPI1, PIN_STRAP_PCIEW, PIN_STRAP_SCANHOLD, PIN_FUNC, PIN_PAD, PIN_SLP, PIN_HMASK, PIN_EXTTS]

/-- Every stored field of the CHT block. -/
def fldsCht : List Fld :=
  [CHT_STAT_ACTIVE, CHT_STAT_ABSENT, CHT_STAT_FELLBACK, CHT_STAT_PEND, CHT_STAT_XSPI_1, CHT_STAT_REJ_A, CHT_STAT_REJ_B, CHT_SEQ, CHT_UPD_STATE, CHT_UPD_REJ, CHT_UPDOFF, CHT_WEAR_SPARES, CHT_WEAR_SEALED, CHT_WEAR_SLOW, CHT_EPOCH_FUSED, CHT_KEYHASH]

/-- Every stored field of the SPN block. -/
def fldsSpn : List Fld :=
  [SPN_STAT_STATE, SPN_STAT_CASE, SPN_STAT_AT_SPEED, SPN_STAT_WB_OK, SPN_STAT_RECT, SPN_STAT_ATTEMPT, SPN_SPEED_SPEED, SPN_OBS_CONF, SPN_OBS_IAMP, SPN_LISTEN_DUR, SPN_LISTEN_RPM, SPN_RELOCK_COUNT]

/-- Every stored field of the SRV block. -/
def fldsSrv : List Fld :=
  [SRV_POS, SRV_TGT_TRACK, SRV_TGT_HEAD, SRV_STAT_STATE, SRV_STAT_RREADY, SRV_STAT_WREADY, SRV_STAT_STALE, SRV_STAT_MA_CLIP, SRV_STAT_GUARD, SRV_WGCNT, SRV_SEEK_DUR, SRV_SEEK_ROW, SRV_SEEK_FAIL, SRV_RCOIL]

/-- Every stored field of the CTL block. -/
def fldsCtl : List Fld :=
  [CTL_STAT_SET, CTL_STAT_SAFE, CTL_STAT_DELAYED, CTL_STAT_STOPC, CTL_STAT_OUTCYC, CTL_STAT_SAFECNT, CTL_SAT_FLAGS, CTL_SAT_STICKY, CTL_SATSEC, CTL_SATSEC_VALID, CTL_VSATCNT, CTL_ECC_CORR, CTL_ECC_REREAD, CTL_ECC_UNCORR, CTL_PEEKSEL_NODE, CTL_TRCSEL_NODE, CTL_TRCCTL_ARM, CTL_TRCCTL_STOP, CTL_TRCCTL_TRIG, CTL_TRCCTL_MODE, CTL_TRCCTL_SRC, CTL_TRCCTL_POST, CTL_TRCSTAT_STATE, CTL_TRCSTAT_NOBENCH, CTL_TRCSTAT_WRAPPED, CTL_TRCSTAT_WPTR, CTL_TRCSTAT_IGNORED, CTL_TRCCMP_NODE, CTL_TRCCMP_CMP, CTL_TRCCMP_EVT, CTL_TRCTHR, CTL_TRCTS, CTL_TRCTRIGW, CTL_TRCPAGE_PAGE]

/-- Every stored field of the CHN block. -/
def fldsChn : List Fld :=
  [CHN_STAT_MODE, CHN_STAT_HEAD, CHN_STAT_FIR_PIN, CHN_STAT_THR_PIN, CHN_STAT_WDIS, CHN_STAT_SBUF, CHN_LDPC, CHN_RCV, CHN_UNREC, CHN_RCVSTOP_CUT, CHN_RCVSTOP_ABORT, CHN_VFY_FAIL, CHN_VFY_EXH, CHN_PLINK_ERR, CHN_PLINK_FAIL, CHN_PLINK_FHEAD, CHN_PLINK_FCODE, CHN_SB_ID, CHN_SB_TEMP, CHN_SB_ERR, CHN_FH_HTR, CHN_FH_PIN, CHN_FH_HELD, CHN_PTD_PTD, CHN_CLR_EST]

/-- Every stored field of the MED block. -/
def fldsMed : List Fld :=
  [MED_STAT_MAP1, MED_STAT_MAPLOST, MED_STAT_NOSPARE, MED_STAT_STRAND, MED_FREE, MED_RESV, MED_SPARE, MED_UNWR_RANGES, MED_UNWR_MERGED, MED_PLC_PIN, MED_PLC_WAITFREE, MED_PLC_WAITING, MED_PLC_PLACED, MED_BKLOG, MED_REALLOC, MED_REFRESH_QUEUED, MED_REFRESH_DROPPED, MED_STRAND]

/-- Every stored field of the BEN block. -/
def fldsBen : List Fld :=
  [BEN_CFG_MODE, BEN_CFG_STALL_MAX, BEN_OWN, BEN_UTIL_UTIL, BEN_UTIL_MERGED, BEN_WDOG_LAST, BEN_WDOG_COUNT, BEN_ECC_CORR, BEN_ECC_UNCORR, BEN_ERR_BADADDR, BEN_ERR_MASTER, BEN_MCNT_GRANTS, BEN_MCNT_STALLS, BEN_MCNT_MAXRUN, BEN_MCNT_PROMO]

/-- Every stored field of the DRM block. -/
def fldsDrm : List Fld :=
  [DRM_STAT_STATE, DRM_STAT_FAULT, DRM_STAT_LINK_ECC, DRM_USABLE_MIB, DRM_POOL_BASE, DRM_POOL_SIZE, DRM_FREE_SLABS, DRM_FREE_FULL, DRM_CE, DRM_UE, DRM_LINK, DRM_ERRADDR_D, DRM_ERRADDR_USE, DRM_SCRUB]

/-- Every stored field of the MQP block. -/
def fldsMqp : List Fld :=
  [MQP_CAP_QMAX, MQP_CAP_VECN, MQP_CAP_PUSH, MQP_CTL_EN, MQP_STS_RDY, MQP_STS_AFRZ, MQP_STS_NODE_RDY, MQP_AQSZ_ASQS, MQP_AQSZ_ACQS, MQP_ASQB_BASE, MQP_ACQB_BASE, MQP_CRED_LIMIT, MQP_CRED_USED, MQP_CRED_HALVED, MQP_DBERR_QID, MQP_DBERR_KIND, MQP_DBERR_VALID, MQP_DBERR_COUNT, MQP_QSEL_QID, MQP_INFL_COUNT, MQP_INFL_CAP, MQP_PCIE_UP, MQP_PCIE_SPEED, MQP_PCIE_WIDTH, MQP_PCIE_DOWN, MQP_PCIE_RETRAIN, MQP_LOCK_USED, MQP_LOCK_QUEUED, MQP_ADMTHAW_GO, MQP_ADMTHAW_ACTION, MQP_ADMTHAW_RES, MQP_ADMTHAW_DISC, MQP_INTCNT0_REPAIRED, MQP_INTCNT0_UNVERIFIED, MQP_INTCNT1_REJECTED, MQP_INTCNT1_RESEND, MQP_INTCNT2_EGRESS, MQP_INTCNT2_KEYFAULT]

/-- Every stored field of the FAB block. -/
def fldsFab : List Fld :=
  [FAB_CFG_MODE, FAB_CFG_PORT_EN, FAB_NODE_ID, FAB_NODE_W, FAB_NODE_H, FAB_DISC_STATE, FAB_DISC_ROOT, FAB_TIME_ERR, FAB_TIME_UP, FAB_TIME_HOPS, FAB_TIME_ISROOT, FAB_FREQ_F, FAB_EPOCH_EPOCH, FAB_EPOCH_DOWN, FAB_RTSEL_DST, FAB_E2E_RESENT, FAB_E2E_DUP, FAB_DROP, FAB_PSTAT_STATE, FAB_PSTAT_NBR, FAB_PSTAT_NPORT, FAB_PCORR_COUNT, FAB_PERR_UNCORR, FAB_PERR_REPLAY, FAB_PDLY_DELAY, FAB_PDLY_DOWNS, FAB_LANE_CTLE, FAB_LANE_DFE, FAB_LANE_PIN, FAB_LANE_IDLE]

/-- Every stored field of the TWN block. -/
def fldsTwn : List Fld :=
  [TWN_STAT_STATE, TWN_STAT_FRESH, TWN_STAT_TWRCD, TWN_STAT_TWIN, TWN_STAT_HBAGE, TWN_DIRTY_LACK, TWN_DIRTY_FREE, TWN_DIRTY_OVF, TWN_COPIES_SLABS, TWN_SETTLE_HELD, TWN_SETTLE_LATE, TWN_SPANSEL_SPAN, TWN_REMAP_SPARES, TWN_REMAP_COUNT]

/-- Every stored field of the GAZ block. -/
def fldsGaz : List Fld :=
  [GAZ_STAT_SEALED, GAZ_STAT_PREADY, GAZ_STAT_PDIS, GAZ_STAT_SOLID, GAZ_STAT_PQUEUE, GAZ_STAMP_OPSEC, GAZ_STAMP_PCYCLE, GAZ_NEWEST_SEQ, GAZ_NEWEST_WPTR, GAZ_OLDEST_SEQ, GAZ_OLDEST_OPTR, GAZ_PSECT, GAZ_SGEN, GAZ_PAGE, GAZ_INCOMP, GAZ_DROP_PRECHART, GAZ_DROP_HOLD, GAZ_DROP_PQUEUE, GAZ_DROP_PRATE]

/-- Every stored field of the EVT block. -/
def fldsEvt : List Fld :=
  [EVT_PEND, EVT_MASK, EVT_SEL_EVENT, EVT_FABCFG_DST, EVT_FABCFG_MAX, EVT_FABCTL_POP, EVT_FABCTL_N, EVT_FABCTL_DROPIN, EVT_FABCTL_LOST]

/-- Every stored field of the TST block. -/
def fldsTst : List Fld :=
  [TST_BIST_BLOCK, TST_BIST_DETAIL, TST_BIST_FAIL, TST_BIST_COLD, TST_CAL_SLICE, TST_CAL_EXCL, TST_CAL_DUE, TST_TEST_TEST, TST_TEST_ACTMASK, TST_TEST_SLICES, TST_FUSE_DEV, TST_FUSE_DEVMODE, TST_FUSE_LOCK, TST_IDCODE, TST_DBGCTL_OPEN, TST_DBGCTL_WDROP, TST_DBGADDR_PAGE, TST_TRCCFG_NODE, TST_TRCEVT, TST_SNAPARM_ARM]

end Sys2Proof.Machine
end

