-- ==== Sys2Proof/Machine/Memory.lean ====
section
/-! DEFINITION. Byte memories: a list of (address, byte) pairs in ONE canonical form, addresses strictly rising, no entry
equal to what an unlisted address reads as. -/

namespace Sys2Proof.Machine

/-- A byte memory. -/
abbrev Memory := List Host.Cell

/-- The byte at address `a`; `d` is what an unlisted address reads as. -/
def Memory.get (d : Byte) : Memory → Nat → Byte
  | [], _ => d
  | (a', b) :: t, a => if a' = a then b else Memory.get d t a

/-- Store byte `b` at address `a`. -/
def Memory.put (d : Byte) : Memory → Nat → Byte → Memory
  | [], a, b => if b = d then [] else [(a, b)]
  | (a', b') :: t, a, b =>
    if a < a' then (if b = d then (a', b') :: t else (a, b) :: (a', b') :: t)
    else if a' = a then (if b = d then t else (a, b) :: t)
    else (a', b') :: Memory.put d t a b

/-- The canonical form, from address `lo` on. -/
def Memory.wfFrom (d : Byte) : Nat → Memory → Bool
  | _, [] => true
  | lo, (a, b) :: t => decide (lo ≤ a) && decide (b ≠ d) && Memory.wfFrom d (a + 1) t

/-- The canonical form holds. -/
def Memory.wf (d : Byte) (m : Memory) : Bool := Memory.wfFrom d 0 m

/-- `n` bytes from address `a`. -/
def Memory.read (d : Byte) (m : Memory) (a : Nat) : Nat → List Byte
  | 0 => []
  | n + 1 => Memory.get d m a :: Memory.read d m (a + 1) n

/-- Store a byte string from address `a`. -/
def Memory.write (d : Byte) : Memory → Nat → List Byte → Memory
  | m, _, [] => m
  | m, a, b :: t => Memory.write d (Memory.put d m a b) (a + 1) t

/-- Every byte of `[a, a + n)` becomes what an unlisted address reads as. -/
def Memory.clear (m : Memory) (a n : Nat) : Memory := m.filter fun e => !(decide (a ≤ e.1) && decide (e.1 < a + n))

end Sys2Proof.Machine
end

