-- ==== Sys2Proof/Machine/State.lean ====
section
/-! DEFINITION. The state of the block: every register (in one register file), every memory, queue, counter and mode the
spec gives it, as plain data, each field with its value after a power-on reset; and the outcomes of a command. A field's
docstring names the rule of the spec that gives it. -/

namespace Sys2Proof.Machine

/-- What the block sends out. The list of these is the model's own record of them (assumption log 6). -/
inductive Output where
  /-- An MSI-X message of function `fn` on local vector `vec` (R434, R636). -/
  | msix (fn vec : Nat)
  /-- A write to host memory by function `fn` (R422, R447, R481). -/
  | host (fn addr : Nat) (bytes : List Byte)
  /-- A parcel put on fabric port `port` (Table FAB-3). -/
  | parcel (port : Nat) (p : Parcel)
  /-- A flit sent on fabric port `port`: its 640 bytes (Table FAB-1). -/
  | flit (port : Nat) (bytes : List Byte)
  /-- Bytes on the trace port, one on each clock edge (R664). -/
  | trace (bytes : List Byte)
  /-- A read returned to the bus (R17, R18). -/
  | bus (fn : Nat) (bytes : List Byte)
  /-- A frame on the preamp link of channel `ch` (R319). -/
  | link (ch : Nat) (word : Nat)
  /-- A write of a command's data to host memory by function `fn`, with Relaxed Ordering where `relaxed` (R411, R438). -/
  | data (fn addr : Nat) (relaxed : Bool) (bytes : List Byte)
  /-- The completion of a configuration request of function `fn`; `retry`: with Configuration Request Retry Status (R691); what the configuration
  space advertises: TotalVFs, subsystem vendor, subsystem, the maximum payload size in bytes, and the Table Size of its MSI-X capability (Table MQP-1, R410, R688). -/
  | config (fn : Nat) (retry : Bool) (vfs ssvid ssid mps vecs : Nat)
  /-- A transaction of I²C controller `bus` (0 board, 1 preamp sideband of a channel pair): a write of `reg` to `addr`, a repeated start and a read of
  `n` bytes (R116, R318). -/
  | i2c (bus addr reg n : Nat)
  /-- A word read from the benches reaches master `m` (R383). -/
  | benchRead (m : Nat) (word : List Byte)
  /-- XSPI_RST_N is asserted for 10 µs (R156). -/
  | xspiReset
  /-- A command to the chart flash, by opcode and address, with the number of bytes it reads or programs; in octal mode or 1S-1S-1S at `mhz` (R156,
  R157). -/
  | xspi (octal : Bool) (mhz op addr n : Nat)
  /-- The I²C target acknowledges its address (R680, SVY_I2CCFG.TADDR). -/
  | i2cAck (addr : Nat)
  deriving DecidableEq, Repr

/-- One adaptive loop's pin state (R46 to R49, R702). -/
structure Loop where
  /-- The step of the current tick was pinned (R47). -/
  pinned : Bool := false
  /-- Which quantities of the loop are pinned, one bit each. -/
  which : Nat := 0
  /-- The quantities pinned in the tick that the pin flags show (R702). -/
  last : Nat := 0
  /-- A safety action holds the loop in the current tick (R49). -/
  held : Bool := false
  /-- Consecutive pinned ticks of the episode (R48). -/
  run : Nat := 0
  /-- The episode's pinned event has been raised (R48). -/
  raised : Bool := false
  deriving DecidableEq, Repr

/-- The clock and the tick (spec/02_graticule.md). -/
structure Clk where
  /-- The 48-bit tick counter (R58). -/
  tick : Nat := 0
  /-- The cycle offset within the tick (R70). -/
  cycle : Nat := 0
  /-- Core logic runs: the PLL has locked since the last reset (R52); it goes on in holdover. -/
  core : Bool := false
  /-- The first tick after the lock has begun (R58, R200). -/
  started : Bool := false
  /-- Core cycles of the ticks that have ended since the lock. -/
  base : Nat := 0
  /-- Number and clock of the tick before the present one (R133). -/
  prevTick : Nat := 0
  prevEcon : Bool := false
  /-- A latched, not yet committed frequency request: 1.00 GHz is `true` (R53). -/
  req : Option Bool := none
  /-- It was latched at cycle 3900 or later of the present tick (R53). -/
  reqLate : Bool := false
  /-- The request committed for the next edge (R53). -/
  commit : Option Bool := none
  /-- The slots whose work of this tick has ended, in the bit order of Table CLK-5 (R65); bit 15 for a capture that the edge finds
  unfinished (R627). -/
  slots : Nat := 0
  /-- The number of edges since reset, for the rules that count edges (R57, R614). -/
  edges : Nat := 0
  /-- A declared clock fault: the instant of its declaration (R56, R57). -/
  fault : Option Nat := none
  /-- Consecutive ticks with the trim at ±200 ppm, and whether event 21 was raised in the episode (R76). -/
  trimRun : Nat := 0
  trimRaised : Bool := false
  /-- The tick number that the first TIME parcel gives, waiting for its edge (R74, R567). -/
  load : Option Nat := none
  deriving DecidableEq, Repr

/-- One Gazetteer record before it enters a store: type, length, body from byte 16 to the check code, closing mark (Table GAZ-1). -/
structure Rec where
  typ : Nat
  len : Nat
  body : List Byte
  close : Bool := false
  persist : Bool := false
  deriving DecidableEq, Repr

/-- A record of the RAM ring: sequence number, byte offset and length (R608). -/
structure RingEnt where
  seq : Nat
  off : Nat
  len : Nat
  deriving DecidableEq, Repr

/-- A persistent record waiting for flash with its stamps (R603, R616). -/
structure PRec where
  r : Rec
  opsec : Nat
  pcycle : Nat
  deriving DecidableEq, Repr

/-- An extreme's held values (R623). -/
structure Ext where
  min : Int
  max : Int
  minTs : Nat
  maxTs : Nat
  deriving DecidableEq, Repr

/-- An armed snapshot list (R625). -/
structure Arm where
  ts : Nat
  event : Nat
  merged : Bool := false
  /-- Captured no earlier than the tick after the arming one. -/
  next : Bool := false
  deriving DecidableEq, Repr

/-- The counts of one histogram page (R622, R624). -/
structure Hist where
  counts : List Nat := []
  ticks : Nat := 0
  samples : Nat := 0
  deriving DecidableEq, Repr

/-- The Gazetteer (spec/18_gazetteer.md). -/
structure Gaz where
  /-- The records of the present cycle, in the order in which they were made, while they are gathered (R602). -/
  batch : Option (List Rec) := none
  /-- Records made before the chart is applied, oldest first (R609). -/
  pre : List Rec := []
  /-- Records dropped from the pre-chart buffer (R609). -/
  preLost : Nat := 0
  /-- The records of the ring with their places, oldest first (R608). -/
  ring : List RingEnt := []
  /-- A transfer of log page 0x10 in progress: the ring bytes not yet transferred, from the first offset to the second (R610). -/
  xfer : Option (Nat × Nat) := none
  /-- Records held during that transfer (R610). -/
  hold : List Rec := []
  /-- Records dropped from the hold queue during the transfer (R610). -/
  holdLost : Nat := 0
  /-- The persistent queue (R616). -/
  pq : List PRec := []
  /-- Persistent records accepted in the current window of 250 000 edges (R616). -/
  accepted : Nat := 0
  /-- Records kept ring-only by kind 2 and kind 3 that no Dropped record has reported yet (R616). -/
  lost2 : Nat := 0
  lost3 : Nat := 0
  /-- Tick edges since the boot scan (R614). -/
  edges : Nat := 0
  /-- The boot scan found a valid header: the write sector is in use (R612). -/
  inUse : Bool := false
  /-- The byte offset of the append point in the write sector (R612). -/
  append : Nat := 64
  /-- The next sector of the area has been erased for use (R617). -/
  nextReady : Bool := false
  /-- Edges of the current statistics page, and the timestamps of its start and of the previous page's start and end (R624). -/
  pageEdges : Nat := 0
  /-- Page 0 has begun (spec/18_gazetteer.md, Statistics). -/
  paged : Bool := false
  pageStart : Nat := 0
  prevStart : Nat := 0
  prevEnd : Nat := 0
  prevIncomp : Nat := 0
  /-- Histograms and extremes by index: current page, previous page, since reset (R622 to R624). -/
  hist : Tbl Hist := []
  histPrev : Tbl Hist := []
  ext : Tbl Ext := []
  extPrev : Tbl Ext := []
  extAll : Tbl Ext := []
  /-- Armed snapshot lists by list number (R625). -/
  armed : Tbl Arm := []
  deriving DecidableEq, Repr

/-- An outgoing event parcel (Table EVT-3). -/
structure EvtParcel where
  event : Nat
  ts : Nat
  count : Nat
  deriving DecidableEq, Repr

/-- The event unit (spec/19_event_map.md). -/
structure Evt where
  /-- Raisings of each event since reset (R632, EVT_CNT). -/
  cnt : Tbl Nat := []
  /-- Events pending from before the application of the chart, which drive no line (R641). -/
  early : List Nat := []
  /-- Event records due, as (event, timestamp of the first raising, edge count of its tick) (R638). -/
  due : List (Nat × Nat × Nat) := []
  /-- Vectors that have sent their event message in this tick, and those that a covering message follows at the next edge (R636). -/
  sent : List Nat := []
  cover : List Nat := []
  /-- Events whose parcel is queued in this tick, and the later raisings that a covering parcel carries (R639). -/
  fabSent : List Nat := []
  fabCover : Tbl EvtParcel := []
  /-- The send queue of 64 event parcels (R639). -/
  sendQ : List EvtParcel := []
  /-- The receive queue of 16 payloads, oldest first (R640). -/
  recvQ : List (List Byte) := []
  /-- Event 188 has been raised in the current episode of a full receive queue (R640). -/
  fullEpi : Bool := false
  deriving DecidableEq, Repr

/-- One cause of a supply hold (R86). -/
structure Cause where
  active : Bool := false
  count : Nat := 0
  deriving DecidableEq, Repr

/-- Supplies and power states (spec/03_supplies_surveyor.md). -/
structure Pwr where
  /-- The hold causes (R85, R86). -/
  vinLo : Cause := {}
  vinHi : Cause := {}
  vmLo : Cause := {}
  /-- Timestamps of the crossing that began the hold and of the last rise of a recovery comparator (R91). -/
  crossTs : Nat := 0
  riseTs : Nat := 0
  /-- Causes of the hold so far, in the bits of the supply-dip record (R91). -/
  causes : Nat := 0
  /-- Minimum VIN and VM of the hold in mV (R91). -/
  minVin : Option Nat := none
  minVm : Option Nat := none
  /-- Sector writes abandoned in the hold (R91). -/
  abandoned : Nat := 0
  /-- Actuators that the hold has unloaded or a VM loss in it has retracted, which load again at its end (R89, R90). -/
  downActs : List Nat := []
  /-- The instant up to which the waits of deadlines have been counted, while they wait (R88). -/
  dlMark : Option Nat := none
  /-- VM is below its loss level (R90, R92). -/
  vmLoss : Bool := false
  /-- Consecutive ticks with PWRFAIL_N low (R92). -/
  pfLow : Nat := 0
  /-- A declared power loss: the journal slot being written, if any (R94). -/
  loss : Option (Option Nat) := none
  /-- A host-ordered reset in its sequence: the journal slot being written, if any (R220). -/
  hostReset : Option (Option Nat) := none
  /-- The reset is asserted, with its cause (R196, R198). -/
  inReset : Option Nat := none
  /-- Ticks without a media operation (Table PWR-8). -/
  idleTicks : Nat := 0
  /-- Ticks since the last media operation, for the Standby timer. -/
  stbyTicks : Nat := 0
  /-- Vigil: the core is stopped (R108). -/
  vigil : Bool := false
  /-- An entry into Standby (2) or Vigil (3) in progress (Table PWR-8, R147). -/
  entering : Option Nat := none
  /-- The VIN and VM warning codes of the last chart applied, kept in the always-on domain (R84). -/
  vinWarn : Nat := 44
  vmWarn : Nat := 210
  /-- PWR_CFG.PF_EN of the last chart applied, kept with them for the release after a power loss (R98). -/
  pfEn : Bool := false
  deriving DecidableEq, Repr

/-- The Surveyor (spec/03_supplies_surveyor.md). -/
structure Svy where
  /-- The filtered temperature of the eight die sites, in 1/4096 °C; kept through a warm reset (Table SVY-1, R706). -/
  die : List Int := []
  /-- The temperature cause of thermal throttle is active (R112). -/
  hot : Bool := false
  /-- The temperature and the margin cause as the edge latch holds them, for the other slots (R62). -/
  hotL : Bool := false
  mthrL : Bool := false
  /-- Consecutive ticks below THROT − 5 °C (R113). -/
  coolRun : Nat := 0
  /-- Consecutive quiet ticks of a write inhibit (R111). -/
  quietRun : Nat := 0
  /-- The instant of the 112 °C reading (R114). -/
  critical : Option Nat := none
  /-- Consecutive steps with m above M_HI, and with m at or above M_LO during a margin throttle (Table SVY-4, R120). -/
  highRun : Nat := 0
  okRun : Nat := 0
  /-- Published utilization values that have reached the AVS step, newest first (Table SVY-4), and those of this tick. -/
  util : List Nat := []
  utilNew : List Nat := []
  /-- Board sensors: last value in 0.125 °C and consecutive failures, by sensor (R115, R116). -/
  board : Tbl Int := []
  boardFail : Tbl Nat := []
  /-- Ticks since the last periodic read of each sensor (R116). -/
  boardTicks : Tbl Nat := []
  /-- Sensors whose alert input was seen low in the ended tick (R116). -/
  alert : List Nat := []
  deriving DecidableEq, Repr

/-- What drives a pad in a sleep state: a level, or nothing; its pull stays (Table PIN-12). -/
structure Sleep where
  drive : Option Bool := none
  pull : Nat := 1
  ie : Bool := true
  deriving DecidableEq, Repr

/-- The 64 GPIO pins and the wake logic (spec/04_pins.md). Pin `n` of port `q` is bit 16 q + n of a mask. -/
structure Pin where
  /-- The pin configuration of the chart is in force (R143). -/
  applied : Bool := false
  /-- Pads that the board drives, and the levels it drives them to. -/
  drv : Nat := 0
  lvl : Nat := 0
  /-- The levels that the keepers hold: the last that the pads saw (R128). -/
  kept : Nat := 0
  /-- The sleep states that pins of ports B to D hold, by pin (R144, R145). -/
  asleep : Tbl Sleep := []
  /-- The level that the stability filter of an EXTINT line accepted last, and the cycle count of its acceptance (R132). -/
  accepted : Tbl (Bool × Nat) := []
  /-- Event-output pulses in progress: the cycle count of the end, by line (R139). -/
  pulse : Tbl Nat := []
  /-- The edge at which ACT0 to ACT3 fell last, by actuator (Table PIN-4). -/
  actFall : Tbl Nat := []
  /-- Ticks in a row in which every reference sample of a port A pin was low, and high; pins that were high, and low, since wakes were armed or
  the last edge (R148). -/
  loRun : Tbl Nat := []
  hiRun : Tbl Nat := []
  /-- Wake sources are armed (R147). -/
  armed : Bool := false
  /-- Armed pins whose edge has been seen: falling and rising (R148). -/
  sawHi : Nat := 0
  sawLo : Nat := 0
  /-- A wake condition latched during Vigil entry: pins and PERST (R147). -/
  latched : Option (Nat × Bool) := none
  /-- EXTINT lines in level mode whose accepted level is the active one (R136). -/
  active : Nat := 0
  deriving DecidableEq, Repr

/-- One section of the active chart (Table CHT-3). -/
structure Sec where
  typ : Nat
  inst : Nat
  body : List Byte
  deriving DecidableEq, Repr

/-- The wear entry of one flash sector (spec/05_chart.md, Wear). -/
structure Wear where
  erases : Nat := 0
  state : Nat := 0
  spare : Nat := 0
  first : Nat := 0
  last : Nat := 0
  deriving DecidableEq, Repr

/-- What a flash operation is done for. -/
inductive FlashWhy where
  | chart      -- a page of an update session (R185)
  | commit     -- the header of a committed image (R187)
  | gaz        -- a record of the persistent area, or the erase of its next sector (R616, R617)
  | gazHead    -- the header of a sector of the persistent area (R617)
  | journal    -- a journal sector re-erased in the background (R159)
  | half       -- a half-erased sector erased again (R178)
  | switchWear -- step 1 of a mark-sector switch (R179)
  | checkpoint -- step 2 of a mark-sector switch (R179)
  | switchMark -- step 3 of a mark-sector switch (R179)
  | head       -- step 4 of a mark-sector switch (R179)
  | power      -- a page of the power-loss journal (R100)
  | consume    -- MAGIC of a journal that has been presented (R218)
  deriving DecidableEq, Repr

/-- A waiting or running flash operation (R158): a program, page by page, or an erase with its marks. -/
structure FlashJob where
  prio : Nat
  erase : Bool
  addr : Nat
  bytes : List Byte := []
  /-- What is programmed last, once the rest has read back: the bytes of VALID and their address. -/
  valid : Option (Nat × List Byte) := none
  /-- Where an erase stands: 0 waits, 1 its intent entry is programmed, 2 it runs, 3 its completion entry is programmed (R175). -/
  phase : Nat := 0
  /-- The time that the erase took, in 100 µs. -/
  etime : Nat := 0
  why : FlashWhy
  deriving DecidableEq, Repr

/-- How a power-loss journal slot stands (R215). -/
inductive JSlot where
  | ignored | preErased | consumed | complete | incomplete
  deriving DecidableEq, Repr

/-- The chart, its flash and its updates (spec/05_chart.md). -/
structure Chart where
  /-- A chart is applied in this session, its header and its sections (R173). -/
  applied : Bool := false
  hdr : List Byte := []
  secs : List Sec := []
  /-- The flash bytes 0–255 of an open update session (R184). -/
  staging : List Byte := []
  /-- The command slot of the Chart Write or Chart Commit in progress (R185, R187). -/
  cmd : Option Nat := none
  /-- Wear table by sector (R189). -/
  wear : Tbl Wear := []
  /-- Current mark sector (0 or 1), entries in it, last GEN (R177). -/
  markCur : Nat := 0
  markCnt : Nat := 0
  markGen : Nat := 0
  /-- Half-erased sectors (R177). -/
  half : List Nat := []
  /-- Sectors erased in the open session or for the next use (R185, R617). -/
  erased : List Nat := []
  /-- The link: 8D-8D-8D or 1S-1S-1S, and its clock in MHz (R156, R157). -/
  octal : Bool := false
  mhz : Nat := 25
  /-- Waiting flash operations, and the one in progress (R158). -/
  jobs : List FlashJob := []
  busy : Option FlashJob := none
  /-- Journal slots as the chart stage classified them (R215). -/
  jslots : Tbl JSlot := []
  /-- Journals presented as lost-range groups, newest first, by slot (R216). -/
  groups : List Nat := []
  /-- Their bytes as the scan read them, for the lost-range page (R216, R482). -/
  gbytes : List (List Byte) := []
  /-- The lost-range groups have been cleared (R482). -/
  groupsCleared : Bool := false
  /-- Slots that held an unread complete journal at the chart stage (PRIOR of Table PWR-5). -/
  prior : Nat := 0
  /-- Host bounds of tunables in force, by ID × 65536 + INST, and those that wait for their edge, as (fetch number of the command, key, bounds), in
  the order of their commands (R43, R45). -/
  host : Tbl (Int × Int) := []
  hostNext : List (Nat × Nat × Option (Int × Int)) := []
  /-- Persistent logging has sealed, for good (R193); kept through every reset (assumption log 15). -/
  sealed : Bool := false
  /-- The epoch or lock fuses have been handled at this session's Ready (R167). -/
  burned : Bool := false
  deriving DecidableEq, Repr

/-- Start-up (spec/06_power_to_ready.md). -/
structure Boot where
  /-- End timestamps of the eleven stages of the Boot record, by stage; a stage not run is not listed (R207). -/
  ends : Tbl Nat := []
  /-- The edge count at which the running stage of each branch began, for its bound (Table SYS-10): 0 DRAM, 1 media, 2 fabric. -/
  began : Tbl Nat := []
  /-- Consecutive ticks with VM above its recovery level (R203). -/
  vmRun : Nat := 0
  /-- PERST_N is asserted (R212). -/
  perst : Bool := true
  deriving DecidableEq, Repr

/-- An MSI-X table entry (R690). -/
structure Msix where
  addr : Nat := 0
  data : Nat := 0
  masked : Bool := true
  pend : Bool := false
  deriving DecidableEq, Repr

/-- A rotor-loss sequence (R245 to R250): cause, declaration timestamp, speed in 0.1 rpm, f_c in 0.01 Hz, coast periods,
qualifying windows in a row. -/
structure Loss where
  cause : Nat
  ts : Nat
  /-- The instant of the declaration, from which the coast periods count (R246). -/
  at_ : Nat
  speed : Nat
  fc : Nat
  periods : Nat := 0
  okRun : Nat := 0
  /-- Re-acquired: REGULATE at the next edge (R247). -/
  back : Bool := false
  deriving DecidableEq, Repr

/-- The listen part of a spin-start record, kept for the closing record (R230, R606). -/
structure SpinRec where
  ts : Nat
  case : Nat
  source : Nat
  ticks : Nat
  speed : Int
  deriving DecidableEq, Repr

/-- What the spindle bridge does: all gates off, the low-side gates on (chopped), PWM of a voltage vector, synchronous rectification (Table SPN-2,
R225, R231, R254). -/
inductive Bridge where
  | off | short | drive | rect
  deriving DecidableEq, Repr

/-- The gates of one phase of the bridge: none on, the high side, the low side; never both (R224). -/
inductive Leg where
  | off | high | low
  deriving DecidableEq, Repr

/-- A listen (R228, R229): the instant of its begin; the angle of the last update and the advance since the first, in 1 / 150 000 000 of an
electrical turn; whether a step over 5° went backward, and forward; the smallest and the largest back-EMF of its updates in µV. -/
structure Listen where
  start : Nat := 0
  last : Option Int := none
  adv : Int := 0
  back : Bool := false
  fwd : Bool := false
  low : Option Nat := none
  high : Nat := 0
  /-- The determination by an advance of 60°: its instant, the advance and the back-EMF. -/
  hit : Option (Nat × Int × Nat) := none
  deriving DecidableEq, Repr

/-- The spindle (spec/07_spindle.md). -/
structure Spn where
  /-- A start order that waits for its tick edge, by source (Table GAZ-9), and the one in progress (Table SPN-5). -/
  order : Option Nat := none
  source : Option Nat := none
  /-- The edge count at the start order (R236), at the entry into the present state, and at HANDOFF's ramp start. -/
  orderEdge : Nat := 0
  stateEdge : Nat := 0
  /-- What the brake serves: 0 a start order, 1 a Standby entry, 2 RELOCK_MAX exceeded (R234, R250, R253). -/
  brakeWhy : Nat := 0
  /-- Ticks braked within the start order (R230). -/
  brakeTicks : Nat := 0
  /-- Ticks in a row with confidence at or above CONF_TH, and whether this tick saw it lower (R232, R233). -/
  confRun : Nat := 0
  confLow : Bool := false
  /-- Ticks in a row inside the regulation band, inside the write band, and at speed (R238, R240, R250). -/
  bandRun : Nat := 0
  wbRun : Nat := 0
  /-- The present tick has seen the speed outside the regulation band, outside the write band. -/
  rOut : Bool := false
  wOut : Bool := false
  atRun : Nat := 0
  /-- Commutator overruns in a row (R234, R244). -/
  overruns : Nat := 0
  /-- Writes have stopped and their resumption is an event (R240, R247). -/
  wbOut : Bool := false
  /-- The PI integrator and the current command, in mA / 2560 (R237). -/
  integ : Int := 0
  cmd : Int := 0
  /-- The loaded schedule: electrical rate in 0.1 rpm × pole pairs, the angle of the voltage vector at its start in 1 / 150 000 000 of an electrical
  turn, and its amplitude in µV where it equals a back-EMF; else it serves the current command (R232, R233, R246). -/
  rate : Int := 0
  angle : Int := 0
  volt : Option Nat := none
  /-- The observer's angle in the same unit, and its last back-EMF estimate in µV (R242, R246). -/
  obsAngle : Int := 0
  emf : Nat := 0
  /-- What the bridge does from an instant on; off before it (R225, R226, R233), and the instant up to which a brake is chopped (R231). -/
  bridge : Bridge := .off
  bridgeAt : Nat := 0
  chop : Nat := 0
  listen : Listen := {}
  /-- The largest back-EMF of the present listen window of a brake, and its windows in a row with the back-EMF below A30 (R231). -/
  winMax : Option Nat := none
  winRun : Nat := 0
  loss : Option Loss := none
  /-- Actuators that a failed re-acquisition parked: each loads once at the restart's AT_SPEED (R248). -/
  restart : Option (List Nat) := none
  spin : Option SpinRec := none
  deriving DecidableEq, Repr

/-- A ramp motion of Table SRV-8: 0 load, 1 orderly unload, 2 emergency park, 3 retract. -/
structure Motion where
  kind : Nat
  trig : Nat := 0
  ts : Nat := 0
  edge : Nat := 0
  track : Nat := 0
  /-- The load has left the latch; an unload has ended its seek to track 0. -/
  under : Bool := false
  deriving DecidableEq, Repr

/-- An episode of the position guard (R277). -/
structure Guard where
  ts : Nat
  cause : Nat
  peak : Nat
  abandoned : Nat := 0
  run : Nat := 0
  deriving DecidableEq, Repr

/-- An ordered seek: head, track, for a write or a read (R258, R265). -/
structure Seek where
  head : Nat
  track : Nat
  write : Bool
  deriving DecidableEq, Repr

/-- An actuator (spec/08_servo_band.md). Positions are those of the servo reader, in 1/65 536 track. -/
structure Act where
  /-- The servo target in force, and whether it is for a write (R258). -/
  tgt : Int := 0
  forWrite : Bool := false
  /-- The data track it follows; none while it moves (R265). -/
  cur : Option Nat := none
  /-- The last valid estimate: position, velocity, and the PES of the previous estimate where that was valid (R273). -/
  pos : Int := 0
  vel : Int := 0
  prevPes : Option Int := none
  /-- Invalid estimates in a row (R273, R279). -/
  inv : Nat := 0
  /-- The demodulator's count of tracks; the last complete code word passed its check and equalled it; code words in a row that did (R260, R261). -/
  count : Nat := 0
  idOk : Bool := false
  agree : Nat := 0
  /-- Valid and ID_OK estimates in a row, and estimates, since a head was selected (R270, R271). -/
  acq : Nat := 0
  seen : Nat := 0
  /-- Estimates in the settle window and for write ready (R266). -/
  rd : Nat := 0
  wr : Nat := 0
  /-- The dispatched seek, and whether it waits for the edge, is under way or settling (R265). -/
  seek : Option Seek := none
  go : Bool := false
  /-- Edge count of the seek's start, its row, distance in whole tracks, start position, second try (R265, R267). -/
  seekEdge : Nat := 0
  row : Nat := 0
  len : Nat := 0
  start : Int := 0
  again : Bool := false
  guard : Option Guard := none
  /-- The sector in write, by its place, and the edge count at which its writing ends (R272). -/
  gate : Option (Nat × Nat) := none
  motion : Option Motion := none
  /-- Orders that wait for a higher motion to end, as (kind, trigger) (R286). -/
  later : List (Nat × Nat) := []
  /-- Load attempts, and why it loads: 0 heads stage, 1 hold end, 2 Standby to Run, 3 servo loss, 4 rotor loss, 5 escalation. -/
  tries : Nat := 0
  loadWhy : Nat := 0
  /-- A load stopped by a shock waits for the end of write inhibit (R282). -/
  shocked : Bool := false
  /-- Start-up calibration of every head has completed (R204). -/
  ready : Bool := false
  /-- The servo target has changed under an L = 0 seek: readiness goes at the next estimate (R265). -/
  chg : Bool := false
  /-- A load has acquired and seeks to the calibration track (R281). -/
  arriving : Bool := false
  /-- PES of the estimates of this tick, newest first, in 1/4096 track (Table CTL-8). -/
  pesTick : List Int := []
  deriving DecidableEq, Repr

/-- A retract in the driver, which resets do not stop (R285): the edge at which T_RET has passed, unless a reset has broken the count of edges since,
and what R256 compares: KE, V_RET_MIN + 1400 mV. -/
structure Retract where
  due : Option Nat
  ke : Nat
  vmin : Nat
  rect : Bool := false
  deriving DecidableEq, Repr

/-- A safe hold (R306 to R308): entry timestamp, stop cause, set; clean ticks; the state it interrupted was SEEK. -/
structure Safe where
  ts : Nat
  cause : Nat
  set : Nat
  clean : Nat := 0
  seek : Bool := false
  deriving DecidableEq, Repr

/-- An escalation whose record is due (R310, R311): timestamp and cause. -/
structure Esc where
  ts : Nat
  cause : Nat
  deriving DecidableEq, Repr

/-- A control engine (spec/09_control_engine.md). -/
structure Eng where
  /-- Nodes 9 to 63 with 16 fractional bits, by node; an unlisted node is 0 (R289). -/
  nodes : Tbl Int := []
  /-- The nodes at the last output cycle, for CTL_PEEK and the trace. -/
  shown : Tbl Int := []
  /-- Section states by set × 64 + section: s1 and s2 with 32 fractional bits, or the integrator in s1 with 16 (R292, R294). -/
  states : Tbl (Int × Int) := []
  /-- Clamp direction of LIMIT sections in their last run: 1 upper, −1 lower (R294, R295). -/
  clamp : Tbl Int := []
  /-- The set of the previous tick; none after a tick with no run (R298). -/
  prev : Option Nat := none
  /-- VCM and milliactuator commands applied (R293). -/
  vcm : Int := 0
  ma : Int := 0
  /-- What the tick edge latched: the set that the actuator's state selects, that state, and the servo target (R287, R288, R296). -/
  sel : Option Nat := none
  at_ : Nat := 0
  tgt : Int := 0
  /-- The cause of a stop in this tick, and the set that stopped (R305). -/
  stop : Option (Nat × Nat) := none
  /-- A coefficient word stands uncorrectable in both copies (R309). -/
  bad : Bool := false
  /-- The run of this tick completed (R308). -/
  ran : Bool := false
  safe : Option Safe := none
  esc : Option Esc := none
  /-- Safe-hold entries end when a motion is ordered: the hold ends at the next edge (R309). -/
  endHold : Bool := false
  deriving DecidableEq, Repr

/-- A media write job at a physical sector: what it stores and why. -/
structure WJob where
  vol : Nat
  lba : Nat
  /-- 0 a piece, 1 refresh, 2 relocation, 3 a spare, 4 zero fill of a new extent. -/
  why : Nat
  /-- Rewrites after verify failures (R341). -/
  tries : Nat := 0
  /-- 0 to be written, 1 in write or written and to be verified, 2 abandoned, 3 failed to verify; the last two are to be rewritten (R338, R341); 4 the
  block is still to be read from the source of a relocation (R366). -/
  phase : Nat := 0
  /-- The edge count at which it joins its actuator's queue (Table MED-4). -/
  edge : Nat := 0
  /-- The block and tag, for a job that does not take them from a slab. -/
  unit : Option (List Byte) := none
  deriving DecidableEq, Repr

/-- What a channel keeps for a head: its context (spec/10_channel.md), fly-height state, faults and calibrations. -/
structure HeadCtx where
  /-- Equaliser taps of both readers and their offsets (R331). -/
  tapsL : List Int := []
  tapsT : List Int := []
  ofsL : Int := 0
  ofsT : Int := 0
  /-- Clearance correction, in 0.1 mW / 2^15 (Fly height, The loop). -/
  corr : Int := 0
  /-- Edge count at a contact outside calibration: the loop is held for 250 ticks (R337). -/
  contact : Option Nat := none
  /-- Difference of the measured separation from the chart's, in channel bits (R326). -/
  sep : Int := 0
  /-- Edges of the preamp faults of the last 25 000 ticks; writing is disabled (R325). -/
  faults : List Nat := []
  wdis : Bool := false
  /-- Touchdown or separation falls due: edge count since when; operating second of the last completion (R647, R648). -/
  tdDue : Option Nat := none
  sepDue : Option Nat := none
  tdLast : Nat := 0
  sepLast : Nat := 0
  /-- Failed touchdowns in a row, restarts 150 units lower, and the value the next slice resumes from (R651, R653). -/
  tdFails : Nat := 0
  tdLows : Nat := 0
  tdFrom : Option Nat := none
  /-- The heater value last sent to the preamp (R336). -/
  sent : Option Nat := none
  /-- The start-up calibration of the head is complete (R351). -/
  cal : Bool := false
  deriving DecidableEq, Repr

/-- A touchdown calibration under way on a head: heater, edge of its last step, contact steps in a row, steps run, whether it
runs in a slice (R333, R651). -/
structure Touch where
  head : Nat
  htr : Nat
  edge : Nat
  contacts : Nat := 0
  /-- The contact sensor has reported contact in the step under way. -/
  hit : Bool := false
  steps : Nat := 0
  /-- The result: none while it runs, a failure, or the touchdown power; `again` says that the next slice starts lower (R651). -/
  ended : Option (Option Nat) := none
  again : Bool := false
  /-- The heater value before it. -/
  old : Nat := 0
  deriving DecidableEq, Repr

/-- A runtime calibration slice (R648): kind 1 touchdown, 2 separation, 3 a slice of an admin test. -/
structure Slice where
  start : Nat
  head : Nat
  kind : Nat
  deriving DecidableEq, Repr

/-- A failed sector in recovery (R343 to R350). -/
structure Recov where
  /-- The place of the sector, and the class and attempts so far. -/
  loc : Nat
  lclass : Nat
  /-- Its samples are stored. -/
  samples : Bool
  /-- The next step, and the steps run. -/
  step : Nat := 0
  run : Nat := 0
  /-- A step is in progress, and the instant of its start. -/
  going : Bool := false
  start : Nat := 0
  deriving DecidableEq, Repr

/-- A frame that waits on a preamp link (R319 to R324): its place in the order of R324 (0 head selection, 1 heater write, 2 status read, 3
configuration write), head, register address and data; a read of a status register; a write that has gone and waits for its read-back; the link
errors it has met in a row. The data of a status read says which register it is: 0 contact sensor, 1 fault status. -/
structure LFrame where
  cls : Nat
  head : Nat
  addr : Nat
  data : Nat
  rd : Bool := false
  back : Bool := false
  errs : Nat := 0
  deriving DecidableEq, Repr

/-- What a re-read step changes while it is in progress (R346): the head and track it reads, the track offset in 1/65 536 track, the changes of heater
(0.1 mW) and offsets (1/64), and the heater value that the loop itself holds. -/
structure Adj where
  head : Nat
  track : Nat
  ofs : Int
  htr : Int
  lvl : Int
  base : Nat
  deriving DecidableEq, Repr

/-- A channel (spec/10_channel.md). -/
structure Chan where
  /-- Frames that wait on the link (R324), and the head last selected over it (R270). -/
  link : List LFrame := []
  sel : Option Nat := none
  /-- The head whose start-up calibration is under way, and the edge count of its begin (R351). -/
  calAt : Option (Nat × Nat) := none
  /-- The re-read step in progress changes offset, heater or levels (R346). -/
  adj : Option Adj := none
  /-- Failed sideband reads in a row (R318). -/
  sbFail : Nat := 0
  sbEdge : Nat := 0
  /-- Sectors in recovery, in LBA order (R343), and the refresh queue as (VOL code, LBA) (R363). -/
  recov : List Recov := []
  refresh : List (Nat × Nat) := []
  /-- A preamp fault stands since this instant, in units of 0.2 ns (R325). -/
  fault : Option Nat := none
  touch : Option Touch := none
  slice : Option Slice := none
  deriving DecidableEq, Repr

/-- A bench master's request that waits for its grant: its stall run, and whether the master is promoted (R382, R384). -/
structure BWait where
  req : BReq
  run : Nat := 0
  promoted : Bool := false
  deriving DecidableEq, Repr

/-- Counts of a master: grants, stall cycles, the longest stall run, promotions (R386). -/
structure BenchCnt where
  grants : Nat := 0
  stalls : Nat := 0
  maxrun : Nat := 0
  promo : Nat := 0
  deriving DecidableEq, Repr

/-- The arbitration of the benches (spec/12_benches_dram.md R382 to R389). -/
structure Bench where
  /-- The present request of each master. -/
  cur : Tbl BWait := []
  /-- Words that wait until their master is free, in order. -/
  todo : List BReq := []
  /-- Words read, on their way: cycles until they reach the master, the master, the word (R383). -/
  pipe : List (Nat × Nat × List Byte) := []
  /-- The word that a master read last, and whether a later grant has overwritten it (R407). -/
  last : Tbl (Nat × Bool) := []
  /-- Cycles of the present tick that have passed at the benches. -/
  cyc : Nat := 0
  /-- The counts of the present tick, and those whose publication is due. -/
  now : Tbl BenchCnt := []
  due : Tbl BenchCnt := []
  deriving DecidableEq, Repr

/-- A block in the buffer: 4112 bytes, block and tag, plain or encrypted, and the unit check of a volume with ENC. -/
structure Unit4k where
  bytes : List Byte
  uchk : Nat := 0
  deriving DecidableEq, Repr

/-- What an error log record needs beyond the command (Table MQP-30). -/
structure ErrInfo where
  lba : Option Nat := none
  source : Nat := 0
  rtag : List Byte := []
  cdchk : Nat := 0
  cguard : Nat := 0
  row : Nat := 0
  lclass : Nat := 0xFF
  node : Nat := 0xFFFF
  detail : Nat := 0
  deriving DecidableEq, Repr

/-- A piece of a command at its ingress node (spec/17_twins_spans.md). -/
structure IPiece where
  lba : Nat
  n : Nat
  /-- 0 waits to be sent, 1 sent, 2 reported, 3 to be sent again after NOTREADY. -/
  phase : Nat := 0
  keyTick : Nat := 0
  status : Nat := 0
  /-- Blocks accepted at transit, or delivered by RDATA (R543). -/
  acc : Nat := 0
  /-- Edge count at which a refused piece is sent again (R578). -/
  retry : Nat := 0
  /-- Blocks sent, or handed to the own settle queue. -/
  sent : Nat := 0
  /-- Blocks of a read that have been dealt with (R578). -/
  blks : List Nat := []
  deriving DecidableEq, Repr

/-- How a chain of descriptors ends that does not give its transfer's bytes (R420, R421): at a bad descriptor, or at a list that could not be read,
logged under AER or not. -/
inductive ChainEnd where
  | bad (index : Nat)
  | readErr (aer : Bool)
  deriving DecidableEq, Repr

/-- A command slot (R413): the command from fetch to the writing of its CQ entry. -/
structure Cmd where
  fn : Nat
  sq : Nat
  entry : List Byte
  /-- Order of fetch, and the fetch timestamp (R453). -/
  seq : Nat
  ts : Nat
  /-- The edge count at the fetch (Table GAZ-4, source 0x10). -/
  born : Nat := 0
  /-- The edge count of the tick of the deadline instant, whose cycle is that of the fetch, and the time for which it has waited in supply holds, in
  0.2 ns (R88, R453). -/
  dl : Option Nat := none
  dlWait : Nat := 0
  /-- MODES in force at fetch (R30, R470). -/
  modes : Nat := 0
  /-- It came through a push buffer. -/
  pushed : Bool := false
  /-- 0 fetched, 1 checked and waiting for its lock, 2 running, 3 status determined. -/
  phase : Nat := 0
  status : Nat := 0
  result : Nat := 0
  /-- Host segments of the transfer, as (address, length) (R419, R420), and where a chain of descriptors that is short of the transfer goes on: the
  bad descriptor's index, or its list's read that failed, logged under AER or not. -/
  segs : List (Nat × Nat) := []
  chainEnd : Option ChainEnd := none
  /-- The head word of a write-buffer hit has gone to the host (R448). -/
  headSent : Bool := false
  /-- Blocks ingested or delivered so far; those written to the host before the status (R462). -/
  moved : Nat := 0
  /-- Blocks ingested and held in staging, by index. -/
  staged : Tbl Unit4k := []
  /-- A block has left the staging area (R484). -/
  left : Bool := false
  /-- The highest note among its blocks (R28, R501). -/
  note : Nat := 0
  /-- Ingest has ended at a rejected block (R501). -/
  cut : Bool := false
  /-- A strict read waits for overlapping pieces to land (R447). -/
  strictWait : Bool := false
  /-- The lowest LBA of a read whose block failed, and its status (R504). -/
  rej : Option (Nat × Nat) := none
  pieces : List IPiece := []
  err : ErrInfo := {}
  /-- The slots of the Aborts that wait for this command's entry (R485). -/
  aborter : List Nat := []
  /-- The instant at which the last of them arrived (R349). -/
  abortAt : Nat := 0
  /-- The command outlives its function or its node's PERST_N and posts nothing (R213, R449). -/
  silent : Bool := false
  deriving DecidableEq, Repr

/-- A CQ entry that waits to be written (Table MQP-6). -/
structure CqWait where
  sq : Nat
  cid : Nat
  result : Nat
  status : Nat
  pfz : Bool
  nocoal : Bool
  /-- The command slot that it releases. -/
  slot : Option Nat
  /-- It is the freezing entry of its SQ. -/
  freezing : Bool := false
  deriving DecidableEq, Repr

/-- A submission queue (Table MQP-2). -/
structure Sq where
  st : Nat := 1
  depth : Nat := 2
  base : Nat := 0
  cq : Nat := 0
  push : Bool := false
  defdl : Nat := 7500000
  head : Nat := 0
  tail : Nat := 0
  /-- The push buffer: entries by ring index (R428). -/
  buf : Tbl (List Byte) := []
  /-- The delete command that waits for the drain (R458). -/
  deleter : Option Nat := none
  /-- The queue error log page (R527): freeze record, post-freeze records, oldest first, and its counts. -/
  frec : Option (List Byte) := none
  precs : List (List Byte) := []
  ovf : Bool := false
  freezes : Nat := 0
  gen : Nat := 0
  thawTs : Nat := 0
  thawAct : Nat := 0
  thawDisc : Nat := 0
  postcnt : Nat := 0
  /-- The instant of the last freeze, with the fetch number of its command (R517). -/
  frzAt : Nat := 0
  frzSeq : Nat := 0
  deriving DecidableEq, Repr

/-- A completion queue. -/
structure Cq where
  depth : Nat := 2
  base : Nat := 0
  vec : Nat := 0
  cthr : Nat := 0
  ctime : Nat := 0
  head : Nat := 0
  tail : Nat := 0
  phase : Nat := 1
  /-- Entries that wait to be written, oldest first (R424). -/
  wait : List CqWait := []
  /-- Unsignalled entries and the tick of the oldest (R434). -/
  unsig : Nat := 0
  oldest : Nat := 0
  /-- A CQ-full episode is on (R424). -/
  full : Bool := false
  deriving DecidableEq, Repr

/-- A holder of a range lock: a command slot, an owner's piece, a refresh, relocation, reallocation or resync by number. -/
inductive Who where
  | slot (i : Nat)
  | piece (i : Nat)
  | refresh (k : Nat)
  | reloc (i : Nat)
  | realloc (loc : Nat)
  | resync (i : Nat)
  deriving DecidableEq, Repr

/-- An entry of the range-lock table, or a request for one (R439 to R445). -/
structure Lock where
  vol : Nat
  lba : Nat
  n : Nat
  excl : Bool
  req : Nat
  who : Who
  held : Bool := false
  deriving DecidableEq, Repr

/-- The range locks: entries in arrival order, presented requests, requests outside a full table (R441, R445). -/
structure Locks where
  table : List Lock := []
  reqs : List Lock := []
  queue : List Lock := []
  /-- Event 149 has been raised in the episode of a full table. -/
  full : Bool := false
  deriving DecidableEq, Repr

/-- A definition of a volume or span by its code, 0–63 and 64–79 (R465, Table MED-9), and its statistics (R483). -/
structure Vol where
  modes : Nat := 0
  fmask : Nat := 0
  cap : Nat := 0
  kver : Option Nat := none
  resv : Nat := 0
  /-- For a span: attached on this node as ingress (R468). -/
  attached : Bool := false
  /-- For a span: the CRC-32C of its chart record (R575), and short (R575). -/
  crc : Nat := 0
  short : Bool := false
  written : Nat := 0
  readN : Nat := 0
  repaired : Nat := 0
  rejected : Nat := 0
  unver : Nat := 0
  lostN : Nat := 0
  gen : Nat := 0
  deriving DecidableEq, Repr

/-- A piece at its owner: a part of a write within one extent (R358, R579, R583). -/
structure OPiece where
  vol : Nat
  lba : Nat
  n : Nat
  modes : Nat
  /-- The local command it serves, or the ingress node and its command slot. -/
  slot : Option Nat
  src : Nat := 0
  xid : Nat := 0
  keyTick : Nat := 0
  keyNode : Nat := 0
  /-- 0 in the settle queue, 1 waiting for its lock, 2 taking data, 3 acknowledged or failed, waiting to land. -/
  phase : Nat := 0
  /-- Blocks consumed before the grant, by index in the piece (R579). -/
  staged : Tbl Unit4k := []
  /-- Blocks committed to the slab; those accepted at transit and not yet reported in an ACCEPT, by index. -/
  got : Nat := 0
  unrep : List Nat := []
  status : Option Nat := none
  note : Nat := 0
  /-- The committed blocks, and those still to be CONFIRMed by the twin, by index in the piece (R582). -/
  comm : List Nat := []
  unconf : List Nat := []
  landed : Bool := false
  /-- Its acknowledgement fell back to Landed in Solo (R34). -/
  asLanded : Bool := false
  /-- It waits for a slab since it found none (R399). -/
  wantSlab : Bool := false
  /-- The fetch number of its command, where this node is its ingress node (R463). -/
  seq : Option Nat := none
  /-- A read of another node (R440), and the edge of its first parcel. -/
  read : Bool := false
  edge : Nat := 0
  /-- KVER of its ingress key (R511). -/
  kver : Nat := 0
  /-- The requester index of its lock (R440), and what its committed blocks replaced in their slab (R421). -/
  req : Nat := 0
  old : Tbl Unit4k := []
  deriving DecidableEq, Repr

/-- A slab of the capture pool (R398): an owned extent, or a twin copy. -/
structure Slab where
  vol : Nat
  ext : Nat
  twin : Bool
  /-- The committed blocks by index in the extent. -/
  blocks : Tbl Unit4k := []
  /-- Blocks whose copy the twin has CONFIRMed (R588). -/
  conf : List Nat := []
  /-- Some block of it is Held, Landed, Local (R104, R589). -/
  modes : Nat := 0
  /-- The MODES of the piece whose block was committed last (R593). -/
  last : Nat := 0
  /-- It stands on an out-of-service actuator (R371). -/
  strand : Bool := false
  /-- Blocks that wait for their RESTORE from the twin (R404). -/
  bad : List Nat := []
  deriving DecidableEq, Repr

/-- A placement-map entry (Table MED-3) of a physical extent, and whether its map copies are stored (R358). -/
structure Ent where
  vol : Nat
  ext : Nat
  reloc : Bool := false
  stored : Bool := false
  deriving DecidableEq, Repr

/-- A reallocated sector's spare, and whether its table entry is stored (R360, R361). -/
structure Spare where
  loc : Nat
  vol : Nat
  lba : Nat
  stored : Bool := false
  deriving DecidableEq, Repr

/-- A range of LBAs: unwritable or lost (R375, R482): kind 0, 4 "media" or 5 "buffer". -/
structure LRange where
  vol : Nat
  kind : Nat
  lba : Nat
  n : Nat
  merged : Bool := false
  deriving DecidableEq, Repr

/-- A block to be read from the media, and whom it serves. -/
structure RJob where
  vol : Nat
  lba : Nat
  /-- The reader: a command slot, or 65536 + the number of a span piece; none for a scan or a relocation. -/
  slot : Option Nat := none
  /-- 0 a reader, 2 a scan, 3 a relocation's source. -/
  why : Nat := 0
  deriving DecidableEq, Repr

/-- The media (spec/11_media.md). What is on the platters survives every reset. -/
structure Med where
  /-- Sectors on the platters by place: block and tag as stored. -/
  disc : Tbl Unit4k := []
  /-- Placement map by physical extent. -/
  map : Tbl Ent := []
  /-- The maps have been built (R359). -/
  loaded : Bool := false
  /-- Map blocks stored in one copy: 1 copy A alone, 2 copy B alone, 3 neither (R376), and lost at boot (R359). -/
  single : Tbl Nat := []
  /-- Map spares of a head that are used up (R376). -/
  mapUsed : Tbl Nat := []
  /-- Physical extents made unusable by a lost map block (R359). -/
  dead : List Nat := []
  spares : Tbl Spare := []
  /-- Spares used without success (R360). -/
  spent : List Nat := []
  unwr : List LRange := []
  lost : List LRange := []
  lostMerged : Bool := false
  lostGen : Nat := 0
  vols : Tbl Vol := []
  /-- Redirected stripes as (span × 2^40 + stripe, peer) (R598). -/
  redir : Tbl Nat := []
  /-- Blocks to be read from the media, by place. -/
  reads : List (Nat × RJob) := []
  /-- Pieces eligible for placement, in order (R364), and the set latched at the edge. -/
  elig : List Nat := []
  eligNow : List Nat := []
  /-- The zone placed last, for ORDER 1 (R364). -/
  lastZone : Nat := 0
  /-- Event 130 stands; relocations in progress as target by source (R366, R370). -/
  noFree : Bool := false
  moves : Tbl Nat := []
  deriving DecidableEq, Repr

/-- A route to a node: output port, waypoint, reachable (R551). -/
structure Route where
  port : Nat
  waypt : Option Nat := none
  reach : Bool := true
  deriving DecidableEq, Repr

/-- A fabric port (spec/16_efina.md). -/
structure Port where
  /-- The last flit that the peer acknowledged, the NAKs of that one in a row, the instant of the last advance (R533, R534). -/
  txAck : Nat := 4095
  naks : Nat := 0
  ackAt : Nat := 0
  /-- Parcel words that wait for a flit; the last sequenced flit sent; the replay buffer: flits sent and not acknowledged, oldest first, with their
  parcel data (R533). -/
  txWords : List (List Byte) := []
  txSeq : Nat := 4095
  unacked : List (Nat × List Byte) := []
  /-- The last good sequenced flit received; a replay is awaited; the instant of the last good flit (R533, R534). -/
  rxSeq : Nat := 4095
  waitReplay : Bool := false
  goodAt : Nat := 0
  /-- The words of a partly received parcel still to come, and its header (R535). -/
  rxLeft : Nat := 0
  rxHead : List Byte := []
  /-- Words that have left the receive buffer and are not yet returned to the peer, by VC and class (R545). -/
  owed : List Nat := [0, 0, 0, 0, 0, 0, 0, 0]
  /-- Credits held at the peer by VC and class, at 2 × VC + class; parcels that wait for them; the VC and the input served last (R545, R546). -/
  credits : List Nat := [64, 64, 768, 768, 640, 640, 576, 576]
  queue : List Parcel := []
  lastVc : Nat := 0
  lastIn : Nat := 4
  /-- The edge at which training started, and the edge from which it may start again (R536). -/
  trainEdge : Nat := 0
  again : Nat := 0
  /-- The serial of the peer whose HELLO was accepted (R534, R538). -/
  peerSerial : Option (List Byte) := none
  /-- Edges of the failures of the last 250 000 ticks; held down until an edge, or until reset (R538, R539). -/
  fails : List Nat := []
  heldUntil : Option Nat := none
  heldGood : Bool := false
  /-- Replays in the window of R540. -/
  replays : Nat := 0
  /-- Doubled delays of the exchanges of a measurement, in 0.25 ns (R566), and the edge of the last measurement. -/
  delays : List Int := []
  dlyEdge : Nat := 0
  /-- Parcels kept for the routing rules while the port is down (R535, R555). -/
  kept : List Parcel := []
  deriving DecidableEq, Repr

/-- A request or bulk parcel whose response has not arrived (R570). -/
structure Sent where
  p : Parcel
  /-- Tick from which a NOTREADY piece is sent again (R578). -/
  again : Option Nat := none
  deriving DecidableEq, Repr

/-- The identity of a consumed request or bulk parcel (R571). -/
structure Ident where
  src : Nat
  kind : Nat
  xid : Nat
  keyTick : Nat
  lba : Nat
  deriving DecidableEq, Repr

/-- The fabric (spec/16_efina.md). -/
structure Fab where
  ports : Tbl Port := []
  view : Tbl Lsr := []
  routes : Tbl Route := []
  /-- The first epoch switch has put a route table in force (R561). -/
  tabled : Bool := false
  /-- The sequence number of this node's own records. -/
  seq : Nat := 0
  /-- The tick S of the next epoch switch (R554). -/
  switch : Option Nat := none
  /-- Election: the lowest serial heard and the edge of its last change; it has ended (R559). -/
  low : List Byte := []
  lowEdge : Nat := 0
  elected : Bool := false
  /-- The edge at which discovery began (R561). -/
  began : Nat := 0
  /-- The ring walks in progress, as (dimension, start edge), and the sizes measured. -/
  walk : Option (Nat × Nat) := none
  walked : List (Nat × Nat) := []
  /-- The edge of the view's last change, and the tick in which discovery ended (R561, R562). -/
  viewEdge : Nat := 0
  ended : Option Nat := none
  /-- Time (R564 to R569): the frequency term in 0.005 ppm, the error last measured in 0.25 ns, ticks without TIME, ticks in a row with
  |e| ≥ 40 ns, the load's edge; the node has been root. -/
  fterm : Int := 0
  err : Int := 0
  quiet : Nat := 0
  badRun : Nat := 0
  loadEdge : Option Nat := none
  wasRoot : Bool := false
  await : List Sent := []
  seen : List Ident := []
  seenPrev : List Ident := []
  /-- Statuses of pieces that this owner has reported by DONE, by the piece's identity, of the current and the previous epoch (R570). -/
  done : List (Ident × Nat) := []
  donePrev : List (Ident × Nat) := []
  /-- Blocks that a RESENDQ has asked for once more (R502). -/
  asked : List Ident := []
  /-- Event 185 has been raised in this tick (R543). -/
  dropped : Bool := false
  /-- SerDes loops: the edge at which CTLE peaking last moved, by lane (R541). -/
  ctleEdge : Tbl Nat := []
  deriving DecidableEq, Repr

/-- An extent of the dirty list (R588 to R593): LACK or FREE, and the blocks whose CONFIRM resync waits for. -/
structure Dirty where
  lack : Bool
  sent : Bool := false
  left : List Nat := []
  deriving DecidableEq, Repr

/-- A twin parcel sent and not yet answered: its type, volume code, extent and block. -/
structure TwinSent where
  kind : Nat
  vol : Nat
  ext : Nat
  blk : Nat
  deriving DecidableEq, Repr

/-- The Solo record in progress (R588, R594). -/
structure SoloRec where
  ts : Nat
  cause : Nat
  lack : Nat
  blocks : Nat := 0
  deriving DecidableEq, Repr

/-- A peer spare remap at the owner (Table TWN-3): the stripe, the block that found no spare, candidates not yet asked, the peer asked, the step. -/
structure Remap where
  span : Nat
  stripe : Nat
  lba : Nat
  cands : List Nat := []
  peer : Nat := 0x3FF
  step : Nat := 1
  deriving DecidableEq, Repr

/-- Twins and spans (spec/17_twins_spans.md). -/
structure Twn where
  dirty : Tbl Dirty := []
  seq : Nat := 0
  await : Tbl TwinSent := []
  solo : Option SoloRec := none
  /-- The tick edge count at the last HEARTBEAT consumed. -/
  hbEdge : Nat := 0
  /-- The tick of the last HEARTBEAT sent (R586). -/
  hbSent : Option Nat := none
  /-- The copies have been sent back since the twin's heartbeats became FRESH; RECLAIMs not yet confirmed; reclaim toward the twin done; resync done; the overflow makes the next resync whole. -/
  rcSent : Bool := false
  rcLeft : Nat := 0
  rcDone : Bool := false
  rsDone : Bool := false
  /-- The node's own reclaim has ended: a heartbeat with RCDONE came (R596). -/
  reclaimed : Bool := false
  /-- Event 168 has been raised in this tick (R580). -/
  late : Bool := false
  remaps : Tbl Remap := []
  /-- Stripes that this peer takes, by span × 2^40 + stripe: the number of the piece that gathers their blocks (R597). -/
  taking : Tbl Nat := []
  /-- Remapped stripes held here as peer, by the same key (R598). -/
  peers : List Nat := []
  deriving DecidableEq, Repr
/-- An admin self-test under way (R654 to R657): its command, TEST and ACTMASK, the edge count of its start, the heads still to be calibrated, the
seeks still to be made by actuator × 256 + profile row, the ticks it needs at least, what it has tested and found failing, its first failure
code, whether an Abort ends it. -/
structure TestRun where
  slot : Option Nat
  test : Nat
  mask : Nat
  edge : Nat
  heads : List Nat := []
  sweep : Tbl Nat := []
  need : Nat := 0
  count : Nat := 0
  fails : Nat := 0
  code : Nat := 0
  abort : Bool := false
  deriving DecidableEq, Repr

/-- The test access port (R659 to R661): the instruction shifted in, the register it selects (0 bypass, 1 IDCODE, 2 boundary), the boundary
register's latched cells, what was captured last, the pins' drive (0 system, 1 boundary register, 2 high impedance), and the cells whose drivers
the boundary register has (R661). -/
structure Tap where
  ir : Nat := 1
  sel : Nat := 1
  cells : Nat := 0
  capture : Nat := 0
  drive : Nat := 0
  driven : Nat := 0
  /-- What the last instruction scan shifted out: the value that the instruction register captures. -/
  irOut : Nat := 1
  deriving DecidableEq, Repr

/-- Self-test and debug (spec/20_selftest_debug.md): the results page, newest first, with its generation (Table TST-5), the admin test, the
test access port, which no device reset clears. -/
structure Tst where
  results : List (List Byte) := []
  gen : Nat := 0
  run : Option TestRun := none
  tap : Tap := {}
  deriving DecidableEq, Repr


/-- The state of the block. -/
structure State where
  /-- The commands that wait, first in, first out. -/
  pending : List Instr := []
  /-- Every stored register field (the register tables; reset values as the tables give them). -/
  regs : RegFile := []
  /-- The edge latch of the current tick and that of the previous one, for the registers read through it (R697, R701). -/
  latch : RegFile := []
  latchPrev : RegFile := []
  /-- The contexts of the selected heads, as this tick's edge latched them, and the edge before (Table CHN-7, R701). -/
  ctxL : List HeadCtx := []
  ctxPrev : List HeadCtx := []
  /-- TWN_SPAN of every span as the edge latch holds it, and as the latch of the tick before (R697, Table TWN-5). -/
  spansL : List Nat := []
  spansPrev : List Nat := []
  /-- W1C bits that the hardware has set in the current cycle, as (field key, bit) (R14). -/
  setNow : List (Nat × Nat) := []
  /-- Read latches and write staging dwords, by function × 2^32 + register address (R18). -/
  rdLatch : Tbl Nat := []
  staging : Tbl Nat := []
  /-- The model's own counter of free values taken (assumption log 3). -/
  freeCount : Nat := 0
  /-- The model's own record of what the block has sent, newest first (assumption log 6). -/
  out : List Output := []
  /-- The 16 MiB bench buffer (R377); an unlisted byte reads 0 (assumption log 7). -/
  buf : Memory := []
  /-- The 64 MiB chart flash (R155); an unlisted byte reads 0xFF, the erased value (assumption log 7). -/
  flash : Memory := []
  /-- Adaptive loops by loop number: AVS 0, fly height 100 + head, channel 200 + channel, SerDes 300 + lane, placement 400. -/
  loops : Tbl Loop := []
  clk : Clk := {}
  pwr : Pwr := {}
  svy : Svy := {}
  pin : Pin := {}
  chart : Chart := {}
  boot : Boot := {}
  gaz : Gaz := {}
  evt : Evt := {}
  /-- MSI-X table entries and pending bits by function × 256 + local vector, and functions with their Function Mask set (R435, R690). -/
  msix : Tbl Msix := []
  msixFnMask : List Nat := []
  /-- The trace port's FIFO, oldest first, and the messages lost since room was last found (R664, R665). -/
  trace : List (List Byte) := []
  traceLost : Nat := 0
  /-- Bytes of the oldest message that have left (R664). -/
  traceAt : Nat := 0
  /-- Control-engine trace: tick of the last word, and words left of the post capture, by engine (R313, R315). -/
  trcTick : Tbl Nat := []
  trcLeft : Tbl Nat := []
  /-- The largest |PES| of the estimates of this tick and of the previous tick, in 1/4096 track, by actuator (Table GAZ-4). -/
  pesMax : Tbl Nat := []
  pesPrev : Tbl Nat := []
  /-- A TIME parcel from upstream arrived in the tick that the edge latch holds (Table GAZ-4, source 0x0A), and in this tick. -/
  timeSeen : Bool := false
  timeNow : Bool := false
  /-- The spindle, the actuators by number, the retracts that run in the drivers, and the actuators left in place, which are
  out of service at the next start-up (R256, R284, R285). The last two survive every reset. -/
  spn : Spn := {}
  acts : Tbl Act := []
  retr : Tbl Retract := []
  left : List Nat := []
  /-- The control engines by number. -/
  eng : Tbl Eng := []
  /-- Media write jobs by physical sector (R272, R338). -/
  wr : Tbl WJob := []
  /-- Channels by number and head contexts by head. -/
  chan : Tbl Chan := []
  heads : Tbl HeadCtx := []
  /-- Command slots (R413), submission and completion queues by function × 65536 + queue, and the fetch order's counters: the next
  fetch number, the function visited last and the SQ served last by function (R429). -/
  cmds : Tbl Cmd := []
  sqs : Tbl Sq := []
  cqs : Tbl Cq := []
  fetchSeq : Nat := 0
  lastFn : Nat := 15
  lastSq : Tbl Nat := []
  /-- SQs that the visit under way still serves, the current one first, and the entries it may still take of that one (R429). -/
  visit : List Nat := []
  burst : Nat := 0
  /-- Fetch credits left, by function (R430), and edge counts of MQP_CTL.EN writes (R416). -/
  credit : Tbl Nat := []
  enEdge : Tbl Nat := []
  locks : Locks := {}
  /-- Blocks of acknowledged writes that the staging area still holds, as (volume code, LBA), newest first: the write-buffer index (R448). -/
  wbuf : List (Nat × Nat) := []
  /-- The Device Control register of the functions (R410, R411). -/
  devctl : Tbl DevCtl := []
  /-- Pieces at their owner, slabs, the slab requests that wait in order (pieces, or copies of the twin), event 143's episode. -/
  pieces : Tbl OPiece := []
  slabs : Tbl Slab := []
  slabWait : List Nat := []
  poolFull : Bool := false
  med : Med := {}
  /-- Data keys and tweak keys by volume code: the key RAM (R473). -/
  keys : Tbl (List Byte) := []
  /-- Errors of class C and of class U per DRAM channel in the current window, and event 138's flag (R400, R406). -/
  ceWin : Tbl Nat := []
  ueWin : Tbl Nat := []
  fab : Fab := {}
  twn : Twn := {}
  /-- Blocks of reads that wait for their DRAM read, as (slot, LBA) (R396); COPY parcels that wait for a slab (R399, R544). -/
  dreads : List (Nat × Nat) := []
  copyWait : Tbl Parcel := []
  /-- Writes completed whose remote pieces are not known to have landed, and those of which a block was lost later, as (fetch number, volume
  code) (R463, R464). -/
  remote : List (Nat × Nat) := []
  lostSeq : List (Nat × Nat) := []
  /-- The data line within the group that the scrub visits next, and the edge count at which its present pass began (R401). -/
  scrubLine : Nat := 0
  scrubEdge : Option Nat := none
  /-- Lines of the DRAM by channel and line number: data lines and check lines; a line not listed holds zero data with valid check bits (R391 to R394).
  Accesses of the channels: 2 × channel, one more for writes (R394). The edge count at which initialisation began. -/
  dram : Tbl (List Byte) := []
  dramAcc : Tbl Nat := []
  dramEdge : Nat := 0
  /-- Self-test and debug. -/
  tst : Tst := {}
  /-- Bench masters promoted in this tick, and those of ended ticks whose publication is due (R389); the credit-refresh slot was missed since
  the last publication (R388). -/
  bench : Bench := {}
  promo : List Nat := []
  promoDue : List Nat := []
  credMissed : Bool := false
  deriving DecidableEq, Repr

/-- How the block stops: never. The spec gives no occurrence after which the block has no next state: errors raise events, post
statuses and set register flags (INVENTORY.md, Faults). No command raises this type, which has no members: safe. -/
inductive Fault where
  deriving DecidableEq, Repr

/-- Why a command has no meaning. -/
inductive Refusal where
  /-- A command that the model has not reached yet, by its mnemonic; raised by the dispatch alone. Safe: the machine stops. -/
  | notModelled (mnemonic : String)
  deriving DecidableEq, Repr

/-- The outcome of a command. -/
abbrev Out := Host.Outcome State Fault Refusal

/-- The block right after a power-on reset, at its release (R58, R198): every register at the reset value of its table, no
chart applied, nothing waiting; the internal state as assumption log 1 says. -/
def State.reset : State := {}

end Sys2Proof.Machine
end

