-- ==== Sys2Proof/Machine/Ops.lean ====
section
/-! DEFINITION. The named operations over registers, memories, records and events that the commands share. -/

namespace Sys2Proof.Machine

/-! ### Register fields -/

/-- The value of a field. -/
def State.g (s : State) (F : Fld) : Nat := s.regs.get F 0 0

/-- The value of a field of block copy `k`. -/
def State.gk (s : State) (F : Fld) (k : Nat) : Nat := s.regs.get F k 0

/-- The value of member `i` of a field of block copy `k`. -/
def State.gki (s : State) (F : Fld) (k i : Nat) : Nat := s.regs.get F k i

/-- A one-bit field as a truth value. -/
def State.on (s : State) (F : Fld) : Bool := s.g F == 1

/-- A one-bit field of block copy `k`. -/
def State.onk (s : State) (F : Fld) (k : Nat) : Bool := s.gk F k == 1

/-- Store member `i` of a field of block copy `k`. -/
def State.pki (s : State) (F : Fld) (k i v : Nat) : State := { s with regs := s.regs.put F k i v }

/-- Store a field of block copy `k`. -/
def State.pk (s : State) (F : Fld) (k v : Nat) : State := s.pki F k 0 v

/-- Store a field. -/
def State.p (s : State) (F : Fld) (v : Nat) : State := s.pki F 0 0 v

/-- Add to a saturating count. -/
def State.bumpki (s : State) (F : Fld) (k i d : Nat) : State := s.pki F k i (satAdd F.w (s.gki F k i) d)

/-- Add to a saturating count of block copy `k`. -/
def State.bumpk (s : State) (F : Fld) (k d : Nat) : State := s.bumpki F k 0 d

/-- Add to a saturating count. -/
def State.bump (s : State) (F : Fld) (d : Nat) : State := s.bumpki F 0 0 d

/-- The hardware sets bit `b` of a W1C field, which a host clear in the same cycle does not undo (R14). -/
def State.hwSet (s : State) (F : Fld) (k i b : Nat) : State :=
  let s := s.pki F k i (setBit (s.gki F k i) b)
  { s with setNow := (F.key k i, b) :: s.setNow }

/-- The hardware clears bit `b` of a field. -/
def State.hwClr (s : State) (F : Fld) (k i b : Nat) : State := s.pki F k i (clrBit (s.gki F k i) b)

/-- Take a free value: one the spec leaves open (assumption log 3). -/
def State.free (s : State) : Nat × State := (Config.freeValue s.freeCount, { s with freeCount := s.freeCount + 1 })

/-- A free value by a salt, for several in one command; `fresh` takes the next set of them (assumption log 3). -/
def State.freeAt (s : State) (salt : Nat) : Nat := Config.freeValue (s.freeCount + 2 ^ 64 * (salt + 1))

/-- The free values of this command are used up. -/
def State.fresh (s : State) : State := { s with freeCount := s.freeCount + 1 }

/-- Record something the block sends. -/
def State.emit (s : State) (o : Output) : State := { s with out := o :: s.out }

/-! ### Time -/

/-- The clock in force is 1.00 GHz (CLK_STAT.ECON). -/
def State.econ (s : State) : Bool := s.on CLK_STAT_ECON

/-- The cycles of the current tick (R8). -/
def State.tickLen (s : State) : Nat := if s.econ then 4000 else 5000

/-- A timestamp of Table CLK-8 (R70). -/
def mkTs (tick econ cycle : Nat) : Nat := tick % 2 ^ 48 * 65536 + econ % 2 * 8192 + cycle % 8192

/-- The timestamp of the present cycle (R70, R72). -/
def State.now (s : State) : Nat := mkTs s.clk.tick (b2n s.econ) s.clk.cycle

/-- The tick number of a timestamp. -/
def tsTick (ts : Nat) : Nat := ts / 65536

/-- The present cycle is no earlier than offset `c` of the tick: a slot's work is done at its place in the tick (R61). -/
def State.atCycle (s : State) (c : Nat) : State :=
  if s.clk.cycle < c then { s with clk := { s.clk with cycle := c }, setNow := [] } else s

/-- The work of slot `b` of Table CLK-5 has ended in this tick (R65). -/
def State.slotDone (s : State) (b : Nat) : State := { s with clk := { s.clk with slots := setBit s.clk.slots b } }

/-- The core runs: no reset, not in Vigil, and the PLL has locked since the reset; it goes on in holdover (R52). -/
def State.running (s : State) : Bool := s.pwr.inReset.isNone && !s.pwr.vigil && s.clk.core

/-- Slot `b` may do its work: once in a tick of a running core (R46, R61). -/
def State.slotOpen (s : State) (b : Nat) : Bool := s.running && s.clk.started && !bitAt s.clk.slots b

/-- A cycle of the clock in force in units of 0.2 ns: 0.8 ns or 1 ns (R8). -/
def State.unit (s : State) : Nat := if s.econ then 5 else 4

/-- The present instant, in units of 0.2 ns from the first edge; a tick is 20 000 of them (R8, R71). -/
def State.instant (s : State) : Nat := s.clk.edges * 20000 + s.clk.cycle * s.unit

/-- The count of core cycles since the lock (R132, R139). -/
def State.cyc (s : State) : Nat := s.clk.base + s.clk.cycle

/-- 5 ms in units of 0.2 ns (R57, R114). -/
def fiveMs : Nat := 25000000

/-- Record the end of start-up stage `i` of the Boot record (R207). -/
def State.stageEndAt (s : State) (i : Nat) : State := { s with boot := { s.boot with ends := Tbl.put s.boot.ends i s.now } }

/-- The endpoint answers BAR0 requests: the chart stage has ended or start-up stopped in fault or chart-absent mode, no reset
and no PERST_N is asserted (R212, R691, Table SYS-13); a declared power loss has stopped the PCIe link (R94). -/
def State.barOpen (s : State) : Bool :=
  s.pwr.inReset.isNone && !s.boot.perst && !s.pwr.vigil && s.pwr.loss.isNone && decide (3 ≤ s.g SYS_BOOT_STAGE)

/-- The IDCODE of the test access port: the stepping in [31:28] (spec/20_selftest_debug.md, Boundary scan). -/
def idcode : Nat := Config.stepping % 16 * 2 ^ 28 + 0x094403A7

/-! ### The active chart -/

/-- The body of a section of the active chart. -/
def secFind (l : List Sec) (typ inst : Nat) : Option (List Byte) :=
  match l with
  | [] => none
  | c :: t => if c.typ = typ ∧ c.inst = inst then some c.body else secFind t typ inst

/-- The body of section `typ`, instance `inst`, of the active chart. -/
def State.sec (s : State) (typ inst : Nat) : Option (List Byte) := secFind s.chart.secs typ inst

/-- `n` bytes at offset `o` of a section, or the default where the section is absent. -/
def State.secLe (s : State) (typ inst o n d : Nat) : Nat :=
  match s.sec typ inst with
  | some b => leAt b o n
  | none => d

/-- A flag of the active chart's header: LAB is bit 0, ADVANCE bit 1 (Table CHT-2). -/
def State.hdrFlag (s : State) (b : Nat) : Bool := bitAt (leAt s.chart.hdr 24 4) b

/-! ### MSI-X -/

/-- The entry of local vector `vec` of function `fn`. -/
def State.msixAt (s : State) (fn vec : Nat) : Msix := Tbl.getD s.msix (fn * 256 + vec) {}

/-- Send a message on a vector, or collect it in the pending bit while the vector or the function is masked (R435). While
PERST_N is asserted no message is sent (R212), nor after a declared power loss, which stops the link (R94). -/
def State.sendMsix (s : State) (fn vec : Nat) : State :=
  let m := s.msixAt fn vec
  if s.boot.perst || s.pwr.loss.isSome then s
  else if m.masked || s.msixFnMask.contains fn then
    { s with msix := Tbl.put s.msix (fn * 256 + vec) { m with pend := true } }
  else s.emit (.msix fn vec)

/-! ### Solid benches -/

/-- The solid bench with a given owner in split mode, by its number 0 to 7 (Table BEN-3). -/
def State.solidOf (s : State) (owner : Nat) : Option Nat :=
  if s.g BEN_CFG_MODE = 1 then (List.range 8).find? fun i => s.gki BEN_OWN 0 i == owner else none

/-- The buffer address of solid bench 56 + `i` (Table BEN-1). -/
def solidBase (i : Nat) : Nat := 0xE00000 + 0x40000 * i

/-! ### The trace port and the control-engine trace -/

/-- The trace port runs (R664). -/
def State.tracePort (s : State) : Bool :=
  bitAt (s.secLe 0xA0 0 6 1 0) 1 && (s.solidOf 6).isSome && !s.on TST_FUSE_LOCK &&
    (List.range 9).all fun i => s.gki PIN_FUNC 0 (16 + i) == 3

/-- A message of Table TST-8. -/
def traceMsg (kind arg ts value : Nat) : List Byte :=
  0xA5 :: byte kind :: leBytes arg 2 ++ leBytes ts 8 ++ leBytes value 4

/-- A message enters the trace FIFO; one that finds it full, or comes before the room has returned, is lost and counted (R665). -/
def State.tracePush (s : State) (m : List Byte) : State :=
  if s.tracePort then
    if s.trace.length < 16384 ∧ s.traceLost = 0 then { s with trace := s.trace ++ [m] } else { s with traceLost := s.traceLost + 1 }
  else s

/-- The trace port in a tick: one byte on each edge of a 125 MHz clock, 1000 bytes of the FIFO's messages; where messages were lost, one message of kind
3 takes the room that returns (R664, R665). DESIGN CHOICE (log 167): the bytes of a tick leave at its beginning. -/
def State.traceEdge (s : State) : State :=
  if s.tracePort then
    let n := min 1000 (16 * s.trace.length - s.traceAt)
    let s := if n = 0 then s else s.emit (.trace (((s.trace.take 64).flatten.drop s.traceAt).take n))
    let s : State := { s with trace := s.trace.drop ((s.traceAt + n) / 16), traceAt := (s.traceAt + n) % 16 }
    if s.traceLost = 0 ∨ 16384 ≤ s.trace.length then s else { s with trace := s.trace ++ [traceMsg 3 s.traceLost s.now 0], traceLost := 0 }
  else s

/-- A trigger of engine `k`'s trace with `post` further words: taken while armed, else ignored and counted (R314, R315). -/
def State.trcTrigger (s : State) (k post : Nat) : State :=
  if s.gk CTL_TRCSTAT_STATE k = 1 then
    let written := Tbl.find s.trcTick k == some s.clk.tick
    let w := s.gk CTL_TRCSTAT_WPTR k
    let s := s.pk CTL_TRCSTAT_STATE k 2
    let s := s.pk CTL_TRCTS k s.now
    let s := s.pk CTL_TRCTRIGW k (if written then (w + 8191) % 8192 else w)
    { s with trcLeft := Tbl.put s.trcLeft k (post + (if written then 0 else 1)) }
  else if s.gk CTL_TRCSTAT_STATE k ≥ 2 then s.bumpk CTL_TRCSTAT_IGNORED k 1
  else s

/-- A source of code `src` triggers engine `k`'s trace where CTL_TRCCTL.SRC selects it (Table CTL-9). -/
def State.trcSource (s : State) (k src : Nat) : State :=
  if s.gk CTL_TRCCTL_SRC k = src then s.trcTrigger k (s.gk CTL_TRCCTL_POST k) else s

/-- The raising of event `e` as a trigger source of every engine: source 4 names the event, source 1 is the guard trip of
the engine's actuator (Table CTL-9). -/
def State.trcEvent (s : State) (e : Nat) : State :=
  [0, 1, 2, 3].foldl (fun s k =>
    let s := if s.gk CTL_TRCCMP_EVT k = e then s.trcSource k 4 else s
    if e = 96 + k then s.trcSource k 1 else s) s

/-! ### Events (spec/19_event_map.md) -/

/-- The routing record of event `e` (Table EVT-2). -/
def State.routeVec (s : State) (e : Nat) : Nat := s.secLe 0x90 0 (16 + 4 * e) 1 0xFF
def State.routeEvo (s : State) (e : Nat) : Nat := s.secLe 0x90 0 (17 + 4 * e) 1 0xFF
def State.routeRec (s : State) (e : Nat) : Bool := bitAt (s.secLe 0x90 0 (18 + 4 * e) 1 1) 0
def State.routeFab (s : State) (e : Nat) : Bool := bitAt (s.secLe 0x90 0 (18 + 4 * e) 1 1) 1

/-- Event `e` is pending (R632). -/
def State.evtPend (s : State) (e : Nat) : Bool := bitAt (s.gki EVT_PEND 0 (e / 32)) (e % 32)

/-- Event `e` is masked from MSI-X (R634). -/
def State.evtMasked (s : State) (e : Nat) : Bool := bitAt (s.gki EVT_MASK 0 (e / 32)) (e % 32)

/-- The MSI-X route of a raising: at once where the vector has not sent in this tick, else by the covering message of the
next edge (R636). -/
def State.evtMsg (s : State) (e : Nat) : State :=
  let v := s.routeVec e
  if s.evtMasked e || v == 0xFF then s
  else if s.evt.sent.contains v then
    if s.evt.cover.contains v then s else { s with evt := { s.evt with cover := s.evt.cover ++ [v] } }
  else ({ s with evt := { s.evt with sent := s.evt.sent ++ [v] } } : State).sendMsix 0 v

/-- An event-output line in pulse mode starts or restarts its pulse of 8 × (PW + 1) cycles (R139). -/
def State.evoPulse (s : State) (e : Nat) : State :=
  let l := s.routeEvo e
  if l == 0xFF || s.gki PIN_EVOCFG_MODE 0 l == 0 then s
  else { s with pin := { s.pin with pulse := Tbl.put s.pin.pulse l (s.cyc + 8 * (s.gki PIN_EVOCFG_PW 0 l + 1)) } }

/-- A parcel enters the send queue of 64, or is dropped and counted (R639). -/
def State.evtQueue (s : State) (p : EvtParcel) : State :=
  if s.evt.sendQ.length < 64 then { s with evt := { s.evt with sendQ := s.evt.sendQ ++ [p] } }
  else s.bump EVT_FABCTL_LOST 1

/-- The fabric route of a raising: one parcel for the first raising of the tick; later ones are counted for the parcel of the
next edge (R639). -/
def State.evtFab (s : State) (e : Nat) : State :=
  if !s.routeFab e then s
  else if s.evt.fabSent.contains e then
    let p := match Tbl.find s.evt.fabCover e with
      | some p => { p with count := satAdd 32 p.count 1 }
      | none => { event := e, ts := s.now, count := 1 }
    { s with evt := { s.evt with fabCover := Tbl.put s.evt.fabCover e p } }
  else
    ({ s with evt := { s.evt with fabSent := s.evt.fabSent ++ [e] } } : State).evtQueue { event := e, ts := s.now, count := 1 }

/-- The snapshot lists of the chart, as (list, trigger event, LFLAGS, addresses) (Table GAZ-5). -/
def parseLists (b : List Byte) (i : Nat) : Nat → List (Nat × Nat × Nat × List Nat)
  | 0 => []
  | n + 1 =>
    let m := leAt b 2 1
    (i, leAt b 0 1, leAt b 1 1, (List.range m).map fun j => leAt b (8 + 4 * j) 4) ::
      parseLists (b.drop (ceilDiv (8 + 4 * m) 16 * 16)) (i + 1) n

/-- The snapshot lists of the active chart. -/
def State.snapLists (s : State) : List (Nat × Nat × Nat × List Nat) :=
  match s.sec 0x80 0 with
  | none => []
  | some b => parseLists (b.drop (16 + 144 * leAt b 0 1 + 16 * leAt b 1 1)) 0 (leAt b 2 1)

/-- Arm snapshot list `i` for an event at the present cycle; arming an armed list merges (R625). -/
def State.snapArm (s : State) (i e : Nat) : State :=
  let a := match Tbl.find s.gaz.armed i with
    | some a => { a with merged := true }
    | none => { ts := s.now, event := e, next := decide (3400 ≤ s.clk.cycle) }
  { s with gaz := { s.gaz with armed := Tbl.put s.gaz.armed i a } }

/-- Arm every list that event `e` triggers (R625). -/
def State.snapTrig (s : State) (e : Nat) : State :=
  s.snapLists.foldl (fun s l => if l.2.1 = e then s.snapArm l.1 e else s) s

/-- The Event record of a raising falls due once per tick (R638); before the chart is applied it is due as if REC were 1
(R641), and events 17 and 18 whatever REC holds. -/
def State.evtDue (s : State) (e : Nat) : State :=
  if !(s.routeRec e || !s.chart.applied || e == 17 || e == 18) then s
  else if s.evt.due.any (fun d => d.1 == e && d.2.2 == s.clk.edges) then s
  else { s with evt := { s.evt with due := s.evt.due ++ [(e, s.now, s.clk.edges)] } }

/-- The pending bit and the count of a raising (R632). -/
def State.evtCount (s : State) (e : Nat) : State :=
  let s := s.hwSet EVT_PEND 0 (e / 32) (e % 32)
  { s with evt := { s.evt with
    early := if s.chart.applied then s.evt.early.filter (· != e) else s.evt.early
    cnt := Tbl.put s.evt.cnt e (satAdd 32 (Tbl.getD s.evt.cnt e 0) 1) } }

/-- A raising as a message on the trace port, where TST_TRCEVT selects it (R665). -/
def State.evtTrace (s : State) (e : Nat) : State :=
  if bitAt (s.gki TST_TRCEVT 0 (e / 32)) (e % 32) then s.tracePush (traceMsg 1 e s.now 0) else s

/-- The message, the line and the parcel of a raising: none before the chart is applied (R641). -/
def State.evtRoutes (s : State) (e : Nat) : State := if s.chart.applied then ((s.evtMsg e).evoPulse e).evtFab e else s

/-- Event `e` is raised (R632, Table EVT-4): its pending bit and count, its record, the snapshot lists and traces it triggers, its message, line and
parcel. -/
def State.raise (s : State) (e : Nat) : State :=
  (((((s.evtCount e).evtDue e).snapTrig e).trcEvent e).evtTrace e).evtRoutes e

/-! ### Records (spec/18_gazetteer.md) -/

/-- The types that Table GAZ-2 classes P. -/
def persistentTypes : List Nat :=
  [0x01, 0x02, 0x04, 0x05, 0x06, 0x07, 0x08, 0x09, 0x0A, 0x0B, 0x0E, 0x0F, 0x10, 0x11, 0x13, 0x14, 0x19, 0x1B, 0x1C, 0x1D,
    0x1E, 0x21, 0x22, 0x23]

/-- The types that are written twice, opening and closing (R606). -/
def twiceTypes : List Nat := [0x0A, 0x10, 0x1B]

/-- The body of a record of length `len` with its fields given as (offset in the record, size, value); bytes its type does
not define are 0. -/
def recBody (len : Nat) (fields : List (Nat × Nat × Nat)) : List Byte :=
  fields.foldl (fun b f => putLe b (f.1 - 16) f.2.1 f.2.2) (zeros (len - 20))

/-- A record of Table GAZ-2 from its fields. -/
def mkRec (typ len : Nat) (fields : List (Nat × Nat × Nat)) : Rec :=
  { typ, len, body := recBody len fields, persist := persistentTypes.contains typ && !twiceTypes.contains typ }

/-- The closing record of a type that is written twice: CLOSE at 1, and persistent (R606). -/
def mkClose (typ len : Nat) (fields : List (Nat × Nat × Nat)) : Rec :=
  { typ, len, body := recBody len fields, close := true, persist := persistentTypes.contains typ }

/-- Bytes 1 to LEN − 1 of a record after byte 0: header with its HCRC, body, RCRC (Table GAZ-1). -/
def recTail (r : Rec) (flashForm : Bool) (stamp : List Byte) : List Byte :=
  let h := byte r.typ :: leBytes r.len 2 ++ stamp ++
    [byte (b2n flashForm + 2 * b2n (persistentTypes.contains r.typ || r.persist) + 4 * b2n r.close), 0]
  let head := h ++ leBytes (crc16 h) 2
  if r.len < 32 then head else head ++ r.body ++ leBytes (crc32c (head ++ r.body)) 4

/-- The bytes of a record in ring form (R602). -/
def ringBytes (r : Rec) (seq : Nat) : List Byte := 0 :: recTail r false (leBytes seq 6 ++ zeros 2)

/-- The bytes of a record in flash form, VALID still erased (R603, R604). -/
def flashBytes (r : PRec) : List Byte := 0xFF :: recTail r.r true (leBytes r.opsec 5 ++ leBytes r.pcycle 3)

/-- The size of the RAM ring (R607). -/
def ringSize : Nat := 262144

/-- The buffer address of the RAM ring (R607). -/
def State.ringBase (s : State) : Nat :=
  match s.solidOf 5 with
  | some i => solidBase i
  | none => if s.g BEN_CFG_MODE = 1 then 0xDC0000 else 0xFC0000

/-- Store bytes in the bench buffer. -/
def State.bufWrite (s : State) (a : Nat) (b : List Byte) : State := { s with buf := Memory.write 0 s.buf a b }

/-- Do the byte ranges `[o, o + n)` and `[o', o' + n')` meet. -/
def overlaps (o n o' n' : Nat) : Bool := decide (o < o' + n') && decide (o' < o + n)

/-- Records whose bytes `[o, o + n)` covers leave the ring (R608). -/
def ringDrop (l : List RingEnt) (o n : Nat) : List RingEnt := l.filter fun e => !overlaps e.off e.len o n

/-- The pad that record `r` needs at the end of the ring, where it would pass it (R608). -/
def State.ringPadLen (s : State) (r : Rec) : Nat :=
  if 16 * s.g GAZ_NEWEST_WPTR + r.len > ringSize then ringSize - 16 * s.g GAZ_NEWEST_WPTR else 0

/-- The records of the ring that stay where record `r` enters it (R608). -/
def State.ringKept (s : State) (r : Rec) : List RingEnt :=
  let wp := 16 * s.g GAZ_NEWEST_WPTR
  let n := s.ringPadLen r
  if n = 0 then ringDrop s.gaz.ring wp r.len else ringDrop (ringDrop s.gaz.ring wp n) 0 r.len

/-- A pad of `n` bytes at the write pointer of the ring (R608). -/
def State.ringPad (s : State) (n : Nat) : State :=
  if n = 0 then s else s.bufWrite (s.ringBase + 16 * s.g GAZ_NEWEST_WPTR) (ringBytes { typ := 0, len := n, body := zeros (n - 20) } 0)

/-- The pointer registers of the ring (R602, R608). -/
def State.ringPtrs (s : State) (seq wptr : Nat) (oldest : RingEnt) : State :=
  (((s.p GAZ_NEWEST_SEQ seq).p GAZ_NEWEST_WPTR wptr).p GAZ_OLDEST_SEQ oldest.seq).p GAZ_OLDEST_OPTR (oldest.off / 16)

/-- A record enters the ring: pad at the end where it would pass it, sequence number, bytes, pointers (R602, R608). -/
def State.ringPut (s : State) (r : Rec) : State :=
  let n := s.ringPadLen r
  let off := if n = 0 then 16 * s.g GAZ_NEWEST_WPTR else 0
  let e : RingEnt := { seq := s.g GAZ_NEWEST_SEQ + 1, off, len := r.len }
  let ring := s.ringKept r ++ [e]
  let s := (s.ringPad n).bufWrite (s.ringBase + off) (ringBytes r e.seq)
  let s := { s with gaz := { s.gaz with ring := ring } }
  s.ringPtrs e.seq ((off + r.len) % ringSize / 16) (ring.headD e)

/-- Would a record entering the ring overwrite bytes that a running transfer of log page 0x10 has not moved yet (R610). The
transfer moves the ring bytes it was asked for in ascending order; `x` is the offset it has reached, `e` the end. -/
def State.ringBlocked (s : State) (r : Rec) : Bool :=
  match s.gaz.xfer with
  | none => false
  | some (x, e) =>
    let wp := 16 * s.g GAZ_NEWEST_WPTR
    if wp + r.len > ringSize then overlaps wp (ringSize - wp) x (e - x) || overlaps 0 r.len x (e - x)
    else overlaps wp r.len x (e - x)

/-- A record goes to the ring, waits in the hold queue, or is dropped from a full hold queue (R610). -/
def State.ringOrHold (s : State) (r : Rec) : State :=
  if s.ringBlocked r || !s.gaz.hold.isEmpty then
    if s.gaz.hold.length < 64 then { s with gaz := { s.gaz with hold := s.gaz.hold ++ [r] } }
    else ({ s with gaz := { s.gaz with holdLost := s.gaz.holdLost + 1 } } : State).bump GAZ_DROP_HOLD 1
  else s.ringPut r

/-- Persistent logging stopped: sealed, disabled by the chart, or ended by a power-loss declaration (R601, R618). -/
def State.logStopped (s : State) : Bool := s.on GAZ_STAT_SEALED || s.on GAZ_STAT_PDIS || s.pwr.loss.isSome

/-- The chart's PRATE (Table GAZ-5). -/
def State.prate (s : State) : Nat := s.secLe 0x80 0 8 1 64

/-- A persistent record enters the persistent queue with its stamps, or stays in the ring only and is counted (R603, R616). -/
def State.persistPut (s : State) (r : Rec) : State :=
  if s.logStopped then s
  else if s.gaz.pq.length ≥ 128 then
    ({ s with gaz := { s.gaz with lost2 := s.gaz.lost2 + 1 } } : State).bump GAZ_DROP_PQUEUE 1
  else if s.on GAZ_STAT_PREADY && decide (s.gaz.accepted ≥ s.prate) then
    ({ s with gaz := { s.gaz with lost3 := s.gaz.lost3 + 1 } } : State).bump GAZ_DROP_PRATE 1
  else
    let e : PRec := { r := r, opsec := s.g GAZ_STAMP_OPSEC, pcycle := s.g GAZ_STAMP_PCYCLE }
    let n := s.gaz.accepted + (if s.on GAZ_STAT_PREADY then 1 else 0)
    let s : State := { s with gaz := { s.gaz with pq := s.gaz.pq ++ [e], accepted := n } }
    s.p GAZ_STAT_PQUEUE s.gaz.pq.length

/-- A record waits in the pre-chart buffer of 64, which drops its oldest one where it is full (R609). -/
def State.prePut (s : State) (r : Rec) : State :=
  if s.gaz.pre.length < 64 then { s with gaz := { s.gaz with pre := s.gaz.pre ++ [r] } }
  else ({ s with gaz := { s.gaz with pre := s.gaz.pre.drop 1 ++ [r], preLost := s.gaz.preLost + 1 } } : State).bump GAZ_DROP_PRECHART 1

/-- A record enters: to the pre-chart buffer until the chart is applied (R609), else to the ring and, where its type is
persistent, to the persistent queue (R601). -/
def State.recordPut (s : State) (r : Rec) : State :=
  let s := if r.persist then s.persistPut r else s
  if s.chart.applied then s.ringOrHold r else s.prePut r

/-- A record is made: it enters at once, or, where the records of a cycle are gathered, with them. -/
def State.record (s : State) (r : Rec) : State :=
  match s.gaz.batch with
  | some l => { s with gaz := { s.gaz with batch := some (l ++ [r]) } }
  | none => s.recordPut r

/-- The records of this cycle are gathered from here on (R602, R603). -/
def State.gather (s : State) : State := { s with gaz := { s.gaz with batch := some (s.gaz.batch.getD []) } }

/-- A record among others of one cycle, behind those of a TYPE code no higher than its own. -/
def typePut (r : Rec) : List Rec → List Rec
  | [] => [r]
  | x :: t => if r.typ < x.typ then r :: x :: t else x :: typePut r t

/-- The gathered records of one cycle enter in ascending order of their TYPE code (R602, R603). -/
def State.inOrder (s : State) : State :=
  let l := (s.gaz.batch.getD []).foldl (fun a r => typePut r a) []
  l.foldl State.recordPut { s with gaz := { s.gaz with batch := none } }

/-- Records were dropped or kept ring-only: event 8 and a Dropped record of kind `kind` with the count (Table GAZ-2, Table GAZ-8). -/
def State.dropRecord (s : State) (kind count : Nat) : State :=
  (s.raise 8).record (mkRec 0x20 48 [(16, 8, s.now), (24, 1, kind), (28, 4, count)])

/-- A Dropped record of kind 2 and of kind 3 follows when the persistent queue has room (R616). -/
def State.dropPersist (s : State) : State :=
  let room := decide (s.gaz.pq.length < 128)
  let n2 := s.gaz.lost2
  let n3 := s.gaz.lost3
  let s := if room && decide (0 < n2) then ({ s with gaz := { s.gaz with lost2 := 0 } } : State).dropRecord 2 n2 else s
  if room && decide (0 < n3) then ({ s with gaz := { s.gaz with lost3 := 0 } } : State).dropRecord 3 n3 else s

/-! ### Adaptive loops (R46 to R50, R702) -/

/-- The number of a loop by kind (0 AVS, 1 fly height, 2 channel, 3 SerDes, 4 placement) and place. -/
def loopId (kind i : Nat) : Nat := 100 * kind + i

/-- The pin state of loop `l`. -/
def State.loopAt (s : State) (l : Nat) : Loop := Tbl.getD s.loops l {}

/-- Loop `l` has taken its step of this tick, pinned in the quantities `which` or in none (R47, R48). -/
def State.loopStep (s : State) (l which : Nat) : State :=
  let p := s.loopAt l
  let q := if which = 0 then { p with pinned := false, which := 0, held := false, run := 0, raised := false }
    else { p with pinned := true, which := which, held := false, run := p.run + 1 }
  { s with loops := Tbl.put s.loops l q }

/-- A safety action holds loop `l` in this tick: the tick neither counts toward the episode nor ends it (R49). -/
def State.loopHold (s : State) (l : Nat) : State :=
  { s with loops := Tbl.put s.loops l { s.loopAt l with pinned := false, which := 0, held := true } }

end Sys2Proof.Machine
end

