-- ==== Sys2Proof/Machine/Envelope.lean ====
section
/-! DEFINITION. Tunables, their chart envelopes, the host's bounds, the effective envelope and the value in force
(spec/01_capture_model.md R42 to R47, spec/05_chart.md Tables CHT-7 and CHT-8, R180 to R183, R705). -/

namespace Sys2Proof.Machine

/-- The three kinds of tunable (R181). -/
inductive TunKind where
  | range | subset | bits
  deriving DecidableEq, Repr

/-- A row of Table CHT-8: kind, signed or not, hardware range, default envelope and INIT. -/
structure TunRow where
  kind : TunKind
  signed : Bool
  hwLo : Int
  hwHi : Int
  lo : Int
  hi : Int
  init : Int
  deriving DecidableEq, Repr

/-- The number of declared actuators (Table SRV-2, byte 0 of section 0x0010). -/
def State.nAct (s : State) : Nat := s.secLe 0x10 0 0 1 0

/-- The number of declared heads (Table SRV-2, byte 1 of section 0x0010). -/
def State.nHead (s : State) : Nat := s.secLe 0x10 0 1 1 0

/-- The number of zones (Table MED-2, byte 0 of section 0x0040). -/
def State.nZones (s : State) : Nat := s.secLe 0x40 0 0 1 0

/-- Table CHT-8: the row of a tunable. -/
def State.tunRow (s : State) (id inst : Nat) : Option TunRow :=
  let acts : Int := (2 ^ s.nAct - 1 : Nat)
  let clk : Int := if s.on CLK_CFG_ECON_EN then 3 else 2
  let mask : Int := ((List.range 16).foldl (fun m i => m + s.gki PIN_HMASK 0 (16 * inst + i) * 2 ^ i) 0 : Nat)
  match id with
  | 0x1 => some ⟨.range, false, 1400, 1700, 1400, 1700, 1700⟩
  | 0x2 => some ⟨.subset, false, 0, 3, 0, clk, clk⟩
  | 0x3 => some ⟨.range, false, 0, 1500, 0, 1000, 0⟩
  | 0x4 => some ⟨.range, true, -512, 511, -256, 255, 0⟩
  | 0x5 => some ⟨.range, true, -64, 63, -32, 31, 0⟩
  | 0x6 => some ⟨.range, false, 0, 40, 0, 30, 12⟩
  | 0x7 => some ⟨.range, false, 0, 150, 0, 100, 0⟩
  | 0x8 => some ⟨.subset, false, 0, 15, 0, acts, acts⟩
  | 0x9 => some ⟨.range, false, 0, (s.nZones : Int) - 1, 0, (s.nZones : Int) - 1, 0xFFFFFFFF⟩
  | 0xA => some ⟨.range, false, 1, 65535, 250, 65535, 2500⟩
  | 0xB => some ⟨.range, false, 0, 65535, 0, 65535, 0⟩
  | 0xC => some ⟨.bits, false, 0, 65535, 0, mask, 0⟩
  | 0xD => some ⟨.range, false, 1, 1024, 1, 1024, 1024⟩
  | _ => none

/-- Is `inst` an instance of tunable `id` (Table CHT-8). -/
def tunInst (id inst : Nat) : Bool :=
  match id with
  | 0x1 => inst == 0
  | 0x2 => inst == 0
  | 0x3 => decide (inst < 20)
  | 0x4 => decide (inst < 4)
  | 0x5 => decide (inst < 4)
  | 0x6 => decide (inst < 24)
  | 0x7 => decide (inst < 24)
  | 0x8 => decide (inst < 64) || (decide (0x8000 ≤ inst) && decide (inst < 0x8010))
  | 0x9 => decide (inst < 64) || (decide (0x8000 ≤ inst) && decide (inst < 0x8010))
  | 0xA => inst == 0
  | 0xB => inst == 0
  | 0xC => decide (inst < 4)
  | 0xD => decide (inst < 16)
  | _ => false

/-- Entry `i` of an envelope table as (ID, INST, offset in the body) (Table CHT-7). -/
def envEntries (b : List Byte) : List (Nat × Nat × Nat) :=
  (List.range (b.length / 16)).map fun i => (leAt b (16 * i) 2, leAt b (16 * i + 2) 2, 16 * i)

/-- The offset of the entry that governs an instance: its own, else the one for every instance (R180). -/
def envFind (b : List Byte) (id inst : Nat) : Option Nat :=
  match (envEntries b).find? fun e => e.1 == id && e.2.1 == inst with
  | some e => some e.2.2
  | none => ((envEntries b).find? fun e => e.1 == id && e.2.1 == 0xFFFF).map (·.2.2)

/-- A value field of an envelope entry. -/
def tunVal (r : TunRow) (b : List Byte) (o : Nat) : Int := if r.signed then leSigned b o 4 else (leAt b o 4 : Nat)

/-- The chart envelope and INIT of a tunable's instance (R42, R180): (minimum, maximum or set, INIT). -/
def State.chartEnv (s : State) (id inst : Nat) : Int × Int × Int :=
  match s.tunRow id inst with
  | none => (0, 0, 0)
  | some r =>
    match (s.sec 0x2 0).bind fun b => (envFind b id inst).map fun o => (b, o) with
    | none => (r.lo, r.hi, r.init)
    | some (b, o) =>
      let lo := tunVal r b (o + 4)
      let hi := tunVal r b (o + 8)
      let init := tunVal r b (o + 12)
      if id = 0x2 ∨ id = 0xC then (r.lo, r.hi, init)
      else if id = 0x9 then
        (if lo = 0xFFFFFFFF then r.lo else lo, if hi = 0xFFFFFFFF then r.hi else hi, init)
      else (lo, hi, init)

/-- INIT of a tunable's instance (R182). -/
def State.tunInit (s : State) (id inst : Nat) : Int := (s.chartEnv id inst).2.2

/-- The key under which host bounds are kept. -/
def tunKey (id inst : Nat) : Nat := id * 65536 + inst

/-- Intersection of two sets of bits. -/
def setAnd (a b : Int) : Int := (Nat.land a.toNat b.toNat : Nat)

/-- The effective envelope of a tunable's instance (R43, R181): for a range, its bounds; for a set, the set in the second
component, which after a reset is that of INIT (R182, R471). -/
def State.eff (s : State) (id inst : Nat) : Int × Int :=
  let e := s.chartEnv id inst
  match Tbl.find s.chart.host (tunKey id inst), s.tunRow id inst with
  | some h, some r =>
    match r.kind with
    | .range => (max e.1 h.1, min e.2.1 h.2)
    | .subset => (0, setAnd e.2.1 h.2)
    | .bits => (0, setAnd e.2.1 h.2)
  | none, some r => if r.kind = .subset then (0, setAnd e.2.1 e.2.2) else (e.1, e.2.1)
  | _, _ => (e.1, e.2.1)

/-- The value in force of a range tunable that no loop adjusts (R705). -/
def State.inForce (s : State) (id inst : Nat) : Int :=
  let e := s.eff id inst
  clampI e.1 e.2 (s.chartEnv id inst).2.2

/-- The OUT value of a port in force: bits of the host mask take the host value, each other bit its INIT value (R129, R181). -/
def State.outInForce (s : State) (port : Nat) : Nat :=
  let e := s.chartEnv 0xC port
  match Tbl.find s.chart.host (tunKey 0xC port) with
  | none => e.2.2.toNat
  | some h => Nat.land h.2.toNat e.2.1.toNat + (e.2.2.toNat - Nat.land e.2.2.toNat e.2.1.toNat)

/-- The registers that show the value in force of tunables follow it (R705, R129): the timers, the credit limits, OUT. -/
def State.showTunables (s : State) : State :=
  let s := s.p PWR_TMR_IDLE (s.inForce 0xA 0).toNat
  let s := s.p PWR_TMR_STBY (s.inForce 0xB 0).toNat
  let s := (List.range 16).foldl (fun s f => s.pk MQP_CRED_LIMIT f (s.inForce 0xD f).toNat) s
  if s.pin.applied then (List.range 4).foldl (fun s q => s.pki PIN_OUT_OUT 0 q (s.outInForce q)) s else s

/-- A host bound comes into force or goes. -/
def hostPut (h : Tbl (Int × Int)) (k : Nat) : Option (Int × Int) → Tbl (Int × Int)
  | some b => Tbl.put h k b
  | none => Tbl.del h k

/-- The host bounds of commands that are no longer in their slots, their completions having been posted, take effect at the edge (R45). -/
def State.tunEdge (s : State) : State :=
  let waits := fun (e : Nat × Nat × Option (Int × Int)) => s.cmds.any fun c => c.2.seq == e.1
  let now := s.chart.hostNext.filter fun e => !waits e
  if now.isEmpty then s
  else
    let host := now.foldl (fun h e => hostPut h e.2.1 e.2.2) s.chart.host
    ({ s with chart := { s.chart with host := host, hostNext := s.chart.hostNext.filter waits } } : State).showTunables

end Sys2Proof.Machine
end

