-- ==== Sys2Proof/Machine/Motion.lean ====
section
/-! DEFINITION. The ramp motions of the actuators, the write gates' drop, and the orders to the spindle
(spec/08_servo_band.md R281 to R286; spec/07_spindle.md R225, R252 to R257; spec/06_power_to_ready.md R196). -/

namespace Sys2Proof.Machine

/-! ### Sections of the chart -/

/-- A field of the spindle section (Table SPN-1). -/
def State.spnLe (s : State) (o n : Nat) : Nat := s.secLe 0x20 0 o n 0

/-- A field of actuator `k`'s record in section 0x0010 (Table SRV-2). -/
def State.actLe (s : State) (k o n : Nat) : Nat := s.secLe 0x10 0 (16 + 32 * k + o) n 0

/-- Data tracks per surface (Table SRV-2). -/
def State.tracks (s : State) : Nat := s.secLe 0x10 0 4 4 0

/-- The actuator of head `h` (Table SRV-2). -/
def State.headAct (s : State) (h : Nat) : Nat := s.secLe 0x10 0 (16 + 32 * s.nAct + 16 * h + 1) 1 0

/-- The heads of actuator `k`, in order. -/
def State.headsOf (s : State) (k : Nat) : List Nat := (List.range s.nHead).filter fun h => s.headAct h == k

/-! ### Actuators -/

/-- Actuator `k`. -/
def State.act (s : State) (k : Nat) : Act := Tbl.getD s.acts k {}

/-- Change actuator `k`. -/
def State.setAct (s : State) (k : Nat) (f : Act → Act) : State := { s with acts := Tbl.put s.acts k (f (s.act k)) }

/-- The state of actuator `k` (Table SRV-3). -/
def State.actSt (s : State) (k : Nat) : Nat := s.gk SRV_STAT_STATE k

/-- Actuator `k` is out of service (R205). -/
def State.actFailed (s : State) (k : Nat) : Bool := bitAt (s.g SYS_BOOT_ACTFAIL) k

/-- The heads of actuator `k` are off the ramp: neither UNLOADED nor OUT. -/
def State.loaded (s : State) (k : Nat) : Bool := decide (k < s.nAct) && s.actSt k != 0 && s.actSt k != 9

/-- The declared actuators. -/
def State.actList (s : State) : List Nat := List.range s.nAct

/-- Some actuator has its heads loaded. -/
def State.anyLoaded (s : State) : Bool := s.actList.any s.loaded

/-- Every actuator is parked. -/
def State.allParked (s : State) : Bool := !s.anyLoaded

/-- The heads stage is complete for actuator `k` (R204). -/
def State.actReady (s : State) (k : Nat) : Bool := (s.act k).ready

/-- The bound of the heads stage of actuator `k` in tick edges (Table SYS-10). -/
def State.headsBound (s : State) (k : Nat) : Nat := 250 * (2 * s.actLe k 16 2 + 2 * s.actLe k 18 2 + 20 + 280 * (s.headsOf k).length)

/-! ### Write gates -/

/-- The gate of actuator `k` falls: an ACT output that was high starts its low time (Table PIN-4). -/
def State.actFalls (s : State) (k : Nat) : State :=
  match Tbl.find s.pin.actFall k with
  | some e => if e + 25000 ≤ s.clk.edges then { s with pin := { s.pin with actFall := Tbl.put s.pin.actFall k s.clk.edges } } else s
  | none => { s with pin := { s.pin with actFall := Tbl.put s.pin.actFall k s.clk.edges } }

/-- Write gate `k` drops; the sector in write is abandoned, to be rewritten, and counts in the guard's episode and in the
supply hold (R272, R277, R91, R338). -/
def State.gateDrop (s : State) (k : Nat) : State :=
  match (s.act k).gate with
  | none => s
  | some w =>
    let s := (s.actFalls k).setAct k fun a => { a with gate := none, guard := a.guard.map fun g => { g with abandoned := g.abandoned + 1 } }
    let s : State := if s.on PWR_HOLD_ACTIVE then { s with pwr := { s.pwr with abandoned := s.pwr.abandoned + 1 } } else s
    match Tbl.find s.wr w.1 with
    | some j => { s with wr := Tbl.put s.wr w.1 { j with phase := 2 } }
    | none => s

/-- Every write gate drops (R83, R110, R196). -/
def State.gateDropAll (s : State) : State := (List.range 4).foldl State.gateDrop s

/-- The actuator enters a state; outside FOLLOW its readiness is gone and its gate is blocked (Tables SRV-3 and SRV-6). -/
def State.setActSt (s : State) (k st : Nat) : State :=
  let s := s.pk SRV_STAT_STATE k st
  if st = 2 then s else (((s.pk SRV_STAT_RREADY k 0).pk SRV_STAT_WREADY k 0).gateDrop k).setAct k fun a => { a with rd := 0, wr := 0 }

/-! ### Ramp motions -/

/-- The heater of head `h` on actuator `k` goes to 0, whatever a step in progress adds to it. -/
def State.zeroHeater (s : State) (k h : Nat) : State :=
  let c := Tbl.getD s.chan k {}
  let s := s.pk CHN_FH_HTR h 0
  match c.adj with
  | some a => if a.head = h then { s with chan := Tbl.put s.chan k { c with adj := some { a with base := 0 } } } else s
  | none => s

/-- The heaters of actuator `k` are forced to 0 and its fly-height loops are held (R335). -/
def State.heaterOff (s : State) (k : Nat) : State :=
  (s.headsOf k).foldl (fun s h => (s.zeroHeater k h).loopHold (loopId 1 h)) s

/-- The calibration slice of actuator `k`, if any, is abandoned: its calibration stays due (R652). -/
def State.abandonSlice (s : State) (k : Nat) : State :=
  let c := Tbl.getD s.chan k {}
  if c.slice.isNone then s
  else
    let s : State := { s with chan := Tbl.put s.chan k { c with slice := none, touch := none } }
    s.p TST_CAL_SLICE (clrBit (s.g TST_CAL_SLICE) k)

/-- Every calibration slice is abandoned (R652). -/
def State.abandonSlices (s : State) : State := (List.range 4).foldl State.abandonSlice s

/-- Actuator `k` may take motion `kind`: a load when it is parked and in service, any other when its heads are loaded (R286). -/
def State.motionApplies (s : State) (k kind : Nat) : Bool :=
  if kind = 0 then s.actSt k == 0 && !s.actFailed k else s.loaded k

/-- The track number under the servo reader. -/
def trackOf (pos : Int) : Nat := (pos / 65536).toNat

/-- A motion begins; seeks, settling and guards' counts of the former motion end. A load begins at its own command (R281); an
emergency park raises event 105 (Table SRV-12); a retract runs in the driver (R285); a motion ordered in safe hold ends the hold
at the next edge (R309; a retract too, assumption log 179), and an emergency park or a retract turns the heaters off (R335). -/
def State.beginMotion (s : State) (k kind trig : Nat) : State :=
  let m : Motion := { kind, trig, ts := s.now, edge := s.clk.edges, track := trackOf (s.act k).pos, under := kind == 1 && decide (s.actSt k ≤ 1) }
  let s := s.setAct k fun a => { a with motion := some m, seek := none, go := false, cur := none, again := false, tries := if kind = 0 ∧ trig = 0 then 0 else a.tries, arriving := false }
  let s := s.abandonSlice k
  let e := Tbl.getD s.eng k {}
  if kind = 0 then s
  else if kind = 3 ∨ e.bad then
    let s := s.setAct k fun a => { a with motion := some { m with kind := 3 } }
    let s := (s.setActSt k 8).heaterOff k
    let s : State := if e.safe.isSome then { s with eng := Tbl.put s.eng k { e with endHold := true } } else s
    { s with retr := Tbl.put s.retr k { due := some (s.clk.edges + 250 * s.spnLe 40 2), ke := s.spnLe 4 2, vmin := s.spnLe 42 2 + 1400, rect := s.pwr.vmLoss } }
  else
    let s : State := if e.safe.isSome then { s with eng := Tbl.put s.eng k { e with endHold := true } } else s
    if kind = 2 then ((s.setActSt k 7).heaterOff k).raise 105 else s.setActSt k 6

/-- A motion is ordered on actuator `k`: a higher rank of Table SRV-9 takes over, a lower one waits for the motion in
progress, and an order that does not apply has no effect (R286). -/
def State.orderMotion (s : State) (k kind trig : Nat) : State :=
  match (s.act k).motion with
  | none => if s.motionApplies k kind then s.beginMotion k kind trig else s
  | some m =>
    if m.kind = kind then s
    else if kind < m.kind then s.setAct k fun a => { a with later := a.later ++ [(kind, trig)] }
    else if s.motionApplies k kind then s.beginMotion k kind trig
    else s

/-- The waiting orders by rank, the highest first. -/
def byRank (l : List (Nat × Nat)) : List (Nat × Nat) := [3, 2, 1, 0].flatMap fun r => l.filter fun p => p.1 == r

/-- The motion of actuator `k` has ended in state `st`; the highest waiting order that still applies begins (R286). -/
def State.endMotion (s : State) (k st : Nat) : State :=
  let s := (s.setActSt k st).setAct k fun a => { a with motion := none }
  let l := byRank (s.act k).later
  match findIdxFrom (fun p => s.motionApplies k p.1) 0 l with
  | none => s.setAct k fun a => { a with later := [] }
  | some (i, p) => (s.setAct k fun a => { a with later := l.drop (i + 1) }).beginMotion k p.1 p.2

/-- The park record (R283, Table GAZ-2); bit 0 of its flags says that the park passed its limit. -/
def State.parkRecord (s : State) (k : Nat) (m : Motion) (overrun : Nat) : State :=
  s.record (mkRec 0x0F 48 [(16, 8, m.ts), (24, 8, s.now), (32, 1, k), (33, 1, m.kind), (34, 1, m.trig), (35, 1, overrun),
    (36, 4, m.track)])

/-- The escalation record of engine `k`, once its outcome is known: 0 loaded, 1 no load, 2 the load failed (R311, Table GAZ-9). -/
def State.escEnd (s : State) (k outcome : Nat) : State :=
  let e := Tbl.getD s.eng k {}
  match e.esc with
  | none => s
  | some x =>
    let s : State := { s with eng := Tbl.put s.eng k { e with esc := none } }
    s.record (mkRec 0x11 32 [(16, 8, x.ts), (24, 1, k), (25, 1, x.cause), (26, 1, outcome)])

/-- An emergency park of actuator `k` (R286). -/
def State.epark (s : State) (k trig : Nat) : State := s.orderMotion k 2 trig

/-- An emergency park of every loaded actuator. -/
def State.eparkAll (s : State) (trig : Nat) : State := s.actList.foldl (fun s k => s.orderMotion k 2 trig) s

/-- An orderly unload of every loaded actuator. -/
def State.unloadAll (s : State) (trig : Nat) : State := s.actList.foldl (fun s k => s.orderMotion k 1 trig) s

/-- A retract of every loaded actuator (R94, R196, R254). -/
def State.retractAll (s : State) : State := s.actList.foldl (fun s k => s.orderMotion k 3 0) s

/-- The loads that a shock stopped start again after write inhibit (R282). -/
def State.shockRestart (s : State) : State :=
  s.actList.foldl (fun s k => if (s.act k).shocked then (s.setAct k fun a => { a with shocked := false }).orderMotion k 0 1 else s) s

/-- A load of actuator `k` is ordered; `why` says what for. -/
def State.loadAct (s : State) (k why : Nat) : State :=
  if s.actFailed k then s else (s.setAct k fun a => { a with loadWhy := why }).orderMotion k 0 0

/-- A load of every actuator in service. -/
def State.loadAll (s : State) (why : Nat) : State := s.actList.foldl (fun s k => s.loadAct k why) s

/-- A shock stops the loads under way: those actuators unload, and load again after write inhibit; the stopped attempt does not
count (R282). -/
def State.shockLoads (s : State) : State :=
  s.actList.foldl (fun s k =>
    if s.actSt k = 1 then
      let s := s.setAct k fun a => { a with shocked := true, tries := a.tries - 1 }
      s.orderMotion k 1 5
    else s) s

/-! ### The spindle -/

/-- The spindle machine enters a state of Table SPN-2. The bridge is off in OFF, LISTEN, COAST and FAILED (R225); AT_SPEED and the
write permission go in any state other than REGULATE and RECOVER (R238). -/
def State.enterSpn (s : State) (st : Nat) : State :=
  let s := s.p SPN_STAT_STATE st
  let b : Bridge := if st = 0 ∨ st = 1 ∨ st = 9 ∨ st = 10 then .off else if st = 2 then .short else .drive
  let s : State := { s with spn := { s.spn with
    stateEdge := s.clk.edges, bridge := b, bridgeAt := s.instant, chop := 0, winMax := none, winRun := 0 } }
  if st = 7 ∨ st = 8 then s
  else
    let s := (s.p SPN_STAT_AT_SPEED 0).p SPN_STAT_WB_OK 0
    { s with spn := { s.spn with bandRun := 0, wbRun := 0, atRun := 0 } }

/-- The rotor-loss record closes the sequence: outcome 0 re-acquired, 1 parked and restarted, 2 FAILED (R249). -/
def State.lossRecord (s : State) (outcome : Nat) : State :=
  match s.spn.loss with
  | none => s
  | some l =>
    let s : State := { s with spn := { s.spn with loss := none } }
    s.record (mkRec 0x0B 48 [(16, 8, l.ts), (24, 1, l.cause), (25, 1, outcome), (26, 1, l.periods), (28, 4, l.speed), (32, 4, l.fc)])

/-- The spindle coasts with all gates off (R252); a start order in progress and a rotor-loss sequence end (Table SPN-5, ranks 1
and 2); FAILED stays until reset (R251). -/
def State.spindleCoast (s : State) : State :=
  let s := s.lossRecord 1
  let s : State := { s with spn := { s.spn with order := none, source := none, restart := none, bridge := .off } }
  if s.g SPN_STAT_STATE = 10 then s else s.enterSpn 9

/-- A start order waits for its tick edge (Table SPN-5, rank 4); FAILED takes none (R251). -/
def State.spindleStart (s : State) (src : Nat) : State :=
  if s.g SPN_STAT_STATE = 10 then s
  else { s with spn := { s.spn with order := some src, orderEdge := s.clk.edges } }

/-- The spindle brakes: `why` as in the state (R231). -/
def State.spindleBrakeFor (s : State) (why : Nat) : State :=
  let s := s.enterSpn 2
  { s with spn := { s.spn with brakeWhy := why } }

/-- The spindle is braked to rest, as for Standby (Table SYS-12). -/
def State.spindleBrake (s : State) : State := s.spindleBrakeFor 1

/-- A hold, a shock or an end of both has a job to re-issue: the abandoned sectors stay listed as write jobs to be rewritten,
which SECTOR_REWRITE takes when the gate may assert again (R87, R338). -/
def State.reissue (s : State) : State := s

end Sys2Proof.Machine
end

