-- ==== Sys2Proof/Machine/Queue.lean ====
section
/-! DEFINITION. Commands in their slots, their status, the freeze of a queue, completion entries, range locks, and what a reset
of a function or of the endpoint leaves (spec/13_queues.md; spec/15_integrity_errors.md R514 to R528; spec/06 R212, R213). -/

namespace Sys2Proof.Machine

/-! ### Fields of a command -/

/-- `n` bytes at offset `o` of a command's entry (Table MQP-3). -/
def Cmd.le (c : Cmd) (o n : Nat) : Nat := leAt c.entry o n

/-- Opcode, flags, CID, VOL of a command (Table MQP-3). -/
def Cmd.opc (c : Cmd) : Nat := c.le 0 1
def Cmd.flags (c : Cmd) : Nat := c.le 1 1
def Cmd.cid (c : Cmd) : Nat := c.le 2 2
def Cmd.vol (c : Cmd) : Nat := c.le 4 2

/-- First LBA and number of blocks of a Read or Write (Table MQP-15). -/
def Cmd.slba (c : Cmd) : Nat := c.le 32 6
def Cmd.nlb (c : Cmd) : Nat := c.le 40 2 + 1

/-- The volume code of a VOL: 0–63 a local volume, 64–79 span 0–15 (Table MED-3). -/
def volCode (v : Nat) : Option Nat :=
  if v < 64 then some v else if 0x8000 ≤ v ∧ v < 0x8010 then some (v - 0x8000 + 64) else none

/-- The VOL of a volume code. -/
def volOf (code : Nat) : Nat := if code < 64 then code else 0x8000 + (code - 64)

/-- The command in a slot. -/
def State.cmd (s : State) (i : Nat) : Option Cmd := Tbl.find s.cmds i

/-- Store the command of a slot. -/
def State.setCmd (s : State) (i : Nat) (c : Cmd) : State := { s with cmds := Tbl.put s.cmds i c }

/-- Change the command of a slot, if any. -/
def State.modCmd (s : State) (i : Nat) (f : Cmd → Cmd) : State :=
  match s.cmd i with
  | some c => s.setCmd i (f c)
  | none => s

/-- The key of queue `q` of function `fn`. -/
def qKey (fn q : Nat) : Nat := fn * 65536 + q

/-- A submission queue and a completion queue of a function. -/
def State.sq (s : State) (fn q : Nat) : Option Sq := Tbl.find s.sqs (qKey fn q)
def State.cq (s : State) (fn q : Nat) : Option Cq := Tbl.find s.cqs (qKey fn q)
def State.setSq (s : State) (fn q : Nat) (x : Sq) : State := { s with sqs := Tbl.put s.sqs (qKey fn q) x }
def State.setCq (s : State) (fn q : Nat) (x : Cq) : State := { s with cqs := Tbl.put s.cqs (qKey fn q) x }

/-- The definition of a volume code. -/
def State.volAt (s : State) (code : Nat) : Option Vol := Tbl.find s.med.vols code

/-- Change the definition or the statistics of a volume; the generation of its page rises (R481, R483). -/
def State.modVol (s : State) (code : Nat) (f : Vol → Vol) : State :=
  match s.volAt code with
  | some v => { s with med := { s.med with vols := Tbl.put s.med.vols code { f v with gen := v.gen + 1 } } }
  | none => s

/-- The commands of an SQ in flight. -/
def State.inFlight (s : State) (fn q : Nat) : List (Nat × Cmd) := s.cmds.filter fun e => e.2.fn == fn && e.2.sq == q

/-- The commands of a function in flight (R413). -/
def State.fnInFlight (s : State) (fn : Nat) : Nat := countP (fun e => e.2.fn == fn) s.cmds

/-! ### Range locks -/

/-- Two requests conflict: they overlap in one volume and are not both shared (R439). -/
def Lock.conflicts (a b : Lock) : Bool := a.vol == b.vol && overlaps a.lba a.n b.lba b.n && (a.excl || b.excl)

/-- The entries of the table that arrived before the entry of `w`. -/
def beforeWho (w : Who) : List Lock → List Lock
  | [] => []
  | l :: t => if l.who = w then [] else l :: beforeWho w t

/-- The table has room for a request: 32 768 entries, 64 of them kept for reallocation and resync (R445). -/
def Locks.room (L : Locks) (l : Lock) : Bool :=
  if l.req = 22 ∨ l.req = 23 then decide (L.table.length < 32768) else decide (L.table.length < 32768 - 64)

/-- Requests that queue outside the table enter it in their order while there is room (R445). -/
def Locks.refill (L : Locks) : Nat → Locks
  | 0 => L
  | n + 1 =>
    match L.queue with
    | [] => { L with full := false }
    | l :: t => if L.room l then Locks.refill { L with table := L.table ++ [l], queue := t } n else L

/-- A lock or a request of `w` goes (R443, R444). -/
def State.unlock (s : State) (w : Who) : State :=
  let L : Locks := { s.locks with
    table := s.locks.table.filter fun l => !decide (l.who = w)
    reqs := s.locks.reqs.filter fun l => !decide (l.who = w)
    queue := s.locks.queue.filter fun l => !decide (l.who = w) }
  { s with locks := L.refill L.queue.length }

/-- A request is presented (R440). -/
def State.present (s : State) (l : Lock) : State := { s with locks := { s.locks with reqs := s.locks.reqs ++ [l] } }

/-! ### Completion entries -/

/-- A CQ is full when one more entry would make its tail equal its head (R424). -/
def Cq.isFull (q : Cq) : Bool := (q.tail + 1) % q.depth == q.head

/-- A completion entry joins its CQ's waiting entries; a full CQ begins an episode, with event 145 once (R424). -/
def State.cqWait (s : State) (fn cq : Nat) (w : CqWait) : State :=
  match s.cq fn cq with
  | none => s
  | some q =>
    let s := s.setCq fn cq { q with wait := q.wait ++ [w], full := q.full || q.isFull }
    if q.isFull && !q.full then s.raise 145 else s

/-- The status is an error: class 0x01 to 0x06 (Table SYS-2). -/
def isError (status : Nat) : Bool := decide (1 ≤ status / 256) && decide (status / 256 ≤ 6)

/-- A freeze or post-freeze record (Table MQP-30). -/
def errRecord (s : State) (c : Cmd) (status head infl : Nat) : List Byte :=
  let b := zeros 64
  let e := c.err
  let b := putLe b 0 8 s.now
  let b := putLe b 8 2 c.cid
  let b := putLe b 10 2 status
  let b := putLe b 12 1 c.opc
  let b := putLe b 13 1 (if status / 256 = 3 then e.source else 0)
  let b := putLe b 14 2 head
  let lba := if status / 256 = 2 ∨ status / 256 = 3 then e.lba else none
  let b := putLe b 16 6 (lba.getD 0xFFFFFFFFFFFF)
  let b := putLe b 22 2 c.vol
  let b := putLe b 24 16 (if status / 256 = 3 then ofLe e.rtag else 0)
  let b := putLe b 40 8 e.cdchk
  let b := putLe b 48 2 e.cguard
  let b := putLe b 50 1 e.row
  let b := putLe b 51 1 e.lclass
  let b := putLe b 52 4 (lba.getD 0)
  let b := putLe b 56 2 e.node
  let b := putLe b 58 1 (min infl 255)
  putLe b 60 4 e.detail

/-- A command's error is determined in the cycle in which its SQ froze for a command fetched later: it is the freezing one instead (R517). -/
def Sq.replaces (q : Sq) (now : Nat) (c : Cmd) : Bool := q.st == 2 && q.frzAt == now && decide (c.seq < q.frzSeq)

/-- A post-freeze record joins the page (R518, R527). -/
def Sq.postRecord (q : Sq) (r : List Byte) : Sq :=
  let q := { q with postcnt := satAdd 32 q.postcnt 1, gen := q.gen + 1 }
  if q.precs.length < 62 then { q with precs := q.precs ++ [r] } else { q with ovf := true }

/-- A freeze record as a post-freeze one, whose INFL is 0 (Table MQP-30). -/
def asPost (r : List Byte) : List Byte := putLe r 58 1 0

/-- The error of a command of an SQ is determined: an ACTIVE SQ freezes, with event 151, a freeze record and a new error log
page; a FROZEN one logs a post-freeze record; a DRAINING one does neither (R514, R518, R527). Of errors of one cycle the earlier-fetched command's is
the freezing one, and the other a post-freeze record (R517). An MQP_ADMTHAW GO of this cycle that found the admin SQ not frozen finds it not settled
(R525). -/
def State.sqError (s : State) (c : Cmd) (status : Nat) : State :=
  match s.sq c.fn c.sq with
  | none => s
  | some q =>
    if q.st = 1 then
      let infl := (s.inFlight c.fn c.sq).length
      let s := s.setSq c.fn c.sq { q with
        st := 2, frec := some (errRecord s c status q.head infl), precs := [], ovf := false, freezes := satAdd 32 q.freezes 1, postcnt := 0
        gen := q.gen + 1, frzAt := s.instant, frzSeq := c.seq }
      let s := if c.sq = 0 then
          (if s.setNow.contains (MQP_ADMTHAW_RES.key c.fn 0, 0) then s.pk MQP_ADMTHAW_RES c.fn 3 else s).pk MQP_STS_AFRZ c.fn 1
        else s
      (s.raise 151).record (mkRec 0x16 48 [(16, 8, s.now), (24, 1, c.fn), (26, 2, c.sq), (28, 2, status), (30, 2, c.cid)])
    else if q.replaces s.instant c then
      let infl := (s.inFlight c.fn c.sq).length
      s.setSq c.fn c.sq { q.postRecord (asPost (q.frec.getD [])) with frec := some (errRecord s c status q.head infl), frzSeq := c.seq }
    else if q.st = 2 then s.setSq c.fn c.sq (q.postRecord (errRecord s c status q.head 0))
    else s

/-- A command becomes the freezing one of an SQ that froze in this cycle (R517). -/
def State.freezesNow (s : State) (c : Cmd) : Bool := (s.sq c.fn c.sq).any fun q => q.replaces s.instant c

/-- The entry of the command that froze an SQ in this cycle waits as a post-freeze one where an earlier-fetched one takes its place (R517). -/
def State.unfreezeEntry (s : State) (fn cq q : Nat) : State :=
  match s.cq fn cq with
  | none => s
  | some x => s.setCq fn cq { x with wait := x.wait.map fun w => if w.sq = q ∧ w.freezing then { w with pfz := true, freezing := false } else w }

/-- The CQ of an SQ: the admin CQ for the admin SQ (R415). -/
def State.cqOf (s : State) (fn q : Nat) : Nat :=
  match s.sq fn q with
  | some x => if q = 0 then 0 else x.cq
  | none => 0

/-- The SQ is FROZEN. -/
def State.sqFrozen (s : State) (fn q : Nat) : Bool :=
  match s.sq fn q with
  | some x => x.st == 2
  | none => false

/-- The status of the command in a slot is determined: its lock goes (R443), an error freezes its SQ (R514), and its entry waits
for its CQ. A command whose function was reset posts nothing and frees its slot (R213, R449). -/
def State.complete (s : State) (slot status : Nat) : State :=
  match s.cmd slot with
  | none => s
  | some c =>
    if c.phase = 3 then s
    else
      let s := s.unlock (.slot slot)
      let s : State := { s with
        med := { s.med with reads := s.med.reads.filter fun r => !(r.2.slot == some slot) }, dreads := s.dreads.filter fun r => r.1 != slot }
      if c.silent then { s with cmds := Tbl.del s.cmds slot }
      else
        let frozen := s.sqFrozen c.fn c.sq && !(isError status && s.freezesNow c)
        let c : Cmd := { c with result := if c.sq ≠ 0 ∧ c.opc = 2 then c.moved else c.result }
        let s := s.setCmd slot { c with phase := 3, status := status, staged := [] }
        let s := if isError status && s.freezesNow c then s.unfreezeEntry c.fn (s.cqOf c.fn c.sq) c.sq else s
        let s := if isError status then s.sqError c status else s
        s.cqWait c.fn (s.cqOf c.fn c.sq) {
          sq := c.sq, cid := c.cid, result := c.result, status := status, pfz := frozen,
          nocoal := bitAt c.flags 3, slot := some slot, freezing := isError status && !frozen }

/-- Complete with a result (Table MQP-6). -/
def State.completeWith (s : State) (slot status result : Nat) : State :=
  (s.modCmd slot fun c => { c with result := result }).complete slot status

/-- The 16 bytes of an entry (Table MQP-6). -/
def cqBytes (w : CqWait) (head phase tick : Nat) : List Byte :=
  leBytes w.result 4 ++ leBytes head 2 ++ leBytes w.sq 2 ++ leBytes w.cid 2 ++ leBytes w.status 2 ++
    [byte (phase + 2 * b2n w.pfz), 0] ++ leBytes (tick % 65536) 2

/-- Fetching and completions have stopped for a declared power loss or a host-ordered reset (R94, R220). -/
def State.hostStopped (s : State) : Bool := s.pwr.loss.isSome || s.pwr.hostReset.isSome

/-- The CQ's message for its unsignalled entries (R434). -/
def State.cqSignal (s : State) (fn cq : Nat) : State :=
  match s.cq fn cq with
  | none => s
  | some q =>
    let s := s.setCq fn cq { q with unsig := 0 }
    if q.vec = 0xFFFF then s else s.sendMsix fn q.vec

/-- A written entry releases its command's slot (R413). -/
def State.releaseSlot (s : State) (slot : Option Nat) : State :=
  match slot with
  | none => s
  | some i => { s with cmds := Tbl.del s.cmds i }

/-- The oldest waiting entry of a CQ is written where the CQ has room, with the current phase, and signalled under R434 (R422,
R424). -/
def State.postEntry (s : State) (fn cq : Nat) : State :=
  match s.cq fn cq with
  | none => s
  | some q =>
    match q.wait with
    | [] => s
    | w :: rest =>
      if q.isFull then s
      else
        let head := match s.sq fn w.sq with
          | some x => x.head
          | none => 0
        let s := s.emit (.host fn (q.base + 16 * q.tail) (cqBytes w head q.phase s.clk.tick))
        let last := q.tail + 1 == q.depth
        let unsig := q.unsig + 1
        let oldest := if q.unsig = 0 then s.clk.tick else q.oldest
        let q : Cq := { q with
          tail := (q.tail + 1) % q.depth
          phase := (if last then 1 - q.phase else q.phase)
          wait := rest
          unsig := unsig
          oldest := oldest
          full := q.full && !rest.isEmpty }
        let again := q.isFull && !rest.isEmpty && !q.full
        let s := s.setCq fn cq { q with full := q.full || again }
        let s := if again then s.raise 145 else s
        let s := s.releaseSlot w.slot
        if decide (q.cthr < unsig) || w.nocoal || w.status / 256 != 0 || w.pfz || q.ctime == 0 then s.cqSignal fn cq else s

/-! ### Power transitions that a command meets -/

/-- A pending Standby or Vigil transition is cancelled, a Vigil entry that has begun with what it armed: event 43 with the state unchanged (R106). -/
def State.cancelTransition (s : State) : State :=
  if s.g PWR_STATE_PEND = 0 then s
  else
    let s : State := { s with
      pwr := { s.pwr with entering := if s.pwr.entering = some 3 then none else s.pwr.entering }
      pin := { s.pin with armed := false, latched := none } }
    ((s.p PWR_STATE_PEND 0).p PWR_STATE_DEFER_WHY 0).raise 43

end Sys2Proof.Machine
end

