-- ==== Sys2Proof/Machine/Integrity.lean ====
section
/-! DEFINITION. Integrity tags, their classification and what it counts and records; encryption of units
(spec/15_integrity_errors.md R488 to R513). -/

namespace Sys2Proof.Machine

/-! ### Tags -/

/-- A tag from its fields, with the guard that `mark` complements (Table MQP-23, R489). -/
def mkTag (dchk ref app : Nat) (mark : Bool) : List Byte :=
  let h := leBytes dchk 8 ++ leBytes ref 4 ++ leBytes app 2
  let g := crc16 h
  h ++ leBytes (if mark then 0xFFFF - g else g) 2

/-- A generated tag of a block (R356, R490). -/
def genTag (data : List Byte) (lba app : Nat) : List Byte := mkTag (crc64 data) (lba % 2 ^ 32) app false

/-- A zero block with its generated tag (R356). -/
def zeroUnit (lba : Nat) : List Byte := let d := zeros 4096; d ++ genTag d lba 0

/-- What a checkpoint finds (Table MQP-25): row, status (0x0000 also for an unverified block), the unit as it goes on, whether it goes on
as unverified, and the computed checks. -/
structure Verdict where
  row : Nat
  status : Nat
  bytes : List Byte
  unver : Bool := false
  dchk : Nat
  guard : Nat
  deriving DecidableEq, Repr

/-- Classification of a unit of 4112 bytes (R494 to R498, Table MQP-25). -/
def classify (repair ingest : Bool) (lba : Nat) (u : List Byte) : Verdict :=
  let data := u.take 4096
  let tag := u.drop 4096
  let d := crc64 data
  let g := crc16 (tag.take 14)
  let pass := leAt tag 14 2 == g
  let mark := !ingest && leAt tag 14 2 == 0xFFFF - g
  let same := leAt tag 0 8 == d
  let ref := leAt tag 8 4 == lba % 2 ^ 32
  let out := fun (row st : Nat) => ({ row := row, status := st, bytes := u, dchk := d, guard := g } : Verdict)
  let unv := fun (row : Nat) => ({ out row 0 with bytes := data ++ mkTag d (lba % 2 ^ 32) (leAt tag 12 2) true, unver := true } : Verdict)
  if pass && same then (if ref then out 1 0 else out 2 0x0302)
  else if pass then out 3 0x0300
  else if mark && same then (if repair then unv 4 else out 4 0x0303)
  else if same then { out 5 1 with bytes := data ++ mkTag (leAt tag 0 8) (lba % 2 ^ 32) 0xFFFF false }
  else if repair then unv 6
  else out 6 0x0301

/-- The unit check of a unit of a volume with ENC. -/
def unitCheck (u : List Byte) : Nat := crc32c u

/-- A unit passes where only its tag, or its unit check, is compared: at transit and at egress (Table MQP-24). -/
def unitGood (enc : Bool) (lba : Nat) (u : Unit4k) : Bool :=
  if enc then unitCheck u.bytes == u.uchk
  else
    let v := classify false false lba u.bytes
    v.row == 1 || (v.row == 4)

/-! ### Counts and records -/

/-- The first failing block of a command for its error log (Table MQP-30). -/
def Verdict.err (v : Verdict) (cp lba : Nat) (u : List Byte) : ErrInfo :=
  { lba := some lba, source := cp, rtag := u.drop 4096, cdchk := v.dchk, cguard := v.guard, row := v.row }

/-- Counts, event and integrity record of a repair, an unverified block or a rejection (R499, R507, Tables MQP-31 and MQP-19); a block that passes
leaves nothing. -/
def State.integrity (s : State) (cp vol lba : Nat) (u : List Byte) (v : Verdict) : State :=
  if v.row = 1 then s
  else
    let s := if v.status = 1 then (s.bump MQP_INTCNT0_REPAIRED 1).raise 153
      else if v.unver then ((s.bump MQP_INTCNT0_UNVERIFIED 1).raise 154).modVol vol fun x => { x with unver := satAdd 32 x.unver 1 }
      else ((s.bump MQP_INTCNT1_REJECTED 1).raise 155).modVol vol fun x => { x with rejected := satAdd 32 x.rejected 1 }
    s.record (mkRec 0x15 64 [(16, 8, s.now), (24, 6, lba), (30, 2, volOf vol), (32, 1, cp), (33, 1, v.row), (34, 2, v.guard),
      (36, 8, v.dchk), (44, 16, ofLe (u.drop 4096))])

/-- A block of a volume with ENC is rejected at transit: its unit check failed twice (R502, R507). The record's tag, guard and check are 0: none was
compared (Table MQP-30). -/
def State.unitReject (s : State) (vol lba : Nat) : State :=
  let s := ((s.bump MQP_INTCNT1_REJECTED 1).raise 155).modVol vol fun x => { x with rejected := satAdd 32 x.rejected 1 }
  s.record (mkRec 0x15 64 [(16, 8, s.now), (24, 6, lba), (30, 2, volOf vol), (32, 1, 2)])

/-! ### Volumes and keys -/

/-- MODES of a volume code in force: ACK in bits 1:0, RDMODE 2, TAGMODE 3, ENC 4 (Table MQP-16). -/
def State.modesOf (s : State) (code : Nat) : Nat := ((s.volAt code).getD {}).modes

/-- ENC of MODES; TAGMODE repair; RDMODE strict; the acknowledgement mode. -/
def encOf (modes : Nat) : Bool := bitAt modes 4
def repairOf (modes : Nat) : Bool := bitAt modes 3
def strictOf (modes : Nat) : Bool := bitAt modes 2
def ackOf (modes : Nat) : Nat := modes % 4

/-- The key of a volume code is in the key RAM. -/
def State.hasKey (s : State) (code : Nat) : Bool := Tbl.has s.keys code

/-- The key RAM is cleared (R474, R108). -/
def State.clearKeys (s : State) : State := { s with keys := [] }

/-- A unit after the ingest check: encrypted, with its unit check, for a volume with ENC (R508, R509). -/
def State.encUnit (s : State) (modes code lba : Nat) (u : List Byte) : Unit4k :=
  if encOf modes then
    let c := xtsEncrypt (Tbl.getD s.keys code []) lba u
    { bytes := c, uchk := unitCheck c }
  else { bytes := u }

/-- A unit before the delivery check: decrypted for a volume with ENC. -/
def State.decUnit (s : State) (modes code lba : Nat) (u : Unit4k) : List Byte :=
  if encOf modes then xtsDecrypt (Tbl.getD s.keys code []) lba u.bytes else u.bytes

/-- A parity error of the key slot `code` is counted, with event 157 and a key-fault record (R512). -/
def State.keyLost (s : State) (code : Nat) : State :=
  let s : State := { s with keys := Tbl.del s.keys code }
  let s := (s.bump MQP_INTCNT2_KEYFAULT 1).raise 157
  s.record (mkRec 0x1E 32 [(16, 8, s.now), (24, 2, volOf code)])

end Sys2Proof.Machine
end

