-- ==== Sys2Proof/Machine/Media.lean ====
section
/-! DEFINITION. The layout of the media: zones, extents, the placement map, spares, reservations, unwritable ranges
(spec/11_media.md R352 to R376). -/

namespace Sys2Proof.Machine

/-! ### Zones (Table MED-2) -/

/-- `n` bytes at offset `o` of zone `z`'s record. -/
def State.zoneLe (s : State) (z o n : Nat) : Nat := s.secLe 0x40 0 (16 + 16 * z + o) n 0

def State.zStart (s : State) (z : Nat) : Nat := s.zoneLe z 0 3
def State.zSpt (s : State) (z : Nat) : Nat := s.zoneLe z 3 2
def State.zRate (s : State) (z : Nat) : Nat := s.zoneLe z 5 2
def State.zVerified (s : State) (z : Nat) : Bool := s.zoneLe z 7 1 == 1
def State.zSpare (s : State) (z : Nat) : Nat := s.zoneLe z 8 1
def State.zSkew (s : State) (z : Nat) : Nat := s.zoneLe z 9 2
def State.zPre (s : State) (z : Nat) : Nat := s.zoneLe z 11 1

/-- The first track after zone `z`. -/
def State.zEnd (s : State) (z : Nat) : Nat := if z + 1 < s.nZones then s.zStart (z + 1) else s.tracks

/-- The first data track of zone `z`, D_z: after the map region in zone 0. -/
def State.zData (s : State) (z : Nat) : Nat := if z = 0 then s.secLe 0x40 0 2 2 0 else s.zStart z

/-- Whole extents of zone `z` on a head (R355). -/
def State.zExts (s : State) (z : Nat) : Nat := (s.zEnd z - s.zSpare z - s.zData z) * s.zSpt z / 256

/-- Spare sectors of zone `z` on a head. -/
def State.zSpares (s : State) (z : Nat) : Nat := s.zSpare z * s.zSpt z

/-- The zone of a track. -/
def State.zoneOf (s : State) (t : Nat) : Nat := countP (fun z => decide (s.zStart z ≤ t)) (List.range s.nZones) - 1

/-! ### Places -/

/-- A sector's place as one number: head, track, position. -/
def mkLoc (head track pos : Nat) : Nat := (head * 2 ^ 24 + track) * 4096 + pos
def locHead (l : Nat) : Nat := l / 2 ^ 36
def locTrack (l : Nat) : Nat := l / 4096 % 2 ^ 24
def locPos (l : Nat) : Nat := l % 4096

/-- The place of the `i`-th sector of a run of tracks that starts at `first` in zone `z` on a head (R355). -/
def State.locAt (s : State) (h z first i : Nat) : Nat :=
  let spt := max 1 (s.zSpt z)
  let t := first + i / spt
  mkLoc h t ((i % spt + (t - s.zStart z) * s.zSkew z) % spt)

/-- A physical extent as one number: head, zone, index. -/
def mkPe (h z e : Nat) : Nat := (h * 64 + z) * 2 ^ 32 + e
def peHead (p : Nat) : Nat := p / 2 ^ 38
def peZone (p : Nat) : Nat := p / 2 ^ 32 % 64
def peIdx (p : Nat) : Nat := p % 2 ^ 32

/-- The place of sector `j` of a physical extent (R355). -/
def State.peLoc (s : State) (p j : Nat) : Nat := s.locAt (peHead p) (peZone p) (s.zData (peZone p)) (256 * peIdx p + j)

/-- A sector, or its spare where it is reallocated (R362). -/
def State.spareOf (s : State) (l : Nat) : Nat :=
  match Tbl.find s.med.spares l with
  | some x => x.loc
  | none => l

/-! ### The placement map -/

/-- Change the media. -/
def State.setMed (s : State) (f : Med → Med) : State := { s with med := f s.med }

/-- The physical extents of an extent of a volume. -/
def State.extents (s : State) (vol ext : Nat) : List (Nat × Ent) := s.med.map.filter fun e => e.2.vol == vol && e.2.ext == ext

/-- The physical extent that holds an extent: the stored one before one placed anew (R356, R366). -/
def State.phys (s : State) (vol ext : Nat) : Option Nat :=
  let l := s.extents vol ext
  match l.find? fun e => e.2.stored with
  | some e => some e.1
  | none => (l.head?).map (·.1)

/-- The place that an LBA is read from: its sector or its spare; none in an unplaced extent. -/
def State.lbaLoc (s : State) (vol lba : Nat) : Option Nat := (s.phys vol (lba / 256)).map fun p => s.spareOf (s.peLoc p (lba % 256))

/-- The actuator that holds a place. -/
def State.locAct (s : State) (l : Nat) : Nat := s.headAct (locHead l)

/-- A range touches an extent stored on an actuator out of service (R205, R371). -/
def State.onFailed (s : State) (vol lba n : Nat) : Bool :=
  s.med.map.any fun e => e.2.vol == vol && e.2.stored && decide (lba < 256 * e.2.ext + 256) && decide (256 * e.2.ext < lba + n) &&
    s.actFailed (s.headAct (peHead e.1))

/-- A range touches an extent stored on a head on which writing is disabled (R325). -/
def State.onDisabled (s : State) (vol lba n : Nat) : Bool :=
  s.med.map.any fun e => e.2.vol == vol && e.2.stored && decide (lba < 256 * e.2.ext + 256) && decide (256 * e.2.ext < lba + n) &&
    (Tbl.getD s.heads (peHead e.1) {}).wdis

/-- Extents of zone `z` on head `h` that are placed or unusable. -/
def State.takenIn (s : State) (h z : Nat) : Nat :=
  countP (fun e => e.1 / 2 ^ 32 == h * 64 + z) s.med.map + countP (fun p => p / 2 ^ 32 == h * 64 + z) s.med.dead

/-- Free extents of zone `z` on head `h`. -/
def State.freeIn (s : State) (h z : Nat) : Nat := s.zExts z - s.takenIn h z

/-- The lowest free extent among `n` from `p` on. -/
def lowFree (map : Tbl Ent) (dead : List Nat) (p : Nat) : Nat → Option Nat
  | 0 => none
  | n + 1 => if Tbl.has map p || dead.contains p then lowFree map dead (p + 1) n else some p

/-- The heads of actuators in service. -/
def State.goodHeads (s : State) : List Nat := (List.range s.nHead).filter fun h => !s.actFailed (s.headAct h)

/-- The sum of a list. -/
def sumOf (l : List Nat) : Nat := l.foldl (· + ·) 0

/-- Free extents on in-service actuators (MED_FREE). -/
def State.freeExtents (s : State) : Nat := sumOf (s.goodHeads.map fun h => sumOf ((List.range s.nZones).map (s.freeIn h)))

/-- Extents of a volume that are placed. -/
def State.placedOf (s : State) (vol : Nat) : Nat := countP (fun e => e.2.vol == vol && !e.2.reloc) s.med.map

/-- Extents reserved and not yet placed. -/
def State.reserved (s : State) : Nat := sumOf (s.med.vols.map fun v => v.2.resv - s.placedOf v.1)

/-- Extents free for new reservations (R369, MED_RESV). -/
def State.forReserve (s : State) : Nat := s.freeExtents - s.secLe 0x41 0 4 2 64 - s.reserved

/-! ### Spares -/

/-- The place of spare `i` of zone `z` on head `h`. -/
def State.spareLoc (s : State) (h z i : Nat) : Nat := s.locAt h z (s.zEnd z - s.zSpare z) i

/-- A spare is in use or was used without success. -/
def State.spareTaken (s : State) (l : Nat) : Bool := s.med.spent.contains l || s.med.spares.any fun e => e.2.loc == l

/-- Spares of zone `z` on head `h` that are taken. -/
def State.sparesTaken (s : State) (h z : Nat) : Nat :=
  let t := s.zEnd z - s.zSpare z
  let inside := fun (l : Nat) => locHead l == h && decide (t ≤ locTrack l) && decide (locTrack l < s.zEnd z)
  countP (fun e => inside e.2.loc) s.med.spares + countP inside s.med.spent

/-- Free spare sectors of a head, and of the node (MED_SPARE). -/
def State.freeSparesOn (s : State) (h : Nat) : Nat := sumOf ((List.range s.nZones).map fun z => s.zSpares z - s.sparesTaken h z)
def State.freeSpares (s : State) : Nat := sumOf ((List.range s.nHead).map s.freeSparesOn)

/-- The lowest free spare of zone `z` on head `h`, among `n` from the `i`-th. -/
def State.lowSpare (s : State) (h z i : Nat) : Nat → Option Nat
  | 0 => none
  | n + 1 => if s.spareTaken (s.spareLoc h z i) then s.lowSpare h z (i + 1) n else some (s.spareLoc h z i)

/-- The zones from zone `z`: itself, then outward and inward alternately, outward (toward track 0) first (R360; log 3). -/
def zoneOrder (z n : Nat) : List Nat :=
  z :: (List.range n).flatMap fun d => (if d + 1 ≤ z then [z - (d + 1)] else []) ++ (if z + d + 1 < n then [z + d + 1] else [])

/-- The first free spare of a head, zones in that order. -/
def State.headSpare (s : State) (h z : Nat) : Option Nat := (zoneOrder z s.nZones).findSome? fun y => s.lowSpare h y 0 (s.zSpares y)

/-- The actuators other than `k` by their free spares, the most first and the lower index on a tie (R360). -/
def State.actsBySpares (s : State) (k : Nat) : List Nat :=
  let n := fun j => sumOf ((s.headsOf j).map s.freeSparesOn)
  (s.actList.filter fun j => j != k && !s.actFailed j).mergeSort fun a b => decide (n b ≤ n a)

/-- The free spare that R360 takes for a sector. -/
def State.pickSpare (s : State) (l : Nat) : Option Nat :=
  let h := locHead l
  let z := s.zoneOf (locTrack l)
  let k := s.headAct h
  (h :: (s.headsOf k).filter (· != h) ++ (s.actsBySpares k).flatMap s.headsOf).findSome? fun g => s.headSpare g z

/-! ### The map region's blocks (R357, Table MED-8) -/

/-- The head that holds copy B of head `h`'s map blocks (R357). -/
def State.copyB (s : State) (h : Nat) : Nat :=
  if s.nAct = 1 then (h + 1) % max 1 s.nHead
  else
    let a := s.headAct h
    let l := s.headsOf ((a + 1) % max 1 s.nAct)
    l.getD ((s.headsOf a).idxOf h % max 1 l.length) 0

/-- The blocks of orders 1 to 3 of Table MED-8 of head `h`. -/
def State.mapBlocks (s : State) (h : Nat) : Nat :=
  let z := List.range s.nZones
  ceilDiv (sumOf (z.map s.zExts)) 512 + ceilDiv (sumOf (z.map s.zSpares)) 256 + if h = 0 then 64 else 0

/-! ### Unwritable and lost ranges -/

/-- A range of a volume includes an unwritable LBA (R374). -/
def State.unwritable (s : State) (vol lba n : Nat) : Bool := s.med.unwr.any fun r => r.vol == vol && overlaps r.lba r.n lba n

/-- The order of the unwritable table, and of a journal: VOL, KIND, LBA. -/
def rangeLe (a b : LRange) : Bool :=
  decide (volOf a.vol < volOf b.vol) || (a.vol == b.vol && (decide (a.kind < b.kind) || (a.kind == b.kind && decide (a.lba ≤ b.lba))))

/-- Insert a range in order. -/
def rangeInsert (r : LRange) : List LRange → List LRange
  | [] => [r]
  | a :: t => if rangeLe r a then r :: a :: t else a :: rangeInsert r t

/-- The smallest gap between neighbours of one volume and kind. -/
def rangeGap : List LRange → Option Nat
  | a :: b :: t =>
    let g := rangeGap (b :: t)
    if a.vol = b.vol ∧ a.kind = b.kind then some (min (b.lba - (a.lba + a.n)) (g.getD (b.lba - (a.lba + a.n)))) else g
  | _ => none

/-- Merge the lowest pair whose gap is `g` (R101, R375); ranges that touch or overlap become one without taking in any other LBA. -/
def rangeMerge (g : Nat) : List LRange → List LRange
  | a :: b :: t =>
    if a.vol = b.vol ∧ a.kind = b.kind ∧ b.lba - (a.lba + a.n) = g then
      { a with n := max (a.lba + a.n) (b.lba + b.n) - a.lba, merged := a.merged || b.merged || decide (0 < g) } :: t
    else a :: rangeMerge g (b :: t)
  | l => l

/-- An LBA joins a list of at most 4096 ranges: it extends a range it touches, else stands for itself, after a merge where the list is
full. The answer says whether ranges merged. -/
def rangeAdd (r : LRange) (l : List LRange) : List LRange × Bool :=
  let m := rangeInsert r l
  let join := fun (m : List LRange) => if rangeGap m == some 0 then rangeMerge 0 m else m
  let m := join (join m)
  if m.length ≤ 4096 then (m, false)
  else match rangeGap m with
    | some g => (rangeMerge g m, true)
    | none => (m, false)

/-- An LBA becomes unwritable (R373, R375). -/
def State.makeUnwritable (s : State) (vol lba n : Nat) : State :=
  let r := rangeAdd { vol := vol, kind := 0, lba := lba, n := n } s.med.unwr
  let s := s.setMed fun m => { m with unwr := r.1 }
  if r.2 then (s.p MED_UNWR_MERGED 1).raise 133 else s

/-- Blocks are lost: kind 4 on media, 5 in the buffer; the runtime group lists them, and a Flush over their write learns of it (R373, R404,
R464, R482). -/
def State.loseBlocks (s : State) (kind vol lba n : Nat) : State :=
  let r := rangeAdd { vol := vol, kind := kind, lba := lba, n := n } s.med.lost
  let s := s.setMed fun m => { m with lost := r.1, lostMerged := m.lostMerged || r.2, lostGen := m.lostGen + 1 }
  s.modVol vol fun v => { v with lostN := satAdd 32 v.lostN n }

end Sys2Proof.Machine
end

