-- ==== Sys2Proof/Machine/Bench.lean ====
section
/-! DEFINITION. The benches: requests of their masters, arbitration cycle by cycle, stalls and promotion, counts, words that move in and out
(spec/12_benches_dram.md R377, R381 to R389, R407; spec/16_efina.md R548). -/

namespace Sys2Proof.Machine

/-! ### Addresses (R377) -/

/-- Interleaved benches (Table BEN-1). -/
def State.nBench (s : State) : Nat := if s.g BEN_CFG_MODE = 1 then 56 else 64

/-- A buffer address lies in the interleaved space. -/
def State.interleaved (s : State) (a : Nat) : Bool := decide (a < if s.g BEN_CFG_MODE = 1 then 0xE00000 else 0x1000000)

/-- The bench and row of an interleaved address: the word index by the number of interleaved benches. -/
def State.benchOf (s : State) (a : Nat) : Nat := a / 32 % s.nBench
def State.benchRow (s : State) (a : Nat) : Nat := a / 32 / s.nBench

/-- A master addressed a solid bench that it has no port to (R381): the flag, the master, event 137. -/
def State.benchBad (s : State) (m : Nat) : State := ((s.hwSet BEN_ERR_BADADDR 0 0 0).p BEN_ERR_MASTER m).raise 137

/-! ### One cycle (R382 to R386) -/

/-- Request `e` comes before `f` at one bench: a promoted master first, then the lower index. -/
def BWait.before (e f : BWait) : Bool :=
  if e.promoted == f.promoted then decide (e.req.m < f.req.m) else e.promoted

/-- A request has its bench in this cycle: no other request for that bench comes before it. -/
def State.benchWins (s : State) (l : Tbl BWait) (e : BWait) : Bool :=
  !s.interleaved e.req.addr || !l.any fun f => s.interleaved f.2.req.addr && s.benchOf f.2.req.addr == s.benchOf e.req.addr && f.2.before e

/-- A change of the benches' state. -/
def State.setBench (s : State) (f : Bench → Bench) : State := { s with bench := f s.bench }

/-- The counts of master `m` in the present tick change. -/
def State.benchCount (s : State) (m : Nat) (f : BenchCnt → BenchCnt) : State :=
  s.setBench fun b => { b with now := Tbl.put b.now m (f (Tbl.getD b.now m {})) }

/-- What a read returns sets out for its master: it arrives 3 cycles after the grant (R383). -/
def State.benchFetch (s : State) (m a : Nat) (w : List Byte) : State :=
  s.setBench fun b => { b with pipe := b.pipe ++ [(3, m, w)], last := Tbl.put b.last m (a, false) }

/-- A request is granted (R382, R383): a write takes effect; a read takes the word as it stands. Outside the interleaved space it reads zeros and its
write is discarded (R381). -/
def State.benchGrant (s : State) (r : BReq) : State :=
  let s := s.setBench fun b => { b with cur := Tbl.del b.cur r.m }
  if s.interleaved r.addr then
    let s := s.benchCount r.m fun c => { c with grants := c.grants + 1 }
    match r.data with
    | some d =>
      let s := s.setBench fun b => { b with last := b.last.map fun e => if e.2.1 = r.addr then (e.1, (e.2.1, true)) else e }
      s.bufWrite r.addr ((d ++ zeros 32).take 32)
    | none => s.benchFetch r.m r.addr (Memory.read 0 s.buf r.addr 32)
  else
    let s := s.benchBad r.m
    if r.data.isSome then s else s.benchFetch r.m r.addr (zeros 32)

/-- A request stalls for the cycle; with STALL_MAX stalls in a row its master is promoted (R384). -/
def State.benchStall (s : State) (e : BWait) : State :=
  let n := e.run + 1
  let up := !e.promoted && decide (s.g BEN_CFG_STALL_MAX ≤ n)
  let s := s.setBench fun b => { b with cur := Tbl.put b.cur e.req.m { e with run := n, promoted := e.promoted || up } }
  let s := s.benchCount e.req.m fun c => { c with stalls := c.stalls + 1, maxrun := max c.maxrun n, promo := c.promo + b2n up }
  if up then { s with promo := e.req.m :: s.promo } else s

/-- Words that were read come a cycle nearer; those that arrive reach their masters (R383). -/
def State.benchPipe (s : State) : State :=
  let l := s.bench.pipe.filter fun e => decide (e.1 ≤ 1)
  let s := s.setBench fun b => { b with pipe := (b.pipe.filter fun e => !decide (e.1 ≤ 1)).map fun e => (e.1 - 1, e.2) }
  l.foldl (fun s e => s.emit (.benchRead e.2.1 e.2.2)) s

/-- The first request of each master among some that has none before it. -/
def firstOf : List BReq → List BReq
  | [] => []
  | r :: t => r :: (firstOf t).filter fun x => x.m != r.m

/-- Masters present what they have: a master with a request that waits presents that one and no other (R382). -/
def State.benchPresent (s : State) (new : List BReq) : State :=
  let idle := fun (r : BReq) => !Tbl.has s.bench.cur r.m
  let a := (firstOf new).filter idle
  let b := (firstOf s.bench.todo).filter fun r => idle r && !a.any fun x => x.m == r.m
  s.setBench fun x => { x with
    todo := b.foldl List.erase x.todo ++ new.filter (fun r => !a.contains r)
    cur := (a ++ b).foldl (fun t r => Tbl.put t r.m { req := r }) x.cur }

/-- One cycle of the benches, in which masters present new requests. -/
def State.benchCycle (s : State) (new : List BReq) : State :=
  let s := s.benchPipe.benchPresent new
  let l := s.bench.cur
  let s := l.foldl (fun s e => if s.benchWins l e.2 then s.benchGrant e.2.req else s.benchStall e.2) s
  s.setBench fun b => { b with cyc := b.cyc + 1 }

/-! ### Cycles of a tick -/

/-- Cycles pass with the requests that they bring, as long as the tick has cycles left. -/
def State.benchRun (s : State) : List (List BReq) → State
  | [] => s
  | c :: t => if s.bench.cyc < s.tickLen then (s.benchCycle c).benchRun t else s

/-- Nothing waits at the benches. -/
def Bench.quiet (b : Bench) : Bool := b.cur.isEmpty && b.todo.isEmpty && b.pipe.isEmpty

/-- Up to `n` cycles without new requests, until nothing waits. -/
def State.benchDrain (s : State) : Nat → State
  | 0 => s
  | n + 1 => if s.bench.quiet then s else (s.benchCycle []).benchDrain n

/-- Counts of two ticks together (R388). -/
def BenchCnt.plus (a b : BenchCnt) : BenchCnt :=
  { grants := a.grants + b.grants, stalls := a.stalls + b.stalls, maxrun := max a.maxrun b.maxrun, promo := a.promo + b.promo }

/-- The rest of the ended tick passes at the benches; its counts fall due, with those of a tick whose publication was missed (R386, R388). -/
def State.benchEdge (s : State) (l : List (List BReq)) : State :=
  let s := s.benchRun l
  let s := s.benchDrain (s.tickLen - s.bench.cyc)
  s.setBench fun b => { b with
    due := b.now.foldl (fun (t : Tbl BenchCnt) e => Tbl.put t e.1 ((Tbl.getD t e.1 {}).plus e.2)) b.due
    now := [], cyc := 0 }

/-! ### Payloads (R548) -/

/-- Words of 32 bytes. -/
def wordsOf (n : Nat) (b : List Byte) : List (List Byte) := (List.range n).map fun i => ((b.drop (32 * i)).take 32 ++ zeros 32).take 32

/-- Payload words move through the two paths of a port: path A, master `a`, takes the even ones, path B, master `a` + 4, the odd ones. Where they stand in
the buffer the spec leaves to the block: below the RAM ring (log 158); those that leave stand there already. -/
def State.benchPayload (s : State) (a : Nat) (write : Bool) (body : List Byte) : State :=
  let n := ceilDiv body.length 32
  let top := min s.ringBase (if s.g BEN_CFG_MODE = 1 then 0xE00000 else 0x1000000) / 32
  let w0 := s.freeAt 70 % (top - n)
  let l := (wordsOf n body).zipIdx.map fun e =>
    ({ m := a + 4 * (e.2 % 2), addr := 32 * (w0 + e.2), data := if write then some e.1 else none } : BReq)
  let s := if write then s else s.bufWrite (32 * w0) ((wordsOf n body).flatten)
  (s.setBench fun b => { b with todo := b.todo ++ l }).fresh

end Sys2Proof.Machine
end

