-- ==== Sys2Proof/Machine/Flits.lean ====
section
/-! DEFINITION. Parcels as bytes and words, flits, the replay buffer, credits returned (spec/16_efina.md R532, R533, R535, R543, R545, R548; Tables
FAB-1 and FAB-3). -/

namespace Sys2Proof.Machine

/-! ### Parcels as bytes (Table FAB-3) -/

/-- The VC of a parcel type: control, request, response, bulk (Table FAB-5). -/
def vcOf (kind : Nat) : Nat := if kind < 0x10 then 0 else if kind < 0x18 then 1 else if kind < 0x20 then 2 else 3

/-- Bytes 0 to 29 of a parcel's header. -/
def Parcel.head (p : Parcel) : List Byte :=
  leBytes p.kind 1 ++ leBytes (vcOf p.kind + 4 * b2n p.dlc + 8 * b2n p.waypt.isSome + 16 * b2n p.passed + 32 * b2n p.resend) 1 ++
    leBytes (p.dst % 1024) 2 ++ leBytes (p.src % 1024) 2 ++ leBytes (p.waypt.getD 0 % 1024) 2 ++ leBytes p.hops 1 ++ leBytes p.epoch 1 ++
    leBytes p.body.length 2 ++ leBytes p.keyTick 6 ++ leBytes (p.keyNode % 1024 + 1024 * (p.span % 16)) 2 ++ leBytes p.lba 6 ++
    leBytes p.modes 1 ++ leBytes p.volc 1 ++ leBytes (p.xid % 32768) 2

/-- HCRC: CRC-16/CCITT over header bytes 0 to 29. -/
def Parcel.crc (p : Parcel) : Nat := crc16 p.head

/-- HCRC matches (R543). -/
def Parcel.good (p : Parcel) : Bool := p.hcrc == p.crc

/-- A parcel that passes keeps, with its header changed, the error of its HCRC. -/
def Parcel.passing (p : Parcel) : Parcel := { p with hcrc := Nat.xor p.hcrc p.crc }

/-- A parcel as it goes out. -/
def Parcel.onWire (p : Parcel) : Parcel := { p with hcrc := Nat.xor p.crc p.hcrc }

/-- The 32-byte words of a byte string; the last one is filled with zeros. -/
def words32 (b : List Byte) : List (List Byte) := wordsOf (ceilDiv b.length 32) b

/-- A parcel's words: its header and its payload (R545). -/
def Parcel.wire (p : Parcel) : List (List Byte) := (p.head ++ leBytes p.hcrc 2) :: words32 p.body

/-! ### Flits (Table FAB-1) -/

/-- The fields of a flit's control word. -/
def FlitIn.seq (f : FlitIn) : Nat := leAt f.bytes 0 2 % 4096
def FlitIn.idle (f : FlitIn) : Bool := bitAt (leAt f.bytes 0 2) 15
def FlitIn.ack (f : FlitIn) : Nat := leAt f.bytes 2 2 % 4096
def FlitIn.nak (f : FlitIn) : Bool := bitAt (leAt f.bytes 2 2) 15
def FlitIn.credits (f : FlitIn) : List Nat := (List.range 8).map fun i => leAt f.bytes (4 + 2 * i) 2
def FlitIn.abort (f : FlitIn) : Bool := bitAt (leAt f.bytes 20 1) 0

/-- FCRC matches: CRC-32C over bytes 0 to 27 and 32 to 639. -/
def FlitIn.fcrc (f : FlitIn) : Bool := leAt f.bytes 28 4 == crc32c (f.bytes.take 28 ++ (f.bytes.drop 32).take 608)

/-- A flit is good (R532). -/
def FlitIn.good (f : FlitIn) : Bool := f.decoded && f.fcrc

/-- The 19 data words of a flit. -/
def FlitIn.words (f : FlitIn) : List (List Byte) := words32 ((f.bytes.drop 32).take 608)

/-- The bytes of a flit. -/
def flitBytes (seq : Nat) (idle : Bool) (ack : Nat) (nak : Bool) (credits : List Nat) (abort : Bool) (data : List Byte) : List Byte :=
  let c := leBytes (seq + 32768 * b2n idle) 2 ++ leBytes (ack + 32768 * b2n nak) 2 ++ credits.flatMap (leBytes · 2) ++ leBytes (b2n abort) 1 ++ zeros 7
  c ++ leBytes (crc32c (c ++ data)) 4 ++ data

/-! ### Ports -/

/-- Port `p` and a change of it. -/
def State.port (s : State) (p : Nat) : Port := Tbl.getD s.fab.ports p {}
def State.setPort (s : State) (p : Nat) (f : Port → Port) : State :=
  { s with fab := { s.fab with ports := Tbl.put s.fab.ports p (f (s.port p)) } }

/-- A flit leaves port `p` with what the port has to acknowledge, and with the credits owed (R533, R545). -/
def State.flitOut (s : State) (p seq : Nat) (idle nak abort : Bool) (data : List Byte) : State :=
  let x := s.port p
  (s.setPort p fun x => { x with owed := ({} : Port).owed }).emit (.flit p (flitBytes seq idle x.rxSeq nak x.owed abort data))

/-- An idle flit carries an acknowledgement, a NAK or credits (R533). -/
def State.flitIdle (s : State) (p : Nat) (nak : Bool) : State := s.flitOut p 0 true nak false (zeros 608)

/-- A sequenced flit enters the replay buffer and leaves (R533). -/
def State.flitSeq (s : State) (p : Nat) (abort : Bool) (data : List Byte) : State :=
  let n := ((s.port p).txSeq + 1) % 4096
  let fresh := (s.port p).unacked.isEmpty
  (s.setPort p fun x => { x with txSeq := n, unacked := x.unacked ++ [(n, data)], ackAt := if fresh then s.instant else x.ackAt }).flitOut p n false false abort data

/-- Waiting words leave in flits of 19 while fewer than 512 flits are unacknowledged (R533). DESIGN CHOICE (log 163): a flit leaves as soon as a word
waits; the words that it has no parcel data for are zeros, no parcel's header. -/
def State.flitPump (s : State) (p : Nat) : Nat → State
  | 0 => s
  | n + 1 =>
    let x := s.port p
    if x.txWords.isEmpty || decide (512 ≤ x.unacked.length) then s
    else
      let d := (x.txWords.take 19).flatten
      ((s.setPort p fun x => { x with txWords := x.txWords.drop 19 }).flitSeq p false (d ++ zeros (608 - d.length))).flitPump p n

/-- Words of a parcel go to a port's flits. -/
def State.flitWords (s : State) (p : Nat) (l : List (List Byte)) : State :=
  let s := s.setPort p fun x => { x with txWords := x.txWords ++ l }
  s.flitPump p ((s.port p).txWords.length)

/-- A parcel goes out of a port: its words in flits, its payload, where this node sends it, out of the benches by the transmit path masters (R548). -/
def State.parcelOut (s : State) (port : Nat) (p : Parcel) : State :=
  let q := p.onWire
  let s := (s.emit (.parcel port q)).flitWords port q.wire
  if p.inPort = 4 ∧ !p.body.isEmpty then s.benchPayload (12 + port) false p.body else s

/-- Flits up to the acknowledged one leave the replay buffer (R533). -/
def ackUpTo (ack : Nat) (l : List (Nat × List Byte)) : List (Nat × List Byte) :=
  if l.any fun e => e.1 == ack then (l.dropWhile fun e => e.1 != ack).drop 1 else l

/-- Every flit of the replay buffer is sent again, in order (R533). -/
def State.flitReplay (s : State) (p : Nat) : State := (s.port p).unacked.foldl (fun s e => s.flitOut p e.1 false false false e.2) s

/-! ### Receiving -/

/-- The words of a flit are parted into parcels: the words still to come of the one in progress, its header, and the headers that begin. A word at a
parcel's place whose TYPE is 0 is no header (assumption log 163). -/
def rxWalk : Nat → List Byte → List (List Byte) → List (List Byte) → Nat × List Byte × List (List Byte)
  | left, h, seen, [] => (left, h, seen)
  | 0, _, seen, w :: t =>
    if leAt w 0 1 = 0 then rxWalk 0 [] seen t else rxWalk (ceilDiv (leAt w 10 2) 32) w (seen ++ [w]) t
  | n + 1, h, seen, _ :: t => rxWalk n h seen t

/-- The place of a header's VC and class among credits. -/
def headCredit (w : List Byte) : Nat := 2 * vcOf (leAt w 0 1) + b2n (bitAt (leAt w 1 1) 2)

/-- Words of VC and class `i` have left the receive buffer of port `p`: their credits are returned with the next flit (R545). -/
def State.owe (s : State) (p i n : Nat) : State := s.setPort p fun x => { x with owed := x.owed.set i (x.owed.getD i 0 + n) }

/-- A parcel leaves the receive buffer of the port it came by. -/
def State.leaveBuffer (s : State) (p : Parcel) : State :=
  if p.inPort < 4 then s.owe p.inPort (2 * vcOf p.kind + b2n p.dlc) (1 + ceilDiv p.body.length 32) else s

/-- The payload of a parcel for this node moves into the benches through the receive path masters of its port (R548). -/
def State.landPayload (s : State) (p : Parcel) : State :=
  if p.inPort < 4 ∧ !p.body.isEmpty then s.benchPayload (4 + p.inPort) true p.body else s

end Sys2Proof.Machine
end

