-- ==== Sys2Proof/Machine/Routes.lean ====
section
/-! DEFINITION. The torus of the fabric: dimension-order paths, datelines, links that are down in the view, detours, routes
(spec/16_efina.md R530, R549 to R552). -/

namespace Sys2Proof.Machine

/-! ### Paths -/

/-- Place of a node ID in the torus: x in its low five bits, y above. -/
def idX (n : Nat) : Nat := n % 32
def idY (n : Nat) : Nat := n / 32
def nodeId (x y : Nat) : Nat := 32 * y + x

/-- The channels of a walk around a ring of `n` from `a` to `b`, as (position, class): class 1 from the hop that crosses the dateline between
`n − 1` and 0 (R550). -/
def ringWalk (n b : Nat) (up : Bool) (a cls : Nat) : Nat → List (Nat × Nat)
  | 0 => []
  | f + 1 =>
    if a = b then []
    else
      let c := if (up && a + 1 == n) || (!up && a == 0) then 1 else cls
      (a, c) :: ringWalk n b up (if up then (a + 1) % n else (a + n - 1) % n) c f

/-- The shorter way around a ring, the positive one where both are equally long (R549). -/
def ringUp (n a b : Nat) : Bool := decide (2 * ((b + n - a) % n) ≤ n)

/-- A channel: a link direction, as node and port, and a class, in one number. -/
def chanOf (node port cls : Nat) : Nat := 8 * node + 2 * port + cls
def chanNode (c : Nat) : Nat := c / 8
def chanPort (c : Nat) : Nat := c / 2 % 4

/-- The dimension-order path from node `a` to node `b` of a W × H torus: x first, then y, each entered with class 0 (R549, R550). -/
def dorPath (w h a b : Nat) : List Nat :=
  let ux := ringUp w (idX a) (idX b)
  let uy := ringUp h (idY a) (idY b)
  ((ringWalk w (idX b) ux (idX a) 0 w).map fun e => chanOf (nodeId e.1 (idY a)) (if ux then 0 else 1) e.2) ++
    (ringWalk h (idY b) uy (idY a) 0 h).map fun e => chanOf (nodeId (idX b) e.1) (if uy then 2 else 3) e.2

/-- The neighbour that a node's port faces (R530). -/
def neighbour (w h n port : Nat) : Nat :=
  match port with
  | 0 => nodeId ((idX n + 1) % max 1 w) (idY n)
  | 1 => nodeId ((idX n + w - 1) % max 1 w) (idY n)
  | 2 => nodeId (idX n) ((idY n + 1) % max 1 h)
  | _ => nodeId (idX n) ((idY n + h - 1) % max 1 h)

/-- The port at the far end of a link (R530). -/
def farPort (port : Nat) : Nat := if port % 2 = 0 then port + 1 else port - 1

/-! ### The view -/

/-- A record shows a port up. -/
def Lsr.up (x : Lsr) (port : Nat) : Bool := (x.ports[port]?).any (·.1)

/-- The link at port `port` of node `n` is down in a view: an end is missing or shows it down (R552, R557). -/
def linkDown (w h : Nat) (view : Tbl Lsr) (n port : Nat) : Bool :=
  match Tbl.find view n, Tbl.find view (neighbour w h n port) with
  | some a, some b => !(a.up port && b.up (farPort port))
  | _, _ => true

/-- A path crosses a link that is down. -/
def pathDown (w h : Nat) (view : Tbl Lsr) (l : List Nat) : Bool := l.any fun c => linkDown w h view (chanNode c) (chanPort c)

/-- The links of the array that are down in the view, of those with an end in it (FAB_EPOCH.DOWN). -/
def downLinks (w h : Nat) (view : Tbl Lsr) : Nat :=
  countP (fun i =>
    let n := nodeId (i / 2 % max 1 w) (i / 2 / max 1 w)
    let port := if i % 2 = 0 then 0 else 2
    decide (1 < if i % 2 = 0 then w else h) && (Tbl.has view n || Tbl.has view (neighbour w h n port)) && linkDown w h view n port) (List.range (2 * w * h))

/-- Nodes that up links join to node `me`, from those found so far, in at most `f` rounds. -/
def joined (w h : Nat) (view : Tbl Lsr) (l : List Nat) : Nat → List Nat
  | 0 => l
  | f + 1 =>
    let more := (view.map (·.1)).filter fun n => !l.contains n && [0, 1, 2, 3].any fun p => !linkDown w h view n p && l.contains (neighbour w h n p)
    if more.isEmpty then l else joined w h view (l ++ more) f

/-! ### Detours (R552) -/

/-- The dependencies of a path: each channel on the next. -/
def chain : List Nat → List (Nat × Nat)
  | a :: b :: t => (a, b) :: chain (b :: t)
  | _ => []

/-- A dependency graph is acyclic: edges whose end starts no edge go away until none is left. -/
def acyclic : List (Nat × Nat) → Nat → Bool
  | l, 0 => l.isEmpty
  | l, f + 1 => if l.isEmpty then true else acyclic (l.filter fun e => l.any fun g => g.1 == e.2) f

/-- Order of waypoints: fewest total hops, then the lower ID. -/
def wayLe (a b : Nat × Nat) : Bool := decide (a.1 < b.1) || (a.1 == b.1 && decide (a.2 ≤ b.2))

def wayInsert (a : Nat × Nat) : List (Nat × Nat) → List (Nat × Nat)
  | [] => [a]
  | b :: t => if wayLe a b then a :: b :: t else b :: wayInsert a t

/-- The waypoints of a pair in the order in which they are tried, as (total hops, node). -/
def waypoints (w h : Nat) (nodes : List Nat) (a b : Nat) : List (Nat × Nat) :=
  (nodes.filter fun c => c != a && c != b).foldl (fun l c => wayInsert ((dorPath w h a c).length + (dorPath w h c b).length, c) l) []

/-- The detour of a pair, with the graph that it leaves: the first waypoint whose two paths are up and keep the graph acyclic. -/
def detourOf (w h : Nat) (view : Tbl Lsr) (a b : Nat) (g : List (Nat × Nat)) : List (Nat × Nat) → Option (Nat × List (Nat × Nat))
  | [] => none
  | c :: t =>
    let p := dorPath w h a c.2
    let q := dorPath w h c.2 b
    let g' := g ++ chain (p ++ q)
    if pathDown w h view p || pathDown w h view q || !acyclic g' g'.length then detourOf w h view a b g t else some (c.2, g')

/-- The routes of node `me`, and the graph so far, over pairs in order of source and destination. -/
def routesFrom (w h : Nat) (view : Tbl Lsr) (nodes : List Nat) (me : Nat) : List (Nat × Nat) → Tbl Route → List (Nat × Nat) → Tbl Route
  | [], r, _ => r
  | (a, b) :: t, r, g =>
    let path := dorPath w h a b
    if pathDown w h view path then
      match detourOf w h view a b g (waypoints w h nodes a b) with
      | some (c, g') =>
        routesFrom w h view nodes me t (if a = me then Tbl.put r b { port := ((dorPath w h a c).head?.map chanPort).getD 7, waypt := some c } else r) g'
      | none => routesFrom w h view nodes me t (if a = me then Tbl.put r b { port := 7, reach := false } else r) g
    else routesFrom w h view nodes me t (if a = me then Tbl.put r b { port := (path.head?.map chanPort).getD 7 } else r) g

/-- The route table of node `me` (R551, R552): the graph begins with every dimension-order route. -/
def routeTable (w h : Nat) (view : Tbl Lsr) (me : Nat) : Tbl Route :=
  let nodes := view.map (·.1)
  let pairs := nodes.flatMap fun a => (nodes.filter (· != a)).map fun b => (a, b)
  routesFrom w h view nodes me pairs [] (pairs.flatMap fun e => chain (dorPath w h e.1 e.2))

end Sys2Proof.Machine
end

