-- ==== Sys2Proof/Machine/Parcels.lean ====
section
/-! DEFINITION. Parcels of the fabric: sending, what waits for a response, duplicates; spans and stripe owners
(spec/16_efina.md R543 to R571; spec/17_twins_spans.md R573, R574). -/

namespace Sys2Proof.Machine

/-! ### Sending -/

/-- This node's ID, 0x3FF when unknown. -/
def State.node (s : State) : Nat := s.g FAB_NODE_ID

/-- A request or a bulk parcel (Table FAB-5). -/
def tracked (kind : Nat) : Bool := (decide (0x10 ≤ kind) && decide (kind ≤ 0x15)) || (decide (0x20 ≤ kind) && decide (kind ≤ 0x22))

/-- Port `p` is up (FAB_PSTAT). -/
def State.portUp (s : State) (p : Nat) : Bool := s.gk FAB_PSTAT_STATE p == 2 || s.gk FAB_PSTAT_STATE p == 3

/-- The words of a parcel, header and payload (R545). -/
def Parcel.words (p : Parcel) : Nat := 1 + ceilDiv p.body.length 32

/-- The place of a parcel's VC and class among a port's credits. -/
def Parcel.credit (p : Parcel) : Nat := 2 * vcOf p.kind + b2n p.dlc

/-- A port holds the credits for every word of a parcel (R545). -/
def Port.holds (x : Port) (p : Parcel) : Bool := decide (p.words ≤ x.credits.getD p.credit 0)

/-- The parcels that wait at a port's output on VC `v` from input `i`, oldest first; input 4 is local injection. -/
def Port.waiting (x : Port) (v i : Nat) : List Parcel := x.queue.filter fun p => vcOf p.kind == v && min p.inPort 4 == i

/-- The next parcel of VC `v`: inputs take turns, each with its oldest (R546). -/
def Port.pickVc (x : Port) (v : Nat) : Option Parcel :=
  (List.range 5).findSome? fun j => ((x.waiting v ((x.lastIn + 1 + j) % 5)).head?).filter x.holds

/-- The next eligible parcel: control first, then response, request and bulk in turns (R546). -/
def Port.pick (x : Port) : Option Parcel :=
  match x.pickVc 0 with
  | some p => some p
  | none =>
    let turn := [2, 1, 3]
    let k := turn.idxOf x.lastVc
    (List.range 3).findSome? fun j => x.pickVc (turn.getD ((k + 1 + j) % 3) 2)

/-- A parcel of a port's queue starts: it spends its credits (R545). -/
def Port.start (x : Port) (p : Parcel) : Port :=
  let v := vcOf p.kind
  { x with
    queue := x.queue.erase p
    credits := x.credits.set p.credit (x.credits.getD p.credit 0 - p.words)
    lastVc := if v = 0 then x.lastVc else v
    lastIn := min p.inPort 4 }

/-- Eligible parcels leave a port, `f` of them at most. -/
def State.drainPort (s : State) (port : Nat) : Nat → State
  | 0 => s
  | f + 1 =>
    match (s.port port).pick with
    | none => s
    | some p => ((s.setPort port fun x => x.start p).parcelOut port p).drainPort port f

/-- A parcel leaves by a port when its credits are held, or is kept while the port is down (R535, R545, R555). A declared power loss stops the
links: nothing is sent (R94). -/
def State.putOn (s : State) (port : Nat) (p : Parcel) : State :=
  if s.pwr.loss.isSome then s
  else if s.portUp port then (s.setPort port fun x => { x with queue := x.queue ++ [p] }).drainPort port ((s.port port).queue.length + 1)
  else s.setPort port fun x => { x with kept := x.kept ++ [p] }

/-- A link-local parcel to the peer of a port; the contents' layout is the model's (assumption log 24). -/
def State.linkSend (s : State) (port kind : Nat) (body : List Byte) : State :=
  if s.portUp port then s.putOn port { kind := kind, body := body, inPort := 4 } else s

/-- The route to a node; none where it is unreachable (R551, R553). -/
def State.routeTo (s : State) (d : Nat) : Option Route :=
  match Tbl.find s.fab.routes d with
  | some r => if r.reach then some r else none
  | none => none

/-- A node is this one or has a route. -/
def State.reachable (s : State) (d : Nat) : Bool := (d == s.node && d != 0x3FF) || (s.routeTo d).isSome

/-- The hop of a parcel at this node toward node `d`: the port, and the parcel with its class: 0 where it enters a dimension or has just reached
its waypoint, 1 from the dateline on (R549, R550). -/
def State.hopTo (s : State) (p : Parcel) (d : Nat) (fresh : Bool) : Option (Nat × Parcel) :=
  match dorPath (s.g FAB_NODE_W) (s.g FAB_NODE_H) s.node d with
  | [] => none
  | c :: _ =>
    let port := chanPort c
    let keep := !fresh && decide (p.inPort < 4) && p.inPort / 2 == port / 2 && p.dlc
    some (port, { p with dlc := keep || c % 2 == 1 })

/-- The next hop of a parcel (R551 to R555): toward its waypoint by dimension order; from there on to its destination; without a waypoint by this
node's table, which may give it one. -/
def State.hop (s : State) (p : Parcel) : Option (Nat × Parcel) :=
  match p.waypt with
  | some w =>
    if p.passed then s.hopTo p p.dst false
    else if w = s.node then s.hopTo { p with passed := true } p.dst true
    else s.hopTo p w false
  | none =>
    match s.routeTo p.dst with
    | none => none
    | some r => s.hopTo { p with waypt := r.waypt } (r.waypt.getD p.dst) false

/-- A parcel is routed onward; one without a route is discarded and counted. -/
def State.routeOut (s : State) (p : Parcel) : State :=
  match s.hop p with
  | none => s.bump FAB_DROP 1
  | some (port, p) => s.putOn port p

/-- This node originates a parcel toward `p.dst`; one toward an unreachable node is not sent (R553). -/
def State.send (s : State) (p : Parcel) : State :=
  match s.hop { p with src := s.node, epoch := s.g FAB_EPOCH_EPOCH % 256, waypt := none, passed := false, dlc := false, hops := 0, inPort := 4 } with
  | none => s
  | some (port, p) => s.putOn port p

/-- A request or bulk parcel is sent and waits for its response (R570). -/
def State.ask (s : State) (p : Parcel) : State :=
  let p := { p with src := s.node }
  if s.reachable p.dst then ({ s with fab := { s.fab with await := s.fab.await ++ [{ p := p }] } } : State).send p else s

/-- Responses have arrived for the parcels that pass the test. -/
def State.answered (s : State) (f : Parcel → Bool) : State := { s with fab := { s.fab with await := s.fab.await.filter fun x => !f x.p } }

/-- A parcel is discarded and counted, with event 185 at most once per tick (R543). -/
def State.dropParcel (s : State) : State :=
  let s := s.bump FAB_DROP 1
  if s.fab.dropped then s else ({ s with fab := { s.fab with dropped := true } } : State).raise 185

/-! ### Consuming -/

/-- The identity of a request or bulk parcel (R571). -/
def identOf (p : Parcel) : Ident := { src := p.src, kind := p.kind, xid := p.xid, keyTick := p.keyTick, lba := p.lba }

/-- The parcel was consumed in the current or the previous epoch. -/
def State.known (s : State) (p : Parcel) : Bool := s.fab.seen.contains (identOf p) || s.fab.seenPrev.contains (identOf p)

/-- A request or bulk parcel of an older epoch, not a resend (R571). -/
def State.stale (s : State) (p : Parcel) : Bool :=
  let d := (s.g FAB_EPOCH_EPOCH % 256 + 256 - p.epoch % 256) % 256
  tracked p.kind && !p.resend && decide (0 < d) && decide (d < 128)

/-- The identity is kept (R571). -/
def State.remember (s : State) (p : Parcel) : State := { s with fab := { s.fab with seen := identOf p :: s.fab.seen } }

/-- This node consumes parcels: it runs, its ID is known and no declared power loss has stopped its links (R94); a parcel for another node is not
consumed. -/
def State.takes (s : State) (p : Parcel) : Bool := s.running && s.pwr.loss.isNone && p.dst == s.node && s.node != 0x3FF

/-! ### Payloads -/

/-- A data payload (Table FAB-4). -/
def dataBody (enc : Bool) (u : Unit4k) (kver : Nat) : List Byte :=
  u.bytes ++ (if enc then leBytes u.uchk 4 ++ leBytes kver 4 else zeros 8) ++ zeros 8

/-- The unit and the KVER of a data payload. -/
def bodyUnit (b : List Byte) : Unit4k := { bytes := b.take 4112, uchk := leAt b 4112 4 }
def bodyKver (b : List Byte) : Nat := leAt b 4116 4

/-! ### Spans (Table TWN-1) -/

/-- The offset of span `n`'s record in section 0x0071, among `f` records from offset `o`. -/
def spanFind (b : List Byte) (n o : Nat) : Nat → Option Nat
  | 0 => none
  | f + 1 => if leAt b o 1 = n then some o else spanFind b n (o + 16 + ceilDiv (2 * leAt b (o + 2) 2) 16 * 16) f

/-- The record of span `n` of the active chart, with the section. -/
def State.spanRec (s : State) (n : Nat) : Option (List Byte × Nat) :=
  match s.sec 0x71 0 with
  | none => none
  | some b => (spanFind b n (16 + ceilDiv (4 * leAt b 0 2) 16 * 16) (leAt b 2 1)).map fun o => (b, o)

/-- The stripe-table length, capacity and peer spares of a span; its owners by table position. -/
def State.spanL (s : State) (n : Nat) : Nat := match s.spanRec n with | some (b, o) => leAt b (o + 2) 2 | none => 0
def State.spanCap (s : State) (n : Nat) : Nat := match s.spanRec n with | some (b, o) => leAt b (o + 8) 8 | none => 0
def State.spanSpare (s : State) (n : Nat) : Nat := match s.spanRec n with | some (b, o) => leAt b (o + 4) 2 | none => 0
def State.spanEntry (s : State) (n i : Nat) : Nat := match s.spanRec n with | some (b, o) => leAt b (o + 16 + 2 * i) 2 | none => 0x3FF

/-- The members of a span by table position. -/
def State.spanTable (s : State) (n : Nat) : List Nat := (List.range (s.spanL n)).map (s.spanEntry n)

/-- The owner of stripe `k` of a span (R27). -/
def State.stripeOwner (s : State) (n k : Nat) : Nat := s.spanEntry n (k % max 1 (s.spanL n))

/-- This node is a member of a span (R574). -/
def State.spanMember (s : State) (n : Nat) : Bool := (s.spanTable n).contains s.node

/-- The local extent that holds stripe `k` of a span (R574). -/
def State.stripeExt (s : State) (n k : Nat) : Nat :=
  let t := s.spanTable n
  let l := max 1 t.length
  k / l * countP (· == s.node) t + countP (· == s.node) (t.take (k % l))

/-- The twin's node ID, 0x3FF for none (TWN_STAT.TWIN). -/
def State.twin (s : State) : Nat := s.g TWN_STAT_TWIN
def State.hasTwin (s : State) : Bool := s.twin != 0x3FF

/-- The node is Solo, in resync or not; it is in resync (TWN_STAT.STATE). -/
def State.solo (s : State) : Bool := decide (2 ≤ s.g TWN_STAT_STATE)
def State.inResync (s : State) : Bool := s.g TWN_STAT_STATE == 3

/-- The twin of a node in the chart's pair records. -/
def State.twinIn (s : State) (id : Nat) : Option Nat :=
  match s.sec 0x71 0 with
  | none => none
  | some b => (List.range (leAt b 0 2)).findSome? fun i =>
      let a := leAt b (16 + 4 * i) 2
      let c := leAt b (18 + 4 * i) 2
      if a = id then some c else if c = id then some a else none

/-- The node's ID and torus become known, and with the ID its twin, with which it is paired (FAB_NODE, TWN_STAT). -/
def State.nodeKnown (s : State) (id w h : Nat) : State :=
  let s := ((s.p FAB_NODE_ID id).p FAB_NODE_W w).p FAB_NODE_H h
  match s.twinIn id with
  | some t => (s.p TWN_STAT_TWIN t).p TWN_STAT_STATE 1
  | none => s

end Sys2Proof.Machine
end

