-- ==== Sys2Proof/Machine/Pool.lean ====
section
/-! DEFINITION. The DRAM, the capture pool and its slabs; what the power states and the journal ask of them
(spec/12_benches_dram.md R390 to R399; spec/03_supplies_surveyor.md R101, R104). -/

namespace Sys2Proof.Machine

/-! ### The DRAM -/

/-- The size of the DRAM in bytes, and the rate at which initialisation writes it, in MB/ms (R390, R391). -/
def State.dramBytes (s : State) : Nat := 2 * s.secLe 0x51 0 0 1 0 * 2 ^ 30
def State.dramInitRate (s : State) : Nat :=
  match s.secLe 0x51 0 1 1 0 with
  | 0 => 60
  | 1 => 45
  | _ => 30

/-- Groups of 9 lines on a channel, and the usable space in MiB (R393). -/
def State.dramGroups (s : State) : Nat := s.secLe 0x51 0 0 1 0 * 2 ^ 30 / 64 / 9
def State.dramUsable (s : State) : Nat := 2 * s.dramGroups * 512 / 2 ^ 20

/-- The DRAM channel of a buffer address; its data line in the channel; the check line of its group (R393). -/
def dramCh (d : Nat) : Nat := d / 512 % 2
def dramLine (d : Nat) : Nat := 9 * (d / 512 / 2) + d % 512 / 64
def dramCheck (d : Nat) : Nat := 9 * (d / 512 / 2) + 8

/-- The key of a line of a channel. -/
def dramKey (ch line : Nat) : Nat := ch * 2 ^ 40 + line

/-- The check bits of a data line: SECDED over each 8-byte lane. -/
def checkLane (l : List Byte) : List Byte := (List.range 8).map fun i => byte (Config.secded (BitVec.ofNat 64 (leAt l (8 * i) 8))).toNat

/-- The data line at an address, as it stands. -/
def State.dramAt (s : State) (d : Nat) : List Byte := Tbl.getD s.dram (dramKey (dramCh d) (dramLine d)) (zeros 64)

/-- `n` accesses of channel `ch` more, reads or writes (R394). -/
def State.dramCount (s : State) (ch : Nat) (write : Bool) (n : Nat) : State :=
  let i := 2 * ch + b2n write
  { s with dramAcc := Tbl.put s.dramAcc i (Tbl.getD s.dramAcc i 0 + n) }

/-- A whole data line is written, with its check lane, in one request (R394). -/
def State.dramPut (s : State) (d : Nat) (l : List Byte) : State :=
  let k := d % 512 / 64
  let zeroCheck := ((List.range 8).flatMap fun _ => checkLane (zeros 64))
  let c := Tbl.getD s.dram (dramKey (dramCh d) (dramCheck d)) zeroCheck
  let c := c.take (8 * k) ++ checkLane l ++ c.drop (8 * k + 8)
  { s with dram := Tbl.put (Tbl.put s.dram (dramKey (dramCh d) (dramLine d)) l) (dramKey (dramCh d) (dramCheck d)) c }

/-- A write within one line: of the whole line one write; of a part of it a read, a merge and a write, one access of each (R394). -/
def State.dramWrite (s : State) (d : Nat) (b : List Byte) : State :=
  let o := d % 64
  if b.length = 64 then (s.dramCount (dramCh d) true 1).dramPut d b
  else
    let l := s.dramAt d
    ((s.dramCount (dramCh d) false 1).dramCount (dramCh d) true 1).dramPut d (l.take o ++ b ++ l.drop (o + b.length))

/-- A block of 4096 bytes at an aligned address is written line by line. -/
def State.dramBlock (s : State) (d : Nat) (b : List Byte) : State :=
  (List.range 64).foldl (fun s i => s.dramWrite (d + 64 * i) (((b.drop (64 * i)).take 64 ++ zeros 64).take 64)) s

/-- The slabs of the pool (POOL_MIB). -/
def State.poolSlabs (s : State) : Nat := s.secLe 0x51 0 4 4 0

/-- A DRAM channel is faulted (R406). -/
def State.dramFaulted (s : State) : Bool := s.g DRM_STAT_FAULT != 0

/-- An access takes the DRAM out of self-refresh (R107). -/
def State.dramWake (s : State) : State := if s.g DRM_STAT_STATE = 4 then s.p DRM_STAT_STATE 3 else s

/-- The base of the capture pool in MiB: the top of the usable space less POOL_MIB (R397). -/
def State.poolBase (s : State) : Nat := s.dramUsable - s.poolSlabs

/-- The address of line `line` of block `b` of slab `k`, and of the block's tag in the tag array, 4 KiB per slab, at the foot of the table region
(R397, R398; log 159). -/
def State.slabAddr (s : State) (k b line : Nat) : Nat := (s.poolBase + k) * 2 ^ 20 + 4096 * b + 64 * line
def tagAddr (k b : Nat) : Nat := 4096 * k + 16 * b

/-- A block and its tag go to the DRAM (R394, R397, R398). -/
def State.dramStore (s : State) (k b : Nat) (u : List Byte) : State :=
  (s.dramBlock (s.slabAddr k b 0) (u.take 4096)).dramWrite (tagAddr k b) (((u.drop 4096) ++ zeros 16).take 16)

/-- A block and its tag are read: 64 lines and the tag's line. -/
def State.dramFetch (s : State) (k b : Nat) : State :=
  (List.range 64).foldl (fun s i => s.dramCount (dramCh (s.slabAddr k b i)) false 1) (s.dramCount (dramCh (tagAddr k b)) false 1)

/-! ### Slabs -/

/-- The slab of an extent: owned, or a twin copy. -/
def State.slabOf (s : State) (twin : Bool) (vol ext : Nat) : Option (Nat × Slab) :=
  s.slabs.find? fun e => e.2.twin == twin && e.2.vol == vol && e.2.ext == ext

/-- The MODES under which an owned extent was last written; where it has no slab, those of its volume here, with ENC where a span's stored key verifier
shows it (R468, R511). -/
def State.extModes (s : State) (vol ext : Nat) : Nat :=
  match s.slabOf false vol ext with
  | some e => e.2.last
  | none => if 64 ≤ vol ∧ ((s.volAt vol).bind (·.kver)).isSome then setBit (s.modesOf vol) 4 else s.modesOf vol

/-- Change slab `k`. -/
def State.modSlab (s : State) (k : Nat) (f : Slab → Slab) : State :=
  match Tbl.find s.slabs k with
  | some x => { s with slabs := Tbl.put s.slabs k (f x) }
  | none => s

/-- A committed block of an owned extent. -/
def State.slabUnit (s : State) (vol lba : Nat) : Option Unit4k :=
  (s.slabOf false vol (lba / 256)).bind fun e => Tbl.find e.2.blocks (lba % 256)

/-- A block waits for its RESTORE. -/
def State.slabBad (s : State) (vol lba : Nat) : Bool :=
  match s.slabOf false vol (lba / 256) with
  | some e => e.2.bad.contains (lba % 256)
  | none => false

/-- The lowest free slab. -/
def State.freeSlab (s : State) : Option Nat := Tbl.firstFree s.slabs 0 s.poolSlabs

/-- A new slab for an extent. -/
def State.newSlab (s : State) (k : Nat) (twin : Bool) (vol ext : Nat) : State :=
  let s := if twin then s else s.modVol vol id
  { s with slabs := Tbl.put s.slabs k { vol := vol, ext := ext, twin := twin } }

/-- A slab request waits, with event 143 at the first wait of an episode (R399). -/
def State.waitSlab (s : State) (who : Nat) : State :=
  let s : State := { s with slabWait := s.slabWait ++ [who] }
  if s.poolFull then s else ({ s with poolFull := true } : State).raise 143

/-- A slab is freed: its blocks leave the write-buffer index, and the volume's page changes (R448, R483). -/
def State.dropSlab (s : State) (k : Nat) : State :=
  let x := Tbl.find s.slabs k
  let s : State := { s with slabs := Tbl.del s.slabs k }
  match x with
  | some x => if x.twin then s else ({ s with wbuf := s.wbuf.filter fun e => !(x.vol == e.1 && x.ext == e.2 / 256) } : State).modVol x.vol id
  | none => s

/-! ### Runs of blocks -/

/-- Runs of a rising list of numbers, as (first, length). -/
def runs : List Nat → List (Nat × Nat)
  | [] => []
  | a :: t =>
    match runs t with
    | (b, n) :: r => if a + 1 = b then (a, n + 1) :: r else (a, 1) :: (b, n) :: r
    | [] => [(a, 1)]

/-- The committed ranges of an owned extent, as (first LBA, blocks). -/
def State.slabRuns (s : State) (vol ext : Nat) : List (Nat × Nat) :=
  match s.slabOf false vol ext with
  | some e => (runs (e.2.blocks.map (·.1))).map fun r => (256 * ext + r.1, r.2)
  | none => []

/-! ### The dirty list -/

/-- The key of an extent in the dirty list. -/
def dirtyKey (vol ext : Nat) : Nat := vol * 2 ^ 40 + ext
def dirtyVol (k : Nat) : Nat := k / 2 ^ 40
def dirtyExt (k : Nat) : Nat := k % 2 ^ 40

/-- An extent is LACK. -/
def State.isLack (s : State) (vol ext : Nat) : Bool :=
  match Tbl.find s.twn.dirty (dirtyKey vol ext) with
  | some d => d.lack
  | none => false

/-- The twin has CONFIRMed its copy of a committed block (R588). -/
def State.confirmed (s : State) (vol lba : Nat) : Bool :=
  match s.slabOf false vol (lba / 256) with
  | some e => e.2.conf.contains (lba % 256)
  | none => false

/-! ### What the journal lists (R101, Table PWR-6): (VOL, KIND, LBA, blocks) -/

/-- The ranges that a power-loss journal lists: unlanded Local data, Held data that the twin does not hold, also where the list of
dirty extents has overflowed (R35), reallocations not stored. -/
def State.lostRanges (s : State) : List (Nat × Nat × Nat × Nat) :=
  let unlanded := s.pieces.filter fun e => !e.2.landed && !e.2.read
  let of := fun (kind : Nat) (p : OPiece) (l : List Nat) =>
    (runs ((List.range p.n).filter l.contains)).map fun r => (volOf p.vol, kind, p.lba + r.1, r.2)
  let locals := unlanded.flatMap fun e => if ackOf e.2.modes = 2 then of 1 e.2 e.2.comm else []
  let lack := s.twn.dirty.flatMap fun e =>
    if e.2.lack then (s.slabRuns (dirtyVol e.1) (dirtyExt e.1)).map fun r => (volOf (dirtyVol e.1), 2, r.1, r.2) else []
  let held := unlanded.flatMap fun e =>
    if ackOf e.2.modes = 0 ∧ !s.isLack e.2.vol (e.2.lba / 256) then of 2 e.2 (e.2.comm.filter fun i => !s.confirmed e.2.vol (e.2.lba + i)) else []
  let spares := s.med.spares.filterMap fun e => if e.2.stored then none else some (volOf e.2.vol, 3, e.2.lba, 1)
  locals ++ lack ++ held ++ spares

/-! ### The conditions of R104 -/

/-- The node owns unlanded data. -/
def State.owesUnlanded (s : State) : Bool := s.slabs.any (fun e => !e.2.twin) || s.pieces.any fun e => !e.2.read && !e.2.landed

/-- The node holds copies for its twin. -/
def State.holdsCopies (s : State) : Bool := s.slabs.any fun e => e.2.twin

/-- The node is in resync. -/
def State.resyncing (s : State) : Bool := s.inResync

/-- An exclusive test runs (TST_CAL.EXCL). -/
def State.exclusiveTest (s : State) : Bool := s.g TST_CAL_EXCL != 0

/-- Every I/O queue is empty: nothing submitted, nothing in flight. -/
def State.ioQueuesEmpty (s : State) : Bool :=
  s.sqs.all (fun e => e.1 % 65536 == 0 || e.2.head == e.2.tail) && s.cmds.all fun e => e.2.sq == 0

end Sys2Proof.Machine
end

