-- ==== Sys2Proof/Machine/Stats.lean ====
section
/-! DEFINITION. Statistics of the Gazetteer: histograms, extremes and pages (spec/18_gazetteer.md, R620 to R624). -/

namespace Sys2Proof.Machine

/-- The number of histograms and of extremes of the chart (Table GAZ-5). -/
def State.nHist (s : State) : Nat := s.secLe 0x80 0 0 1 0
def State.nExt (s : State) : Nat := s.secLe 0x80 0 1 1 0

/-- The page length in tick edges (Table GAZ-5). -/
def State.pageTicks (s : State) : Nat := s.secLe 0x80 0 4 4 15000000

/-- Source, PERSIST flag, instance and bins of histogram `i`. -/
def State.histCfg (s : State) (i : Nat) : Nat × Bool × Nat × Nat :=
  let o := 16 + 144 * i
  (s.secLe 0x80 0 o 1 0, bitAt (s.secLe 0x80 0 (o + 1) 1 0) 0, s.secLe 0x80 0 (o + 2) 2 0, s.secLe 0x80 0 (o + 4) 1 0)

/-- The edges of histogram `i`, signed and rising (R622). -/
def State.histEdges (s : State) (i : Nat) : List Int :=
  (List.range ((s.histCfg i).2.2.2 - 1)).map fun j => toSigned 32 (s.secLe 0x80 0 (16 + 144 * i + 8 + 4 * j) 4 0)

/-- Source, PERSIST flag and instance of extreme `i`. -/
def State.extCfg (s : State) (i : Nat) : Nat × Bool × Nat :=
  let o := 16 + 144 * s.nHist + 16 * i
  (s.secLe 0x80 0 o 1 0, bitAt (s.secLe 0x80 0 (o + 1) 1 0) 0, s.secLe 0x80 0 (o + 2) 2 0)

/-- The bin of a sample: the number of edges at or below it (R11, R622). -/
def binOf (edges : List Int) (v : Int) : Nat := countP (fun e => decide (e ≤ v)) edges

/-- A sample counted in a histogram; counts are 32 bits and saturate (R622). -/
def histAdd (edges : List Int) (h : Hist) (v : Int) (tick : Bool) : Hist :=
  let c := if h.counts.isEmpty then List.replicate (edges.length + 1) 0 else h.counts
  let b := binOf edges v
  { counts := c.set b (satAdd 32 (c.getD b 0) 1), ticks := h.ticks + b2n tick, samples := h.samples + 1 }

/-- A sample taken into an extreme; a later equal value does not replace the held one (R623). -/
def extAdd (e : Option Ext) (v : Int) (ts : Nat) : Ext :=
  match e with
  | none => { min := v, max := v, minTs := ts, maxTs := ts }
  | some e =>
    let e := if v < e.min then { e with min := v, minTs := ts } else e
    if e.max < v then { e with max := v, maxTs := ts } else e

/-- A sample of source `src`, instance `inst`, enters every histogram and extreme of it, in the current page or, where
`prev`, in the page just ended (R620, R621). -/
def State.sample (s : State) (src inst : Nat) (v : Int) (ts : Nat) (prev tick : Bool) : State :=
  let s := (List.range s.nHist).foldl (fun s i =>
    let c := s.histCfg i
    if c.1 = src ∧ c.2.2.1 = inst then
      let add := fun t => Tbl.put t i (histAdd (s.histEdges i) (Tbl.getD t i {}) v tick)
      if prev then { s with gaz := { s.gaz with histPrev := add s.gaz.histPrev } }
      else { s with gaz := { s.gaz with hist := add s.gaz.hist } }
    else s) s
  (List.range s.nExt).foldl (fun s i =>
    let c := s.extCfg i
    if c.1 = src ∧ c.2.2 = inst then
      let all := Tbl.put s.gaz.extAll i (extAdd (Tbl.find s.gaz.extAll i) v ts)
      if prev then
        { s with gaz := { s.gaz with extPrev := Tbl.put s.gaz.extPrev i (extAdd (Tbl.find s.gaz.extPrev i) v ts), extAll := all } }
      else { s with gaz := { s.gaz with ext := Tbl.put s.gaz.ext i (extAdd (Tbl.find s.gaz.ext i) v ts), extAll := all } }
    else s) s

/-- A sample of an occurrence source, binned at the occurrence (R621). -/
def State.occur (s : State) (src inst : Nat) (v : Nat) : State := s.sample src inst (toSigned 32 v) s.now false false

/-- The sample a tick source yields for the tick that the edge latch holds, if its condition is met (Table GAZ-4, R620). -/
def State.tickSample (s : State) (src inst : Nat) : Option Int :=
  let l := fun F => ((s.latch.get F 0 0 : Nat) : Int)
  match src with
  | 0x01 => some (l SVY_VIN_MEAN)
  | 0x02 => some (l SVY_VM_MEAN)
  | 0x03 => some (toSigned 12 (s.latch.get SVY_TEMP_TMAX 0 0))
  | 0x04 => some (max (l SVY_SHOCK_PEAK0) (l SVY_SHOCK_PEAK1))
  | 0x05 => some (l BEN_UTIL_UTIL)
  | 0x06 => some (l SVY_AVS_VCORE)
  | 0x07 => if s.latch.get SPN_STAT_STATE 0 0 = 7 then
      some (toSigned 21 (s.latch.get SPN_SPEED_SPEED 0 0) - 10 * (s.secLe 0x20 0 0 2 0 : Nat)) else none
  | 0x08 => if s.latch.get SRV_STAT_STATE inst 0 = 2 then (Tbl.find s.pesPrev inst).map fun v => ((v : Nat) : Int) else none
  | 0x09 =>
    let k := s.secLe 0x10 0 (16 + 32 * s.secLe 0x10 0 0 1 0 + 16 * inst + 1) 1 0
    if s.latch.get SRV_TGT_HEAD k 0 = inst ∧ 2 ≤ s.latch.get SRV_STAT_STATE k 0 ∧ s.latch.get SRV_STAT_STATE k 0 ≤ 5 then
      some (((s.latch.get CHN_FH_HTR inst 0 : Nat)) : Int) else none
  | 0x0A => if s.timeSeen && !(s.latch.get FAB_TIME_ISROOT 0 0 == 1) then some (toSigned 16 (s.latch.get FAB_TIME_ERR 0 0)) else none
  | 0x0B => some (l DRM_FREE_SLABS)
  | _ => none

/-- The sources of the chart's histograms and extremes, each once. -/
def State.statSources (s : State) : List (Nat × Nat) :=
  ((List.range s.nHist).map (fun i => ((s.histCfg i).1, (s.histCfg i).2.2.1)) ++
    (List.range s.nExt).map (fun i => ((s.extCfg i).1, (s.extCfg i).2.2))).eraseDups

/-- The samples of the previous tick, one per tick source; a page edge between it and now gives them to the page just
ended (R620). A tick before page 0 gives none. -/
def State.tickSamples (s : State) : State :=
  if !s.gaz.paged || (s.gaz.pageEdges == 0 && s.g GAZ_PAGE == 0) then s
  else s.statSources.foldl (fun st p =>
    if p.1 < 0x10 then
      match s.tickSample p.1 p.2 with
      | some v => st.sample p.1 p.2 v (mkTs s.clk.prevTick (b2n s.clk.prevEcon) 0) (s.gaz.pageEdges == 0) true
      | none => st
    else st) s

end Sys2Proof.Machine
end

