-- ==== Sys2Proof/Machine/Pieces.lean ====
section
/-! DEFINITION. Pieces at their owner: commitment to the slab, twin copies, acknowledgement, the media queue, landing
(spec/11_media.md R356, R358, R366, R371; spec/17_twins_spans.md R582 to R589; spec/01_capture_model.md R28 to R34). -/

namespace Sys2Proof.Machine

/-- Change piece `id`. -/
def State.modPiece (s : State) (id : Nat) (f : OPiece → OPiece) : State :=
  match Tbl.find s.pieces id with
  | some p => { s with pieces := Tbl.put s.pieces id (f p) }
  | none => s

/-- A new piece; its number is answered with the state. -/
def State.newPiece (s : State) (p : OPiece) : Nat × State :=
  let id := (Tbl.firstFree s.pieces 0 (s.pieces.length + 1)).getD 0
  (id, { s with pieces := Tbl.put s.pieces id p })

/-- A piece leaves its owner's tables. -/
def State.dropPiece (s : State) (id : Nat) : State :=
  let s := s.unlock (.piece id)
  { s with
    pieces := Tbl.del s.pieces id
    slabWait := s.slabWait.filter (· != id)
    med := { s.med with elig := s.med.elig.filter (· != id), eligNow := s.med.eligNow.filter (· != id) } }

/-- The extent of a piece, of a span the stripe index (R355, R574). -/
def OPiece.ext (p : OPiece) : Nat := p.lba / 256

/-- The piece acknowledges at landing: Landed mode, or Held under Solo (R32, R34). -/
def OPiece.atLanding (p : OPiece) : Bool := ackOf p.modes == 1 || p.asLanded

/-- The piece has all its blocks committed. -/
def OPiece.full (p : OPiece) : Bool := !p.read && countP (fun i => decide (i < p.n)) p.comm == p.n

/-- The status with which an owner refuses a write in a mode: Held without a declared twin (R25), Local without the laboratory flag (R31). -/
def State.ackRefusal (s : State) (modes : Nat) : Option Nat :=
  if ackOf modes = 0 ∧ !s.hasTwin then some 0x010D
  else if ackOf modes = 2 ∧ !s.hdrFlag 0 then some 0x010C
  else none

/-! ### Parcels toward the twin (R582) -/

/-- A twin parcel with the next sequence number. -/
def State.twinSend (s : State) (kind vol lba modes : Nat) (body : List Byte) : State :=
  let x := s.twn.seq
  let t : TwinSent := { kind := kind, vol := vol, ext := lba / 256, blk := lba % 256 }
  let s : State := { s with twn := { s.twn with seq := (x + 1) % 32768, await := Tbl.put s.twn.await x t } }
  s.ask { kind := kind, dst := s.twin, lba := lba, modes := modes, volc := vol, xid := x, keyTick := s.clk.tick, body := body }

/-- The stored key verifier of a volume code, 0 for none. -/
def State.kverOf (s : State) (vol : Nat) : Nat := ((s.volAt vol).bind (·.kver)).getD 0

/-- A block goes to the twin as COPY, RESYNC or RECLAIM. -/
def State.twinBlock (s : State) (kind vol lba modes : Nat) (u : Unit4k) : State :=
  s.twinSend kind vol lba modes (dataBody (encOf modes) u (s.kverOf vol))

/-- An extent enters the dirty list, which holds 65 536; an overflow sets TWN_DIRTY.OVF with event 172 (R590). -/
def State.dirtyPut (s : State) (vol ext : Nat) (lack : Bool) : State :=
  let k := dirtyKey vol ext
  if Tbl.has s.twn.dirty k || decide (s.twn.dirty.length < 65536) then
    let n := match s.twn.solo with
      | some r => if lack && !s.isLack vol ext then some { r with lack := r.lack + 1 } else some r
      | none => none
    { s with twn := { s.twn with dirty := Tbl.put s.twn.dirty k { lack := lack }, solo := n } }
  else if s.on TWN_DIRTY_OVF then s else (s.p TWN_DIRTY_OVF 1).raise 172

/-! ### The staging area (R433) -/

/-- Blocks in the staging area: of commands, and of pieces before their commitment. -/
def State.stagedBlocks (s : State) : Nat :=
  s.cmds.foldl (fun n e => n + e.2.staged.length) 0 + s.pieces.foldl (fun n e => n + e.2.staged.length) 0

/-- How many blocks the staging area holds, each of 129 words of 32 bytes. DESIGN CHOICE (log 152): the spec gives the area no size; it is the
interleaved space below the RAM ring. -/
def State.stagingSize (s : State) : Nat := (if s.g BEN_CFG_MODE = 1 then min s.ringBase 0xE00000 else s.ringBase) / 4128

/-- The staging area has room for the next block. -/
def State.stagingRoom (s : State) : Bool := decide (s.stagedBlocks + 1 ≤ s.stagingSize)

/-- A block of an acknowledged write is still in the staging area (R448). DESIGN CHOICE (log 161): it stays there until it is written anew, its slab is
freed, or newer blocks need its room. -/
def State.inStaging (s : State) (vol lba : Nat) : Bool := (s.wbuf.take (s.stagingSize - s.stagedBlocks)).contains (vol, lba)

/-- The committed blocks of a piece that has reached its acknowledgement point enter the write-buffer index (R448). -/
def State.indexPiece (s : State) (p : OPiece) : State :=
  let l := p.comm.map fun i => (p.vol, p.lba + i)
  { s with wbuf := (l ++ s.wbuf.filter fun e => !l.contains e).take s.stagingSize }


/-! ### The end of a command -/

/-- A write ends: the blocks it moved count, and its lock goes (R443, R483). -/
def State.endWrite (s : State) (slot status : Nat) : State :=
  match s.cmd slot with
  | none => s
  | some c =>
    if c.phase = 3 then s
    else
      let s := match volCode c.vol with
        | some v => if isError status then s else s.modVol v fun x => { x with written := satAdd 64 x.written c.nlb, repaired := satAdd 32 x.repaired c.result }
        | none => s
      let s : State := { s with pieces := s.pieces.map fun e => if e.2.slot == some slot then (e.1, { e.2 with slot := none }) else e }
      s.complete slot status

/-- The status of a command whose pieces have all reported: that of the first to fail in span-key order, else the highest note (R28). -/
def pieceStatus (l : List IPiece) : Nat :=
  match (l.filter fun p => isError p.status).mergeSort fun a b => decide (a.keyTick < b.keyTick) || (a.keyTick == b.keyTick && decide (a.lba ≤ b.lba)) with
  | p :: _ => p.status
  | [] => maxOf (l.map (·.status))

/-- A span command completes once every piece has reported (R578); a write whose ingest was cut short has its status already. -/
def State.spanCheck (s : State) (slot : Nat) : State :=
  match s.cmd slot with
  | none => s
  | some c =>
    if c.phase = 2 ∧ c.pieces.all fun p => p.phase == 2 then
      let st := if isError (pieceStatus c.pieces) then pieceStatus c.pieces else max c.note (pieceStatus c.pieces)
      if c.opc = 1 then
        let away := c.pieces.any fun p => s.stripeOwner (c.vol - 0x8000) (p.lba / 256) != s.node
        let s : State := if away && ackOf c.modes != 1 then { s with remote := s.remote ++ [(c.seq, c.vol - 0x8000 + 64)] } else s
        s.endWrite slot st
      else s.complete slot st
    else s

/-- The pieces of a command that has failed end at the blocks they have committed, which go on to land; one with none goes (R455). The tick edge
takes those that are complete to the media (`State.pieceSweep`). -/
def State.trimSlot (s : State) (slot : Nat) : State :=
  { s with pieces := (s.pieces.filter fun e => !(e.2.slot == some slot && e.2.phase == 2 && e.2.got == 0)).map fun e =>
      if e.2.slot == some slot && e.2.phase == 2 then (e.1, { e.2 with n := e.2.got, staged := [] }) else e }

/-- A piece of a command has its status: of a span, it is noted; of a local volume, a failure ends the command, and the last piece does
(R28). -/
def State.slotPiece (s : State) (slot lba status : Nat) : State :=
  match s.cmd slot with
  | none => s
  | some c =>
    if c.pieces.isEmpty then
      if isError status then (s.trimSlot slot).endWrite slot status
      else
        let note := max c.note status
        let s := s.setCmd slot { c with note := note }
        if c.moved = c.nlb ∧ s.pieces.all fun e => !(e.2.slot == some slot) || e.2.status.isSome then s.endWrite slot note else s
    else
      (s.setCmd slot { c with pieces := c.pieces.map fun p => if p.lba ≤ lba ∧ lba < p.lba + p.n then { p with phase := 2, status := status } else p }).spanCheck slot

/-- The identity by which an owner knows a remote piece: its key, source and command slot, and first LBA. -/
def OPiece.ident (p : OPiece) : Ident := { src := p.src, kind := p.vol, xid := p.xid, keyTick := p.keyTick, lba := p.lba }

/-- The owner reports a piece: to its own command, or to the ingress node by DONE (R583), and keeps the status for a QUERY (R570); a piece of another
node gives its latency sample (Table GAZ-4, source 0x14). -/
def State.pieceReport (s : State) (p : OPiece) (status : Nat) : State :=
  if p.seq.isSome then
    match p.slot with
    | some slot => s.slotPiece slot p.lba status
    | none => s
  else
    let s : State := { s with fab := { s.fab with done := (p.ident, status) :: s.fab.done } }
    let s := s.occur 0x14 0 (s.clk.edges - p.edge)
    s.send { kind := 0x19, dst := p.src, lba := p.lba, xid := p.xid, keyTick := p.keyTick, keyNode := p.keyNode, span := p.vol - 64, body := leBytes status 2 ++ zeros 14 }

/-- A piece that has its status and has landed is forgotten. -/
def State.pieceGone (s : State) (id : Nat) : State :=
  match Tbl.find s.pieces id with
  | some p => if p.status.isSome && p.landed then s.dropPiece id else s
  | none => s

/-- The status of a piece is determined: its lock goes, and it is reported (R443, R583). -/
def State.pieceFinish (s : State) (id status : Nat) : State :=
  match Tbl.find s.pieces id with
  | none => s
  | some p =>
    if p.status.isSome then s
    else
      let s := s.modPiece id fun p => { p with status := some status, old := [] }
      let s := if isError status || p.read then s else s.indexPiece p
      let s := s.unlock (.piece id)
      (s.pieceReport p status).pieceGone id

/-! ### The media queue -/

/-- The physical extent that a write of an extent goes to: one placed and not yet stored before the stored one. -/
def State.writePe (s : State) (vol ext : Nat) : Option Nat :=
  let l := s.extents vol ext
  match l.find? fun e => !e.2.stored with
  | some e => some e.1
  | none => (l.head?).map (·.1)

/-- A sector leaves its refresh queue (R363). -/
def State.unrefresh (s : State) (vol lba : Nat) : State :=
  { s with chan := s.chan.map fun e => (e.1, { e.2 with refresh := e.2.refresh.filter fun r => !(r.1 == vol && r.2 == lba) }) }

/-- A sector write joins its actuator's queue, in place of an earlier one. -/
def State.addJob (s : State) (loc : Nat) (j : WJob) : State := { s with wr := Tbl.put s.wr loc j }

/-- The blocks of a range join the media queue at their places in a physical extent (R355, R362); a block lost from its slab does not; `edge` is
when they join it. -/
def State.queueJobs (s : State) (pe vol lba n why edge : Nat) : State :=
  (List.range n).foldl (fun s i =>
    if why = 0 ∧ (s.slabUnit vol (lba + i)).isNone then s
    else (s.unrefresh vol (lba + i)).addJob (s.spareOf (s.peLoc pe ((lba + i) % 256))) { vol := vol, lba := lba + i, why := why, edge := edge }) s

/-- Some block of a range waits for its media write. -/
def State.jobsIn (s : State) (vol lba n : Nat) : Bool := s.wr.any fun e => e.2.vol == vol && decide (lba ≤ e.2.lba) && decide (e.2.lba < lba + n)

/-- The extent stands on an actuator out of service: an acknowledged piece is stranded in its slab, another one fails with 0x0210 and its
slab is freed (R371). -/
def State.strandPiece (s : State) (id : Nat) (p : OPiece) : State :=
  if p.status.isSome then
    match s.slabOf false p.vol p.ext with
    | some e => s.modSlab e.1 fun x => { x with strand := true }
    | none => s
  else
    let s := s.pieceFinish id 0x0210
    let s := s.dropPiece id
    if s.pieces.any fun e => e.2.vol == p.vol && e.2.ext == p.ext && !e.2.read then s
    else match s.slabOf false p.vol p.ext with
      | some e => s.dropSlab e.1
      | none => s

/-- A piece whose data is complete, and acknowledged where its mode acknowledges before landing, goes to the placement loop or straight
to its actuator's queue (the placement loop of spec/11_media.md). -/
def State.toMedia (s : State) (id : Nat) : State :=
  match Tbl.find s.pieces id with
  | none => s
  | some p =>
    let s := s.modPiece id fun p => { p with phase := 3 }
    if s.g SPN_STAT_STATE = 10 ∧ p.status.isNone then s.pieceFinish id 0x0211
    else match s.writePe p.vol p.ext with
    | none => s.setMed fun m => { m with elig := m.elig ++ [id] }
    | some pe =>
      if s.actFailed (s.headAct (peHead pe)) then s.strandPiece id p
      else if p.atLanding && !s.zVerified (peZone pe) then s.setMed fun m => { m with elig := m.elig ++ [id] }
      else s.queueJobs pe p.vol p.lba p.n 0 0

/-- What follows a commitment or a CONFIRM of a piece: its acknowledgement point, and the media (R32, R583). -/
def State.pieceCheck (s : State) (id : Nat) : State :=
  match Tbl.find s.pieces id with
  | none => s
  | some p =>
    if !p.full || p.phase != 2 then s
    else if p.atLanding then s.toMedia id
    else if ackOf p.modes = 0 ∧ !p.unconf.isEmpty then s
    else ((s.modPiece id fun p => { p with phase := 3 }).pieceFinish id p.note).toMedia id

/-- Pieces whose data is complete and that still wait are looked at again. -/
def State.pieceSweep (s : State) : State :=
  (s.pieces.filter fun e => e.2.full && e.2.phase == 2).foldl (fun s e => s.pieceCheck e.1) s

/-! ### Commitment -/

/-- The lowest block in staging of a piece moves into the slab of its extent (R398, R582): Held data goes to the twin as COPY, and in
Solo its extent becomes LACK (R589). -/
def State.commit (s : State) (id k : Nat) : State :=
  match Tbl.find s.pieces id with
  | none => s
  | some p =>
    match p.staged with
    | [] => s
    | (i, u) :: rest =>
      let lba := p.lba + i
      let b := lba % 256
      let held := ackOf p.modes == 0
      let copy := held && s.hasTwin && s.g TWN_STAT_STATE != 2
      let old := match s.slabUnit p.vol lba with
        | some x => Tbl.put p.old b x
        | none => p.old
      let s := s.modSlab k fun x => { x with
        blocks := Tbl.put x.blocks b u, conf := x.conf.filter (· != b), bad := x.bad.filter (· != b), modes := setBit x.modes (ackOf p.modes), last := p.modes }
      let s := s.dramStore k b u.bytes
      let s : State := { s with wbuf := s.wbuf.filter (· != (p.vol, lba)) }
      let s := s.modPiece id fun p => { p with
        staged := rest, got := p.got + 1, comm := i :: p.comm, old := old
        unconf := if copy then i :: p.unconf else p.unconf
        asLanded := p.asLanded || (held && s.solo) }
      let s := match p.slot with
        | some slot => s.modCmd slot fun c => { c with left := true }
        | none => s
      let s := if held && s.g TWN_STAT_STATE == 2 then s.dirtyPut p.vol p.ext true else s
      let s := if copy then s.twinBlock 0x20 p.vol lba p.modes u else s
      s.pieceCheck id

/-! ### Cutting a piece short -/

/-- A piece ends at the blocks it has accepted, which go on to land (R501, R455); with none it is dropped. -/
def State.cutPiece (s : State) (id n : Nat) : State :=
  match Tbl.find s.pieces id with
  | none => s
  | some p => if n = 0 ∨ p.read then s.dropPiece id else (s.modPiece id fun p => { p with n := n, comm := p.comm.filter (· < n), unconf := p.unconf.filter (· < n), staged := p.staged.filter fun e => decide (e.1 < n) }).pieceCheck id

/-- The pieces of a command. -/
def State.piecesOf (s : State) (slot : Nat) : List (Nat × OPiece) := s.pieces.filter fun e => e.2.slot == some slot && e.2.status.isNone

/-- A command ends before its pieces: the blocks that have left staging go on, the others are dropped (R455, R501). With `staged` the
blocks in staging go on too. -/
def State.cutSlot (s : State) (slot : Nat) (staged : Bool) : State :=
  let l := s.piecesOf slot
  let s : State := { s with pieces := s.pieces.map fun e => if e.2.slot == some slot then (e.1, { e.2 with slot := none }) else e }
  l.foldl (fun s e => s.cutPiece e.1 (if staged then e.2.got + e.2.staged.length else e.2.got)) s

/-- The blocks a write has moved are discarded; what they replaced in their slab stands again (R420, R421). -/
def State.discardSlot (s : State) (slot : Nat) : State :=
  (s.piecesOf slot).foldl (fun s e =>
    let p := e.2
    let mine := p.comm.map fun i => (p.lba + i) % 256
    let s := match s.slabOf false p.vol p.ext with
      | none => s
      | some (k, _) =>
        let s := s.modSlab k fun x => { x with blocks := (p.old : List (Nat × Unit4k)).foldl (fun (t : Tbl Unit4k) (o : Nat × Unit4k) => Tbl.put t o.1 o.2) (x.blocks.filter fun b => !mine.contains b.1) }
        match Tbl.find s.slabs k with
        | some x => if x.blocks.isEmpty then s.dropSlab k else s
        | none => s
    s.dropPiece e.1) s

/-! ### Landing -/

/-- The piece's sectors are written and verified (R358). -/
def State.onMedia (s : State) (p : OPiece) : Bool :=
  p.full && p.phase == 3 && !p.landed && (s.writePe p.vol p.ext).isSome && !s.jobsIn p.vol p.lba p.n &&
    (match s.writePe p.vol p.ext with
      | some pe => (match Tbl.find s.med.map pe with
        | some e => e.stored || !s.jobsIn p.vol (256 * p.ext) 256
        | none => false)
      | none => false)

/-- The twin hears of a landed extent with copies: LANDED, or FREE in the dirty list while Solo (R584, R589); in resync the FREE extent is sent LANDED at
once (R593). -/
def State.twinLanded (s : State) (x : Slab) : State :=
  if !s.hasTwin || !bitAt x.modes 0 then s
  else if s.g TWN_STAT_STATE = 2 then s.dirtyPut x.vol x.ext false
  else
    let s := if s.inResync then s.dirtyPut x.vol x.ext false else s
    let s : State := { s with twn := { s.twn with dirty := s.twn.dirty.map fun e => if e.1 = dirtyKey x.vol x.ext then (e.1, { e.2 with sent := true }) else e } }
    s.twinSend 0x15 x.vol (256 * x.ext) 0 []

/-- An extent lands with its last unlanded piece: its slab is freed (R399). -/
def State.extentCheck (s : State) (vol ext : Nat) : State :=
  if s.jobsIn vol (256 * ext) 256 || s.pieces.any fun e => e.2.vol == vol && e.2.ext == ext && !e.2.read && !e.2.landed then s
  else match s.slabOf false vol ext with
    | none => s
    | some e => if e.2.strand then s else (s.dropSlab e.1).twinLanded e.2

/-- A piece has landed. -/
def State.pieceLand (s : State) (id : Nat) : State :=
  match Tbl.find s.pieces id with
  | none => s
  | some p =>
    let s := s.modPiece id fun p => { p with landed := true, unconf := [] }
    let s := if p.status.isNone then s.pieceFinish id p.note else s.pieceGone id
    s.extentCheck p.vol p.ext

/-- Blocks are lost after their acknowledgement: a Flush over their writes learns of it (R464). -/
def State.noteLost (s : State) (vol lba n : Nat) : State :=
  let l := s.pieces.filterMap fun e =>
    if e.2.vol == vol && overlaps e.2.lba e.2.n lba n && e.2.status.isSome then e.2.seq.map fun q => (q, vol) else none
  { s with lostSeq := s.lostSeq ++ l.filter fun x => !s.lostSeq.contains x }

end Sys2Proof.Machine
end

