-- ==== Sys2Proof/Machine/Reads.lean ====
section
/-! DEFINITION. Reads: where a block comes from, its delivery to the host or to another node, failures of media operations
(spec/13_queues.md R447; spec/15_integrity_errors.md R504; spec/11_media.md R371; spec/07_spindle.md R251). -/

namespace Sys2Proof.Machine

/-! ### Host segments -/

/-- The parts of a byte string written at offset `o` of a transfer over its host segments (R419). -/
def segWrites : List (Nat × Nat) → Nat → List Byte → List (Nat × List Byte)
  | [], _, _ => []
  | (a, l) :: t, o, b =>
    if b.isEmpty then []
    else if l ≤ o then segWrites t (o - l) b
    else (a + o, b.take (l - o)) :: segWrites t 0 (b.drop (l - o))

/-- Data goes to host memory at an offset of a command's transfer, with Relaxed Ordering where the host has enabled it for the function (R411). -/
def State.toHost (s : State) (c : Cmd) (o : Nat) (b : List Byte) : State :=
  (segWrites c.segs o b).foldl (fun s w => s.emit (.data c.fn w.1 (Tbl.getD s.devctl c.fn {}).relaxed w.2)) s

/-- The sum of the lengths of segments. -/
def segSum (l : List (Nat × Nat)) : Nat := l.foldl (fun a x => a + x.2) 0

/-- How the chain of descriptors of a command ends where it does not reach block `i` of the transfer (R420). -/
def Cmd.chainShort (c : Cmd) (i : Nat) : Option ChainEnd := if segSum c.segs < 4112 * (i + 1) then c.chainEnd else none

/-- The status of a chain of descriptors that ends badly (R420, R421). -/
def ChainEnd.status : ChainEnd → Nat
  | .bad _ => 0x0112
  | .readErr _ => 0x0110

/-- What the error record says of it: the index of the bad descriptor (Table MQP-30). -/
def ChainEnd.detail : ChainEnd → Nat
  | .bad i => i
  | .readErr _ => 0

/-- An error under AER raises event 150 (R421). -/
def State.chainEvent (s : State) (e : ChainEnd) : State := if e = .readErr true then s.raise 150 else s

/-! ### Readers -/

/-- The reader number of a span piece: 65536 + its number; a command slot stands for itself. -/
def pieceReader (id : Nat) : Nat := 65536 + id

/-- Nothing is read any more for a reader. -/
def State.endReader (s : State) (r : Nat) : State :=
  { s with med := { s.med with reads := s.med.reads.filter fun e => !(e.2.slot == some r) }, dreads := s.dreads.filter fun e => e.1 != r }

/-- A block of a reader is still to come, below an LBA. -/
def State.awaits (s : State) (r lba : Nat) : Bool :=
  s.med.reads.any (fun e => e.2.slot == some r && decide (e.2.lba < lba)) || s.dreads.any fun e => e.1 == r && decide (e.2 < lba)

/-- A Read completes with its last block, or with the status of its first rejected block in LBA order (R438, R504). -/
def State.readCheck (s : State) (slot : Nat) : State :=
  match s.cmd slot with
  | none => s
  | some c =>
    if c.phase ≠ 2 then s
    else match c.rej with
      | some (l, st) => if s.awaits slot l then s else s.complete slot st
      | none =>
        if c.moved = c.nlb ∧ c.pieces.isEmpty then
          let s := match volCode c.vol with
            | some v => s.modVol v fun x => { x with readN := satAdd 64 x.readN c.nlb }
            | none => s
          s.complete slot c.note
        else s

/-- A block of a local Read fails: the lowest such LBA gives the status (R504). -/
def State.failBlock (s : State) (slot lba status : Nat) (e : ErrInfo) : State :=
  match s.cmd slot with
  | none => s
  | some c =>
    let later := match c.rej with
      | some r => decide (r.1 ≤ lba)
      | none => false
    (if later then s else s.setCmd slot { c with rej := some (lba, status), err := { e with lba := some lba } }).readCheck slot

/-- A block of a span Read's piece has been dealt with: delivered, or failed with a status (R578). -/
def State.spanBlock (s : State) (slot lba status : Nat) : State :=
  match s.cmd slot with
  | none => s
  | some c =>
    (s.setCmd slot { c with pieces := c.pieces.map fun p =>
      if p.lba ≤ lba ∧ lba < p.lba + p.n ∧ p.phase ≠ 2 ∧ !p.blks.contains lba then
        { p with
          acc := p.acc + 1, blks := lba :: p.blks, status := if isError p.status then p.status else max p.status status
          phase := if p.acc + 1 = p.n then 2 else p.phase }
      else p }).spanCheck slot

/-- A block of a Read is delivered: decrypted, checked and written to the host, or rejected (R504, R509, Table MQP-24 code 5); after a head word only
the rest of its block follows (R448). -/
def State.deliver (s : State) (slot lba : Nat) (u : Unit4k) (plain : Bool) : State :=
  match s.cmd slot with
  | none => s
  | some c =>
    match volCode c.vol with
    | none => s
    | some code =>
      if c.phase ≠ 2 then s
      else if encOf c.modes && !plain && !s.hasKey code then
        if c.pieces.isEmpty then s.failBlock slot lba 0x0118 {} else s.spanBlock slot lba 0x0118
      else
        match c.chainShort (lba - c.slba) with
        | some e =>
          let s := s.chainEvent e
          if c.pieces.isEmpty then s.failBlock slot lba e.status { detail := e.detail }
          else (s.modCmd slot fun c => { c with err := { c.err with detail := e.detail } }).spanBlock slot lba e.status
        | none =>
        let b := if plain then u.bytes else s.decUnit c.modes code lba u
        let v := classify (repairOf (s.modesOf code)) false lba b
        let s := s.integrity 5 code lba b v
        if isError v.status then
          if c.pieces.isEmpty then s.failBlock slot lba v.status (v.err 5 lba b)
          else (s.modCmd slot fun c => { c with err := v.err 5 lba b }).spanBlock slot lba v.status
        else
          let sent := if c.headSent && lba == c.slba then 32 else 0
          let s := s.toHost c (4112 * (lba - c.slba) + sent) (v.bytes.drop sent)
          let s := if v.status = 1 then s.modVol code fun x => { x with repaired := satAdd 32 x.repaired 1 } else s
          let s := s.modCmd slot fun c => { c with moved := c.moved + 1, note := max c.note v.status }
          if c.pieces.isEmpty then s.readCheck slot else s.spanBlock slot lba v.status

/-- A block reaches its reader: a command of this node, or the ingress node of a span piece as RDATA with the stored KVER (R511). A
generated zero block is plain. -/
def State.supply (s : State) (r lba : Nat) (u : Unit4k) (plain : Bool) : State :=
  if r < 65536 then s.deliver r lba u plain
  else
    let id := r - 65536
    match Tbl.find s.pieces id with
    | none => s
    | some p =>
      let s := match p.slot with
        | some slot => s.deliver slot lba u plain
        | none => s.send { kind := 0x1A, dst := p.src, lba := lba, modes := p.modes, xid := p.xid, keyTick := p.keyTick, keyNode := p.keyNode, span := p.vol - 64, body := dataBody (encOf p.modes) u (s.kverOf p.vol) }
      let s := s.modPiece id fun p => { p with got := p.got + 1 }
      if p.got + 1 = p.n then s.dropPiece id else s

/-- A block of a reader cannot be had: the Read fails, or the piece does with DONE (R583). -/
def State.failReader (s : State) (r lba status : Nat) (e : ErrInfo) : State :=
  if r < 65536 then s.failBlock r lba status e
  else
    let id := r - 65536
    match Tbl.find s.pieces id with
    | none => s
    | some p =>
      let s := (s.endReader r).dropPiece id
      match p.slot with
      | some slot => (s.modCmd slot fun c => { c with err := { e with lba := some lba } }).slotPiece slot lba status
      | none => s.pieceReport p status

/-! ### Serving a range -/

/-- A block is served from its newest copy: the staging area, a slab by a DRAM read, the media, or a zero block where its extent is unplaced; a strict
read is served from the media only (R356, R447). -/
def State.serve (s : State) (r vol lba : Nat) (strict : Bool) : State :=
  if !strict && s.inStaging vol lba then
    (match s.slabUnit vol lba with
      | some u => s.supply r lba u false
      | none => s)
  else if (s.slabUnit vol lba).isSome && !strict then { s with dreads := s.dreads ++ [(r, lba)] }
  else match s.lbaLoc vol lba with
    | some l =>
      if s.g SPN_STAT_STATE = 10 then s.failReader r lba 0x0211 {}
      else s.setMed fun m => { m with reads := m.reads ++ [(l, { vol := vol, lba := lba, slot := some r })] }
    | none => s.supply r lba { bytes := zeroUnit lba } true

/-- The blocks of a range, in LBA order. -/
def State.serveAll (s : State) (r vol lba n : Nat) (strict : Bool) : State :=
  (List.range n).foldl (fun s i => s.serve r vol (lba + i) strict) s

/-- A strict read waits for a granted piece that overlaps it and has not landed (R447). -/
def State.strictBlocked (s : State) (vol lba n : Nat) : Bool :=
  s.pieces.any fun e => e.2.vol == vol && overlaps e.2.lba e.2.n lba n && !e.2.read && !e.2.landed && decide (2 ≤ e.2.phase)

/-- Some sector of a range stands on an actuator out of service (R205, R371). -/
def State.rangeFailed (s : State) (vol lba n : Nat) : Bool :=
  (List.range n).any fun i => match s.lbaLoc vol (lba + i) with
    | some l => s.actFailed (s.locAct l) && (s.slabUnit vol (lba + i)).isNone
    | none => false

/-- A granted read goes: unwritable ranges and actuators out of service fail it (R374, R371); a strict one may wait. -/
def State.readGranted (s : State) (slot : Nat) : State :=
  match s.cmd slot with
  | none => s
  | some c =>
    match volCode c.vol with
    | none => s
    | some v =>
      let s := s.setCmd slot { c with phase := 2, strictWait := false }
      if s.unwritable v c.slba c.nlb then s.complete slot 0x0232
      else if s.rangeFailed v c.slba c.nlb then s.complete slot 0x0210
      else if strictOf c.modes && s.strictBlocked v c.slba c.nlb then s.setCmd slot { c with phase := 2, strictWait := true }
      else s.serveAll slot v c.slba c.nlb (strictOf c.modes)

/-- A granted read piece of a span goes likewise; phase 4 is the strict wait. -/
def State.pieceReadGranted (s : State) (id : Nat) : State :=
  match Tbl.find s.pieces id with
  | none => s
  | some p =>
    let s := s.modPiece id fun p => { p with phase := 2 }
    if s.unwritable p.vol p.lba p.n then s.failReader (pieceReader id) p.lba 0x0232 {}
    else if s.rangeFailed p.vol p.lba p.n then s.failReader (pieceReader id) p.lba 0x0210 {}
    else if strictOf p.modes && s.strictBlocked p.vol p.lba p.n then s.modPiece id fun p => { p with phase := 4 }
    else s.serveAll (pieceReader id) p.vol p.lba p.n (strictOf p.modes)

/-- Strict reads that wait are looked at again after a landing. -/
def State.strictGo (s : State) : State :=
  let s := (s.cmds.filter fun e => e.2.strictWait && e.2.phase == 2).foldl (fun s e => s.readGranted e.1) s
  (s.pieces.filter fun e => e.2.read && e.2.phase == 4).foldl (fun s e => s.pieceReadGranted e.1) s

/-! ### Media operations that fail -/

/-- The media reads that pass a test fail with a status. -/
def State.failReads (s : State) (f : Nat → Bool) (status : Nat) : State :=
  let l := s.med.reads.filter fun e => f e.1
  let s := s.setMed fun m => { m with reads := m.reads.filter fun e => !f e.1 }
  l.foldl (fun s e => match e.2.slot with
    | some r => s.failReader r e.2.lba status {}
    | none => s) s

/-- The pieces whose command waits for a media write that passes a test fail with a status. -/
def State.failWrites (s : State) (f : Nat → Bool) (status : Nat) : State :=
  let l := s.wr.filter fun e => f e.1
  s.pieces.foldl (fun s e =>
    if e.2.phase = 3 ∧ e.2.status.isNone ∧ l.any fun w => w.2.vol == e.2.vol && decide (e.2.lba ≤ w.2.lba) && decide (w.2.lba < e.2.lba + e.2.n) then
      s.pieceFinish e.1 status else s) s

/-- With the spindle failed, every media operation completes with 0x0211 (R251). -/
def State.failMediaOps (s : State) : State := (s.failReads (fun _ => true) 0x0211).failWrites (fun _ => true) 0x0211

/-- The media operations of actuator `k` at a track fail with a status (R267). -/
def State.failMediaAt (s : State) (k track status : Nat) : State :=
  let f := fun (l : Nat) => s.locAct l == k && locTrack l == track
  (s.failReads f status).failWrites f status

/-! ### An actuator goes out of service (R371) -/

/-- Extents placed and not yet stored that touch actuator `k`, by their own place or by the source of their relocation. -/
def State.unstoredOn (s : State) (k : Nat) : List (Nat × Ent) :=
  s.med.map.filter fun e => !e.2.stored && (s.headAct (peHead e.1) == k ||
    match Tbl.find s.med.moves e.1 with
    | some src => s.headAct (peHead src) == k
    | none => false)

/-- A placement that has not been stored is undone, and its pieces are eligible again; a relocation stops (R371). -/
def State.unplace (s : State) (pe : Nat) (e : Ent) : State :=
  let src := Tbl.find s.med.moves pe
  let s := s.setMed fun m => { m with
    map := (Tbl.del m.map pe).map fun x => if some x.1 = src then (x.1, { x.2 with reloc := false }) else x
    moves := Tbl.del m.moves pe }
  let s : State := { s with wr := s.wr.filter fun w => !(w.2.vol == e.vol && w.2.lba / 256 == e.ext) }
  (s.pieces.filter fun p => p.2.vol == e.vol && p.2.ext == e.ext && p.2.phase == 3 && !p.2.landed).foldl (fun s p => s.toMedia p.1) s

/-- Actuator `k` goes out of service with the work that involves it (R205, R371). -/
def State.withdraw (s : State) (k : Nat) : State :=
  if s.actFailed k then s
  else
    let s := s.p SYS_BOOT_ACTFAIL (setBit (s.g SYS_BOOT_ACTFAIL) k)
    let s := (s.unstoredOn k).foldl (fun s e => s.unplace e.1 e.2) s
    let s : State := { s with wr := s.wr.filter fun w => !(s.locAct w.1 == k) }
    let s := (s.pieces.filter fun p => p.2.phase == 3 && !p.2.landed && s.onFailed p.2.vol p.2.lba p.2.n).foldl (fun s p => s.strandPiece p.1 p.2) s
    let s : State := { s with chan := s.chan.map fun e => if e.1 = k then (e.1, { e.2 with refresh := [] }) else e }
    s.failReads (fun l => s.locAct l == k) 0x0210

/-- An actuator that has failed at start-up or stands where it was left: an emergency park if loaded, event 1, out of service (R204, R256,
R284). -/
def State.outOfService (s : State) (k : Nat) : State := ((s.epark k 18).withdraw k).raise 1

/-! ### Resets of functions (R212, R213, R449) -/

/-- The parcels of a command that wait for an answer are no longer sent. -/
def State.forgetAsks (s : State) (slot : Nat) : State :=
  s.answered fun q => (q.kind == 0x10 || q.kind == 0x11 || q.kind == 0x12) && q.xid == slot && q.keyNode == s.node

/-- A command of a reset function: a write whose data has been fetched in full goes on without a completion; any other is discarded, a write with its
fetched blocks, of which what they replaced stands again (R39), and every lock goes (R213, R449). -/
def State.discardCmd (s : State) (slot : Nat) : State :=
  match s.cmd slot with
  | none => s
  | some c =>
    let s : State := { s with chart := { s.chart with hostNext := s.chart.hostNext.filter fun e => e.1 != c.seq } }
    if c.phase = 3 then { s with cmds := Tbl.del s.cmds slot }
    else if c.sq ≠ 0 ∧ c.opc = 1 ∧ c.phase = 2 ∧ c.moved = c.nlb then s.setCmd slot { c with silent := true }
    else
      let s := (((s.unlock (.slot slot)).discardSlot slot).endReader slot).forgetAsks slot
      { s with
        cmds := Tbl.del s.cmds slot
        pieces := s.pieces.map fun e => if e.2.slot == some slot then (e.1, { e.2 with slot := none }) else e }

/-- What R449 does to a function: its commands, its queues, its pending bits. -/
def State.clearFn (s : State) (fn : Nat) : State :=
  let s := (s.cmds.filter fun e => e.2.fn == fn).foldl (fun s e => s.discardCmd e.1) s
  let s : State := { s with
    sqs := s.sqs.filter fun e => e.1 / 65536 != fn
    cqs := s.cqs.filter fun e => e.1 / 65536 != fn
    msix := s.msix.map fun e => if e.1 / 256 = fn then (e.1, { e.2 with pend := false }) else e
    enEdge := Tbl.del s.enEdge fn
    devctl := Tbl.del s.devctl fn }
  ((s.pk MQP_CTL_EN fn 0).pk MQP_STS_RDY fn 0).pk MQP_STS_AFRZ fn 0

/-- PERST_N acts on every function at once, and holds the endpoint in reset with its message table and the admin queues' registers (R212, R213). -/
def State.perstQueues (s : State) : State :=
  let s := (List.range 16).foldl (fun s fn =>
    ((((s.clearFn fn).pk MQP_AQSZ_ASQS fn 0).pk MQP_AQSZ_ACQS fn 0).pk MQP_ASQB_BASE fn 0).pk MQP_ACQB_BASE fn 0) s
  { s with msix := [], msixFnMask := [] }

end Sys2Proof.Machine
end

