-- ==== Sys2Proof/Machine/Startup.lean ====
section
/-! DEFINITION. The ends of the start-up stages of the media branch and their failures (spec/06_power_to_ready.md Tables SYS-10 and
SYS-12; spec/07_spindle.md R251) -/

namespace Sys2Proof.Machine

/-- The running stage of a branch begins now: 0 DRAM, 1 media, 2 fabric. -/
def State.stageBegin (s : State) (b : Nat) : State :=
  { s with boot := { s.boot with began := Tbl.put s.boot.began b s.clk.edges } }

/-- Fault mode (R202, Table SYS-12): STAGE 0xE, the failure code and event 2. -/
def State.faultMode (s : State) (fcode : Nat) : State := ((s.p SYS_BOOT_STAGE 0xE).p SYS_BOOT_FCODE fcode).raise 2

/-- The media branch fails (Table SYS-12): MEDIA 5, the failure code, events 2 and 6. -/
def State.mediaFail (s : State) (fcode : Nat) : State := (((s.p SYS_BOOT_MEDIA 5).p SYS_BOOT_FCODE fcode).raise 2).raise 6

/-- The heads stage ends when every declared actuator has completed or is out of service; with every one failed the media
branch fails with code 0x21 and the spindle is braked (R204, Table SYS-12). -/
def State.headsStageEnd (s : State) : State :=
  if s.g SYS_BOOT_MEDIA = 3 ∧ s.actList.all fun k => s.actFailed k || s.actReady k then
    if s.actList.all s.actFailed then (s.mediaFail 0x21).spindleBrake
    else (s.p SYS_BOOT_MEDIA 4).stageEndAt 6
  else s

/-- The heads stage begins once the spindle and the DRAM stages have ended (Table SYS-10): actuators that an earlier run left in place are out of
service with event 1 (R256, R284), every other one loads (R204). -/
def State.headsGo (s : State) : State :=
  if s.g SYS_BOOT_STAGE = 3 ∧ s.g SYS_BOOT_MEDIA = 2 ∧ Tbl.has s.boot.ends 5 ∧ s.g SYS_BOOT_DRAM = 3 then
    let s := (s.p SYS_BOOT_MEDIA 3).stageBegin 1
    let s := s.left.foldl (fun s k => if k < s.nAct then s.outOfService k else s) s
    (({ s with left := [] } : State).loadAll 0).headsStageEnd
  else s

/-- The spindle stage ends at AT_SPEED. -/
def State.spindleStageEnd (s : State) : State :=
  if s.g SYS_BOOT_STAGE = 3 ∧ s.g SYS_BOOT_MEDIA = 2 then (s.stageEndAt 5).headsGo else s

/-- The reclaim stage begins once the alignment and the DRAM stages have ended (Table SYS-10). -/
def State.reclaimGo (s : State) : State :=
  if s.g SYS_BOOT_STAGE = 3 ∧ s.g SYS_BOOT_FAB = 3 ∧ Tbl.has s.boot.ends 9 ∧ s.g SYS_BOOT_DRAM = 3 then s.p SYS_BOOT_FAB 4 else s

/-- The spindle fails: the bridge is off and the state FAILED; at start-up the media branch fails (Table SYS-12), outside it every
media operation completes with 0x0211 (R251). -/
def State.spindleFail (s : State) : State :=
  let s := s.enterSpn 10
  let s : State := { s with spn := { s.spn with order := none, source := none, restart := none } }
  if s.g SYS_BOOT_STAGE = 3 ∧ s.g SYS_BOOT_MEDIA = 2 then s.mediaFail 0x20 else s.failMediaOps

/-! ### Results of self-tests (Table TST-5) -/

/-- A results entry enters the page of 32, newest first. -/
def State.result (s : State) (source test mask outcome fcode block detail dur n1 n2 : Nat) : State :=
  let e := leBytes s.now 8 ++ [byte source, byte test, byte mask, byte outcome, byte fcode, byte block] ++ leBytes detail 2 ++ leBytes dur 4 ++ leBytes n1 4 ++ leBytes n2 4 ++ zeros 4
  { s with tst := { s.tst with results := (e :: s.tst.results).take 32, gen := s.tst.gen + 1 } }

/-- A BIST record (TYPE 0x02). -/
def State.bistRecord (s : State) (fcode block detail : Nat) : State := s.record (mkRec 0x02 32 [(16, 8, s.now), (24, 1, fcode), (25, 1, block), (26, 2, detail)])

end Sys2Proof.Machine
end

