-- ==== Sys2Proof/Machine/Flash.lean ====
section
/-! DEFINITION. The chart flash: operations and their order, marks, wear, retirement and sealing, the persistent area
(spec/05_chart.md R158, R175 to R179, R189 to R194; spec/18_gazetteer.md R612 to R619). -/

namespace Sys2Proof.Machine

/-- The flash sectors of Table CHT-1. -/
def markSector (i : Nat) : Nat := 512 + i
def wearSector (i : Nat) : Nat := 514 + i
def gazSector (i : Nat) : Nat := 520 + i
def spareSector (i : Nat) : Nat := 1016 + i

/-- A chart-slot sector (Table CHT-1). -/
def isChartSector (n : Nat) : Bool := decide (n < 512)

/-- The wear entry of a sector. -/
def State.wearOf (s : State) (n : Nat) : Wear := Tbl.getD s.chart.wear n {}

/-- Store a wear entry. -/
def State.wearPut (s : State) (n : Nat) (w : Wear) : State := { s with chart := { s.chart with wear := Tbl.put s.chart.wear n w } }

/-- Where a sector's bytes stand: a retired sector is read and written through its spare (R191), and a sector retired after
sealing through one of the last eight sectors of the persistent area, whose numbers 8 to 15 the wear entry's four bits hold (R194; assumption log 9). -/
def State.physSector (s : State) (n : Nat) : Nat :=
  let w := s.wearOf n
  if w.state = 2 then (if w.spare < 8 then spareSector w.spare else 1015 - (w.spare - 8)) else n

/-- A sector is half-erased: the marks name it as it stands on the device (R177). -/
def State.isHalf (s : State) (n : Nat) : Bool := s.chart.half.contains (s.physSector n)

/-- `n` bytes of flash at address `a` (within one sector). -/
def State.flashRead (s : State) (a n : Nat) : List Byte :=
  Memory.read 0xFF s.flash (s.physSector (a / 65536) * 65536 + a % 65536) n

/-- Program bytes at address `a` (within one sector). -/
def State.flashWrite (s : State) (a : Nat) (b : List Byte) : State :=
  { s with flash := Memory.write 0xFF s.flash (s.physSector (a / 65536) * 65536 + a % 65536) b }

/-- Every byte of a sector becomes the erased value. -/
def State.flashClear (s : State) (n : Nat) : State :=
  { s with flash := Memory.clear s.flash (s.physSector n * 65536) 65536 }

/-- The sector whose bytes stand in device sector `p`: the retired one that `p` serves, else `p` itself. -/
def State.logicalSector (s : State) (p : Nat) : Nat :=
  match s.chart.wear.find? fun e => e.2.state == 2 && s.physSector e.1 == p with
  | some e => e.1
  | none => p

/-- The bytes of chart slot `i`'s header. -/
def State.slotHeader (s : State) (i : Nat) : List Byte := Memory.read 0xFF s.flash (0x1000000 * i) 256

/-- A header's CRC is right (Table CHT-5, order 2). -/
def hdrCrcOk (h : List Byte) : Bool := leAt h 252 4 == crc32c (h.take 252)

/-- The slot other than the active one; without one the slot with the lower SEQ, a header whose CRC fails being lower than any, A on a tie (R172). -/
def State.inactiveSlot (s : State) : Nat :=
  let key := fun (i : Nat) => if hdrCrcOk (s.slotHeader i) then leAt (s.slotHeader i) 12 4 + 1 else 0
  if s.on CHT_STAT_ABSENT then (if key 1 < key 0 then 1 else 0) else 1 - s.g CHT_STAT_ACTIVE

/-! ### Marks -/

/-- A mark entry (Table CHT-6). -/
def markEntry (kind sector gen erases etime : Nat) : List Byte :=
  let b := [byte kind, 0] ++ leBytes sector 2 ++ leBytes gen 4 ++ leBytes erases 3 ++ [0] ++ leBytes etime 2
  b ++ leBytes (crc16 b) 2

/-- Where the next mark entry goes, and its bytes (R175). -/
def State.markAddr (s : State) : Nat := markSector s.chart.markCur * 65536 + 16 * s.chart.markCnt
def State.markBytes (s : State) (kind sector erases etime : Nat) : List Byte := markEntry kind sector (s.chart.markGen + 1) erases etime

/-- A mark entry stands in the current mark sector. -/
def State.mark (s : State) (kind sector erases etime : Nat) : State :=
  let s := s.flashWrite s.markAddr (s.markBytes kind sector erases etime)
  { s with chart := { s.chart with markGen := s.chart.markGen + 1, markCnt := s.chart.markCnt + 1 } }

/-- A valid entry of a mark sector: (kind, sector, GEN, ERASES, ETIME) (R176). -/
def parseMark (b : List Byte) : Option (Nat × Nat × Nat × Nat × Nat) :=
  let k := leAt b 0 1
  if leAt b 14 2 = crc16 (b.take 14) ∧ (k = 0x49 ∨ k = 0x43 ∨ k = 0x48) then
    some (k, leAt b 2 2, leAt b 4 4, leAt b 8 3, leAt b 12 2)
  else none

/-- The entries of mark sector `i` from entry `j` on, ended by the first erased one; a torn entry is absent (R176). The count
is that of all programmed entries. -/
def State.markList (s : State) (i j : Nat) : Nat → Nat × List (Nat × Nat × Nat × Nat × Nat)
  | 0 => (j, [])
  | n + 1 =>
    let b := s.flashRead (markSector i * 65536 + 16 * j) 16
    if b = List.replicate 16 0xFF then (j, [])
    else
      let r := State.markList s i (j + 1) n
      match parseMark b with
      | some e => (r.1, e :: r.2)
      | none => r

/-- Sectors whose latest intent entry has no later completion entry (R177). -/
def halfErased (l : List (Nat × Nat × Nat × Nat × Nat)) : List Nat :=
  ((l.filter fun e => e.1 == 0x49 && !(l.any fun c => c.1 == 0x43 && c.2.1 == e.2.1 && decide (e.2.2.1 < c.2.2.1))).map
    (·.2.1)).eraseDups

/-! ### Wear -/

/-- The entries of a wear checkpoint: 1024 of 8 bytes (spec/05_chart.md, Wear). -/
def State.wearEntries (s : State) : List Byte :=
  ((List.range 1024).map fun n =>
    let w := s.wearOf n
    leBytes w.erases 3 ++ [byte (w.state + 16 * w.spare)] ++ leBytes w.first 2 ++ leBytes w.last 2).flatten

/-- A wear checkpoint with VALID still erased; the places of its header's fields are assumption log 8. -/
def State.wearImage (s : State) : List Byte :=
  let e := s.wearEntries
  leBytes 0x54575341 4 ++ leBytes s.chart.markGen 4 ++ leBytes (crc32c e) 4 ++ leBytes 0xFFFFFFFF 4 ++ zeros 48 ++ e

/-- The GEN of wear sector `i`'s checkpoint, if valid; a half-erased sector is never read as data (R178, R189). -/
def State.checkpointGen (s : State) (i : Nat) : Option Nat :=
  let h := s.flashRead (wearSector i * 65536) 64
  if s.isHalf (wearSector i) then none
  else if leAt h 0 4 = 0x54575341 ∧ leAt h 12 4 = 0 ∧ leAt h 8 4 = crc32c (s.flashRead (wearSector i * 65536 + 64) 8192) then
    some (leAt h 4 4) else none

/-- The wear entries of wear sector `i`'s checkpoint, those that differ from a fresh sector. -/
def State.checkpointWear (s : State) (i : Nat) : Tbl Wear :=
  (List.range 1024).filterMap fun n =>
    let b := s.flashRead (wearSector i * 65536 + 64 + 8 * n) 8
    let w : Wear := { erases := leAt b 0 3, state := leAt b 3 1 % 16, spare := leAt b 3 1 / 16, first := leAt b 4 2, last := leAt b 6 2 }
    if w = {} then none else some (n, w)

/-- The erase limit of the active chart, 0 standing for the default (Table CHT-2). -/
def State.eraseLimit (s : State) : Nat :=
  let l := leAt s.chart.hdr 124 4
  if l = 0 then 100000 else l

/-- Count an erase of sector `n` that took `t` × 100 µs; above twice its first time the sector is slow, once (R190). -/
def State.wearErase (s : State) (n t : Nat) : State :=
  let w := s.wearOf n
  let first := if w.first = 0 then t else w.first
  let slow := decide (2 * first < t) && w.state == 0
  let s := s.wearPut n { w with erases := satAdd 24 w.erases 1, first := first, last := t, state := if slow then 1 else w.state }
  if slow then (s.bump CHT_WEAR_SLOW 1).raise 70 else s

/-- Persistent logging seals (R193): the registers, event 73 and the seal record, which enters the persistent area only
while the write sector has room for it (R619). -/
def State.seal (s : State) (n : Nat) : State :=
  if s.on CHT_WEAR_SEALED then s
  else
    let r := mkRec 0x09 32 [(16, 8, s.now), (24, 2, n)]
    let s := ({ s with chart := { s.chart with sealed := true } } : State).p CHT_WEAR_SEALED 1
    let s := s.raise 73
    let s := if s.gaz.append + r.len ≤ 65536 then s.record r else s.record { r with persist := false }
    s.p GAZ_STAT_SEALED 1

/-- The lowest free spare (R191). -/
def State.freeSpare (s : State) : Option Nat := (List.range 8).find? fun i => (s.wearOf (spareSector i)).state != 3

/-- A sector of the persistent area for a retirement after sealing, by its number 8 to 15: the highest that has not been taken (R194, assumption
log 9). -/
def State.freeAreaSector (s : State) : Option Nat :=
  ((List.range 8).find? fun j => (s.wearOf (1015 - j)).state != 3 && (s.wearOf (1015 - j)).state != 2 && 495 - j != s.g GAZ_PSECT).map (8 + ·)

/-- The contents of sector `n` move to sector `dst`, number `sp` in the wear table, empty where an erase has failed; `dst` is in use; record and
event 71 (R191, R193, R194). -/
def State.retireTo (s : State) (n cause dst sp : Nat) : State :=
  let old := Memory.read 0xFF s.flash (s.physSector n * 65536) 65536
  let bytes := if cause = 1 then [] else old
  let s : State := { s with flash := Memory.write 0xFF (Memory.clear s.flash (dst * 65536) 65536) (dst * 65536) bytes }
  let s : State := { s with chart := { s.chart with half := s.chart.half.filter (· != s.physSector n) } }
  let s := s.wearPut dst { s.wearOf dst with state := 3 }
  let s := s.wearPut n { s.wearOf n with state := 2, spare := sp }
  let s := s.record (mkRec 0x08 32 [(16, 8, s.now), (24, 2, n), (26, 1, sp), (27, 1, cause)])
  s.raise 71

/-- Retire a sector, and whether it could be: its content moves to the lowest free spare, with a record and event 71; with no spare left the log
seals, and from then on a mark, wear or journal sector takes a sector of the persistent area (R191, R193, R194). `cause`: 0 program,
1 erase, 2 limit. -/
def State.retire (s : State) (n cause : Nat) : Bool × State :=
  match (if s.on CHT_WEAR_SEALED then none else s.freeSpare) with
  | some i => (true, (s.p CHT_WEAR_SPARES (s.g CHT_WEAR_SPARES - 1)).retireTo n cause (spareSector i) i)
  | none =>
    let s := s.seal n
    if 512 ≤ n ∧ n < 520 then
      match s.freeAreaSector with
      | some i => (true, s.retireTo n cause (1015 - (i - 8)) i)
      | none => (false, s)
    else (false, s)

/-! ### The journal slots -/

/-- The address of journal slot `i` (Table CHT-1). -/
def journalAddr (i : Nat) : Nat := 0x2040000 + 4096 * i

/-- The lowest-numbered pre-erased journal slot (R219). -/
def State.freeJournal (s : State) : Option Nat := (List.range 64).find? fun i => Tbl.find s.chart.jslots i == some .preErased

/-- PWR_STATE.JNL_RDY follows the slots; where none is pre-erased event 47 is raised (R103). -/
def State.journalReady (s : State) : State :=
  match s.freeJournal with
  | some _ => s.p PWR_STATE_JNL_RDY 1
  | none => (s.p PWR_STATE_JNL_RDY 0).raise 47

/-- The slots of journal sector `q` (0 to 3) become pre-erased; or, where the sector is lost, none of them. -/
def State.journalErased (s : State) (q : Nat) (ok : Bool) : State :=
  let j := (List.range 16).foldl (fun t i => Tbl.put t (16 * q + i) (if ok then JSlot.preErased else JSlot.ignored)) s.chart.jslots
  ({ s with chart := { s.chart with jslots := j } } : State).journalReady

/-! ### Operations in order of priority (R158) -/

/-- The current mark sector holds so many entries that the switch has begun: what is left of it serves the erases of the switch (R179). -/
def State.marksFull (s : State) : Bool := decide (4088 ≤ s.chart.markCnt)

/-- An operation may start: an erase outside the switch waits while the mark sector is full. -/
def State.mayStart (s : State) (j : FlashJob) : Bool := !j.erase || !s.marksFull || j.why == .switchWear || j.why == .switchMark

/-- The first waiting job of the highest priority among those that may start, and the rest. -/
def pickJob (ok : FlashJob → Bool) (l : List FlashJob) : Option (FlashJob × List FlashJob) :=
  match l with
  | [] => none
  | j :: t =>
    match pickJob ok t with
    | none => if ok j then some (j, t) else none
    | some (k, t') => if ok j && decide (j.prio ≤ k.prio) then some (j, t) else some (k, j :: t')

/-- The opcode of the flash descriptor at byte `o` of the active chart's header (Table CHT-2). -/
def State.flashOp (s : State) (o : Nat) : Nat := leAt s.chart.hdr o 1

/-- A command on the flash link. -/
def State.xspi (s : State) (op addr n : Nat) : State := s.emit (.xspi s.chart.octal s.chart.mhz op addr n)

/-- The time limits of a page program in µs and of a sector erase in ms (Table CHT-2): those of the active chart; without a chart the largest that
Table CHT-2 allows (assumption log 146). -/
def State.ppMax (s : State) : Nat := if s.chart.hdr.isEmpty then 450 else leAt s.chart.hdr 120 2
def State.seMax (s : State) : Nat := if s.chart.hdr.isEmpty then 8000 else leAt s.chart.hdr 122 2

/-- The bytes of a program operation's present page. -/
def FlashJob.page (j : FlashJob) : List Byte := j.bytes.take (256 - j.addr % 256)

/-- An operation begins: a program with its first page, an erase with its intent entry (R175). -/
def State.flashBegin (s : State) (j : FlashJob) : State :=
  if j.erase then
    (({ s with chart := { s.chart with busy := some { j with phase := 1 } } } : State)).xspi (s.flashOp 116) s.markAddr 16
  else ({ s with chart := { s.chart with busy := some j } } : State).xspi (s.flashOp 116) j.addr j.page.length

/-- Start the next waiting operation when the flash is free (R158). -/
def State.flashKick (s : State) : State :=
  match s.chart.busy, pickJob s.mayStart s.chart.jobs with
  | none, some (j, rest) => ({ s with chart := { s.chart with jobs := rest } } : State).flashBegin j
  | _, _ => s

/-- A flash operation waits its turn (R158). -/
def State.flashAsk (s : State) (j : FlashJob) : State :=
  ({ s with chart := { s.chart with jobs := s.chart.jobs ++ [j] } } : State).flashKick

/-- A step of a mark-sector switch waits or runs. -/
def FlashWhy.ofSwitch (w : FlashWhy) : Bool := w == .switchWear || w == .checkpoint || w == .switchMark || w == .head

/-- The current mark sector holds 4088 entries: the switch to the other one begins with the erase of the wear sector that
holds the older checkpoint (R179). -/
def State.markSwitch (s : State) : State :=
  if s.marksFull && !(s.chart.jobs.any fun j => j.why.ofSwitch) && !(s.chart.busy.any fun j => j.why.ofSwitch) then
    let old := match s.checkpointGen 0, s.checkpointGen 1 with
      | none, _ => 0
      | some _, none => 1
      | some a, some b => if a ≤ b then 0 else 1
    s.flashAsk { prio := 4, erase := true, addr := wearSector old * 65536, why := .switchWear }
  else s

/-! ### The persistent area -/

/-- The header of a sector of the persistent area, VALID still erased (Table GAZ-3). -/
def State.gazHeader (s : State) (sgen : Nat) : List Byte :=
  let b := zeros 3 ++ leBytes 0x5A475341 4 ++ leBytes sgen 4 ++ leBytes (s.g GAZ_STAMP_OPSEC) 5 ++
    leBytes (s.g GAZ_STAMP_PCYCLE) 3 ++ zeros 40
  0xFF :: b ++ leBytes (crc32c b) 4

/-- The area index of the sector that is taken into use next. -/
def State.gazNext (s : State) : Nat := if s.gaz.inUse then (s.g GAZ_PSECT + 1) % 496 else s.g GAZ_PSECT

/-- Erase the next sector of the area for use (R617). -/
def State.gazEraseNext (s : State) : State :=
  if s.on CHT_WEAR_SEALED then s
  else s.flashAsk { prio := 5, erase := true, addr := gazSector s.gazNext * 65536, why := .gaz }

/-- The header of the next erased sector is programmed, with SGEN one above (R617). -/
def State.gazTakeNext (s : State) : State :=
  let a := gazSector s.gazNext * 65536
  if s.chart.jobs.any (fun j => j.why == .gazHead) || s.chart.busy.any (fun j => j.why == .gazHead) then s
  else s.flashAsk { prio := 5, erase := false, addr := a, bytes := s.gazHeader (s.g GAZ_SGEN + 1), valid := some (a, [0]), why := .gazHead }

/-- The sector whose header has been programmed is in use, and the one after it is erased (R617). -/
def State.gazTaken (s : State) : State :=
  let i := s.gazNext
  let s := (s.p GAZ_PSECT i).p GAZ_SGEN (s.g GAZ_SGEN + 1)
  let s : State := { s with gaz := { s.gaz with inUse := true, append := 64, nextReady := false } }
  s.gazEraseNext

end Sys2Proof.Machine
end

