-- ==== Sys2Proof/Machine/Reset.lean ====
section
/-! DEFINITION. Resets: their assertion, what survives them, and the power-loss journal (spec/06_power_to_ready.md R195 to
R198; spec/03_supplies_surveyor.md R94, R100, R101, R117; spec/04_pins.md R142). -/

namespace Sys2Proof.Machine

/-! ### The supply-dip record -/

/-- A supply hold is active (PWR_HOLD.ACTIVE). -/
def State.holding (s : State) : Bool := s.on PWR_HOLD_ACTIVE

/-- The supply-dip record of the hold, with the values it holds now (R91); `cut` says that a reset or a power loss ends it. Where no recovery
comparator rose the last rise is the crossing, and where no post fell in the hold the minima are the values posted last (assumption log 138). -/
def State.dipRec (s : State) (cut : Bool) : Rec :=
  let flags := b2n (s.on PWR_HOLD_UNLOADED) + 2 * b2n (s.on PWR_HOLD_RETRACTED) + 4 * b2n cut
  mkRec 0x05 64 [(16, 8, s.pwr.crossTs), (24, 8, s.pwr.riseTs), (32, 8, s.now), (40, 1, s.pwr.causes), (41, 1, flags),
    (42, 2, s.pwr.minVin.getD (s.g SVY_VIN_MIN)), (44, 2, s.pwr.minVm.getD (s.g SVY_VM_MEAN)), (46, 2, s.pwr.abandoned)]

/-- The supply-dip record is written. -/
def State.dipRecord (s : State) (cut : Bool) : State := s.record (s.dipRec cut)

/-- The registers and counts of a hold return to rest. -/
def State.holdOver (s : State) : State :=
  let s := [PWR_HOLD_ACTIVE, PWR_HOLD_VIN_LO, PWR_HOLD_VIN_HI, PWR_HOLD_VM_LO, PWR_HOLD_UNLOADED, PWR_HOLD_RETRACTED,
    PWR_HOLD_RCVCNT, PWR_HOLD_ELAPSED].foldl (fun s F => s.p F 0) s
  { s with pwr := { s.pwr with
    vinLo := {}, vinHi := {}, vmLo := {}, causes := 0, minVin := none, minVm := none, abandoned := 0, downActs := [], dlMark := none } }

/-! ### What survives a reset -/

/-- The fields that every reset other than a power-on keeps: the retained registers (R117, R149), the straps until they are
sampled again (R154) and the configuration of port A (R142). -/
def retainedWarm : List Fld :=
  [SVY_RSTCAUSE_CAUSE, SVY_RSTCAUSE_PREV, SVY_RSTCAUSE_DIPCNT, PIN_WAKESRC_PINS, PIN_WAKESRC_PERST]

/-- The fields that every reset keeps: fuses, the identification and the straps (R165, R166, R667, R154). -/
def retainedAll : List Fld :=
  [CHT_EPOCH_FUSED, TST_FUSE_DEV, TST_FUSE_DEVMODE, TST_FUSE_LOCK, TST_IDCODE, PIN_STRAP_XSPI1, PIN_STRAP_PCIEW,
    PIN_STRAP_SCANHOLD]

/-- Copy fields of one register file into another. -/
def copyFlds (l : List Fld) (src dst : RegFile) : RegFile := l.foldl (fun r F => r.put F 0 0 (src.get F 0 0)) dst

/-- The key hash in OTP stays; its eight words. -/
def copyHash (src dst : RegFile) : RegFile := (List.range 8).foldl (fun r i => r.put CHT_KEYHASH 0 i (src.get CHT_KEYHASH 0 i)) dst

/-- The function, pad, output value and direction of port A and its event-output polarities. -/
def copyPortA (src dst : RegFile) : RegFile :=
  let dst := (List.range 16).foldl (fun r i => ((r.put PIN_FUNC 0 i (src.get PIN_FUNC 0 i)).put PIN_PAD 0 i
    (src.get PIN_PAD 0 i)).put PIN_EVOCFG_POL 0 i (src.get PIN_EVOCFG_POL 0 i)) dst
  (dst.put PIN_OUT_OUT 0 0 (src.get PIN_OUT_OUT 0 0)).put PIN_OUT_OE 0 0 (src.get PIN_OUT_OE 0 0)

/-- The wake configuration, kept with port A in the always-on domain. -/
def copyWake (src dst : RegFile) : RegFile :=
  (List.range 16).foldl (fun r i => (r.put PIN_WAKECFG_EN 0 i (src.get PIN_WAKECFG_EN 0 i)).put PIN_WAKECFG_MODE 0 i
    (src.get PIN_WAKECFG_MODE 0 i)) (dst.put PIN_WAKEFILT_FILT 0 0 (src.get PIN_WAKEFILT_FILT 0 0))

/-- The registers after the assertion of a reset; `cold` says that the always-on domain resets too (R81, R152, R195). -/
def State.resetRegs (s : State) (cold : Bool) : RegFile :=
  let r := copyHash s.regs (copyFlds retainedAll s.regs [])
  if cold then r else copyWake s.regs (copyPortA s.regs (copyFlds retainedWarm s.regs r))

/-- A definition as the map region stores it (Table MED-9): no statistics. -/
def Vol.stored (v : Vol) : Vol :=
  { modes := v.modes, fmask := v.fmask, cap := v.cap, kver := v.kver, resv := v.resv, attached := v.attached, crc := v.crc }

/-- What stands on the platters: sectors, the stored maps, spares, ranges, definitions and redirects (R357, R465). -/
def Med.platters (m : Med) : Med :=
  { disc := m.disc, map := m.map.filter (·.2.stored), single := m.single, spares := m.spares.filter (·.2.stored), spent := m.spent,
    unwr := m.unwr, vols := m.vols.map fun v => (v.1, v.2.stored), redir := m.redir }

/-- The Surveyor's part of the always-on domain: the filtered temperatures and the board sensors' values and counts (R706, R116). -/
def Svy.through (v : Svy) : Svy := { die := v.die, board := v.board, boardFail := v.boardFail, boardTicks := v.boardTicks }

/-- What the always-on domain keeps of the supplies: comparators' outputs, their levels, PF_EN (R84, R98). -/
def Pwr.through (p : Pwr) : Pwr := { vmLoss := p.vmLoss, vinWarn := p.vinWarn, vmWarn := p.vmWarn, pfEn := p.pfEn }

/-- What stands at the pads whatever the reset: the board's drive, and in a warm reset the keepers and the sleep states (R142, R145). -/
def Pin.through (p : Pin) (cold : Bool) : Pin :=
  if cold then { drv := p.drv, lvl := p.lvl } else { drv := p.drv, lvl := p.lvl, kept := p.kept, asleep := p.asleep }

/-- The state after the assertion of a reset: every part at its reset value but what survives, which is flash and platters, the
heads and the rotor as they move, the supplies' and pins' levels, and in a warm reset the always-on domain (R195 to R197). -/
def State.resetCore (s : State) (cold : Bool) : State :=
  { State.reset with
    pending := s.pending
    regs := s.resetRegs cold
    freeCount := s.freeCount
    out := s.out
    flash := s.flash
    svy := if cold then {} else s.svy.through
    pwr := if cold then { vmLoss := s.pwr.vmLoss } else s.pwr.through
    pin := s.pin.through cold
    chart := { sealed := s.chart.sealed }
    boot := { perst := s.boot.perst }
    retr := s.retr.map fun e => (e.1, { e.2 with due := none })
    left := s.left
    med := s.med.platters
    tst := if cold then {} else { tap := s.tst.tap } }

/-- An update session that a reset, a power loss or an Abort ends leaves the inactive slot without a valid header: where its first sector has not been
erased yet, its header goes all the same (R188; assumption log 145). -/
def State.sessionVoid (s : State) : State :=
  if s.g CHT_UPD_STATE = 1 ∨ s.g CHT_UPD_STATE = 2 then
    { s with flash := Memory.clear s.flash (0x1000000 * s.inactiveSlot) 256 } else s

/-- The device enters reset with a cause: gates drop, loaded actuators retract, the spindle coasts (R196), CAUSE moves to PREV
(R117), the flash is reset (R156), and the core's state is gone (R197). A power-on clears the retained registers. The supply-dip record of a hold that the reset
interrupts (R91) is the first record of the session that follows, for the ring does not outlast the reset (assumption log 143). -/
def State.enterReset (s : State) (cause : Nat) : State :=
  let s := (((s.gateDropAll).retractAll).spindleCoast).sessionVoid
  let dip := if s.holding then some (s.dipRec true) else none
  let prev := s.g SVY_RSTCAUSE_CAUSE
  let cold := cause == 0
  let s := s.resetCore cold
  let s := if cold then s else (s.p SVY_RSTCAUSE_PREV prev).p SVY_RSTCAUSE_CAUSE cause
  let s := match dip with
    | some r => if cold then s else s.record r
    | none => s
  ({ s with pwr := { s.pwr with inReset := some cause } } : State).emit .xspiReset

/-- A wake from Vigil: its sources are recorded, the PLL is enabled and the exit, a reset of cause 0x6, begins; the count kept
through Vigil goes on, and ports B to D keep their sleep states (R58, R145, R149). -/
def State.wake (s : State) (pins : Nat) (perst : Bool) : State :=
  let s := (s.p PIN_WAKESRC_PINS pins).p PIN_WAKESRC_PERST (b2n perst)
  let tick := s.clk.tick
  let s := s.enterReset 6
  { s with clk := { s.clk with tick := tick } }

/-! ### The power-loss journal -/

/-- A journal entry: VOL, KIND, first LBA, blocks, merged (Table PWR-6). -/
structure JEnt where
  vol : Nat
  kind : Nat
  lba : Nat
  count : Nat
  merged : Bool := false
  deriving DecidableEq, Repr

/-- The order of entries: VOL, then KIND, then LBA (R101). -/
def jle (a b : JEnt) : Bool :=
  decide (a.vol < b.vol) || (a.vol == b.vol && (decide (a.kind < b.kind) || (a.kind == b.kind && decide (a.lba ≤ b.lba))))

/-- Insert an entry in order. -/
def jinsert (e : JEnt) : List JEnt → List JEnt
  | [] => [e]
  | a :: t => if jle e a then e :: a :: t else a :: jinsert e t

/-- The smallest gap between adjacent entries of equal VOL and KIND (R101). -/
def jminGap : List JEnt → Option Nat
  | a :: b :: t =>
    let r := jminGap (b :: t)
    if a.vol = b.vol ∧ a.kind = b.kind then
      let g := b.lba - (a.lba + a.count)
      match r with
      | some x => some (min g x)
      | none => some g
    else r
  | _ => none

/-- Merge the lowest pair whose gap is `g` (R101). -/
def jmergeAt (g : Nat) : List JEnt → List JEnt
  | a :: b :: t =>
    if a.vol = b.vol ∧ a.kind = b.kind ∧ b.lba - (a.lba + a.count) = g then
      { a with count := max (a.lba + a.count) (b.lba + b.count) - a.lba, merged := true } :: t
    else a :: jmergeAt g (b :: t)
  | l => l

/-- Merge until the list fits 252 entries (R101). -/
def jfit : List JEnt → Nat → List JEnt
  | l, 0 => l
  | l, n + 1 =>
    if l.length ≤ 252 then l
    else match jminGap l with
      | some g => jfit (jmergeAt g l) n
      | none => l

/-- The bytes of an entry (Table PWR-6). -/
def jentBytes (e : JEnt) : List Byte :=
  leBytes e.vol 2 ++ [byte e.kind, byte (b2n e.merged)] ++ leBytes e.lba 6 ++ leBytes (e.count % 2 ^ 32) 4 ++
    leBytes (e.count / 2 ^ 32) 2

/-- The 4096 bytes of a journal with VALID still erased: unused entry slots read 0xFF (Table PWR-5, R100). -/
def State.journalImage (s : State) (cause : Nat) : List Byte :=
  let l := s.lostRanges.foldl (fun l r => jinsert { vol := r.1, kind := r.2.1, lba := r.2.2.1, count := r.2.2.2 } l) []
  let l := jfit l l.length
  let body := (l.map jentBytes).flatten
  let tail := body ++ List.replicate (4032 - body.length) 0xFF
  leBytes 0x314A5341 4 ++ leBytes 0xFFFFFFFF 4 ++ leBytes s.now 8 ++ leBytes (s.g GAZ_STAMP_PCYCLE) 3 ++
    [byte (b2n (l.any (·.merged)) + 2 * cause)] ++ leBytes l.length 2 ++ zeros 2 ++ leBytes s.chart.prior 8 ++ zeros 28 ++
    leBytes (crc32c tail) 4 ++ tail

/-- The journal goes to the lowest pre-erased slot: pages 1 to 15 as far as they hold entries, then page 0 with VALID left erased, and last VALID; none
where no slot is pre-erased (R94 step 5, R100, R219). The slot in use is answered with the state. -/
def State.journalWrite (s : State) (cause : Nat) : Option Nat × State :=
  match s.freeJournal with
  | none => (none, s)
  | some i =>
    let a := journalAddr i
    let b := s.journalImage cause
    let n := 64 + 16 * leAt b 20 2
    let s : State := { s with chart := { s.chart with jslots := Tbl.put s.chart.jslots i .incomplete } }
    let s := if 256 < n then
        s.flashAsk { prio := 1, erase := false, addr := a + 256, bytes := (b.drop 256).take (n - 256), why := .power } else s
    (some i, s.flashAsk { prio := 1, erase := false, addr := a, bytes := b.take 256, valid := some (a + 4, zeros 4), why := .power })

/-- The power-loss journal is still being written. -/
def State.journalBusy (s : State) : Bool := s.chart.jobs.any (fun j => j.why == .power) || s.chart.busy.any fun j => j.why == .power

end Sys2Proof.Machine
end

