-- ==== Sys2Proof/Machine/Clock.lean ====
section
/-! DEFINITION. The clock family: clock faults, lock, frequency requests, trim episodes, pinned episodes, event messages
(spec/02_graticule.md; spec/01_capture_model.md R48; spec/19_event_map.md R636, R640). -/

namespace Sys2Proof.Machine

/-- A frequency request is latched; with ECON_EN at 0 none is made (R53, R55). A later request replaces one that is latched and not yet committed
(assumption log 133). -/
def State.requestClock (s : State) (econ : Bool) : State :=
  if !s.on CLK_CFG_ECON_EN then s
  else
    let wanted := match s.clk.req with
      | some r => r
      | none => match s.clk.commit with
        | some r => r
        | none => s.econ
    if wanted == econ then s
    else ({ s with clk := { s.clk with req := some econ, reqLate := decide (3900 ≤ s.clk.cycle) } } : State).p CLK_STAT_ECON_PEND 1

/-- A request latched before cycle 3900 is committed for the next edge; one latched later waits for the next tick's slot (R53). -/
def State.commitReq (s : State) : State :=
  match s.clk.req with
  | some r => if s.clk.reqLate then s else { s with clk := { s.clk with commit := some r, req := none } }
  | none => s

/-- COMMIT_SLOT (R53): the commit slot of the tick. -/
def execCommitSlot (s : State) : Out :=
  .next (if s.slotOpen 14 then ((s.atCycle 3900).slotDone 14).commitReq else s)

/-- A declared clock fault: holdover, gates dropped, emergency park of every loaded actuator, the spindle coasts (R56). -/
def State.clockFault (s : State) (event : Nat) : State :=
  let s := s.p CLK_STAT_HOLDOVER 1
  let s := s.raise event
  let s := s.gateDropAll
  let s := s.eparkAll 16
  let s := s.spindleCoast
  match s.clk.fault with
  | some _ => s
  | none => { s with clk := { s.clk with fault := some s.instant } }

/-- REFERENCE_LOSS (R56): no reference edge for `ns` nanoseconds, 1 µs being the limit. REF_OK stays 0 until the reset that follows (assumption
log 134). -/
def execReferenceLoss (s : State) (ns : Nat := 1000) : Out :=
  .next (if s.running && decide (1000 ≤ ns) then (s.p CLK_STAT_REF_OK 0).clockFault 18 else s)

/-- PLL_UNLOCK (R56): the phase error has stood above its threshold for `periods` reference periods, 64 being the limit; LOCK shows the PLL's lock
(Table CLK-2), while the core runs on in holdover. -/
def execPllUnlock (s : State) (periods : Nat := 64) : Out :=
  .next (if s.running && decide (64 ≤ periods) then (s.p CLK_STAT_LOCK 0).clockFault 17 else s)

/-- CLOCK_FAULT_RESET (R57): every actuator is parked, or 5 ms have passed since the declaration. -/
def execClockFaultReset (s : State) : Out :=
  match s.clk.fault with
  | none => .next s
  | some e => .next (if s.running && (s.allParked || decide (e + fiveMs ≤ s.instant)) then s.enterReset 2 else s)

/-- PLL_LOCK (R52, R200): core logic runs; the BIST stage begins and the first tick begins at the next edge. -/
def execPllLock (s : State) : Out :=
  if s.pwr.inReset = none ∧ s.g SYS_BOOT_STAGE = 0 ∧ s.clk.core = false ∧ s.pwr.vigil = false then
    let s := (s.p CLK_STAT_LOCK 1).p CLK_STAT_REF_OK 1
    let s : State := { s with clk := { s.clk with core := true } }
    .next ((s.p SYS_BOOT_STAGE 1).stageEndAt 0)
  else .next s

/-- TRIM_LIMIT_EPISODE (R76): the trim has stood at ±200 ppm for 64 consecutive ticks, the present one included; event 21, once per episode. A
trim that goes from one limit to the other within an edge goes on with its episode (assumption log 132). -/
def execTrimLimitEpisode (s : State) : Out :=
  if s.running && s.on CLK_TRIM_AT_LIMIT && decide (63 ≤ s.clk.trimRun) && !s.clk.trimRaised then
    .next (({ s with clk := { s.clk with trimRaised := true } } : State).raise 21)
  else .next s

/-- PINNED_EPISODE_EVENT (R48): a loop has been pinned in 64 consecutive ticks; its kind's event 160 to 164 is raised once
for the episode and EPI_SEEN is set. -/
def execPinnedEpisodeEvent (kind : Fin 5) (i : Nat) (s : State) : Out :=
  let l := s.loopAt (loopId kind i)
  if s.running && decide (64 ≤ l.run) && !l.raised then
    let s : State := { s with loops := Tbl.put s.loops (loopId kind i) { l with raised := true } }
    .next ((s.hwSet SYS_LOOPPIN_EPI_SEEN 0 0 kind).raise (160 + kind))
  else .next s

/-! ### Events at the host's side -/

/-- The mask dword `r` takes a host value: an event that stays pending and whose mask bit the write clears queues one message
on its vector; where the vector has sent its event message of this tick, the next edge's message covers it (R636; DEDUCED, log 166). -/
def State.evtMaskWrite (s : State) (r v : Nat) : State :=
  let old := s.gki EVT_MASK 0 r
  let s := s.pki EVT_MASK 0 r v
  (List.range 32).foldl (fun s b =>
    let e := 32 * r + b
    if bitAt old b && !bitAt v b && s.evtPend e && s.chart.applied then s.evtMsg e else s) s

/-- EVT_MASK_WRITE (R636): a PF write of EVT_MASK register `r`. -/
def execEvtMaskWrite (r : Fin 6) (v : BitVec 32) (s : State) : Out :=
  .next (if s.barOpen then s.evtMaskWrite r v.toNat else s)

/-- A POP of EVT_FABCTL removes the oldest payload; room ends an episode of a full queue (R640). -/
def State.evtPop (s : State) : State :=
  let q := s.evt.recvQ.drop 1
  ({ s with evt := { s.evt with recvQ := q, fullEpi := false } } : State).p EVT_FABCTL_N q.length

/-- EVT_FABCTL_POP (R640). -/
def execEvtFabctlPop (s : State) : Out := .next (if s.barOpen then s.evtPop else s)

/-- A consumed EVENT parcel: into the receive queue with event 187, or discarded and counted, with event 188 once per
episode (R640). -/
def State.evtReceive (s : State) (payload : List Byte) : State :=
  if s.evt.recvQ.length < 16 then
    let q := s.evt.recvQ ++ [payload]
    (({ s with evt := { s.evt with recvQ := q } } : State).p EVT_FABCTL_N q.length).raise 187
  else
    let s := s.bump EVT_FABCTL_DROPIN 1
    if s.evt.fullEpi then s else ({ s with evt := { s.evt with fullEpi := true } } : State).raise 188

/-- EVENT (R640): an EVENT parcel of another node is consumed. -/
def execEvent (payload : List Byte) (s : State) : Out := .next (if s.running then s.evtReceive payload else s)

end Sys2Proof.Machine
end

