-- ==== Sys2Proof/Machine/Supply.lean ====
section
/-! DEFINITION. Supplies, supply holds, power loss and power states (spec/03_supplies_surveyor.md R80 to R108). -/

namespace Sys2Proof.Machine

/-! ### The die sites' filters (Table SVY-1) -/

/-- One step of a site's filter, α = 1/16, in 1/4096 °C; where the sixteenth is not whole, the spec does not say how it is
rounded, and a free value decides (assumption log 14). -/
def iirStep (y x : Int) (free : Nat) : Int :=
  let d := x - y
  if d % 16 = 0 then y + d / 16 else y + d / 16 + (free % 2 : Nat)

/-- The filters of the eight sites take their samples; a site not filtered yet takes its sample. -/
def State.filterDie (s : State) (x : List Int) : State :=
  let n := s.freeCount
  let die := (List.range 8).map fun i =>
    match s.svy.die[i]? with
    | some y => iirStep y (x.getD i y) (Config.freeValue (n + i))
    | none => x.getD i 0
  { s with svy := { s.svy with die := die }, freeCount := n + 8 }

/-- The hottest site: its filtered value rounded down to 0.125 °C, and its index, the lowest of equals (Table SVY-1). -/
def hottest (die : List Int) : Int × Nat :=
  match die with
  | [] => (0, 0)
  | d :: t =>
    let r := (t.zipIdx 1).foldl (fun (m : Int × Nat) e => if m.1 < e.1 then e else m) (d, 0)
    (r.1 / 512, r.2)

/-! ### The wait of deadlines (R88) -/

/-- The actuators that a command needs: those of the sectors it reads, and of the extents that its pieces write here. -/
def State.needActs (s : State) (slot : Nat) : List Nat :=
  ((s.med.reads.filter fun e => e.2.slot == some slot).map fun e => s.locAct e.1) ++
    (s.pieces.filter fun e => e.2.slot == some slot).filterMap fun e => (s.phys e.2.vol (e.2.lba / 256)).map fun p => s.headAct (peHead p)

/-- The actuator that a command needs has its heads loaded; a command mapped to none waits on any. -/
def State.needsLoaded (s : State) (slot : Nat) : Bool :=
  let l := s.needActs slot
  if l.isEmpty then s.anyLoaded else l.any s.loaded

/-- Deadlines have waited up to the present instant, where they wait. -/
def State.deadlineFlush (s : State) : State :=
  match s.pwr.dlMark with
  | none => s
  | some m => { s with
      cmds := s.cmds.map fun e => if s.needsLoaded e.1 then (e.1, { e.2 with dlWait := e.2.dlWait + (s.instant - m) }) else e
      pwr := { s.pwr with dlMark := some s.instant } }

/-- The deadline instant of a command, with its waits (R453, R348). -/
def State.deadline (s : State) (c : Cmd) : Option Nat := c.dl.map fun e => e * 20000 + c.ts % 8192 * s.unit + c.dlWait

/-- The deadline instant of the command in a slot as it stands now (R88, R453). -/
def State.deadlineOf (s : State) (slot : Nat) : Option Nat :=
  let t := s.deadlineFlush
  (t.cmd slot).bind t.deadline

/-! ### The supply hold -/

/-- The lowest recovery count among the active causes (PWR_HOLD.RCVCNT). -/
def State.rcvCount (s : State) : Nat :=
  minOf 25 ([s.pwr.vinLo, s.pwr.vinHi, s.pwr.vmLo].filterMap fun c => if c.active then some c.count else none)

/-- The VIN and VM warning levels in mV, from the codes that the always-on domain holds (Table PWR-2, R84). -/
def State.vinWarnMv (s : State) : Nat := 2400 + 5 * s.pwr.vinWarn
def State.vmWarnMv (s : State) : Nat := 50 * s.pwr.vmWarn

/-- An excursion of `ns` nanoseconds is a crossing from 20 ns on (R82). -/
def lasting (ns : Nat) : Bool := decide (20 ≤ ns)

/-- A hold begins: the crossing's timestamp, its registers, the count of dips (R83, R91, R117); deadlines wait from here on (R88). -/
def State.holdStart (s : State) : State :=
  let s : State := { s with pwr := { s.pwr with
    crossTs := s.now, riseTs := s.now, minVin := none, minVm := none, abandoned := 0, downActs := [], dlMark := some s.instant } }
  ((s.p PWR_HOLD_ACTIVE 1).p PWR_HOLD_ELAPSED 0).bump SVY_RSTCAUSE_DIPCNT 1

/-- Cause `i` of the hold, 0 VIN low, 1 VIN high, 2 VM low, is active with recovery count 0 (R86). -/
def State.causeOn (s : State) (i : Nat) : State :=
  let c : Cause := { active := true, count := 0 }
  let s : State := match i with
    | 0 => { s with pwr := { s.pwr with vinLo := c } }
    | 1 => { s with pwr := { s.pwr with vinHi := c } }
    | _ => { s with pwr := { s.pwr with vmLo := c } }
  let s := s.p (if i = 0 then PWR_HOLD_VIN_LO else if i = 1 then PWR_HOLD_VIN_HI else PWR_HOLD_VM_LO) 1
  let s : State := { s with pwr := { s.pwr with causes := setBit s.pwr.causes i } }
  s.p PWR_HOLD_RCVCNT 0

/-- A crossing: a supply hold begins or gains a cause, and the gates drop (R83, R85, R86). -/
def State.holdCross (s : State) (i : Nat) : State :=
  let s := if s.holding then s else s.holdStart
  let s := (s.causeOn i).gateDropAll.abandonSlices
  s.raise (if i = 2 then 34 else 32)

/-- VIN_WARNING_CROSSING, VIN_OVER_CROSSING, VM_WARNING_CROSSING (R82, R83): the input has stood at `mv`, at or past its trip level, for `ns`. -/
def execVinWarningCrossing (s : State) (mv : Nat := 0) (ns : Nat := 20) : Out :=
  .next (if s.running && decide (mv ≤ s.vinWarnMv) && lasting ns then s.holdCross 0 else s)
def execVinOverCrossing (s : State) (mv : Nat := 5750) (ns : Nat := 20) : Out :=
  .next (if s.running && decide (5750 ≤ mv) && lasting ns then s.holdCross 1 else s)
def execVmWarningCrossing (s : State) (mv : Nat := 0) (ns : Nat := 20) : Out :=
  .next (if s.running && decide (mv ≤ s.vmWarnMv) && lasting ns then s.holdCross 2 else s)

/-- Actuators that a hold has unloaded or retracted load again where they stand parked (R89, R90). -/
def State.loadDown (s : State) (l : List Nat) : State := l.foldl (fun s k => s.loadAct k 1) s

/-- The hold ends at this edge: event 33, the dip record, media resumes, deadlines run, abandoned writes are re-issued, the heads that it
unloaded reload, and after a VM loss the spindle restarts first (R87 to R91). -/
def State.holdEnd (s : State) : State :=
  let retracted := s.on PWR_HOLD_RETRACTED
  let down := s.pwr.downActs
  let s := (s.deadlineFlush.dipRecord false).holdOver
  let s := (s.raise 33).reissue
  if retracted then ({ s with spn := { s.spn with restart := some down } } : State).spindleStart 2
  else s.loadDown down

/-- HOLD_CAUSE_CLEAR (R86): a cause whose recovery comparator was high for every cycle of 25 consecutive ticks clears; the hold
ends with its last cause. -/
def execHoldCauseClear (cause : Fin 3) (s : State) : Out :=
  let c := match cause with
    | 0 => s.pwr.vinLo
    | 1 => s.pwr.vinHi
    | 2 => s.pwr.vmLo
  if s.running && s.holding && c.active && decide (25 ≤ c.count) then
    let s : State := match cause with
      | 0 => { s with pwr := { s.pwr with vinLo := {} } }
      | 1 => { s with pwr := { s.pwr with vinHi := {} } }
      | 2 => { s with pwr := { s.pwr with vmLo := {} } }
    let s := s.p (if cause = 0 then PWR_HOLD_VIN_LO else if cause = 1 then PWR_HOLD_VIN_HI else PWR_HOLD_VM_LO) 0
    let s := if cause = 2 then s.raise 35 else s
    if s.pwr.vinLo.active || s.pwr.vinHi.active || s.pwr.vmLo.active then .next (s.p PWR_HOLD_RCVCNT s.rcvCount)
    else .next s.holdEnd
  else .next s

/-- The deadlines' wait ends within a hold: at its unload, or at the retract under VM loss (R88). -/
def State.deadlineStop (s : State) : State :=
  let s := s.deadlineFlush
  { s with pwr := { s.pwr with dlMark := none } }

/-- The loaded actuators go down in the hold, to load again at its end. -/
def State.holdDown (s : State) : State :=
  { s with pwr := { s.pwr with downActs := s.pwr.downActs ++ (s.actList.filter s.loaded) } }

/-- HOLD_UNLOAD (R89): the hold has lasted 1250 ticks and the recovery count of a cause is 0: an orderly unload of every loaded
actuator starts, with event 37, and deadlines run again (R88). -/
def execHoldUnload (s : State) : Out :=
  if s.running && s.holding && decide (1250 ≤ s.g PWR_HOLD_ELAPSED) && s.rcvCount == 0 && !s.on PWR_HOLD_UNLOADED && s.anyLoaded then
    .next (((s.deadlineStop.holdDown.unloadAll 1).p PWR_HOLD_UNLOADED 1).raise 37)
  else .next s

/-- VM_LOSS_CROSSING (R82, R90): VM has stood at `mv`, at or below 8.00 V, for `ns`: the back-EMF retract of every loaded actuator starts and
the spindle coasts, rectifying. -/
def execVmLossCrossing (s : State) (mv : Nat := 0) (ns : Nat := 20) : Out :=
  if s.running && decide (mv ≤ 8000) && lasting ns then
    let any := s.anyLoaded
    let s := if s.holding then (s.deadlineStop.holdDown).p PWR_HOLD_RETRACTED 1 else s
    let s := s.retractAll.spindleCoast
    let s := if any then s.p SPN_STAT_RECT 1 else s
    .next (({ s with pwr := { s.pwr with vmLoss := true } } : State).raise 36)
  else .next s

/-! ### Resets by the supplies -/

/-- The set points of VCORE, 1.2 V and 1.8 V in 0.5 mV (R79, R80). -/
def State.railSet (s : State) : Fin 3 → Nat
  | 0 => s.g SVY_AVS_VCORE
  | 1 => 2400
  | 2 => 3600

/-- POWER_GOOD_FAILURE (R80): a rail outside ±5 % of its set point, its value given in 0.5 mV, for 2 µs drops the gates and resets with cause
"regulator fault". -/
def execPowerGoodFailure (s : State) (rail : Fin 3 := 0) (v : Nat := 0) (ns : Nat := 2000) : Out :=
  .next (if s.pwr.inReset.isNone && !s.pwr.vigil && decide (s.railSet rail < 20 * distN v (s.railSet rail)) && decide (2000 ≤ ns) then
    s.enterReset 5 else s)

/-- VIN_RESET_CROSSING (R82, R84): VIN at or below 2.45 V resets the device, except the always-on domain, with cause "VIN reset". In a reset of
another cause but power-on the cause becomes VIN reset and its hold begins anew (assumption log 144). -/
def execVinResetCrossing (s : State) (mv : Nat := 0) (ns : Nat := 20) : Out :=
  if decide (mv ≤ 2450) && lasting ns then
    match s.pwr.inReset with
    | none => .next (s.enterReset 1)
    | some 0 => .next s
    | some _ =>
      let s := (s.p SVY_RSTCAUSE_PREV (s.g SVY_RSTCAUSE_CAUSE)).p SVY_RSTCAUSE_CAUSE 1
      .next { s with pwr := { s.pwr with inReset := some 1 } }
  else .next s

/-- ALWAYS_ON_RESET (R81): VIN below 1.8 V resets the always-on domain; the next cause reads power-on. -/
def execAlwaysOnReset (s : State) (mv : Nat := 0) : Out := .next (if mv < 1800 then s.enterReset 0 else s)

/-- RESET_N_ASSERT (R152): RESET_N low for 1 µs or longer resets the whole device; a pulse shorter than 100 ns is ignored; between the two a free
value decides (assumption log 3). -/
def execResetNAssert (s : State) (ns : Nat := 1000) : Out :=
  if ns < 100 then .next s
  else if 1000 ≤ ns then .next (s.enterReset 0)
  else .next (if s.free.1 % 2 = 1 then s.free.2.enterReset 0 else s.free.2)

/-- VIN has stood strictly above `mv` in every cycle of the last 25 ticks (R82, R84). -/
def vinStood (l : List Nat) (mv : Nat) : Bool := decide (25 ≤ l.length) && (l.take 25).all fun v => decide (mv < v)

/-- The release level of R84 in mV. -/
def State.releaseMv (s : State) : Nat := max 2670 (s.vinWarnMv + 50)

/-- The hottest die site of filtered values, in 0.125 °C. -/
def dieMax (die : List Int) : Int := (hottest die).1

/-- The hold condition of a reset's cause has ended (R57, R84, R98, R114, R152, R198). -/
def State.releaseOk (s : State) (x : ReleaseIn) (cause : Nat) : Bool :=
  x.resetHigh &&
  match cause with
  | 0 => vinStood x.vin s.releaseMv
  | 1 => vinStood x.vin s.releaseMv
  | 2 => decide (10 ≤ x.refMs)
  | 3 => vinStood x.vin (s.vinWarnMv + 50) && (x.pwrfailHigh || !s.pwr.pfEn)
  | 4 => decide (dieMax s.svy.die < 95 * 8)
  | _ => true

/-- RESET_RELEASE (R198): the straps are sampled (R154) and the start-up sequence begins, warm for every cause but power-on.
With SCANHOLD strapped the device stays in reset (Table PIN-14). The Surveyor's filters have gone on through the reset (R706). -/
def execResetRelease (x : ReleaseIn) (s : State) : Out :=
  match s.pwr.inReset with
  | none => .next s
  | some cause =>
    let s := x.die.foldl State.filterDie s
    if s.releaseOk x cause then
      let s := s.p PIN_STRAP_XSPI1 (x.straps % 2)
      let s := s.p PIN_STRAP_PCIEW (x.straps / 2 % 4)
      let s := s.p PIN_STRAP_SCANHOLD (x.straps / 8 % 2)
      if s.on PIN_STRAP_SCANHOLD then .next s
      else
        let s : State := { s with pwr := { s.pwr with inReset := none } }
        .next (s.p SYS_BOOT_WARM (b2n (cause != 0)))
    else .next s

/-! ### Power loss -/

/-- At a declared power loss only a program in progress goes on, to the end of its page; an erase is suspended for good, and what waits is dropped but
for the journal of a host-ordered reset (R94, R97, R222). -/
def State.flashLoss (s : State) : State :=
  let busy := s.chart.busy.filter fun j => !(j.erase && j.phase == 2)
  ({ s with chart := { s.chart with busy := busy, jobs := s.chart.jobs.filter fun j => j.why == .power } } : State).flashKick

/-- The actions of a declared power loss: gates, retracts, links and fetching stopped, event 38, the end of a supply hold with its record and no event
33 (R94, R99; assumption log 139), flash, journal. -/
def State.powerLoss (s : State) (cause : Nat) : State :=
  let s := s.gateDropAll.retractAll
  let hr := s.pwr.hostReset
  let s : State := { s with pwr := { s.pwr with loss := some (hr.getD none), hostReset := none } }
  let s := s.raise 38
  let s := if s.holding then (s.deadlineFlush.dipRecord true).holdOver else s
  let s := s.flashLoss
  if hr.isSome then s
  else
    let r := s.journalWrite cause
    { r.2 with pwr := { r.2.pwr with loss := some r.1 } }

/-- POWER_LOSS_DECLARED (R92, R94): from PWRFAIL_N low for two ticks, or from a VIN warning and a VM loss active at once; a VIN warning is active until
its recovery clears the cause, a VM loss until a tick in which VM stood above its recovery level (assumption log 137). -/
def execPowerLossDeclared (byPin : Bool) (s : State) : Out :=
  let cond := if byPin then s.on PWR_CFG_PF_EN && decide (2 ≤ s.pwr.pfLow) else s.pwr.vinLo.active && s.pwr.vmLoss
  .next (if s.running && cond && s.pwr.loss.isNone then s.powerLoss (if byPin then 0 else 1) else s)

/-- JOURNAL_COMPLETE (R94 step 6): the journal is complete, or none is written; reset with cause "power loss". -/
def execJournalComplete (s : State) : Out :=
  .next (if s.pwr.loss.isSome && !s.journalBusy && s.pwr.inReset.isNone then s.enterReset 3 else s)

/-! ### Power states -/

/-- The conditions of R104 that do not hold, as the bits of PWR_STATE.DEFER_WHY. -/
def State.deferWhy (s : State) : Nat :=
  b2n s.owesUnlanded + 2 * b2n s.holdsCopies + 4 * b2n s.resyncing + 8 * b2n s.holding + 16 * b2n s.exclusiveTest

/-- The conditions for target `t` hold: those of R104, and for Vigil every I/O queue empty. -/
def State.mayEnter (s : State) (t : Nat) : Bool := s.deferWhy == 0 && (t != 3 || s.ioQueuesEmpty)

/-- The Standby entry starts: the heads unload (park trigger 3), and the spindle brakes once they are down (R253). -/
def State.standbyStart (s : State) : State :=
  ({ s with pwr := { s.pwr with entering := some 2 } } : State).unloadAll 3

/-- An order for Standby (2) or Vigil (3): it starts, or stays pending with event 44 and DEFER_WHY (R104, R105). The answer is
whether it was deferred. -/
def State.orderPower (s : State) (t : Nat) : Bool × State :=
  if s.mayEnter t then
    if t = 2 then
      if s.g PWR_STATE_CUR = 2 then (false, s)
      else (false, ((s.p PWR_STATE_PEND 0).p PWR_STATE_DEFER_WHY 0).standbyStart)
    else
      let s := (s.p PWR_STATE_PEND 3).p PWR_STATE_DEFER_WHY 0
      (false, if s.g PWR_STATE_CUR = 2 then s else s.standbyStart)
  else (true, ((s.p PWR_STATE_PEND t).p PWR_STATE_DEFER_WHY s.deferWhy).raise 44)

/-- CUR changes, with event 43 (Table SVY-6); in Standby the DRAM is in self-refresh (R402) and the core is to run at 1.00 GHz (Table PWR-7). -/
def State.powerState (s : State) (c : Nat) : State :=
  if s.g PWR_STATE_CUR = c then s
  else
    let d := s.g DRM_STAT_STATE
    let s := ((s.p PWR_STATE_CUR c).p DRM_STAT_STATE (if c = 2 ∧ d = 3 then 4 else if c < 2 ∧ d = 4 then 3 else d)).raise 43
    if c = 2 then s.requestClock true else s

/-- IDLE_TIMER (Table PWR-8): no media operation for PWR_TMR.IDLE ticks moves the node from Run to Idle. -/
def execIdleTimer (s : State) : Out :=
  .next (if s.running && s.g SYS_BOOT_STAGE == 4 && s.g PWR_STATE_CUR == 0 && decide (s.g PWR_TMR_IDLE ≤ s.pwr.idleTicks) then
    s.powerState 1 else s)

/-- STANDBY_TIMER (R104): the timer, in units of 25 000 ticks and off at 0, orders Standby. -/
def execStandbyTimer (s : State) : Out :=
  .next (if s.running && s.g SYS_BOOT_STAGE == 4 && decide (s.g PWR_STATE_CUR < 2) && s.g PWR_TMR_STBY != 0 &&
      decide (25000 * s.g PWR_TMR_STBY ≤ s.pwr.stbyTicks) && s.g PWR_STATE_PEND == 0 && s.pwr.entering.isNone then
    ({ s with pwr := { s.pwr with stbyTicks := 0 } } : State).orderPower 2 |>.2 else s)

/-! ### Pads and Vigil entry (R128, R138, R144) -/

/-- An event-output line is active: in level mode while an event routed to it is pending, in pulse mode during a pulse; in reset and in Vigil it is
not, and an event pending from before the application of the chart does not drive it (R139, R140, R641). -/
def State.evoActive (s : State) (n : Nat) : Bool :=
  s.running && (if s.gki PIN_EVOCFG_MODE 0 n = 1 then (match Tbl.find s.pin.pulse n with
    | some e => decide (s.cyc < e)
    | none => false)
  else s.chart.applied && (List.range 192).any fun e => s.routeEvo e == n && s.evtPend e && !s.evt.early.contains e)

/-- The configuration of pin `p` is in force: that of ports B to D once the chart's is applied, that of port A always (R141, R142). -/
def State.pinSet (s : State) (p : Nat) : Bool := decide (p < 16) || s.pin.applied

/-- PAD of a pin as it is in force: before application a pin of ports B to D has a pull-down and no input buffer (R141). -/
def State.padOf (s : State) (p : Nat) : Nat := if s.pinSet p then s.gki PIN_PAD 0 p else 0x10

/-- The pin drives low or floats: by its pad field, or by an open-drain alternate (Table PIN-4, Table PIN-5). -/
def State.openDrain (s : State) (p : Nat) : Bool :=
  bitAt (s.padOf p) 3 || (s.gki PIN_FUNC 0 p == 3 && (p == 0 || p == 1 || p == 32 || p == 33))

/-- PSTATE (Table PIN-4): 0 Run or Idle, 1 Standby, 2 Vigil, 3 in reset. -/
def State.pstate (s : State) : Nat := if s.pwr.inReset.isSome then 3 else if s.pwr.vigil then 2 else if s.g PWR_STATE_CUR = 2 then 1 else 0

/-- ACT0 to ACT3: high while the actuator's gate is asserted, but low for 25 000 ticks after each fall (Table PIN-4). -/
def State.actOut (s : State) (k : Nat) : Bool :=
  (s.act k).gate.isSome && (match Tbl.find s.pin.actFall k with
    | some e => decide (e + 25000 ≤ s.clk.edges)
    | none => true)

/-- The level of an alternate output: PSTATE, TICK_OUT from 3 cycles after each edge for 16 cycles (R126), ACT. The other alternates drive nothing here:
inputs, open-drain lines at rest, and the trace port, whose words the model sends whole (assumption log 150). -/
def State.altDrive (s : State) (p : Nat) : Option Bool :=
  if p = 2 ∨ p = 3 then some (bitAt s.pstate (p - 2))
  else if p = 25 then some (s.running && s.clk.started && decide (3 ≤ s.clk.cycle) && decide (s.clk.cycle < 19))
  else if 40 ≤ p ∧ p < 44 then some (s.actOut (p - 40))
  else none

/-- The level that a pin's function drives (R125, R130, R138). -/
def State.fnDrive (s : State) (p : Nat) : Option Bool :=
  match s.gki PIN_FUNC 0 p with
  | 0 => if bitAt (s.gki PIN_OUT_OE 0 (p / 16)) (p % 16) then some (bitAt (s.gki PIN_OUT_OUT 0 (p / 16)) (p % 16)) else none
  | 2 => some (s.evoActive (p % 16) != (s.gki PIN_EVOCFG_POL 0 (p % 16) == 1))
  | 3 => s.altDrive p
  | _ => none

/-- What the device drives on a pin: its sleep state (R145), nothing where no configuration is in force (R141), else what its function drives; an
open-drain pin drives no high level. -/
def State.pinDrive (s : State) (p : Nat) : Option Bool :=
  match Tbl.find s.pin.asleep p with
  | some z => z.drive
  | none => if s.pinSet p then (s.fnDrive p).filter (fun b => !(b && s.openDrain p)) else none

/-- The pull of a pin (Table PIN-5, R144). -/
def State.pinPull (s : State) (p : Nat) : Nat :=
  match Tbl.find s.pin.asleep p with
  | some z => z.pull
  | none => s.padOf p / 16 % 4

/-- The level at a pad: the device's drive, the board's, else the pull, else the keeper's last level; a pad without any has a free level (R128;
assumption log 3). -/
def State.padLevel (s : State) (p : Nat) : Bool :=
  match s.pinDrive p with
  | some b => b
  | none =>
    if bitAt s.pin.drv p then bitAt s.pin.lvl p
    else match s.pinPull p with
      | 0 => s.freeAt (1000 + p) % 2 == 1
      | 1 => false
      | 2 => true
      | _ => bitAt s.pin.kept p

/-- The input buffer of a pin is enabled (R127, R141, Table PIN-12). -/
def State.pinIe (s : State) (p : Nat) : Bool :=
  match Tbl.find s.pin.asleep p with
  | some z => z.ie
  | none => bitAt (s.padOf p) 6

/-- PIN_IN of a port: pad levels, 0 where the input buffer is off (R127). -/
def State.pinIn (s : State) (q : Nat) : Nat := maskOf 16 fun n => s.pinIe (16 * q + n) && s.padLevel (16 * q + n)

/-- The sleep state that pin `p` of ports B to D takes (Table PIN-12): its code, with its pull. -/
def State.sleepOf (s : State) (p : Nat) : Sleep :=
  let c := s.gki PIN_SLP 0 (p - 16)
  { drive := if c = 0 then s.pinDrive p else if c = 1 then some false else if c = 2 then some true else none
    pull := s.pinPull p, ie := c != 3 && s.pinIe p }

/-- The entry into Vigil completes: keys cleared, ports B to D asleep, PLL stopped, PIN_WAKESRC cleared; a wake latched during
the entry ends it at once (R60, R77, R108, R145, R147, R149). -/
def State.vigilEnter (s : State) : State :=
  let s := s.clearKeys
  let sleep := (List.range 48).map fun i => (16 + i, s.sleepOf (16 + i))
  let s := ((s.p CLK_STAT_LOCK 0).p CLK_STAT_ALIGNED 0).p PWR_STATE_PEND 0
  let s := (s.p PIN_WAKESRC_PINS 0).p PIN_WAKESRC_PERST 0
  let s : State := { s with
    pwr := { s.pwr with vigil := true, entering := none }
    clk := { s.clk with core := false }
    pin := { s.pin with asleep := sleep, pulse := [] } }
  match s.pin.latched with
  | none => s
  | some w => s.wake w.1 w.2

/-- Vigil entry begins at this edge: wake sources are armed (R147). -/
def State.vigilBegin (s : State) : State :=
  { s with
    pwr := { s.pwr with entering := some 3 }
    pin := { s.pin with armed := true, latched := none, loRun := [], hiRun := [], sawHi := 0, sawLo := 0 } }

/-- PENDING_TRANSITION_PROCEED (R105): at the first edge at which the conditions hold, a pending Standby starts, and a pending
Vigil goes on from Standby, once its order's completion has posted (R476): its entry begins at one edge and completes at a later one. -/
def execPendingTransitionProceed (s : State) : Out :=
  let t := s.g PWR_STATE_PEND
  if s.running && (t == 2 || t == 3) && s.mayEnter t then
    if t = 3 ∧ s.g PWR_STATE_CUR = 2 then
      .next (if s.cmds.any fun e => e.2.sq == 0 && e.2.opc == 0x18 then s
        else match s.pwr.entering with
          | none => s.vigilBegin
          | some _ => s.vigilEnter)
    else .next (if s.pwr.entering.isNone then (s.orderPower t).2 else s)
  else .next s

end Sys2Proof.Machine
end

