-- ==== Sys2Proof/Machine/Sq.lean ====
section
/-! DEFINITION. Queue pairs at the host's side: enabling, doorbells, push, fetching, completion entries and their messages
(spec/13_queues.md R409 to R449; spec/06_power_to_ready.md R212). -/

namespace Sys2Proof.Machine

/-! ### Functions -/

/-- Function `fn` is the PF or an enabled VF (Table MQP-1, N_VF). -/
def State.fnOn (s : State) (fn : Nat) : Bool := fn == 0 || decide (fn ≤ s.secLe 0x60 0 0 1 0)

/-- The host reaches function `fn`. -/
def State.fnOpen (s : State) (fn : Nat) : Bool := s.barOpen && s.fnOn fn

/-- Start-up stopped in chart-absent mode or in fault mode (R174, R202). -/
def State.stopped (s : State) : Bool := s.g SYS_BOOT_STAGE == 0xE || s.g SYS_BOOT_STAGE == 0xF

/-- MQP_CTL.EN becomes 1 (R416). -/
def State.adminEnable (s : State) (fn : Nat) : State :=
  if s.gk MQP_CTL_EN fn = 1 then s
  else { s.pk MQP_CTL_EN fn 1 with enEdge := Tbl.put s.enEdge fn s.clk.edges }

/-- ADMIN_ENABLE (R416): the host sets MQP_CTL.EN of a function. -/
def execAdminEnable (fn : Fin 16) (s : State) : Out := .next (if s.fnOpen fn then s.adminEnable fn else s)

/-- ADMIN_READY (R416, R417): at the second tick edge after EN the admin queue pair is usable and RDY rises; in chart-absent and fault
mode the PF's alone. -/
def execAdminReady (fn : Fin 16) (s : State) : Out :=
  match Tbl.find s.enEdge fn with
  | none => .next s
  | some e =>
    if s.fnOpen fn && decide (e + 2 ≤ s.clk.edges) && !(s.stopped && fn != 0) then
      let s : State := { s with enEdge := Tbl.del s.enEdge fn }
      let s := s.setSq fn 0 { depth := s.gk MQP_AQSZ_ASQS fn + 1, base := 4096 * s.gk MQP_ASQB_BASE fn }
      let s := s.setCq fn 0 { depth := s.gk MQP_AQSZ_ACQS fn + 1, base := 4096 * s.gk MQP_ACQB_BASE fn }
      .next (s.pk MQP_STS_RDY fn 1)
    else .next s

/-- A function is reset or disabled, with event 148 (R449). -/
def State.fnReset (s : State) (fn : Nat) : State := (s.clearFn fn).raise 148

/-- FUNCTION_DISABLE (R449): the host writes 0 to MQP_CTL.EN. -/
def execFunctionDisable (fn : Fin 16) (s : State) : Out :=
  .next (if s.fnOpen fn && s.gk MQP_CTL_EN fn == 1 then s.fnReset fn else s)

/-- FUNCTION_LEVEL_RESET (R449): of a VF, that VF; of the PF, the PF and every VF. -/
def execFunctionLevelReset (fn : Fin 16) (s : State) : Out :=
  .next (if s.fnOpen fn then
    (if fn = 0 then ((List.range 16).foldl State.clearFn s).raise 148 else s.fnReset fn) else s)

/-! ### Doorbells -/

/-- A doorbell or push write is ignored: MQP_DBERR and event 144 (R426). -/
def State.dbError (s : State) (fn q kind : Nat) : State :=
  let s := (s.pk MQP_DBERR_QID fn q).pk MQP_DBERR_KIND fn kind
  ((s.hwSet MQP_DBERR_VALID fn 0 0).bumpk MQP_DBERR_COUNT fn 1).raise 144

/-- An SQ tail write (R425, R426). -/
def State.tailWrite (s : State) (fn q t : Nat) : State :=
  match s.sq fn q with
  | none => s.dbError fn q 1
  | some x =>
    if x.depth ≤ t then s.dbError fn q 2
    else if (t + x.depth - x.head) % x.depth < (x.tail + x.depth - x.head) % x.depth then s.dbError fn q 3
    else s.setSq fn q { x with tail := t }

/-- SQ_TAIL_DOORBELL (R425). -/
def execSqTailDoorbell (fn : Fin 16) (q : Fin 4096) (t : BitVec 32) (s : State) : Out :=
  .next (if s.fnOpen fn then s.tailWrite fn q t.toNat else s)

/-- A CQ head write: within the entries written and not yet released (R425). -/
def State.headWrite (s : State) (fn q h : Nat) : State :=
  match s.cq fn q with
  | none => s.dbError fn q 1
  | some x =>
    if x.depth ≤ h ∨ (x.tail + x.depth - x.head) % x.depth < (h + x.depth - x.head) % x.depth then s.dbError fn q 4
    else s.setCq fn q { x with head := h }

/-- CQ_HEAD_DOORBELL (R425). -/
def execCqHeadDoorbell (fn : Fin 16) (q : Fin 4096) (h : BitVec 32) (s : State) : Out :=
  .next (if s.fnOpen fn then s.headWrite fn q h.toNat else s)

/-- A push write of one entry: the tail advances, and the entry enters the push buffer where it has room (R428). Other than 64 aligned
bytes, a queue without push or a full ring is an ignored write. -/
def State.pushWrite (s : State) (fn q : Nat) (b : List Byte) (aligned : Bool) : State :=
  match s.sq fn q with
  | none => s.dbError fn q 1
  | some x =>
    if !x.push || !aligned || b.length != 64 then s.dbError fn q 5
    else
      let t := (x.tail + 1) % x.depth
      if (t + x.depth - x.head) % x.depth < (x.tail + x.depth - x.head) % x.depth then s.dbError fn q 3
      else s.setSq fn q { x with tail := t, buf := if x.buf.length < 8 then Tbl.put x.buf x.tail b else x.buf }

/-- PUSH_WRITE (R428). -/
def execPushWrite (fn : Fin 16) (q : Fin 4096) (b : List Byte) (aligned : Bool) (s : State) : Out :=
  .next (if s.fnOpen fn then s.pushWrite fn q b aligned else s)

/-! ### Fetching -/

/-- Something is submitted on an ACTIVE SQ. -/
def Sq.pending (x : Sq) : Bool := x.st == 1 && x.head != x.tail

/-- The lowest free slot: admin commands take theirs from 32 768 on, which take no share of the 32 768 (R413, R431). -/
def State.freeSlot (s : State) (q : Nat) : Option Nat :=
  if q = 0 then Tbl.firstFree s.cmds 32768 4096 else Tbl.firstFree s.cmds 0 32768

/-- The fetch engine may take an entry of SQ `q` of function `fn` (R413, R430, R431). -/
def State.mayFetch (s : State) (fn q : Nat) : Bool :=
  (match s.sq fn q with
    | some x => x.pending
    | none => false) &&
  (q == 0 || (decide (0 < Tbl.getD s.credit fn 0) && decide (s.fnInFlight fn < s.gk MQP_INFL_CAP fn + 1))) && (s.freeSlot q).isSome

/-- The SQs of a function in the order of a visit: the admin SQ, then the I/O SQs from the one after that served last (R429). -/
def State.visitOrder (s : State) (fn : Nat) : List Nat :=
  let io := (s.sqs.filter fun e => e.1 / 65536 == fn && e.1 % 65536 != 0).map fun e => e.1 % 65536
  let last := Tbl.getD s.lastSq fn 0
  0 :: (io.filter fun q => decide (last < q)) ++ io.filter fun q => decide (q ≤ last)

/-- FBURST (Table MQP-1). -/
def State.fburst (s : State) : Nat := s.secLe 0x60 0 1 1 1

/-- The entries that a visit may take of an SQ: the admin SQ's are not limited. -/
def State.burstOf (s : State) (q : Nat) : Nat := if q = 0 then 65536 else s.fburst

/-- What is left of a visit at the first SQ that may be fetched from: its list and burst. -/
def State.visitNext (s : State) (fn : Nat) (burst : Nat) : List Nat → Option (List Nat × Nat)
  | [] => none
  | q :: t => if 0 < burst ∧ s.mayFetch fn q then some (q :: t, burst) else s.visitNext fn (s.burstOf (t.headD 0)) t

/-- The next function, round robin from function `fn` on, with its visit, among `n` (R429). -/
def State.fnNext (s : State) (fn : Nat) : Nat → Option (Nat × List Nat × Nat)
  | 0 => none
  | n + 1 =>
    match s.visitNext fn 65536 (s.visitOrder fn) with
    | some r => some (fn, r)
    | none => s.fnNext ((fn + 1) % 16) n

/-- The SQ from which the next entry is fetched: the visit under way, else the next function's (R429). -/
def State.fetchNext (s : State) : Option (Nat × List Nat × Nat) :=
  match s.visitNext s.lastFn s.burst s.visit with
  | some r => some (s.lastFn, r)
  | none => s.fnNext ((s.lastFn + 1) % 16) 16

/-- A pending transition is cancelled, and one under way or Standby ends: from Standby the node moves to Run (R106, R476, Table PWR-8). -/
def State.leaveStandby (s : State) : State :=
  let s := s.cancelTransition
  let going := s.pwr.entering.isSome
  let s : State := { s with pwr := { s.pwr with entering := none } }
  if s.g PWR_STATE_CUR = 2 ∨ (going && s.g SPN_STAT_STATE == 2) then
    (if s.spn.order.isSome || s.spn.source.isSome then s else s.spindleStart 1)
  else if going then s.loadAll 2
  else s

/-- A media command or an own piece arrives: a pending transition is cancelled (R106), and from Standby the node moves to Run
(Table PWR-8). -/
def State.mediaArrives (s : State) : State :=
  let s := s.leaveStandby.dramWake
  { s with pwr := { s.pwr with idleTicks := 0, stbyTicks := 0 } }

/-- A media operation is dispatched: Idle returns to Run (Table PWR-8). -/
def State.mediaDispatch (s : State) : State :=
  let s : State := { s with pwr := { s.pwr with idleTicks := 0, stbyTicks := 0 } }
  if s.g PWR_STATE_CUR = 1 then s.powerState 0 else s

/-- An entry enters its command slot (R413, R453). Its deadline lies D ticks on, in the cycle of its fetch, the waits of other commands' deadlines
being counted up to now (R88). DESIGN CHOICE (log 136): the media commands that cancel a pending transition (R106) are Read and Write. -/
def State.takeEntry (s : State) (fn q slot : Nat) (x : Sq) (b : List Byte) (pushed : Bool) : State :=
  let s := s.deadlineFlush
  let d := leAt b 8 4
  let c : Cmd := {
    fn := fn, sq := q, entry := b, seq := s.fetchSeq, ts := s.now, born := s.clk.edges, pushed := pushed
    dl := if q = 0 then none else some (s.clk.edges + (if d = 0 then x.defdl else d))
    modes := match volCode (leAt b 4 2) with
      | some v => s.modesOf v
      | none => 0 }
  let s : State := { s with fetchSeq := s.fetchSeq + 1 }
  let s := s.setSq fn q { x with head := (x.head + 1) % x.depth, buf := Tbl.del x.buf x.head }
  let s := s.setCmd slot c
  if q ≠ 0 ∧ (c.opc = 1 ∨ c.opc = 2) then s.mediaArrives else s

/-- A failed entry read: status 0x0111 with CID 0xFFFF on the SQ's CQ, the SQ freezes at the entry, event 146 (R432). -/
def State.entryError (s : State) (fn q : Nat) (x : Sq) (aer : Bool) : State :=
  let s := s.raise 146
  let s := if aer then s.raise 150 else s
  let c : Cmd := { fn := fn, sq := q, entry := putLe (zeros 64) 2 2 0xFFFF, seq := s.fetchSeq, ts := s.now, err := { detail := x.head } }
  let s := s.sqError c 0x0111
  s.cqWait fn (s.cqOf fn q) { sq := q, cid := 0xFFFF, result := 0, status := 0x0111, pfz := false, nocoal := false, slot := none, freezing := true }

/-- SQ_ENTRY_FETCH (R429): the fetch engine takes the next entry, from the push buffer or by a read of the ring whose outcome is `r`. -/
def execSqEntryFetch (r : HRead) (s : State) : Out :=
  if s.running && s.barOpen && !s.hostStopped then
    match s.fetchNext with
    | none => .next s
    | some (fn, v, burst) =>
      let q := v.headD 0
      match s.sq fn q, s.freeSlot q with
      | some x, some slot =>
        let s : State := { s with
          lastFn := fn, visit := v, burst := burst - 1, lastSq := if q = 0 then s.lastSq else Tbl.put s.lastSq fn q }
        let s := if q = 0 then s else
          { s.bumpk MQP_CRED_USED fn 1 with credit := Tbl.put s.credit fn (Tbl.getD s.credit fn 0 - 1) }
        .next (match Tbl.find x.buf x.head, r with
          | some b, _ => s.takeEntry fn q slot x b true
          | none, .ok b => s.takeEntry fn q slot x (b.take 64 ++ zeros (64 - b.length)) false
          | none, .err aer => s.entryError fn q x aer)
      | _, _ => .next s
  else .next s

/-! ### Completion entries -/

/-- The Aborts that wait for a target's entry complete with their outcome (R485). -/
def State.aborterDone (s : State) (l : List Nat) : State := l.foldl (fun s i => s.complete i 0) s

/-- A command's entry is written: the latency sample of its function, from its fetch (Table GAZ-4, source 0x10). -/
def State.latencySample (s : State) (c : Option Cmd) : State :=
  match c with
  | some c => s.occur 0x10 c.fn (s.clk.edges - c.born)
  | none => s

/-- CQ_ENTRY_POST (R422): the oldest waiting entry of a CQ is written where the CQ has room; an Abort that waits for it completes. -/
def execCqEntryPost (fn : Fin 16) (q : Fin 4096) (s : State) : Out :=
  if s.running && s.barOpen && !s.hostStopped then
    match s.cq fn q with
    | none => .next s
    | some x =>
      if x.isFull then .next s
      else
        let c := ((x.wait.head?).bind (·.slot)).bind s.cmd
        .next (((s.postEntry fn q).latencySample c).aborterDone ((c.map (·.aborter)).getD []))
  else .next s

/-- COALESCE_TIMER (R434): at the edge that begins tick n + CTIME the CQ's message is sent. -/
def execCoalesceTimer (fn : Fin 16) (q : Fin 4096) (s : State) : Out :=
  match s.cq fn q with
  | none => .next s
  | some x =>
    .next (if s.running && decide (0 < x.unsig) && decide (0 < x.ctime) && decide (x.oldest + x.ctime ≤ s.clk.tick) then
      s.cqSignal fn q else s)

/-- A vector is unmasked: a pending message is sent (R435). -/
def State.unmask (s : State) (fn vec : Nat) : State :=
  let m := s.msixAt fn vec
  let s : State := { s with msix := Tbl.put s.msix (fn * 256 + vec) { m with masked := false } }
  if m.pend && !s.msixFnMask.contains fn then
    ({ s with msix := Tbl.put s.msix (fn * 256 + vec) { m with masked := false, pend := false } } : State).sendMsix fn vec
  else s

/-- The Function Mask of a function is lifted: each vector that is not masked sends its pending message (R435). -/
def State.unmaskFn (s : State) (fn : Nat) : State :=
  let s : State := { s with msixFnMask := s.msixFnMask.filter (· != fn) }
  (s.msix.filter fun e => e.1 / 256 == fn && !e.2.masked && e.2.pend).foldl (fun s e => s.unmask fn (e.1 % 256)) s

/-- MSIX_UNMASK (R435): of one vector, or of the whole function. -/
def execMsixUnmask (fn : Fin 16) (vec : Option (Fin 256)) (s : State) : Out :=
  .next (if s.fnOpen fn then (match vec with
    | some v => s.unmask fn v
    | none => s.unmaskFn fn) else s)

/-- SQ_DRAINED (R458): the last command in flight of a DRAINING SQ has posted: the SQ is ABSENT and the delete command completes. -/
def execSqDrained (fn : Fin 16) (q : Fin 4096) (s : State) : Out :=
  match s.sq fn q with
  | none => .next s
  | some x =>
    if s.running && x.st == 3 && (s.inFlight fn q).isEmpty then
      let s : State := { s with sqs := Tbl.del s.sqs (qKey fn q) }
      .next (match x.deleter with
        | some i => s.complete i 0
        | none => s)
    else .next s

/-- COMPLETION_TIMEOUT (R421) of an SQ entry read: the SQ freezes with 0x0111 (R432); of a command's data or descriptors: its blocks are
discarded and it completes with 0x0110. -/
def execCompletionTimeout (slot : Option Nat) (aer : Bool) (s : State) : Out :=
  match slot with
  | none => execSqEntryFetch (.err aer) s
  | some i =>
    match s.cmd i with
    | none => .next s
    | some c =>
      if s.running && (c.phase == 0 || (c.phase == 2 && decide (c.moved < c.nlb))) then
        let s := if aer then s.raise 150 else s
        .next ((s.discardSlot i).complete i 0x0110)
      else .next s

end Sys2Proof.Machine
end

