-- ==== Sys2Proof/Machine/Entry.lean ====
section
/-! DEFINITION. The checks of a command's entry: when it may start, the columns of Table MQP-11, reserved fields, VOL, data pointers
(spec/13_queues.md R419, R420, R437; spec/14_commands.md R450 to R461). -/

namespace Sys2Proof.Machine

/-! ### Starting -/

/-- An exclusive test affects a volume or span: its effective actuator set, tunable 0x0008, includes an actuator under test (R655). -/
def State.testAffects (s : State) (mask code : Nat) : Bool :=
  let set := (s.eff 8 (volOf code)).2.toNat
  (List.range 4).any fun k => bitAt mask k && bitAt set k

/-- An I/O command of an affected volume waits until the exclusive test ends; one of every volume waits with any of them (R656). -/
def State.testBlocks (s : State) (c : Cmd) : Bool :=
  s.g TST_CAL_EXCL != 0 && (match volCode c.vol with
    | some v => s.testAffects (s.g TST_CAL_EXCL) v
    | none => c.vol == 0xFFFF)

/-- A Read or Write that has still to ask for its range lock: what comes later in its SQ waits for it (R436), but for another volume's where an
exclusive test holds it back (R656). -/
def State.lockDue (s : State) (e c : Cmd) : Bool :=
  e.phase == 0 && (e.opc == 1 || e.opc == 2) && (c.opc == 1 || c.opc == 2) && (!s.testBlocks e || e.vol == c.vol)

/-- The command in slot `i` may start: an admin command after the posting of every earlier one of its function, but for Abort and Thaw
(R451); an I/O command as the barriers of its SQ allow (R437), and a Read or Write after the earlier ones of its SQ (R436). -/
def State.starts (s : State) (i : Nat) (c : Cmd) : Bool :=
  s.running && !s.hostStopped && c.phase == 0 &&
  (if c.sq = 0 then c.opc == 8 || c.opc == 9 || !(s.cmds.any fun e => e.1 != i && e.2.fn == c.fn && e.2.sq == 0 && decide (e.2.seq < c.seq))
  else !(s.cmds.any fun e => e.1 != i && e.2.fn == c.fn && e.2.sq == c.sq && decide (e.2.seq < c.seq) &&
    (bitAt c.flags 2 || bitAt e.2.flags 2 || s.lockDue e.2 c)))

/-! ### Opcode and permission (R450) -/

/-- The admin opcodes with their columns: VF may issue, allowed before Ready, allowed in chart-absent and fault mode (Table MQP-11). -/
def adminTable : List (Nat × Bool × Bool × Bool) :=
  [(0x00, true, false, false), (0x01, true, false, false), (0x02, true, true, true), (0x04, true, false, false), (0x05, true, false, false),
    (0x06, true, true, true), (0x08, true, true, false), (0x09, true, true, false), (0x0A, false, true, false), (0x0B, true, true, false),
    (0x10, false, false, false), (0x11, false, false, false), (0x14, false, false, false), (0x15, false, false, false),
    (0x18, false, false, false), (0x19, false, true, true), (0x1C, false, false, false), (0x20, false, true, true), (0x21, false, true, true)]

/-- The refusal of an admin command by the columns of Table MQP-11, in their order; in fault mode after a BIST failure of the flash path the chart
updates are refused too (R202, R645). -/
def State.adminGate (s : State) (c : Cmd) : Option Nat :=
  match adminTable.find? fun r => r.1 == c.opc with
  | none => some 0x0100
  | some (_, vf, early, absent) =>
    let absent := absent && !(s.g SYS_BOOT_STAGE == 0xE && s.g SYS_BOOT_FCODE == 1 && s.g TST_BIST_BLOCK == 9 && (c.opc == 0x20 || c.opc == 0x21))
    let page := c.le 32 1
    if s.stopped && !absent then some 0x010A
    else if c.fn ≠ 0 ∧ (!vf || (c.opc == 2 && page != 1 && page != 4)) then some 0x010F
    else if s.g SYS_BOOT_STAGE ≠ 4 ∧ !s.stopped ∧ !early then some 0x0501
    else none

/-! ### Reserved fields -/

/-- Offset `o` lies in one of the fields given as (offset, length). -/
def inFields (l : List (Nat × Nat)) (o : Nat) : Bool := l.any fun f => decide (f.1 ≤ o) && decide (o < f.1 + f.2)

/-- Some reserved byte or bit of the entry is not 0; `used` lists the command-specific fields (Table MQP-3, R452). -/
def Cmd.reserved (c : Cmd) (used : List (Nat × Nat)) : Bool :=
  c.flags / 16 != 0 || c.le 6 2 != 0 || c.le 12 4 != 0 || (c.sq == 0 && c.le 8 4 != 0) ||
    (List.range 32).any fun i => !inFields used (32 + i) && c.le (32 + i) 1 != 0

/-- The first check that fails gives the status (R452). -/
def firstFail : List (Bool × Nat) → Option Nat
  | [] => none
  | (b, st) :: t => if b then some st else firstFail t

/-! ### Data pointers (Tables MQP-4 and MQP-5) -/

/-- What a command's data pointer gives: its host segments, a chain whose first lists give segments and then one that is bad or cannot be read, or
the index of a bad descriptor or a read that failed at once. -/
inductive DPtr where
  | segs (l : List (Nat × Nat))
  | short (l : List (Nat × Nat)) (e : ChainEnd)
  | bad (index : Nat)
  | readErr (aer : Bool)
  deriving DecidableEq, Repr

/-- A chain ends after the segments of its first lists; with none it fails at once. -/
def DPtr.ends (l : List (Nat × Nat)) (e : ChainEnd) : DPtr :=
  match l, e with
  | [], .bad i => .bad i
  | [], .readErr aer => .readErr aer
  | l, e => .short l e

/-- DKIND of a command. -/
def Cmd.dkind (c : Cmd) : Nat := c.flags % 4

/-- The descriptors of one list from descriptor `i` on: the segments, then where it goes on: the number of descriptors of the next list, or
the index of a bad descriptor. `idx` counts the descriptors of the whole chain. -/
inductive Scan where
  | done (segs : List (Nat × Nat)) (idx : Nat)
  | chain (segs : List (Nat × Nat)) (idx n : Nat)
  | bad (idx : Nat)
  deriving DecidableEq, Repr

def scanList (b : List Byte) (i idx : Nat) (acc : List (Nat × Nat)) : Nat → Scan
  | 0 => .done acc idx
  | n + 1 =>
    let o := 16 * i
    let a := leAt b o 8
    let l := leAt b (o + 8) 4
    let f := leAt b (o + 12) 1
    if 4096 ≤ idx ∨ a % 4 ≠ 0 ∨ 2 ≤ f ∨ leAt b (o + 13) 3 ≠ 0 then .bad idx
    else if f = 1 then (if l % 16 ≠ 0 ∨ 4096 < l then .bad idx else .chain acc (idx + 1) (l / 16))
    else if l % 4 ≠ 0 then .bad idx
    else scanList b (i + 1) (idx + 1) (acc ++ [(a, l)]) n

/-- A chain of descriptor lists of which the first has `n` descriptors; `err` says how reading ended where a list is missing (R421). -/
def walkLists (err : Option Bool) (n idx : Nat) (acc : List (Nat × Nat)) : List (List Byte) → DPtr
  | [] => .ends acc (.readErr (err.getD false))
  | b :: t =>
    match scanList b 0 idx acc n with
    | .bad i => .ends acc (.bad i)
    | .done l _ => .segs l
    | .chain l i m => walkLists err m i l t

/-- The data pointer of a command that moves data (R420): the length is judged by the caller. -/
def Cmd.dptr (c : Cmd) (d : DescIn) : DPtr :=
  match c.dkind with
  | 1 => if c.le 16 8 % 4 ≠ 0 ∨ c.le 28 4 ≠ 0 then .bad 0 else .segs [(c.le 16 8, c.le 24 4)]
  | 2 =>
    let n := c.le 24 2
    if c.le 16 8 % 16 ≠ 0 ∨ c.le 26 6 ≠ 0 ∨ n = 0 ∨ 256 < n then .bad 0 else walkLists d.err n 0 [] d.lists
  | _ => .bad 0

/-- A command without data: DKIND 0 with empty pointers. -/
def Cmd.noData (c : Cmd) : Bool := c.dkind == 0 && c.le 16 16 == 0

/-- The command completes with 0x0112 and the index of the first bad descriptor (R420, Table MQP-30). -/
def State.badPtr (s : State) (slot idx : Nat) : State :=
  (s.modCmd slot fun c => { c with err := { c.err with detail := idx } }).complete slot 0x0112

/-- The command completes with 0x0110, with event 150 for an error under AER (R421). -/
def State.hostReadError (s : State) (slot : Nat) (aer : Bool) : State := (if aer then s.raise 150 else s).complete slot 0x0110

/-- A command whose chain of descriptors ends badly completes (R420, R421). -/
def State.chainFail (s : State) (slot : Nat) : ChainEnd → State
  | .bad i => s.badPtr slot i
  | .readErr aer => s.hostReadError slot aer

/-- Go on with the host segments of a command whose length passes a test. -/
def State.withSegs (s : State) (slot : Nat) (c : Cmd) (d : DescIn) (ok : Nat → Bool) (f : List (Nat × Nat) → State → State) : State :=
  match c.dptr d with
  | .bad i => s.badPtr slot i
  | .readErr aer => s.hostReadError slot aer
  | .short _ e => s.chainFail slot e
  | .segs l => if ok (segSum l) then f l s else s.badPtr slot l.length

/-- Run an admin command of an opcode: the columns of Table MQP-11, reserved fields, the command's own checks in their order, its effect
(R450, R452). -/
def State.admin (s : State) (slot opc : Nat) (sel : Cmd → Bool) (used : List (Nat × Nat)) (checks : Cmd → List (Bool × Nat))
    (f : Cmd → State → State) : State :=
  match s.cmd slot with
  | none => s
  | some c =>
    if s.starts slot c && c.sq == 0 && c.opc == opc && sel c then
      match s.adminGate c with
      | some st => s.complete slot st
      | none =>
        match firstFail ((c.reserved used, 0x0101) :: checks c) with
        | some st => s.complete slot st
        | none => f c (s.setCmd slot { c with phase := 2 })
    else s

/-- The same for a command that moves no data. -/
def State.adminPlain (s : State) (slot opc : Nat) (sel : Cmd → Bool) (used : List (Nat × Nat)) (checks : Cmd → List (Bool × Nat))
    (f : Cmd → State → State) : State :=
  s.admin slot opc sel used (fun c => checks c ++ [(!c.noData, 0x0112)]) f

/-- UNKNOWN_OPCODE (R450): an opcode that Table MQP-11 or MQP-12 does not list for its kind of SQ. -/
def execUnknownOpcode (slot : Nat) (s : State) : Out :=
  match s.cmd slot with
  | none => .next s
  | some c =>
    .next (if s.starts slot c && (if c.sq = 0 then !(adminTable.any fun r => r.1 == c.opc) else decide (2 < c.opc)) then
      s.complete slot 0x0100 else s)

/-! ### Volumes of I/O commands (R460, R461, R469) -/

/-- Is span `n` declared by the chart. -/
def State.spanDeclared (s : State) (n : Nat) : Bool := (s.spanRec n).isSome

/-- Why function `fn` may not use a volume: 0x0102, or 0x0402 for a span that is not attached. -/
def State.volBad (s : State) (fn vol : Nat) : Option Nat :=
  match volCode vol with
  | none => some 0x0102
  | some v =>
    if 64 ≤ v ∧ !s.spanDeclared (v - 64) then some 0x0102
    else if 64 ≤ v ∧ !((s.volAt v).any (·.attached)) then some 0x0402
    else match s.volAt v with
      | none => some 0x0102
      | some x => if bitAt x.fmask fn then none else some 0x0102

/-- The blocks of a volume or span. -/
def State.volBlocks (s : State) (v : Nat) : Nat := if v < 64 then 256 * ((s.volAt v).getD {}).cap else 256 * s.spanCap (v - 64)

/-- DLINE lies in 1 to 249 (Table MQP-13). -/
def Cmd.badDeadline (c : Cmd) : Bool := decide (1 ≤ c.le 8 4) && decide (c.le 8 4 < 250)

/-- The field checks of a Read or Write in the order of R452. -/
def State.rwCheck (s : State) (c : Cmd) (taggen : Bool) : Option Nat :=
  let io := c.le 42 1
  let used := [(32, 6), (40, 2)] ++ (if taggen then [(42, 1)] else []) ++ (if taggen && bitAt io 0 then [(44, 2)] else [])
  match firstFail [(c.reserved used || (taggen && decide (2 ≤ io)) || c.badDeadline, 0x0101)] with
  | some st => some st
  | none =>
    match s.volBad c.fn c.vol with
    | some st => some st
    | none =>
      let v := (volCode c.vol).getD 0
      firstFail [(decide (4096 < c.nlb), 0x0101), (decide (s.volBlocks v < c.slba + c.nlb), 0x0103), (encOf c.modes && !s.hasKey v, 0x0118),
        (s.dramFaulted, 0x0241)]

/-- A range by extents or stripes of 256 blocks, as (first LBA, blocks). -/
def splitRange (lba : Nat) : Nat → List (Nat × Nat)
  | 0 => []
  | n + 1 =>
    match splitRange (lba + 1) n with
    | (b, m) :: t => if lba / 256 = b / 256 then (lba, m + 1) :: t else (lba, 1) :: (b, m) :: t
    | [] => [(lba, 1)]

end Sys2Proof.Machine
end

