-- ==== Sys2Proof/Machine/Remap.lean ====
section
/-! DEFINITION. When no spare is left: the unwritable LBA, and the peer spare remap of a span's stripe at its owner (spec/11_media.md R373;
spec/17_twins_spans.md R597 to R599). -/

namespace Sys2Proof.Machine

/-- The key of stripe `k` of span `n`. -/
def stripeKey (n k : Nat) : Nat := n * 2 ^ 40 + k

/-- The node that a stripe was redirected to by its owner here (R598). -/
def State.redirOf (s : State) (n k : Nat) : Option Nat := Tbl.find s.med.redir (stripeKey n k)

/-- This node owns a stripe: by the stripe table, or as the peer that took it; a redirected stripe is owned no more. -/
def State.ownsStripe (s : State) (n k : Nat) : Bool :=
  (s.stripeOwner n k == s.node || s.twn.peers.contains (stripeKey n k)) && (s.redirOf n k).isNone

/-- The stripes of other owners for which this node holds extents as a peer, by the map (Table TWN-3 step 5). -/
def State.peerStripes (s : State) : List Nat :=
  (s.med.map.filterMap fun e =>
    if 64 ≤ e.2.vol ∧ e.2.vol < 80 ∧ s.stripeOwner (e.2.vol - 64) e.2.ext ≠ s.node then some (stripeKey (e.2.vol - 64) e.2.ext) else none).eraseDups

/-- This node holds a stripe as a peer. -/
def State.peerAdd (s : State) (key : Nat) : State :=
  if s.twn.peers.contains key then s else { s with twn := { s.twn with peers := key :: s.twn.peers } }

/-- Pieces that cover a block and have no status yet. -/
def State.openOver (s : State) (vol lba : Nat) : List (Nat × OPiece) :=
  s.pieces.filter fun e => e.2.vol == vol && !e.2.read && e.2.status.isNone && decide (e.2.lba ≤ lba) && decide (lba < e.2.lba + e.2.n)

/-- The EXT of a placement map entry (Table MED-3): for a span the local extent of its stripe (R574), or 2^39 and the stripe where this node took it
as a peer (Table TWN-3 step 5). -/
def State.localExt (s : State) (vol ext : Nat) : Nat :=
  if vol < 64 ∨ 80 ≤ vol then ext
  else if s.stripeOwner (vol - 64) ext = s.node then s.stripeExt (vol - 64) ext
  else 2 ^ 39 + ext

/-- A block finds no spare (R373): its LBA becomes unwritable, with event 129 and a no-spare record; its command fails with 0x0230, or, where it
has completed, the block is lost. -/
def State.noSpare (s : State) (vol lba head : Nat) : State :=
  let s := (s.makeUnwritable vol lba 1).raise 129
  let s := s.record (mkRec 0x14 48 [(16, 8, s.now), (24, 6, lba), (30, 2, volOf vol), (32, 1, head)])
  let l := s.openOver vol lba
  let s := if l.isEmpty then (s.noteLost vol lba 1).loseBlocks 4 vol lba 1 else s
  let s := match s.slabOf false vol (lba / 256) with
    | some e => s.modSlab e.1 fun x => { x with blocks := Tbl.del x.blocks (lba % 256) }
    | none => s
  l.foldl (fun s e => s.pieceFinish e.1 0x0230) s

/-- The remap of a stripe ends without a peer: event 170, and R373 as for a local volume (R597). -/
def State.remapFail (s : State) (key : Nat) : State :=
  match Tbl.find s.twn.remaps key with
  | none => s
  | some r =>
    let s := s.unlock (.realloc key)
    let s : State := { s with twn := { s.twn with remaps := Tbl.del s.twn.remaps key } }
    (s.raise 170).noSpare (r.span + 64) r.lba (((s.lbaLoc (r.span + 64) r.lba).map locHead).getD 0xFF)

/-- The next reachable candidate is sent REMAP with the MODES of the stripe's pieces (Table TWN-3 steps 2 and 5); with none left the remap fails. -/
def State.remapNext (s : State) (key : Nat) : State :=
  match Tbl.find s.twn.remaps key with
  | none => s
  | some r =>
    match r.cands.dropWhile fun c => !s.reachable c with
    | [] => s.remapFail key
    | c :: t =>
      let s : State := { s with twn := { s.twn with remaps := Tbl.put s.twn.remaps key { r with cands := t, peer := c, step := 2 } } }
      s.ask { kind := 0x14, dst := c, lba := 256 * r.stripe, span := r.span, keyTick := s.clk.tick, keyNode := s.node, modes := s.extModes (r.span + 64) r.stripe }

/-- The candidates for a stripe: the distinct members from table position (k + 1) mod L on, cyclically, without the owner. -/
def State.remapCands (s : State) (n k : Nat) : List Nat :=
  let t := s.spanTable n
  let i := (k + 1) % max 1 t.length
  (t.drop i ++ t.take i).eraseDups.filter (· != s.node)

/-- A block of a span finds no spare: the stripe is to move to a peer (R373, Table TWN-3 step 1): its exclusive lock takes the place of the locks of
its waiting pieces; with the redirect table full the remap fails at once (R597). -/
def State.startRemap (s : State) (vol lba : Nat) : State :=
  let n := vol - 64
  let k := lba / 256
  let key := stripeKey n k
  if Tbl.has s.twn.remaps key then s
  else
    let s : State := { s with twn := { s.twn with remaps := Tbl.put s.twn.remaps key { span := n, stripe := k, lba := lba, cands := s.remapCands n k } } }
    if 11264 ≤ s.med.redir.length then s.remapFail key
    else
      let s := (s.openOver vol lba).foldl (fun s e => s.unlock (.piece e.1)) s
      s.present { vol := vol, lba := 256 * k, n := 256, excl := true, req := 22, who := .realloc key }

end Sys2Proof.Machine
end

