-- ==== Sys2Proof/Machine/Io.lean ====
section
/-! DEFINITION. Write, Read and Flush, the range locks, host data and slabs (spec/14_commands.md R460 to R464; spec/13_queues.md R433 to
R447; spec/12_benches_dram.md R398, R399; spec/15_integrity_errors.md R490, R501). -/

namespace Sys2Proof.Machine

/-! ### Commands -/

/-- The pieces of a span command at its ingress node (R576). -/
def spanPieces (c : Cmd) : List IPiece := (splitRange c.slba c.nlb).map fun r => { lba := r.1, n := r.2 }

/-- A Read or Write has passed its checks: of a local volume it presents its lock (R440), of a span its pieces wait to be sent. -/
def State.rwStart (s : State) (slot : Nat) (c : Cmd) (excl : Bool) (segs : List (Nat × Nat)) : State :=
  match volCode c.vol with
  | none => s
  | some v =>
    if v < 64 then
      (s.setCmd slot { c with phase := 1, segs := segs }).present { vol := v, lba := c.slba, n := c.nlb, excl := excl, req := c.fn, who := .slot slot }
    else s.setCmd slot { c with phase := 2, segs := segs, pieces := spanPieces c }

/-- Write or Read: checks, then the data pointer, then the start (R452, R460). Lists of descriptors are read as the transfer needs them: one that is
bad ends the command when its bytes are wanted (R420). -/
def State.rw (s : State) (slot opc : Nat) (d : DescIn) : State :=
  match s.cmd slot with
  | none => s
  | some c =>
    if s.starts slot c && c.sq != 0 && c.opc == opc && !s.testBlocks c then
      match s.rwCheck c (opc == 1) with
      | some st => s.complete slot st
      | none =>
        match c.dptr d with
        | .short l e =>
          if segSum l < 4112 * c.nlb then s.rwStart slot { c with chainEnd := some e } (opc == 1) l
          else if segSum l = 4112 * c.nlb then s.rwStart slot c (opc == 1) l
          else s.badPtr slot l.length
        | _ => s.withSegs slot c d (fun n => n == 4112 * c.nlb) fun l s => s.rwStart slot c (opc == 1) l
    else s

/-- WRITE (R460). -/
def execWrite (slot : Nat) (d : DescIn) (s : State) : Out := .next (s.rw slot 1 d)

/-- READ (R447). -/
def execRead (slot : Nat) (d : DescIn) (s : State) : Out := .next (s.rw slot 2 d)

/-- FLUSH (R463): it takes no lock; FLUSH_COMPLETE ends it. -/
def execFlush (slot : Nat) (s : State) : Out :=
  match s.cmd slot with
  | none => .next s
  | some c =>
    .next (if s.starts slot c && c.sq != 0 && c.opc == 0 && !s.testBlocks c then
      match firstFail [(c.reserved [] || c.badDeadline, 0x0101), (c.vol != 0xFFFF && (s.volBad c.fn c.vol).isSome, if c.vol = 0xFFFF then 0 else (s.volBad c.fn c.vol).getD 0),
        (!c.noData, 0x0112)] with
      | some st => s.complete slot st
      | none => s.setCmd slot { c with phase := 2 }
    else s)

/-- A Flush covers a volume code. -/
def Cmd.covers (c : Cmd) (v : Nat) : Bool := c.vol == 0xFFFF || volCode c.vol == some v

/-- Every write that a Flush covers has completed, and its own pieces have landed (R463). -/
def State.flushed (s : State) (c : Cmd) : Bool :=
  !(s.cmds.any fun e => e.2.sq != 0 && e.2.opc == 1 && decide (e.2.seq < c.seq) && e.2.phase != 3 && (match volCode e.2.vol with
    | some v => c.covers v
    | none => false)) &&
  !(s.pieces.any fun e => !e.2.landed && !e.2.read && c.covers e.2.vol && (match e.2.seq with
    | some q => decide (q < c.seq)
    | none => false))

/-- FLUSH_COMPLETE (R464): with every covered write landed, also at remote owners as far as observed, the Flush completes; with 0x0232 where
a block of one was lost after it had completed. -/
def execFlushComplete (slot : Nat) (remoteLanded : Bool) (s : State) : Out :=
  match s.cmd slot with
  | none => .next s
  | some c =>
    if s.running && c.sq != 0 && c.opc == 0 && c.phase == 2 && s.flushed c && (remoteLanded || !(s.remote.any fun r => decide (r.1 < c.seq) && c.covers r.2)) then
      let lost := s.lostSeq.any fun r => decide (r.1 < c.seq) && c.covers r.2
      let s : State := { s with remote := s.remote.filter fun r => !(decide (r.1 < c.seq) && c.covers r.2) }
      .next (s.complete slot (if lost then 0x0232 else 0))
    else .next s

/-! ### Range locks -/

/-- A write has its lock: a mode that its owner does not accept fails it (R25, R31), an unwritable range or an actuator out of service fails it (R374, R371); else its pieces take data. -/
def State.writeGranted (s : State) (slot : Nat) : State :=
  match s.cmd slot with
  | none => s
  | some c =>
    match volCode c.vol with
    | none => s
    | some v =>
      match s.ackRefusal c.modes with
      | some st => s.complete slot st
      | none =>
      if s.unwritable v c.slba c.nlb then s.complete slot 0x0231
      else if s.onFailed v c.slba c.nlb then s.complete slot 0x0210
      else if s.onDisabled v c.slba c.nlb then s.complete slot 0x0221
      else
        (splitRange c.slba c.nlb).foldl (fun s r => (s.newPiece {
          vol := v, lba := r.1, n := r.2, modes := c.modes, slot := some slot, src := s.node, phase := 2, seq := some c.seq, edge := s.clk.edges }).2)
          (s.setCmd slot { c with phase := 2 })

/-- A piece fails at its owner (R583). -/
def State.pieceFail (s : State) (id status : Nat) : State := (s.pieceFinish id status).dropPiece id

/-- A span piece has its lock. -/
def State.pieceGranted (s : State) (id : Nat) : State :=
  match Tbl.find s.pieces id with
  | none => s
  | some p =>
    if p.read then s.pieceReadGranted id
    else if s.unwritable p.vol p.lba p.n then s.pieceFail id 0x0231
    else if s.onFailed p.vol p.lba p.n then s.pieceFail id 0x0210
    else if s.onDisabled p.vol p.lba p.n then s.pieceFail id 0x0221
    else s.modPiece id fun p => { p with phase := 2 }

/-- A sector's stored block as a refresh writes it: with its tag repaired for a volume without ENC (R505). -/
def State.refreshed (s : State) (vol lba : Nat) (b : List Byte) : List Byte :=
  let v := classify false false lba b
  if encOf (s.extModes vol (lba / 256)) || v.status != 1 then b else v.bytes

/-- A queued marginal sector has its lock: it is written in place from its block (R363). -/
def State.refreshGranted (s : State) (l : Lock) : State :=
  match s.lbaLoc l.vol l.lba with
  | none => s.unlock l.who
  | some loc =>
    match Tbl.find s.med.disc loc with
    | some u => s.addJob loc { vol := l.vol, lba := l.lba, why := 1, unit := some (s.refreshed l.vol l.lba u.bytes) }
    | none => s.unlock l.who

/-- Resync waits no more for a block of a LACK extent, which leaves the list with its last one (R593). -/
def State.resyncLess (s : State) (vol ext blk : Nat) : State :=
  let key := dirtyKey vol ext
  match Tbl.find s.twn.dirty key with
  | none => s
  | some d =>
    let d := { d with left := d.left.filter (· != blk) }
    if !d.lack then s else { s with twn := { s.twn with dirty := if d.left.isEmpty then Tbl.del s.twn.dirty key else Tbl.put s.twn.dirty key d } }

/-- A block of a LACK extent goes to the twin under its shared lock, with the MODES of its piece (R593); one that is no longer there needs no copy. -/
def State.resyncGranted (s : State) (l : Lock) : State :=
  match s.slabUnit l.vol l.lba, s.slabOf false l.vol (l.lba / 256) with
  | some u, some x => s.twinBlock 0x21 l.vol l.lba (x.2.last / 4 * 4) u
  | _, _ => (s.unlock l.who).resyncLess l.vol (l.lba / 256) (l.lba % 256)

/-- The deadline instant of the command in a slot has come (R453). -/
def State.overdue (s : State) (slot : Nat) : Bool :=
  match s.deadlineOf slot with
  | none => false
  | some d => decide (d ≤ s.instant)

/-- A lock is granted to its requester (R442). -/
def State.granted (s : State) (l : Lock) : State :=
  let s : State := { s with locks := { s.locks with table := s.locks.table.map fun x => if x.who = l.who then { x with held := true } else x } }
  match l.who with
  | .slot i => (match s.cmd i with
    | some c => if c.opc = 1 then s.writeGranted i else s.readGranted i
    | none => s)
  | .piece i => s.pieceGranted i
  | .refresh _ => s.refreshGranted l
  | .resync _ => s.resyncGranted l
  | .reloc _ => s
  | .realloc key => s.remapNext key

/-- The first waiting entry of the table with no earlier conflicting entry, given the entries before. -/
def grantable (before : List Lock) : List Lock → Option Lock
  | [] => none
  | l :: t => if !l.held && !(before.any fun b => b.conflicts l) then some l else grantable (before ++ [l]) t

/-- The request of the lowest requester index (R441). -/
def lowestReq : List Lock → Option Lock
  | [] => none
  | l :: t =>
    match lowestReq t with
    | some m => if m.req < l.req then some m else some l
    | none => some l

/-- A Read is a write-buffer hit when its lock is granted on entry: pushed, one contiguous buffer, buffer-serve mode, its first block in the staging
area, the link at x8 and 32 GT/s (R448). -/
def State.bufferHit (s : State) (c : Cmd) (vol : Nat) : Bool :=
  c.opc == 2 && c.pushed && c.dkind == 1 && !strictOf c.modes && s.inStaging vol c.slba && s.g MQP_PCIE_WIDTH == 8 && s.g MQP_PCIE_SPEED == 5

/-- The first data write of a write-buffer hit carries the head word of its first block, 32 bytes, to DPTR0 (R448). DEDUCED (log 161): of a block with
ENC they are the plaintext's, as every data write to the host. -/
def State.headWord (s : State) (l : Lock) : State :=
  match l.who with
  | .slot i =>
    (match s.cmd i, s.slabUnit l.vol l.lba with
      | some c, some u =>
        if s.bufferHit c l.vol then
          (s.toHost c 0 ((s.decUnit c.modes l.vol l.lba u).take 32)).setCmd i { c with headSent := true }
        else s
      | _, _ => s)
  | _ => s

/-- The deadline of a request's command has come: it is not granted any more (R444). -/
def State.lockLate (s : State) (l : Lock) : Bool :=
  match l.who with
  | .slot i => s.overdue i
  | _ => false

/-- LOCK_REQUEST (R441, R442): the presented request of the lowest index enters the table, or queues outside a full one with event 149; it is
granted at once where no earlier entry conflicts; a write-buffer hit then sends its head word first (R448). -/
def execLockRequest (s : State) : Out :=
  match lowestReq s.locks.reqs with
  | none => .next s
  | some l =>
    if !s.running then .next s
    else
      let s : State := { s with locks := { s.locks with reqs := s.locks.reqs.erase l } }
      if (s.locks.room l && s.locks.queue.isEmpty) || l.req == 22 || l.req == 23 then
        let free := !(s.locks.table.any fun b => b.conflicts l)
        let s : State := { s with locks := { s.locks with table := s.locks.table ++ [l] } }
        .next (if free && !s.lockLate l then (s.headWord l).granted l else s)
      else
        let full := s.locks.full
        let s : State := { s with locks := { s.locks with queue := s.locks.queue ++ [l], full := true } }
        .next (if full then s else s.raise 149)

/-- LOCK_GRANT (R442, R444): a waiting entry with no earlier conflicting entry left is granted, unless its deadline falls in this cycle. -/
def execLockGrant (s : State) : Out :=
  match grantable [] s.locks.table with
  | some l => .next (if s.running && !s.lockLate l then s.granted l else s)
  | none => .next s

/-! ### Host data -/

/-- A block in staging goes to the piece that takes it; of a span, it waits for PIECE_SEND where no own piece takes it yet. -/
def State.stage (s : State) (slot lba : Nat) (u : Unit4k) : State :=
  match s.pieces.find? fun e => e.2.slot == some slot && decide (e.2.lba ≤ lba) && decide (lba < e.2.lba + e.2.n) with
  | some e => s.modPiece e.1 fun p => { p with staged := Tbl.put p.staged (lba - p.lba) u }
  | none => s.modCmd slot fun c => { c with staged := Tbl.put c.staged (lba - c.slba) u }

/-- A block of a write has arrived: the ingest check, or a generated tag (R490, R495); a rejection ends the command (R501). -/
def State.ingest (s : State) (slot : Nat) (c : Cmd) (v : Nat) (b : List Byte) : State :=
  let lba := c.slba + c.moved
  let b := b.take 4112 ++ zeros (4112 - b.length)
  if bitAt (c.le 42 1) 0 then
    let d := b.take 4096
    ((s.setCmd slot { c with moved := c.moved + 1 }).stage slot lba (s.encUnit c.modes v lba (d ++ genTag d lba (c.le 44 2))))
  else
    let x := classify (repairOf (s.modesOf v)) true lba b
    let s := s.integrity 1 v lba b x
    if isError x.status then
      let s := s.setCmd slot { c with cut := true, err := x.err 1 lba b }
      (s.cutSlot slot true).endWrite slot x.status
    else
      let c : Cmd := { c with moved := c.moved + 1, note := max c.note x.status, result := c.result + (if x.status = 1 then 1 else 0) }
      (s.setCmd slot c).stage slot lba (s.encUnit c.modes v lba x.bytes)

/-- HOST_DATA_BLOCK (R41, R433): the next block of a write's data arrives, or its read fails (R421); none is fetched while the staging area has no
room, and a chain of descriptors that ends before the block ends the command (R420). -/
def execHostDataBlock (slot : Nat) (r : HRead) (s : State) : Out :=
  match s.cmd slot with
  | none => .next s
  | some c =>
    match volCode c.vol with
    | none => .next s
    | some v =>
      if s.running && !s.hostStopped && c.sq != 0 && c.opc == 1 && c.phase == 2 && !c.cut && decide (c.moved < c.nlb) && s.stagingRoom then
        .next (match c.chainShort c.moved, r with
          | some e, _ => (s.discardSlot slot).chainFail slot e
          | none, .ok b => s.ingest slot c v b
          | none, .err aer => (s.discardSlot slot).hostReadError slot aer)
      else .next s

/-! ### Slabs -/

/-- The blocks of a remote piece that are not yet reported are reported by ACCEPT, a parcel for each run of them (Table FAB-5). -/
def State.sendAccept (s : State) (id : Nat) : State :=
  match Tbl.find s.pieces id with
  | none => s
  | some p =>
    let s := s.modPiece id fun p => { p with unrep := [] }
    (runs (p.unrep.mergeSort fun a b => decide (a ≤ b))).foldl (fun s r => s.send {
      kind := 0x18, dst := p.src, lba := p.lba + r.1, xid := p.xid, keyTick := p.keyTick, keyNode := p.keyNode, span := p.vol - 64,
      body := leBytes r.2 2 ++ zeros 14 }) s

/-- DRAM_WRITE_COMPLETE (R398, R582): the next block of a granted piece is written into the slab of its extent; a piece that finds no slab
waits (R399). -/
def execDramWriteComplete (id : Nat) (s : State) : Out :=
  match Tbl.find s.pieces id with
  | none => .next s
  | some p =>
    if s.running && p.phase == 2 && !p.read && !p.staged.isEmpty && decide (3 ≤ s.g DRM_STAT_STATE) then
      let done := fun (s : State) (k : Nat) => s.commit id k
      .next (match s.slabOf false p.vol p.ext with
        | some e => done s e.1
        | none =>
          if p.wantSlab then s
          else match s.slabWait, s.freeSlab with
            | [], some k => done (s.newSlab k false p.vol p.ext) k
            | _, _ => (s.modPiece id fun p => { p with wantSlab := true }).waitSlab id)
    else .next s

/-- A block that the twin returns is stored as committed, unlanded Held data, acknowledged before and confirmed by the twin, and goes to the
media (R596); a stripe that this node held as a peer is its own again. -/
def State.reclaimStore (s : State) (k : Nat) (p : Parcel) : State :=
  let b := p.lba % 256
  let fresh := match Tbl.find s.slabs k with
    | some x => !Tbl.has x.blocks b
    | none => false
  if !fresh then s
  else
    let s := s.dramStore k b (bodyUnit p.body).bytes
    let s := s.modSlab k fun x => { x with blocks := Tbl.put x.blocks b (bodyUnit p.body), conf := b :: x.conf, modes := setBit x.modes 0, last := p.modes }
    let s := if 64 ≤ p.volc ∧ p.volc < 80 ∧ s.stripeOwner (p.volc - 64) (p.lba / 256) ≠ s.node then s.peerAdd (stripeKey (p.volc - 64) (p.lba / 256)) else s
    let r := s.newPiece {
      vol := p.volc, lba := p.lba, n := 1, modes := p.modes / 4 * 4, slot := none, src := s.node, keyTick := s.clk.tick, keyNode := s.node, phase := 3, got := 1, comm := [0],
      status := some 0, edge := s.clk.edges }
    r.2.toMedia r.1

/-- A twin parcel's block is stored in a slab, and confirmed: a copy (R582, R593), or the node's own data returned (R596). -/
def State.storeCopy (s : State) (k : Nat) (p : Parcel) : State :=
  let s := if p.kind = 0x22 then s.reclaimStore k p
    else (s.dramStore k (p.lba % 256) (bodyUnit p.body).bytes).modSlab k fun x => { x with
      blocks := Tbl.put x.blocks (p.lba % 256) (bodyUnit p.body), modes := p.modes }
  s.send { kind := 0x1B, dst := p.src, lba := p.lba, volc := p.volc, xid := p.xid }

/-- SLAB_GRANT (R399): the oldest waiting request takes a free slab; the pool-full episode ends with the last one. -/
def execSlabGrant (s : State) : Out :=
  match s.slabWait, s.freeSlab with
  | w :: rest, some k =>
    let s : State := { s with slabWait := rest, poolFull := !rest.isEmpty }
    if w < 2 ^ 32 then
      match Tbl.find s.pieces w with
      | none => .next s
      | some p =>
        let s := s.modPiece w fun p => { p with wantSlab := false }
        .next (match s.slabOf false p.vol p.ext with
          | some _ => s
          | none => s.newSlab k false p.vol p.ext)
    else
      match Tbl.find s.copyWait (w - 2 ^ 32) with
      | none => .next s
      | some p =>
        let s : State := { s with copyWait := Tbl.del s.copyWait (w - 2 ^ 32) }
        let twin := p.kind != 0x22
        .next (match s.slabOf twin p.volc (p.lba / 256) with
          | some e => s.storeCopy e.1 p
          | none => (s.newSlab k twin p.volc (p.lba / 256)).storeCopy k p)
  | _, _ => .next s

/-! ### Deadlines -/

/-- MARGIN of section 0x0031 in ticks: units of 100 µs, 0 for 20 of them. -/
def State.rcvMargin (s : State) : Nat := 25 * (if s.secLe 0x31 0 1 1 0 = 0 then 20 else s.secLe 0x31 0 1 1 0)

/-- The command in a slot waits for a piece with a block (vol, lba) to land (R342). -/
def OPiece.landWaits (p : OPiece) (slot vol lba : Nat) : Bool :=
  p.slot == some slot && !p.read && !p.landed && p.status.isNone && p.atLanding && p.vol == vol && decide (p.lba ≤ lba) && decide (lba < p.lba + p.n)

/-- A sector of the reader is in recovery, or a sector that the landing of a write waits for is re-written after a verify failure (R342, R454). -/
def State.recovering (s : State) (r : Nat) : Bool :=
  (s.chan.any fun e => e.2.recov.any fun v => s.med.reads.any fun m => m.1 == v.loc && m.2.slot == some r) ||
    s.pieces.any fun p => s.wr.any fun w => (decide (0 < w.2.tries) || w.2.why == 3) && p.2.landWaits r w.2.vol w.2.lba

/-- An I/O command ends early with a status of its own: a write's blocks in staging are dropped (R455). -/
def State.endIo (s : State) (slot status : Nat) : State :=
  match s.cmd slot with
  | none => s
  | some c => if c.opc = 1 then (s.cutSlot slot false).endWrite slot status else s.complete slot status

/-- The commands in flight that still need the key of slot `code`, the earliest fetched first (R512, R517). -/
def State.needKey (s : State) (code : Nat) : List (Nat × Cmd) :=
  (s.cmds.filter fun e => e.2.sq != 0 && volCode e.2.vol == some code && e.2.phase != 3 && (e.2.opc == 2 || (e.2.opc == 1 && e.2.moved < e.2.nlb))).mergeSort
    fun a b => decide (a.2.seq ≤ b.2.seq)

/-- A command that has lost its key ends with 0x0118; its blocks already encrypted go on (R512). -/
def State.keyFail (s : State) (slot : Nat) : State :=
  match s.cmd slot with
  | none => s
  | some c => if c.opc = 1 then ((s.setCmd slot { c with cut := true }).cutSlot slot true).endWrite slot 0x0118 else s.complete slot 0x0118

/-- KEY_RAM_PARITY (R512): the key of a volume or span is cleared, with event 157 and a key-fault record; every command in flight that
still needs it completes with 0x0118. -/
def execKeyRamParity (code : Fin 80) (s : State) : Out :=
  .next (if s.running && s.hasKey code then ((s.needKey code).foldl (fun s e => s.keyFail e.1) (s.gather.keyLost code)).inOrder else s)

/-- DEADLINE_EXPIRY (R454): 0x0602 for a read in recovery, 0x0601 otherwise; the detail is the ticks past the instant. -/
def execDeadlineExpiry (slot : Nat) (s : State) : Out :=
  match s.cmd slot with
  | none => .next s
  | some c =>
    if s.running && c.sq != 0 && c.phase != 3 && s.overdue slot then
      let st := if s.recovering slot then 0x0602 else 0x0601
      let s := s.modCmd slot fun c => { c with err := { c.err with detail := (s.instant - (s.deadlineOf slot).getD 0) / 20000 } }
      .next (s.endIo slot st)
    else .next s

end Sys2Proof.Machine
end

