-- ==== Sys2Proof/Machine/AdmQueue.lean ====
section
/-! DEFINITION. Queue commands, Abort and Thaw (spec/14_commands.md R457 to R459, R484 to R486; spec/15_integrity_errors.md R521 to R526). -/

namespace Sys2Proof.Machine

/-- A QID that is 0 or above QMAX (R457). -/
def State.badQid (s : State) (c : Cmd) (q : Nat) : Bool := q == 0 || decide (s.gk MQP_CAP_QMAX c.fn < q)

/-- CREATE_IO_CQ (R457, R422). -/
def execCreateIoCq (slot : Nat) (s : State) : Out :=
  .next (s.adminPlain slot 5 (fun _ => true) [(32, 16)]
    (fun c => [(s.badQid c (c.le 32 2), 0x0104), ((s.cq c.fn (c.le 32 2)).isSome, 0x0105), (c.le 34 2 == 0, 0x0106), (c.le 40 8 % 4096 != 0, 0x0101),
      (c.le 36 2 != 0xFFFF && decide (s.gk MQP_CAP_VECN c.fn ≤ c.le 36 2), 0x0107)])
    fun c s => (s.setCq c.fn (c.le 32 2) {
      depth := c.le 34 2 + 1, base := c.le 40 8, vec := c.le 36 2, cthr := c.le 38 1, ctime := c.le 39 1 }).complete slot 0)

/-- CREATE_IO_SQ (R457). -/
def execCreateIoSq (slot : Nat) (s : State) : Out :=
  .next (s.adminPlain slot 1 (fun _ => true) [(32, 7), (40, 12)]
    (fun c => [(decide (2 ≤ c.le 38 1), 0x0101), (s.badQid c (c.le 32 2), 0x0104), ((s.sq c.fn (c.le 32 2)).isSome, 0x0105), (c.le 34 2 == 0, 0x0106),
      (c.le 40 8 % 4096 != 0 || (decide (1 ≤ c.le 48 4) && decide (c.le 48 4 < 250)), 0x0101),
      (c.le 36 2 == 0 || (s.cq c.fn (c.le 36 2)).isNone, 0x0108)])
    fun c s => (s.setSq c.fn (c.le 32 2) {
      depth := c.le 34 2 + 1, base := c.le 40 8, cq := c.le 36 2, push := bitAt (c.le 38 1) 0,
      defdl := if c.le 48 4 = 0 then 7500000 else c.le 48 4 }).complete slot 0)

/-- DELETE_IO_SQ (R458): the SQ drains; the command completes with SQ_DRAINED. -/
def execDeleteIoSq (slot : Nat) (s : State) : Out :=
  .next (s.adminPlain slot 0 (fun _ => true) [(32, 2)]
    (fun c => [(s.badQid c (c.le 32 2) || (s.sq c.fn (c.le 32 2)).isNone, 0x0104)])
    fun c s => match s.sq c.fn (c.le 32 2) with
      | some x => s.setSq c.fn (c.le 32 2) { x with st := 3, tail := x.head, buf := [], deleter := some slot }
      | none => s)

/-- DELETE_IO_CQ (R459). -/
def execDeleteIoCq (slot : Nat) (s : State) : Out :=
  .next (s.adminPlain slot 4 (fun _ => true) [(32, 2)]
    (fun c => [(s.badQid c (c.le 32 2) || (s.cq c.fn (c.le 32 2)).isNone, 0x0104),
      (s.sqs.any fun e => e.1 / 65536 == c.fn && e.1 % 65536 != 0 && e.2.cq == c.le 32 2, 0x0109)])
    fun c s => ({ s with cqs := Tbl.del s.cqs (qKey c.fn (c.le 32 2)) } : State).complete slot 0)

/-! ### Abort -/

/-- The outcome of an Abort of a command in flight (R484, Table MQP-21): 0 aborted, 1 its status is determined, 2 past its abort point,
3 it cannot be aborted. -/
def abortOutcome (t : Cmd) : Nat :=
  if t.phase = 3 then 1
  else if t.sq ≠ 0 then (if t.opc = 1 ∧ t.left then 2 else if t.opc ≤ 2 then 0 else 3)
  else if t.opc = 0x20 ∨ t.opc = 0x1C then 0 else 3

/-- The target stops and discards the blocks it fetched (R484): a read in recovery at the end of the sector's step, by RECOVERY_ABORT_END
(R349), and a self-test at the end of its slice; a Chart Write closes its session (R188), but where it waits behind another chart command (log 182). -/
def State.abortTarget (s : State) (i : Nat) (t : Cmd) : State :=
  if t.sq = 0 then
    if t.opc = 0x20 then
      if s.chart.cmd.any (· != i) then s.complete i 0x0600
      else
        let s : State := { s with chart := { s.chart with cmd := none, jobs := s.chart.jobs.filter fun j => j.why != .chart } }
        (s.sessionVoid.p CHT_UPD_STATE 0).complete i 0x0600
    else if t.phase = 0 then s.complete i 0x0600
    else match s.tst.run with
      | some r => if r.slot = some i then { s with tst := { s.tst with run := some { r with abort := true } } } else s
      | none => s
  else if s.recovering i then s
  else if t.opc = 1 then (s.discardSlot i).endWrite i 0x0600
  else s.complete i 0x0600

/-- ABORT (R484, R485): its completion posts after the target's entry has been written. -/
def execAbort (slot : Nat) (s : State) : Out :=
  .next (s.adminPlain slot 8 (fun _ => true) [(32, 4)]
    (fun c => [(decide (s.gk MQP_CAP_QMAX c.fn < c.le 32 2) || (s.sq c.fn (c.le 32 2)).isNone, 0x0104)])
    fun c s =>
      match (s.inFlight c.fn (c.le 32 2)).find? fun e => e.2.cid == c.le 34 2 && e.1 != slot with
      | none => s.completeWith slot 0 1
      | some (i, t) =>
        let r := abortOutcome t
        let s := s.modCmd slot fun c => { c with result := r }
        let s := s.modCmd i fun t => { t with aborter := t.aborter ++ [slot], abortAt := s.instant }
        if r = 0 then s.abortTarget i t else s)

/-! ### Thaw -/

/-- A command fetched from the SQ before the freeze, the freezing one included, has not had its entry written (R521). -/
def State.unsettled (s : State) (fn q : Nat) : Bool :=
  !(s.inFlight fn q).isEmpty || s.cqs.any fun e => e.1 / 65536 == fn && e.2.wait.any fun w => w.sq == q

/-- The SQ is ACTIVE again (R522), with its unfetched entries discarded for ACTION 1 (R523); event 152. The number discarded is answered. -/
def State.thaw (s : State) (fn q action : Nat) : Nat × State :=
  match s.sq fn q with
  | none => (0, s)
  | some x =>
    let n := if action = 1 then (x.tail + x.depth - x.head) % x.depth else 0
    let x : Sq := if action = 1 then { x with head := x.tail, buf := [] } else x
    (n, (s.setSq fn q { x with st := 1, thawTs := s.now, thawAct := action, thawDisc := n, gen := x.gen + 1 }).raise 152)

/-- Thaw of an I/O SQ (R486, R521). -/
def State.thawCmd (s : State) (slot : Nat) (sel : Nat → Bool) : State :=
  s.adminPlain slot 9 (fun c => sel (c.le 34 1)) [(32, 3)]
    (fun c => [(decide (2 ≤ c.le 34 1), 0x0101), (s.badQid c (c.le 32 2), 0x0104), (!s.sqFrozen c.fn (c.le 32 2), 0x0115),
      (s.unsettled c.fn (c.le 32 2), 0x0116)])
    fun c s =>
      let r := s.thaw c.fn (c.le 32 2) (c.le 34 1)
      r.2.completeWith slot 0 r.1

/-- THAW_RESUME (R522), THAW_DISCARD (R523). -/
def execThawResume (slot : Nat) (s : State) : Out := .next (s.thawCmd slot fun a => a != 1)
def execThawDiscard (slot : Nat) (s : State) : Out := .next (s.thawCmd slot fun a => a == 1)

/-- A write of MQP_ADMTHAW with GO = 1 (R525): it is judged after a freeze of this cycle (`State.sqError`). -/
def State.admThaw (s : State) (fn action : Nat) : State :=
  let s := s.pk MQP_ADMTHAW_ACTION fn action
  if !s.sqFrozen fn 0 then
    let s := s.pk MQP_ADMTHAW_RES fn 2
    { s with setNow := (MQP_ADMTHAW_RES.key fn 0, 0) :: s.setNow }
  else if s.unsettled fn 0 then s.pk MQP_ADMTHAW_RES fn 3
  else
    let r := s.thaw fn 0 action
    let s := (r.2.pk MQP_ADMTHAW_RES fn 1).pk MQP_STS_AFRZ fn 0
    if action = 1 then s.pk MQP_ADMTHAW_DISC fn r.1 else s

/-- ADMIN_THAW_RESUME, ADMIN_THAW_DISCARD (R525). -/
def execAdminThawResume (fn : Fin 16) (s : State) : Out := .next (if s.fnOpen fn then s.admThaw fn 0 else s)
def execAdminThawDiscard (fn : Fin 16) (s : State) : Out := .next (if s.fnOpen fn then s.admThaw fn 1 else s)

end Sys2Proof.Machine
end

