-- ==== Sys2Proof/Machine/AdmInfo.lean ====
section
/-! DEFINITION. Identify and the log pages (spec/14_commands.md R480 to R483; spec/15_integrity_errors.md R527; spec/18_gazetteer.md R611,
R612, R622, R623; spec/20_selftest_debug.md R657). -/

namespace Sys2Proof.Machine

/-- `n` bytes of a page from offset `o`; bytes beyond its end read 0 (R481). -/
def pageBytes (page : List Byte) (o n : Nat) : List Byte := let b := (page.drop o).take n; b ++ zeros (n - b.length)

/-! ### Identify -/

/-- Identify: 4096 bytes to a DKIND 1 buffer; a CNS that no row names is answered by any of them (R480). -/
def State.identify (s : State) (slot cns : Nat) (d : DescIn) (checks : Cmd → List (Bool × Nat)) (page : Cmd → List Byte) : State :=
  s.admin slot 6 (fun c => c.le 32 1 == cns || decide (2 < c.le 32 1)) [(32, 1)] (fun c => (c.le 32 1 != cns, 0x0101) :: checks c ++ [(c.dkind != 1, 0x0112)])
    fun c s => s.withSegs slot c d (· == 4096) fun l s =>
      ((s.toHost { c with segs := l } 0 (pageBytes (page c) 0 4096)).modCmd slot fun c => { c with segs := l }).complete slot 0

/-- The node data (Table MQP-18). -/
def State.nodeData (s : State) : List Byte :=
  leBytes 0x9440 2 ++ [byte Config.stepping, 0] ++ (Config.serial ++ zeros 16).take 16 ++ leBytes (s.g CHT_SEQ) 4 ++
    [byte (s.g CHT_STAT_ACTIVE), byte s.nAct, byte s.nHead, byte (s.g SYS_BOOT_ACTFAIL)] ++
    leBytes (if s.node = 0x3FF then 0xFFFF else s.node) 2 ++ leBytes (if s.hasTwin then s.twin else 0xFFFF) 2 ++ leBytes s.forReserve 8 ++
    leBytes (maskOf 16 s.spanDeclared) 2 ++ leBytes (maskOf 16 fun n => (s.volAt (64 + n)).any (·.attached)) 2 ++
    leBytes (maskOf 64 fun v => (s.volAt v).isSome) 8 ++ [byte (s.g SYS_BOOT_JNL)]

/-- The resources of function `f` (R480). -/
def State.fnData (s : State) (f : Nat) : List Byte :=
  leBytes (s.gk MQP_CAP_QMAX f) 2 ++ leBytes (s.gk MQP_CAP_VECN f) 2 ++ leBytes (s.secLe 0x60 0 (22 + 16 * f) 2 0) 2 ++ leBytes (s.gk MQP_CRED_LIMIT f) 2

/-- The data of a volume or span (R480); the places of the two flags in byte 16 are assumption log 17. -/
def State.volData (s : State) (v : Nat) : List Byte :=
  let x := (s.volAt v).getD {}
  [byte x.modes, 0] ++ leBytes x.fmask 2 ++ zeros 4 ++ leBytes (s.volBlocks v / 256) 8 ++ [byte (b2n (s.hasKey v) + 2 * b2n x.attached)] ++ zeros 3 ++
    leBytes (countP (fun r => r.vol == v) s.med.unwr) 4

/-- A VOL that names nothing: 0x0102 (Table MQP-3). -/
def State.volUnknown (s : State) (vol : Nat) : Bool :=
  match volCode vol with
  | none => true
  | some v => if v < 64 then (s.volAt v).isNone else !s.spanDeclared (v - 64)

/-- IDENTIFY_NODE, IDENTIFY_FUNCTION, IDENTIFY_VOLUME (R480). -/
def execIdentifyNode (slot : Nat) (d : DescIn) (s : State) : Out := .next (s.identify slot 0 d (fun _ => []) fun _ => s.nodeData)
def execIdentifyFunction (slot : Nat) (d : DescIn) (s : State) : Out := .next (s.identify slot 1 d (fun _ => []) fun c => s.fnData c.fn)
def execIdentifyVolume (slot : Nat) (d : DescIn) (s : State) : Out :=
  .next (s.identify slot 2 d (fun c => [(s.volUnknown c.vol, 0x0102)]) fun c => s.volData ((volCode c.vol).getD 0))

/-! ### Get Log Page -/

/-- The pages of Tables MQP-19 and GAZ-6. -/
def logPages : List Nat := [1, 2, 3, 4, 0x10, 0x11, 0x12, 0x13]

/-- The LSP, OFFSET and CLEAR of a Get Log Page. -/
def Cmd.lsp (c : Cmd) : Nat := c.le 34 2
def Cmd.off (c : Cmd) : Nat := c.le 36 4
def Cmd.clear (c : Cmd) : Bool := bitAt (c.le 33 1) 0

/-- The number of bytes that a command's data pointer asks for. -/
def Cmd.asked (c : Cmd) (d : DescIn) : Nat :=
  match c.dptr d with
  | .segs l => segSum l
  | _ => 0

/-- Get Log Page (R481): checks, the page as it stands, what follows; a LID that no row names is answered by any of them. The length check is
assumption log 18. -/
def State.logPage (s : State) (slot lid : Nat) (d : DescIn) (checks : Cmd → List (Bool × Nat)) (page : Cmd → List Byte)
    (after : Cmd → Nat → State → State) : State :=
  s.admin slot 2 (fun c => c.le 32 1 == lid || !logPages.contains (c.le 32 1)) [(32, 8)]
    (fun c => (decide (2 ≤ c.le 33 1), 0x0101) :: (c.le 32 1 != lid, 0x0101) :: checks c ++
      [(c.off % 4 != 0, 0x0101),
        (c.clear && (lid != 2 || c.fn != 0 || c.off != 0 || decide (c.asked d < (page c).length)), 0x0101)])
    fun c s => s.withSegs slot c d (fun n => n % 4 == 0 && decide (n ≤ 2 ^ 20)) fun l s =>
      after c (segSum l) (s.toHost { c with segs := l } 0 (pageBytes (page c) c.off (segSum l)))

/-- The queue error log of an SQ (Table MQP-29). -/
def Sq.errorLog (q : Sq) : List Byte :=
  [byte q.st, byte (b2n q.frec.isSome + 2 * b2n q.ovf)] ++ leBytes q.precs.length 2 ++ leBytes q.freezes 4 ++ leBytes q.gen 8 ++ leBytes q.thawTs 8 ++
    [byte q.thawAct, 0] ++ leBytes q.thawDisc 2 ++ leBytes q.postcnt 4 ++ zeros 32 ++ q.frec.getD (zeros 64) ++
    (q.precs ++ List.replicate (62 - q.precs.length) (zeros 64)).flatten

/-- QUEUE_ERROR_LOG (R527). -/
def execQueueErrorLog (slot : Nat) (d : DescIn) (s : State) : Out :=
  .next (s.logPage slot 1 d (fun c => [((s.sq c.fn c.lsp).isNone, 0x0101)]) (fun c => ((s.sq c.fn c.lsp).getD {}).errorLog) fun _ _ s => s.complete slot 0)

/-- A lost-range group (Table MQP-20). -/
def lostGroup (source : Nat) (merged : Bool) (count ts pcycle : Nat) (entries : List Byte) : List Byte :=
  [byte source, byte (b2n merged), 0, 0] ++ leBytes count 4 ++ leBytes ts 8 ++ leBytes pcycle 3 ++ zeros 13 ++ entries

/-- The group of a journal's bytes (Tables PWR-5 and MQP-20). -/
def journalGroup (b : List Byte) : List Byte :=
  let n := leAt b 20 2
  lostGroup 0 (bitAt (leAt b 19 1) 0) n (leAt b 8 8) (leAt b 16 3) ((b.drop 64).take (16 * n))

/-- The journals presented: none after a CLEAR (R482). -/
def State.journals (s : State) : List (List Byte) := if s.chart.groupsCleared then [] else s.chart.gbytes

/-- The entry of a lost range (Table PWR-6). -/
def LRange.bytes (r : LRange) : List Byte := jentBytes { vol := volOf r.vol, kind := r.kind, lba := r.lba, count := r.n, merged := r.merged }

/-- The lost-range page (Table MQP-20). -/
def State.lostPage (s : State) : List Byte :=
  let g := s.journals
  let n := sumOf (g.map fun b => leAt b 20 2) + s.med.lost.length
  [byte (s.g SYS_BOOT_JNL), 0] ++ leBytes (g.length + 1) 2 ++ leBytes n 4 ++ leBytes s.med.lostGen 8 ++ zeros 48 ++ (g.map journalGroup).flatten ++
    lostGroup 1 s.med.lostMerged s.med.lost.length 0 (s.g GAZ_STAMP_PCYCLE) (s.med.lost.map LRange.bytes).flatten

/-- Every group is emptied (R482). -/
def State.clearLost (s : State) : State :=
  let s : State := { s with chart := { s.chart with groupsCleared := true } }
  s.setMed fun m => { m with lost := [], lostMerged := false, lostGen := m.lostGen + 1 }

/-- LOST_RANGES (R482). -/
def execLostRanges (slot : Nat) (d : DescIn) (s : State) : Out :=
  .next (s.logPage slot 2 d (fun c => [(c.lsp != 0, 0x0101)]) (fun _ => s.lostPage) fun c _ s => (if c.clear then s.clearLost else s).complete slot 0)

/-- The self-test results page: header and 32 entries, newest first (spec/20_selftest_debug.md, Log page 0x03). -/
def State.resultsPage (s : State) : List Byte :=
  leBytes s.tst.results.length 4 ++ zeros 4 ++ leBytes s.tst.gen 8 ++ zeros 48 ++
    (s.tst.results ++ List.replicate (32 - s.tst.results.length) (zeros 32)).flatten

/-- SELF_TEST_RESULTS (R657). -/
def execSelfTestResults (slot : Nat) (d : DescIn) (s : State) : Out :=
  .next (s.logPage slot 3 d (fun c => [(c.lsp != 0, 0x0101)]) (fun _ => s.resultsPage) fun _ _ s => s.complete slot 0)

/-- Extents of a volume with unlanded data (R483). -/
def State.unlanded (s : State) (v : Nat) : Nat := countP (fun e => e.2.vol == v && !e.2.twin) s.slabs

/-- The statistics of a volume or span (R483). DESIGN CHOICE (log 162): the count of unverified blocks (R499), which Table R483 gives no place, stands in
bytes 40 to 43. -/
def State.volStats (s : State) (v : Nat) : List Byte :=
  let x := (s.volAt v).getD {}
  leBytes x.written 8 ++ leBytes x.readN 8 ++ leBytes x.repaired 4 ++ leBytes x.rejected 4 ++ leBytes (s.unlanded v) 4 ++ leBytes x.lostN 4 ++ leBytes x.gen 8 ++ leBytes x.unver 4 ++ zeros 20

/-- Function `fn` may not read the page of a volume: outside its FMASK (R481). -/
def State.volHidden (s : State) (fn v : Nat) : Bool := fn != 0 && !bitAt ((s.volAt v).getD {}).fmask fn

/-- VOLUME_STATISTICS (R483). -/
def execVolumeStatistics (slot : Nat) (d : DescIn) (s : State) : Out :=
  .next (s.logPage slot 4 d (fun c => [(s.volUnknown c.lsp, 0x0101), (s.volHidden c.fn ((volCode c.lsp).getD 0), 0x0102)])
    (fun c => s.volStats ((volCode c.lsp).getD 0)) fun _ _ s => s.complete slot 0)

/-! ### Pages of the Gazetteer (Table GAZ-6) -/

/-- The ring page: GAZ_NEWEST, GAZ_OLDEST, GEN, the ring. GEN is the newest SEQ (assumption log 19). -/
def State.ringPage (s : State) : List Byte :=
  leBytes (s.g GAZ_NEWEST_SEQ + 2 ^ 48 * s.g GAZ_NEWEST_WPTR) 8 ++ leBytes (s.g GAZ_OLDEST_SEQ + 2 ^ 48 * s.g GAZ_OLDEST_OPTR) 8 ++
    leBytes (s.g GAZ_NEWEST_SEQ) 8 ++ zeros 40 ++ Memory.read 0 s.buf s.ringBase ringSize

/-- GAZETTEER_RING_PAGE (R610, R611): the page as it stands; the transfer of ring bytes goes on until RING_HOLD_RELEASE ends it. -/
def execGazetteerRingPage (slot : Nat) (d : DescIn) (s : State) : Out :=
  .next (s.logPage slot 0x10 d (fun c => [(c.lsp != 0, 0x0101)]) (fun _ => s.ringPage) fun c n s =>
    let x := c.off - 64
    let e := min ringSize (c.off + n - 64)
    if x < e then { s with gaz := { s.gaz with xfer := some (x, e) } } else s.complete slot 0)

/-- Waiting records enter the ring, oldest first, as long as the transfer has passed their bytes (R610). -/
def State.holdDrain (s : State) : Nat → State
  | 0 => s
  | n + 1 =>
    match s.gaz.hold with
    | [] => s
    | r :: t => if s.ringBlocked r then s else (({ s with gaz := { s.gaz with hold := t } } : State).ringPut r).holdDrain n

/-- The command of the ring page transfer. -/
def State.ringReader (s : State) : Option Nat :=
  (s.cmds.find? fun e => e.2.sq == 0 && e.2.opc == 2 && e.2.le 32 1 == 0x10 && e.2.phase == 2).map (·.1)

/-- RING_HOLD_RELEASE (R610): the transfer has passed the ring bytes below `upTo`; at its end a Dropped record of kind 1 follows for lost
ones, and the command completes. -/
def execRingHoldRelease (upTo : Nat) (s : State) : Out :=
  match s.gaz.xfer with
  | none => .next s
  | some (x, e) =>
    if upTo < x ∨ e < upTo ∨ !s.running then .next s
    else if upTo < e then .next (({ s with gaz := { s.gaz with xfer := some (upTo, e) } } : State).holdDrain 64)
    else
      let s := ({ s with gaz := { s.gaz with xfer := none } } : State).holdDrain 64
      let n := s.gaz.holdLost
      let s := if 0 < n then ({ s with gaz := { s.gaz with holdLost := 0 } } : State).dropRecord 1 n else s
      .next (match s.ringReader with
        | some i => s.complete i 0
        | none => s)

/-- The bytes of area sector `i` as a page shows them. A half-erased sector is never read as data (R178): its bytes are free until it is erased again
(DESIGN CHOICE, log 165). -/
def State.sectorPage (s : State) (i : Nat) : List Byte :=
  if s.isHalf (gazSector i) then (List.range 65536).map fun j => byte (s.freeAt j) else s.flashRead (gazSector i * 65536) 65536

/-- GAZETTEER_SECTOR_PAGE (R612): one sector of the persistent area as stored. -/
def execGazetteerSectorPage (slot : Nat) (d : DescIn) (s : State) : Out :=
  .next ((s.logPage slot 0x11 d (fun c => [(decide (496 ≤ c.lsp), 0x0101)]) (fun c => s.sectorPage c.lsp) fun _ _ s => s.complete slot 0).fresh)

/-- A histogram page (Table GAZ-6); the places of the header's fields are assumption log 20. -/
def State.histPage (s : State) (i : Nat) (prev : Bool) : List Byte :=
  let c := s.histCfg i
  let h : Hist := Tbl.getD (if prev then s.gaz.histPrev else s.gaz.hist) i {}
  let e := s.histEdges i
  let n := s.g GAZ_PAGE
  [byte c.1, 0] ++ leBytes c.2.2.1 2 ++ [byte c.2.2.2, 0, 0, 0] ++ leBytes (if prev then n - 1 else n) 8 ++
    leBytes (if prev then s.gaz.prevStart else s.gaz.pageStart) 8 ++ leBytes (if prev then s.gaz.prevEnd else 0) 8 ++
    leBytes h.ticks 4 ++ leBytes (if prev then s.gaz.prevIncomp else s.g GAZ_INCOMP) 4 ++ leBytes h.samples 8 ++ zeros 16 ++
    (e.map fun v => leBytes (ofSigned 32 v) 4).flatten ++ zeros (124 - 4 * e.length) ++ zeros 4 ++
    (h.counts.map fun v => leBytes v 4).flatten ++ zeros (128 - 4 * h.counts.length)

/-- HISTOGRAM_PAGE (R622). -/
def execHistogramPage (slot : Nat) (d : DescIn) (s : State) : Out :=
  .next (s.logPage slot 0x12 d (fun c => [(decide (s.nHist ≤ c.lsp % 128) || c.lsp / 128 % 256 != 0, 0x0101)])
    (fun c => s.histPage (c.lsp % 128) (bitAt c.lsp 15)) fun _ _ s => s.complete slot 0)

/-- An extreme's four values; those of an extreme without a sample are free (assumption log 3). -/
def State.extBytes (s : State) (salt : Nat) (e : Option Ext) : List Byte :=
  match e with
  | some x => leBytes (ofSigned 32 x.min) 4 ++ leBytes (ofSigned 32 x.max) 4 ++ leBytes x.minTs 8 ++ leBytes x.maxTs 8
  | none => leBytes (s.freeAt (4 * salt)) 4 ++ leBytes (s.freeAt (4 * salt + 1)) 4 ++ leBytes (s.freeAt (4 * salt + 2)) 8 ++ leBytes (s.freeAt (4 * salt + 3)) 8

/-- The extremes of one source: current page, previous page, since reset (Table GAZ-6). -/
def State.extPage (s : State) (i : Nat) : List Byte :=
  s.extBytes 0 (Tbl.find s.gaz.ext i) ++ s.extBytes 1 (Tbl.find s.gaz.extPrev i) ++ s.extBytes 2 (Tbl.find s.gaz.extAll i)

/-- EXTREMES_PAGE (R623). -/
def execExtremesPage (slot : Nat) (d : DescIn) (s : State) : Out :=
  .next ((s.logPage slot 0x13 d (fun c => [(decide (s.nExt ≤ c.lsp % 128) || c.lsp / 128 != 0, 0x0101)])
    (fun c => s.extPage (c.lsp % 128)) fun _ _ s => s.complete slot 0).fresh)

end Sys2Proof.Machine
end

