-- ==== Sys2Proof/Machine/Addr.lean ====
section
/-! DEFINITION. Registers by address: the fields at an address, 64-bit registers, registers that show a part of the state by an index or a selector
(spec/22_address_map.md R688 to R693; the register tables of the home chapters). -/

namespace Sys2Proof.Machine

/-- The fields of the block that an address lies in (Table SYS-29). -/
def blockFlds (a : Nat) : List Fld :=
  match a / 4096 with
  | 0 => fldsSys | 1 => fldsClk | 2 => fldsPwr | 3 => fldsSvy | 4 => fldsPin | 5 => fldsCht | 6 => fldsSpn | 7 => fldsSrv | 8 => fldsChn | 9 => fldsChn
  | 10 => fldsMed | 11 => fldsBen | 12 => fldsDrm | 13 => fldsTwn | 14 => fldsEvt | 15 => fldsFab | 0x80 => fldsGaz
  | b => if b % 0x4000 = 16 then fldsMqp else if 0x20 ≤ b ∧ b < 0x28 then fldsCtl else if b = 0x28 then fldsTst else []

/-- The members of a field that lie in the register at an address, as (block copy, member). -/
def Fld.members (F : Fld) (a : Nat) : List (Nat × Nat) :=
  (List.range F.bn).flatMap fun k => ((List.range F.n).filter fun i => F.at k i == a).map fun i => (k, i)

/-- The fields of the register at an address, as (field, block copy, member). -/
def fldsAt (a : Nat) : List (Fld × Nat × Nat) := (blockFlds a).flatMap fun F => (F.members a).map fun m => (F, m.1, m.2)

/-- CLK_NOW, the timestamp of the present cycle: a 64-bit register (R72). -/
def clkNow : Nat := 0x1008

/-- The low dword of a 64-bit register stands at an address (R18). -/
def isWide (a : Nat) : Bool := a == clkNow || (fldsAt a).any fun e => e.1.wide

/-- A register that shows a part of the state stands at an address: pins, write gates, taps and offsets, spans, events, routes, queues, nodes
(Tables PIN-6, SRV-9, CHN-7, TWN, EVT-5, FAB-9, MQP-9, CTL-10). -/
def isShown (a : Nat) : Bool :=
  let o := a % 4096
  match a / 4096 with
  | 4 => decide (0x84 ≤ o) && decide (o < 0xA0) && (o - 0x84) % 8 == 0
  | 7 => decide (o < 0x400) && o % 256 == 0x10
  | 8 => decide (0x80 ≤ o % 0x400) && decide (o % 0x400 ≤ 0x100)
  | 13 => o == 0x14
  | 14 => o == 0x40 || o == 0x48 || o == 0x4C || (decide (0x60 ≤ o) && decide (o < 0x70))
  | 15 => o == 0x1C
  | 16 => o == 0x2C || o == 0x30 || o == 0x34
  | b => decide (0x20 ≤ b) && decide (b < 0x28) && b % 2 == 0 && o == 0x24

/-- A dword of a register, outside every window, stands at an address of the PF's BAR0 (R628). -/
def isRegister (a : Nat) : Bool :=
  a % 4 == 0 && decide (a < 0x100000) && (!(fldsAt a).isEmpty || a == clkNow || isShown a || (decide (4 ≤ a) && isWide (a - 4)))

end Sys2Proof.Machine
end

