-- ==== Sys2Proof/Machine/EngTrace.lean ====
section
/-! DEFINITION. The trace buffers of the control engines (spec/09_control_engine.md R313 to R317). -/

namespace Sys2Proof.Machine

/-- The solid bench assigned to engine `k` (Table BEN-3). -/
def State.trcBench (s : State) (k : Nat) : Option Nat := s.solidOf (k + 1)

/-- The trace of engine `k` takes words: armed, or in post capture with words left (R313, R315). -/
def State.trcOpen (s : State) (k : Nat) : Bool :=
  s.gk CTL_TRCSTAT_STATE k == 1 || (s.gk CTL_TRCSTAT_STATE k == 2 && Tbl.getD s.trcLeft k 0 != 0)

/-- The 32-byte word of this tick goes to the next index, which wraps at 8192 (R313). -/
def State.trcWord (s : State) (k : Nat) (bytes : List Byte) : State :=
  match s.trcBench k with
  | none => s
  | some i =>
    if s.trcOpen k && Tbl.find s.trcTick k != some s.clk.tick then
      let w := s.gk CTL_TRCSTAT_WPTR k
      let s := s.bufWrite (solidBase i + 32 * w) bytes
      let s : State := { s with
        trcTick := Tbl.put s.trcTick k s.clk.tick
        trcLeft := Tbl.put s.trcLeft k (Tbl.getD s.trcLeft k 0 - 1) }
      let s := s.pk CTL_TRCSTAT_WPTR k ((w + 1) % 8192)
      if w = 8191 then s.pk CTL_TRCSTAT_WRAPPED k 1 else s
    else s

/-- The nodes that the trace selects (Table CTL-8, mode 0). -/
def State.traceNodes (s : State) (k : Nat) (shown : Tbl Int) : State :=
  if s.gk CTL_TRCCTL_MODE k = 0 then
    s.trcWord k ((List.range 8).flatMap fun i => leBytes (ofSigned 32 (Tbl.getD shown (s.gki CTL_TRCSEL_NODE k i) 0)) 4)
  else s

/-- The PES of the tick's estimates in 1/4096 track, saturating; a sixteenth that is not whole is rounded as the spec leaves open (Table
CTL-8, mode 1; assumption log 14). -/
def State.traceEstimates (s : State) (k : Nat) (pes : List Int) : State :=
  if s.gk CTL_TRCCTL_MODE k = 1 then
    let half := fun (i : Nat) => match pes[i]? with
      | some p => clampI (-32768) 32767 (if p % 16 = 0 then p / 16 else p / 16 + (s.freeAt (16 + i) % 2 : Nat))
      | none => (s.freeAt (16 + i) : Int)
    (s.trcWord k ((List.range 16).flatMap fun j => leBytes (ofSigned 16 (half j)) 2)).fresh
  else s

/-- The node comparison of source 3 at the output cycle (Table CTL-9, CTL_TRCCMP). -/
def State.traceCompare (s : State) (k : Nat) (shown : Tbl Int) : State :=
  let v := Tbl.getD shown (s.gk CTL_TRCCMP_NODE k) 0
  let t := toSigned 32 (s.gk CTL_TRCTHR k)
  let hit := match s.gk CTL_TRCCMP_CMP k with
    | 0 => decide (t < v)
    | 1 => decide (v < t)
    | 2 => decide (t < (v.natAbs : Int))
    | _ => false
  if hit then s.trcSource k 3 else s

/-- A write of ARM (R316): the ring starts again at index 0 in any trace state; without a solid bench ARM has no effect. -/
def State.traceArm (s : State) (k : Nat) : State :=
  if (s.trcBench k).isNone then s
  else
    let s := ((s.pk CTL_TRCSTAT_STATE k 1).pk CTL_TRCSTAT_WPTR k 0).pk CTL_TRCSTAT_WRAPPED k 0
    let s := ((s.pk CTL_TRCSTAT_IGNORED k 0).pk CTL_TRCTS k 0).pk CTL_TRCTRIGW k 0
    { s with trcTick := Tbl.del s.trcTick k, trcLeft := Tbl.del s.trcLeft k }

/-- A host write of STOP: a trigger with a post count of 0 (R314). -/
def State.traceStop (s : State) (k : Nat) : State := s.trcTrigger k 0

/-- A host write of TRIG (R314). -/
def State.traceTrig (s : State) (k : Nat) : State := s.trcTrigger k (s.gk CTL_TRCCTL_POST k)

/-- CTL_TRACE_ARM (R316). -/
def execCtlTraceArm (k : Fin 4) (s : State) : Out := .next (if s.barOpen then s.traceArm k else s)
/-- CTL_TRACE_STOP. -/
def execCtlTraceStop (k : Fin 4) (s : State) : Out := .next (if s.barOpen then s.traceStop k else s)
/-- CTL_TRACE_TRIG. -/
def execCtlTraceTrig (k : Fin 4) (s : State) : Out := .next (if s.barOpen then s.traceTrig k else s)

/-- TRACE_CAPTURE_STOP (R315): the last word after the trigger is written: stopped, event 111. -/
def execTraceCaptureStop (k : Fin 4) (s : State) : Out :=
  .next (if s.running && s.gk CTL_TRCSTAT_STATE k == 2 && Tbl.getD s.trcLeft k 0 == 0 then
    (s.pk CTL_TRCSTAT_STATE k 3).raise 111 else s)

end Sys2Proof.Machine
end

