-- ==== Sys2Proof/Machine/Servo.lean ====
section
/-! DEFINITION. Position estimates, guards, seeks, settling and head switches of the actuators (spec/08_servo_band.md R258 to
R279). -/

namespace Sys2Proof.Machine

/-! ### Targets -/

/-- A quotient rounded to the nearest; an exact half goes up or down by a free bit, which the spec leaves open (log 14). -/
def roundNear (num : Int) (den free : Nat) : Int :=
  let d : Int := 2 * den
  let q := (2 * num + den) / d
  if (2 * num + den) % d = 0 ∧ free % 2 = 1 then q - 1 else q

/-- The offset of element `e` (0 writer, 1 lead reader, 2 trail reader) of head `h` at track `t`, in 1/65 536 track (R258). -/
def State.elemOff (s : State) (h e t : Nat) : Int :=
  let o := 16 + 32 * s.nAct + 16 * h + 4 + 4 * e
  let od := toSigned 16 (s.secLe 0x10 0 o 2 0)
  let id := toSigned 16 (s.secLe 0x10 0 (o + 2) 2 0)
  let m := s.tracks - 1
  roundNear (256 * (od * m + (id - od) * t)) (max 1 m) (s.freeAt e)

/-- The servo target that places the writer, or the mean of the readers, on track `t` (R258). -/
def State.servoTarget (s : State) (h t : Nat) (write : Bool) : Int :=
  if write then 65536 * (t : Int) - s.elemOff h 0 t
  else roundNear (131072 * (t : Int) - (s.elemOff h 1 t + s.elemOff h 2 t)) 2 (s.freeAt 3)

/-- The track offset that a re-read step applies to a read of track `t` with head `h` (R346). -/
def State.stepOfs (s : State) (k h t : Nat) (write : Bool) : Int :=
  match (Tbl.getD s.chan k {}).adj with
  | some a => if a.head = h ∧ a.track = t ∧ write = false then a.ofs else 0
  | none => 0

/-! ### Profiles and thresholds -/

/-- A row of a seek profile (Table SRV-4). -/
structure Prof where
  maxlen : Nat := 16777215
  vmax : Nat := 150
  acc : Nat := 1024
  dec : Nat := 1024
  win : Nat := 26
  n : Nat := 16
  tmax : Nat := 6000
  deriving DecidableEq, Repr

/-- Row `i` of actuator `k`'s profile, or the one default row (R269). -/
def State.prof (s : State) (k i : Nat) : Prof :=
  match s.sec 0x11 k with
  | none => {}
  | some b =>
    let o := 16 + 16 * i
    { maxlen := leAt b o 3, vmax := leAt b (o + 3) 2, acc := leAt b (o + 5) 2, dec := leAt b (o + 7) 2, win := leAt b (o + 9) 1,
      n := leAt b (o + 10) 1, tmax := leAt b (o + 11) 2 }

/-- The row whose range holds a length of one track or more (R265). -/
def State.profRow (s : State) (k len : Nat) : Nat :=
  ((List.range (s.secLe 0x11 k 0 1 1)).find? fun i => decide (len < (s.prof k i).maxlen)).getD 0

/-- Write-guard thresholds of actuator `k` (Table SRV-7): levels in 1/65 536 track. -/
def State.wgOff (s : State) (k : Nat) : Nat := 64 * s.secLe 0x13 k 0 2 123
def State.wgOn (s : State) (k : Nat) : Nat := 64 * s.secLe 0x13 k 2 2 82
def State.wgN (s : State) (k : Nat) : Nat := s.secLe 0x13 k 4 1 16
def State.wgPred (s : State) (k : Nat) : Bool := s.secLe 0x13 k 5 1 1 == 1
def State.invN (s : State) (k : Nat) : Nat := s.secLe 0x13 k 6 1 2
def State.wsettleN (s : State) (k : Nat) : Nat := s.secLe 0x13 k 7 1 64

/-- The reference of a seek of `len` tracks has reached the target within `n` ticks of its start: a trapezoid with VMAX, or a triangle
(R265, R266). -/
def Prof.reached (p : Prof) (len n : Nat) : Bool :=
  let ad := p.acc * p.dec
  let ramp := 2048 * p.vmax * p.vmax * (p.acc + p.dec)
  if ramp ≤ len * ad then decide (len * ad + ramp < (n + 1) * p.vmax * ad)
  else decide (8192 * len * (p.acc + p.dec) < (n + 1) * (n + 1) * ad)

/-! ### The write gate's inputs -/

/-- The inputs of Table SRV-6 that block write gate `k`, in table order (SRV_WG.BLOCK). -/
def State.wgBlock (s : State) (k : Nat) : Nat :=
  let rot := fun (c : Nat → Bool) => match s.spn.loss with
    | some l => c l.cause
    | none => false
  let c := Tbl.getD s.chan k {}
  let l := [s.holding, s.pwr.loss.isSome, false, s.clk.fault.isSome, s.on SVY_SHOCK_INH, s.svy.critical.isSome,
    decide (s.g SPN_OBS_CONF < s.spnLe 22 1), rot fun c => c != 1, !s.on SPN_STAT_WB_OK, (Tbl.getD s.eng k {}).safe.isSome,
    s.onk SRV_STAT_GUARD k, !(s.actSt k == 2 && s.onk SRV_STAT_WREADY k),
    c.fault.isSome || (Tbl.getD s.heads (s.gk SRV_TGT_HEAD k) {}).wdis]
  (l.zipIdx).foldl (fun m e => m + b2n e.1 * 2 ^ e.2) 0

/-! ### Estimates -/

/-- The cycle at which estimate `j` is available (R259): 250 (j + 1) − 10 ns. -/
def estCycle (econ : Bool) (j : Nat) : Nat := let ns := 250 * (j + 1) - 10; if econ then ns else ceilDiv (5 * ns) 4

/-- The position guard of actuator `k` meets an estimate (R273, R274, R277): what trips it, as the cause of the write-guard record. -/
def State.guardCause (s : State) (k : Nat) (valid : Bool) (pes : Int) : Option Nat :=
  let a := s.act k
  let off : Nat := s.wgOff k
  let proj := match a.prevPes with
    | some p => decide (off < (2 * pes - p).natAbs)
    | none => false
  if valid && decide (off < pes.natAbs) then some 0
  else if valid && s.wgPred k && proj then some 1
  else if decide (s.invN k ≤ a.inv) then some 2
  else none

/-- The guard trips, or counts toward its re-enable; a trip drops the gate, counts and raises event 96 + k (R273 to R277). -/
def State.guardStep (s : State) (k : Nat) (valid : Bool) (pes : Int) : State :=
  match (s.act k).guard with
  | some g =>
    let run := if valid && decide (pes.natAbs < s.wgOn k) then g.run + 1 else 0
    s.setAct k fun a => { a with guard := some { g with run := run, peak := if valid then max g.peak pes.natAbs else g.peak } }
  | none =>
    match s.guardCause k valid pes with
    | none => s
    | some c =>
      let g : Guard := { ts := s.now, cause := c, peak := if valid then pes.natAbs else 0 }
      let s := ((s.setAct k fun a => { a with guard := some g }).pk SRV_STAT_GUARD k 1).bumpk SRV_WGCNT k 1
      (s.gateDrop k).raise (96 + k)

/-- The window counts of an estimate: read settle in SETTLE or after a reference change, then write settle (R265, R266). -/
def State.settleStep (s : State) (k : Nat) (valid : Bool) (pes : Int) : State :=
  let chg := (s.act k).chg
  let s := if chg then ((s.pk SRV_STAT_RREADY k 0).pk SRV_STAT_WREADY k 0).setAct k fun a => { a with chg := false, rd := 0, wr := 0 } else s
  let st := s.actSt k
  let a := s.act k
  let win := 256 * (s.prof k a.row).win
  if (st = 4 ∨ st = 2) ∧ !s.onk SRV_STAT_RREADY k then
    s.setAct k fun a => { a with rd := if valid && decide (pes.natAbs < win) then a.rd + 1 else 0 }
  else if st = 2 ∧ !s.onk SRV_STAT_WREADY k then
    s.setAct k fun a => { a with wr := if valid && decide (pes.natAbs < s.wgOn k) then a.wr + 1 else 0 }
  else s

/-- Estimate `j` of the tick, of actuator `k`: position and flags, the settle and the guard, the largest |PES| (R259, R260). -/
def State.estimate (s : State) (k j e : Nat) : State :=
  let s := s.atCycle (estCycle s.econ j)
  let valid := bitAt e 63
  let idOk := bitAt e 62
  let pos : Int := (bitsOf e 16 24 * 65536 + bitsOf e 0 16 : Nat)
  let pes := (s.act k).tgt - pos
  let s := if valid then s.pk SRV_POS k e else s
  let s := if j = 15 then s.pk SRV_STAT_STALE k (b2n (!valid)) else s
  let s := s.setAct k fun a => { a with
    pos := if valid then pos else a.pos
    vel := if valid then toSigned 16 (bitsOf e 40 16) else a.vel
    inv := if valid then 0 else a.inv + 1
    seen := a.seen + 1
    acq := if valid && idOk then a.acq + 1 else 0
    pesTick := (if valid then pes else (s.freeAt 1 : Int)) :: a.pesTick }
  let s := (s.settleStep k valid pes).guardStep k valid pes
  let s := s.setAct k fun a => { a with prevPes := if valid then some pes else none }
  let m := roundFree pes.natAbs 16 (s.freeAt 0)
  let s : State := if valid then { s with pesMax := Tbl.put s.pesMax k (max m (Tbl.getD s.pesMax k 0)) } else s
  let s := s.fresh
  if j = 15 then s.traceEstimates k (s.act k).pesTick.reverse else s

/-- The demodulator's count: stripe crossings move it, and a code word that passes its check corrects it (R261); the words in a row that agreed with
it as it stood, and whether the last word passed and was the track counted (R260). -/
def Act.counted (a : Act) (x : DemodIn) : Act :=
  let c := ((a.count : Int) + x.cross).toNat % 2 ^ 24
  match x.word with
  | none => { a with count := c }
  | some (ok, t) =>
    let same := ok && t.toNat == c
    { a with count := if ok then t.toNat else c, idOk := same, agree := if same then a.agree + 1 else 0 }

/-- An estimate as the demodulator reports it (Table SRV-1): VALID (R260); ID_OK, during a seek from two code words in a row on that agree with the
count (R261). -/
def State.demodWord (s : State) (k : Nat) (x : DemodIn) : Nat :=
  let a := s.act k
  let ok := if s.actSt k = 3 ∨ a.arriving then a.idOk && decide (2 ≤ a.agree) else a.idOk
  x.frac.toNat + 2 ^ 16 * a.count + 2 ^ 40 * x.vel.toNat + 2 ^ 56 * x.qual.toNat + 2 ^ 62 * b2n ok + 2 ^ 63 * b2n (x.above && x.legal)

/-- DEMOD_ESTIMATE (R259 to R261): estimate `j` of a tick of actuator `k`, in the layout of Table SRV-1. It feeds the position register, the
counts of acquisition, settling and loss, and the guard. -/
def execDemodEstimate (k : Fin 4) (j : Fin 16) (x : DemodIn) (s : State) : Out :=
  .next (if s.running && decide (k.val < s.nAct) then
    let s := s.setAct k fun a => a.counted x
    s.estimate k j (s.demodWord k x)
  else s)

/-- GUARD_REENABLE (R274, R277): WG_N consecutive valid estimates below WG_ON; the write-guard record closes the episode. -/
def execGuardReenable (k : Fin 4) (s : State) : Out :=
  match (s.act k).guard with
  | none => .next s
  | some g =>
    if s.running && decide (s.wgN k ≤ g.run) then
      let s := (s.setAct k fun a => { a with guard := none }).pk SRV_STAT_GUARD k 0
      let peak := roundFree g.peak 64 (s.freeAt 0)
      .next (s.fresh.record (mkRec 0x0D 48 [(16, 8, g.ts), (24, 8, s.now), (32, 1, k), (33, 1, g.cause), (34, 2, min peak 65535), (36, 2, g.abandoned)]))
    else .next s

/-- Servo loss of actuator `k`: event 100 + k, its record, an emergency park (R279). -/
def State.servoLoss (s : State) (k : Nat) : State :=
  ((s.raise (100 + k)).record (mkRec 0x0E 32 [(16, 8, s.now), (24, 1, k), (25, 1, s.gk SRV_TGT_HEAD k)])).epark k 21

/-- SERVO_LOSS (R279): 64 consecutive invalid estimates in FOLLOW, SEEK, SETTLE or SWITCH. -/
def execServoLoss (k : Fin 4) (s : State) : Out :=
  let st := s.actSt k
  .next (if s.running && decide (2 ≤ st) && decide (st ≤ 5) && decide (64 ≤ (s.act k).inv) then s.servoLoss k else s)

/-! ### Seeks -/

/-- Media operations may start: the spindle is at speed and not in RECOVER, no supply hold, no power loss (R241, R245, R85). -/
def State.mediaOk (s : State) : Bool :=
  s.running && s.on SPN_STAT_AT_SPEED && s.g SPN_STAT_STATE != 8 && !s.holding && s.pwr.loss.isNone

/-- Reads may start, or go on: they continue in REGULATE while the speed is outside the write band (R239, R245, R85). DEDUCED (log 154). -/
def State.readOk (s : State) : Bool := s.running && s.g SPN_STAT_STATE == 7 && !s.holding && s.pwr.loss.isNone

/-- A seek of actuator `k` begins, from the track it follows or from where it stands; a length of 0 is a reference change in FOLLOW
(R265). -/
def State.startSeek (s : State) (k : Nat) (q : Seek) : State :=
  let a := s.act k
  let from' := a.cur.getD (trackOf a.pos)
  let len := distN q.track from'
  let tgt := s.servoTarget q.head q.track q.write + s.stepOfs k q.head q.track q.write
  let s := s.fresh
  let s := s.pk SRV_TGT_TRACK k q.track
  if len = 0 ∧ a.arriving = false then
    let same := decide (tgt = a.tgt) && s.actSt k == 2
    let s := if s.actSt k = 2 then s else s.setActSt k 2
    let s := s.setAct k fun a => { a with tgt := tgt, forWrite := q.write, cur := some q.track, go := false, seekEdge := s.clk.edges }
    if same then (if s.onk SRV_STAT_RREADY k && !a.chg then s.setAct k fun a => { a with seek := none } else s)
    else (s.gateDrop k).setAct k fun a => { a with chg := true, row := 0, len := 0 }
  else
    let s := s.setActSt k (if a.arriving then 1 else 3)
    s.setAct k fun a => { a with
      tgt := tgt, forWrite := q.write, cur := none, go := false, seekEdge := s.clk.edges, row := s.profRow k len, len := len, start := a.pos,
      agree := 0 }

/-- An ordered seek waits for the next tick edge (R265); a motion or a safe hold comes first (R286). -/
def State.orderSeek (s : State) (k : Nat) (q : Seek) : State := s.setAct k fun a => { a with seek := some q, go := true, again := false }

/-- A seek or head switch may be ordered on actuator `k` for head `h` and track `t`. -/
def State.maySeek (s : State) (k h t : Nat) (write : Bool) : Bool :=
  (if write then s.mediaOk else s.readOk) && decide (k < s.nAct) && s.actSt k == 2 && decide (h < s.nHead) && s.headAct h == k && decide (t < s.tracks) &&
    (s.act k).motion.isNone && (Tbl.getD s.eng k {}).safe.isNone

/-- SEEK_DISPATCH (R265): the sequencer names a head and a target track; the seek begins at the next edge, after a head switch where the
head is not the selected one (R270). -/
def execSeekDispatch (k : Fin 4) (head : Fin 20) (track : BitVec 24) (write : Bool) (s : State) : Out :=
  .next (if s.maySeek k head track.toNat write then s.orderSeek k { head := head, track := track.toNat, write := write } else s)

/-- HEAD_SWITCH (R270): the write gate is blocked; the new head is selected at the next tick edge. -/
def execHeadSwitch (k : Fin 4) (head : Fin 20) (track : BitVec 24) (write : Bool) (s : State) : Out :=
  .next (if s.maySeek k head track.toNat write && head.val != s.gk SRV_TGT_HEAD k then
    (s.gateDrop k).orderSeek k { head := head, track := track.toNat, write := write } else s)

/-- What an ordered seek does at the edge: a head switch first where the head changes (R270), else the seek. -/
def State.seekEdge (s : State) (k : Nat) : State :=
  let a := s.act k
  match a.seek with
  | none => s
  | some q =>
    if !a.go || (Tbl.getD s.eng k {}).safe.isSome then s
    else if q.head ≠ s.gk SRV_TGT_HEAD k then
      let s := (s.pk SRV_TGT_HEAD k q.head).pk SRV_TGT_TRACK k q.track
      (s.setActSt k 5).setAct k fun a => { a with go := false, cur := none, acq := 0, seen := 0, idOk := false, agree := 0 }
    else s.startSeek k q

/-- The tick edge at the actuators: seeks ordered in the tick begin; the milliactuator clip and the tick's PES start again. -/
def State.servoEdge (s : State) : State :=
  let s := s.actList.foldl (fun s k => ((s.seekEdge k).setAct k fun a => { a with pesTick := [] }).pk SRV_STAT_MA_CLIP k 0) s
  { s with pesPrev := s.pesMax, pesMax := [] }

/-- SEEK_SETTLE_ENTRY (R266): the reference has reached the target: SETTLE. A load seeks in LOADING; the seek of an orderly unload to track
0 ends in its ramp phase (Table CTL-3, Table SRV-8). -/
def execSeekSettleEntry (k : Fin 4) (s : State) : Out :=
  let a := s.act k
  let st := s.actSt k
  if s.running && (st == 3 || (st == 1 && a.arriving)) && (s.prof k a.row).reached a.len (s.clk.edges - a.seekEdge) then
    .next (s.setActSt k 4)
  else
    match a.motion with
    | none => .next s
    | some m =>
      .next (if s.running && st == 6 && (s.prof k (s.profRow k m.track)).reached m.track (s.clk.edges - m.edge) then
        s.setAct k fun a => { a with motion := some { m with under := true } } else s)

/-- What a load that has come to follow its calibration track leads to (R204, R248, R280, R311, Table PWR-8): from Standby, Run once
every actuator in service follows. -/
def State.loadDone (s : State) (k : Nat) : State :=
  let s := (s.setAct k fun a => { a with arriving := false, tries := 0, motion := none }).escEnd k 0
  if (s.act k).loadWhy = 2 ∧ s.actList.all (fun j => s.actFailed j || (s.actSt j == 2 && !(s.act j).arriving)) then s.powerState 0 else s

/-- A seek of actuator `k` in profile row `row` has reached its track within T_MAX, or has not: a Seek sweep that still wants one of that row
counts it (Table TST-4). -/
def State.testSeek (s : State) (k row : Nat) (ok : Bool) : State :=
  match s.tst.run with
  | some r =>
    let n := Tbl.getD r.sweep (256 * k + row) 0
    if n = 0 then s
    else { s with tst := { s.tst with run := some { r with
      sweep := Tbl.put r.sweep (256 * k + row) (n - 1), count := r.count + 1, fails := r.fails + b2n (!ok),
      code := if ok || r.code != 0 then r.code else 0x50 + row } } }
  | none => s

/-- Read ready of actuator `k`: TRACK, the seek's duration and row where it ends one, the load that it ends (R266). -/
def State.readReadyNow (s : State) (k : Nat) : State :=
  let st := s.actSt k
  let a := s.act k
  let s := (s.pk SRV_STAT_STATE k 2).pk SRV_STAT_RREADY k 1
  let dur := s.clk.edges - a.seekEdge
  let s := if st = 4 then
      (((s.pk SRV_SEEK_DUR k (min dur 65535)).pk SRV_SEEK_ROW k a.row).pk SRV_SEEK_FAIL k 0).occur 0x11 k dur
    else s
  let s := if st = 4 ∧ a.again = false then s.testSeek k a.row true else s
  let s := s.setAct k fun a => { a with cur := some (s.gk SRV_TGT_TRACK k), seek := none, again := false, wr := 0 }
  if a.arriving then s.loadDone k else s

/-- READ_READY (R266): RSETTLE_N consecutive estimates inside the window; FOLLOW. -/
def execReadReady (k : Fin 4) (s : State) : Out :=
  let st := s.actSt k
  let a := s.act k
  .next (if s.running && (st == 4 || (st == 2 && !a.chg)) && !s.onk SRV_STAT_RREADY k && (Tbl.getD s.eng k {}).safe.isNone && decide ((s.prof k a.row).n ≤ a.rd) then
    s.readReadyNow k else s)

/-- WRITE_READY (R266): WSETTLE_N further consecutive estimates below WG_ON. -/
def execWriteReady (k : Fin 4) (s : State) : Out :=
  .next (if s.running && s.actSt k == 2 && s.onk SRV_STAT_RREADY k && !(s.act k).chg && decide (s.wsettleN k ≤ (s.act k).wr) then
    s.pk SRV_STAT_WREADY k 1 else s)

/-- The second seek in a row has passed T_MAX: the operation that needed it completes with 0x0212; the actuator follows the track where it
stands (R267). -/
def State.seekFail (s : State) (k : Nat) (q : Seek) : State :=
  let a := s.act k
  let t := trackOf a.pos
  let dur := s.clk.edges - a.seekEdge
  let s := ((s.pk SRV_SEEK_DUR k (min dur 65535)).pk SRV_SEEK_ROW k a.row).pk SRV_SEEK_FAIL k 1
  let s := (s.setActSt k 2).pk SRV_TGT_TRACK k t
  let s := s.setAct k fun a => { a with cur := some t, tgt := s.servoTarget q.head t q.write, seek := none, go := false, again := false }
  s.fresh.failMediaAt k q.track 0x0212

/-- SEEK_TIMEOUT (R267): T_MAX ticks from the seek's start without read ready, that of a reference change included: event 104, the seek-failure
record and a second seek from the next edge; the second time the operation fails. -/
def execSeekTimeout (k : Fin 4) (s : State) : Out :=
  let a := s.act k
  let st := s.actSt k
  match a.seek with
  | none => .next s
  | some q =>
    if s.running && !a.arriving && !a.go && (st == 3 || st == 4 || (st == 2 && !s.onk SRV_STAT_RREADY k)) && (Tbl.getD s.eng k {}).safe.isNone && decide ((s.prof k a.row).tmax ≤ s.clk.edges - a.seekEdge) then
      if a.again then .next (s.seekFail k q)
      else
        let n := s.clk.edges - a.seekEdge
        let s := s.testSeek k a.row false
        let s := (s.raise 104).record (mkRec 0x0C 48 [(16, 8, s.now), (24, 1, k), (25, 1, a.row), (26, 2, min n 65535), (28, 4, q.track)])
        .next (s.setAct k fun a => { a with go := true, again := true, cur := none })
    else .next s

/-! ### Acquisition -/

/-- HEAD_SWITCH_ACQUIRE (R270, R281): 16 consecutive valid and ID_OK estimates; the actuator seeks from where it stands to its target, a
load to the calibration track, whose number the spec does not give (assumption log 3). -/
def execHeadSwitchAcquire (k : Fin 4) (s : State) : Out :=
  let st := s.actSt k
  let a := s.act k
  if s.running && decide (16 ≤ a.acq) && st == 5 then
    match a.seek with
    | some q => .next (s.startSeek k q)
    | none => .next s
  else if s.running && decide (16 ≤ a.acq) && st == 1 && !a.arriving then
    let q : Seek := { head := s.gk SRV_TGT_HEAD k, track := s.freeAt 5 % max 1 s.tracks, write := false }
    let s := s.setAct k fun a => { a with cur := none, seek := some q, again := false, arriving := true }
    .next (s.startSeek k q)
  else .next s

/-- HEAD_SWITCH_ACQUIRE_FAIL (R271): no acquisition within 64 estimates of the selection. -/
def execHeadSwitchAcquireFail (k : Fin 4) (s : State) : Out :=
  let a := s.act k
  .next (if s.running && s.actSt k == 5 && decide (64 ≤ a.seen) && decide (a.acq < 16) then s.servoLoss k else s)

end Sys2Proof.Machine
end

