-- ==== Sys2Proof/Machine/Park.lean ====
section
/-! DEFINITION. Loads, parks and retracts of the actuators (spec/08_servo_band.md R281 to R286). -/

namespace Sys2Proof.Machine

/-- What the VCM bridge of an actuator is driven with: the engine's command in I_VCM_MAX / 131 072, a current in mA or a voltage in mV, inward
positive (R263, R281, R285, R296). -/
inductive VcmDrive where
  | command (code : Int) (full : Nat)
  | current (ma : Int)
  | voltage (mv : Int)
  deriving DecidableEq, Repr

/-- The VCM of actuator `k`: the driver's retract at RET_MV outward, the R_COIL step at HOLD_MA against the latch while a load waits to begin, else the
engine's command of the last output cycle (R263, R281, R285). -/
def State.vcmDrive (s : State) (k : Nat) : VcmDrive :=
  if Tbl.has s.retr k then .voltage (-(s.actLe k 14 2 : Int))
  else if s.actSt k = 0 ∧ ((s.act k).motion.any fun m => m.kind == 0) ∧ s.on SPN_STAT_AT_SPEED then .current (-(s.actLe k 22 2 : Int))
  else .command (Tbl.getD s.eng k {}).vcm (s.actLe k 4 2)

/-- LOAD_START (R281): a load requires AT_SPEED; R_COIL, in mΩ, is measured against the latch, and the drive inward begins. Motion during the
measurement means that the actuator is off the ramp: it is driven outward first and then loads (R285). -/
def execLoadStart (k : Fin 4) (rcoil : BitVec 16) (moved : Bool) (s : State) : Out :=
  match (s.act k).motion with
  | none => .next s
  | some m =>
    if s.mediaOk && m.kind == 0 && s.actSt k == 0 && !s.on SVY_SHOCK_INH && !Tbl.has s.retr k then
      let s := s.pk SRV_RCOIL k rcoil.toNat
      if moved then
        let s := s.setAct k fun a => { a with later := a.later ++ [(0, 1)] }
        .next (s.beginMotion k 1 6)
      else
        let hs := s.headsOf k
        let h := s.gk SRV_TGT_HEAD k
        let s := s.pk SRV_TGT_HEAD k (if hs.contains h then h else hs.headD 0)
        let s := s.setActSt k 1
        .next (s.setAct k fun a => { a with
          motion := some { m with under := true, edge := s.clk.edges }, tries := a.tries + 1, acq := 0, seen := 0, inv := 0 })
    else .next s

/-- A load has failed for the second time: unloaded at UL_BEMF; at start-up the actuator is out of service under R204, otherwise under R280
with event 107, and so ends an escalation (R282, R311). -/
def State.loadFail (s : State) (k : Nat) : State :=
  if s.g SYS_BOOT_STAGE = 3 then (s.outOfService k).headsStageEnd
  else
    let s := s.orderMotion k 1 4
    ((s.withdraw k).raise 107).escEnd k 2

/-- An escalation's retract is complete: nodes and states are zeroed (R310); at speed the actuator loads once, in LOADING as its next
attempt, but not after a cause-2 escalation (R311). -/
def State.escReload (s : State) (k : Nat) : State :=
  let e := Tbl.getD s.eng k {}
  match e.esc with
  | none => s
  | some x =>
    let s : State := { s with eng := Tbl.put s.eng k { e with nodes := [], states := [], clamp := [] } }
    if x.cause = 0 ∨ !s.on SPN_STAT_AT_SPEED then s.escEnd k 1
    else if 2 ≤ (s.act k).tries then s.loadFail k
    else if s.actFailed k then s.escEnd k 1
    else (s.setAct k fun a => { a with loadWhy := 5 }).orderMotion k 0 1

/-- LOAD_TIMEOUT (R282): a load that passes T_LOAD_MAX, in ms, is unloaded and tried once more. -/
def execLoadTimeout (k : Fin 4) (s : State) : Out :=
  match (s.act k).motion with
  | none => .next s
  | some m =>
    if s.running && (s.actSt k == 1 || (s.act k).arriving) && decide (250 * s.actLe k 16 2 ≤ s.clk.edges - m.edge) then
      if 2 ≤ (s.act k).tries then .next (s.loadFail k)
      else .next ((s.setAct k fun a => { a with later := a.later ++ [(0, 1)] }).orderMotion k 1 4)
    else .next s

/-- PARK_COMPLETE (R283): two back-EMF readings in a row, in mV, below 5 % of UL_BEMF, of an unload after its seek to track 0: UNLOADED, event 106, the park record. After a
servo-loss park at speed the actuator loads once (R280). -/
def execParkComplete (k : Fin 4) (a b : Nat) (s : State) : Out :=
  match (s.act k).motion with
  | none => .next s
  | some m =>
    let ul := s.actLe k 10 2
    if s.running && ((s.actSt k == 6 && m.under) || s.actSt k == 7) && decide (20 * a < ul) && decide (20 * b < ul) then
      let s := (s.parkRecord k m 0).raise 106
      let s := s.endMotion k 0
      .next (if m.kind = 2 ∧ (m.trig = 21 ∨ m.trig = 22) ∧ s.on SPN_STAT_AT_SPEED ∧ (s.act k).motion = none then s.loadAct k 3 else s)
    else .next s

/-- EPARK_TIMEOUT (R284): an emergency park that passes T_EMG_MAX, in ms, leaves the actuator where it stands, with event 105; it is out of
service at the next start-up. -/
def execEparkTimeout (k : Fin 4) (s : State) : Out :=
  match (s.act k).motion with
  | none => .next s
  | some m =>
    if s.running && s.actSt k == 7 && decide (250 * s.actLe k 20 1 ≤ s.clk.edges - m.edge) then
      let s := (s.parkRecord k m 1).raise 105
      let s := s.endMotion k 9
      .next { s with left := if s.left.contains k.val then s.left else s.left ++ [k.val] }
    else .next s

/-- RETRACT_END (R285): the driver's retract ends after T_RET. One that rectified back-EMF while the speed, in 0.1 rpm, fell below n_f leaves
the actuator where it stood, out of service at the next start-up (R256). -/
def execRetractEnd (k : Fin 4) (speed : Nat) (s : State) : Out :=
  match Tbl.find s.retr k with
  | none => .next s
  | some r =>
    if !(r.due.all fun e => decide (e ≤ s.clk.edges)) then .next s
    else
    let stuck := r.rect && decide (speed * r.ke < 10000 * r.vmin)
    let k := k.val
    let s : State := { s with retr := Tbl.del s.retr k, left := if stuck && !s.left.contains k then s.left ++ [k] else s.left }
    .next (if s.actSt k = 8 then (s.endMotion k (if stuck then 9 else 0)).escReload k else s)

end Sys2Proof.Machine
end

