-- ==== Sys2Proof/Machine/Engine.lean ====
section
/-! DEFINITION. The control engines: node arithmetic, sections, set selection, outputs, run stops, safe hold and escalation
(spec/09_control_engine.md R287 to R312). -/

namespace Sys2Proof.Machine

/-! ### Arithmetic -/

/-- Division by 2^n to the nearest, ties away from zero (R291). -/
def roundAway (v : Int) (n : Nat) : Int :=
  let m : Nat := (v.natAbs + 2 ^ (n - 1)) / 2 ^ n
  if v < 0 then -(m : Int) else m

/-- A signed number of `w` bits saturated, and whether that changed it. -/
def satS (w : Nat) (v : Int) : Int × Bool :=
  let r := clampI (-(2 ^ (w - 1) : Nat)) ((2 ^ (w - 1) : Nat) - 1) v
  (r, decide (r ≠ v))

/-! ### Coefficient sets -/

/-- A section record (Table CTL-6). -/
structure SecRec where
  op : Nat
  out : Nat
  a : Nat
  b : Nat
  mode : Nat
  inherit : Nat
  link : Nat
  c : List Int
  deriving DecidableEq, Repr

/-- The section record at offset `o`. -/
def secRec (b : List Byte) (o : Nat) : SecRec :=
  { op := leAt b o 1, out := leAt b (o + 1) 1, a := leAt b (o + 2) 1 % 64, b := leAt b (o + 3) 1 % 64,
    mode := leAt b (o + 4) 1 % 4, inherit := leAt b (o + 5) 1, link := leAt b (o + 6) 1,
    c := (List.range 5).map fun i => leSigned b (o + 8 + 4 * i) 4 }

/-- The offset of set `i` of a coefficient table (section 0x0012). -/
def setOff (b : List Byte) : Nat → Nat
  | 0 => 32
  | i + 1 => setOff b i + 16 + 32 * leAt b (setOff b i) 1

/-- The sections of set `i`. -/
def setSecs (b : List Byte) (i : Nat) : List SecRec :=
  (List.range (leAt b (setOff b i) 1)).map fun j => secRec b (setOff b i + 16 + 32 * j)

/-- The cost of a section in cycles (Table CTL-2). -/
def opCost (op : Nat) : Nat := if op = 1 then 8 else if op = 2 then 3 else if op = 3 then 4 else 2

/-- The cost of a set. -/
def setCost (l : List SecRec) : Nat := l.foldl (fun n x => n + opCost x.op) 0

/-- The coefficient table of engine `k`. -/
def State.coef (s : State) (k : Nat) : List Byte := (s.sec 0x12 k).getD []

/-! ### One run -/

/-- What a run works on: nodes, states, clamp directions, and its flags: a LIMIT and an INTEG clamped, a section overflowed, the lowest
section that did so. -/
structure Run where
  nodes : Tbl Int
  states : Tbl (Int × Int)
  clamp : Tbl Int
  lim : Bool := false
  int : Bool := false
  ovf : Bool := false
  sec : Option Nat := none
  deriving DecidableEq, Repr

/-- A section flags a clamp or an overflow. -/
def Run.flag (r : Run) (j : Nat) (lim int ovf : Bool) : Run :=
  { r with
    lim := r.lim || lim, int := r.int || int, ovf := r.ovf || ovf
    sec := if (lim || int || ovf) && r.sec.isNone then some j else r.sec }

/-- Section `j` of set `q` executes (Table CTL-2, R291 to R295); `was` holds the clamp directions of the previous run of the set. -/
def Run.step (q : Nat) (was : Tbl Int) (r : Run) (j : Nat) (x : SecRec) : Run :=
  let key := 64 * q + j
  let a := Tbl.getD r.nodes x.a 0
  let b := Tbl.getD r.nodes x.b 0
  let c := fun i => x.c.getD i 0
  let st := Tbl.getD r.states key (0, 0)
  let put := fun (r : Run) (y : Int) => { r with nodes := Tbl.put r.nodes x.out y }
  if x.op = 1 then
    let y := satS 32 (roundAway (c 0 * a + st.1 * 2 ^ 12) 28)
    let s1 := (satS 64 (roundAway (c 1 * a - c 3 * y.1 + st.2 * 2 ^ 12) 12)).1
    let s2 := (satS 64 (roundAway (c 2 * a - c 4 * y.1) 12)).1
    (put { r with states := Tbl.put r.states key (s1, s2) } y.1).flag j false false y.2
  else if x.op = 2 then
    let y := satS 32 (roundAway (c 0 * a + c 1 * b) 28)
    (put r y.1).flag j false false y.2
  else if x.op = 3 then
    let u := satS 32 (roundAway (c 0 * a) 28)
    let dir := if x.link = 0xFF then 0 else Tbl.getD was (64 * q + x.link) 0
    let hold := (dir = 1 ∧ 0 < u.1) ∨ (dir = -1 ∧ u.1 < 0)
    let t := st.1 + u.1
    let y := if hold then st.1 else clampI (c 1) (c 2) t
    (put { r with states := Tbl.put r.states key (y, 0) } y).flag j false (!decide hold && decide (y ≠ t)) u.2
  else
    let y := clampI (c 1) (c 2) a
    let dir : Int := if c 2 < a then 1 else if a < c 1 then -1 else 0
    (put { r with clamp := Tbl.put r.clamp key dir } y).flag j (decide (dir ≠ 0)) false false

/-- The sections of a set execute in order. -/
def Run.go (q : Nat) (was : Tbl Int) (r : Run) (j : Nat) : List SecRec → Run
  | [] => r
  | x :: t => Run.go q was (r.step q was j x) (j + 1) t

/-- The states that the entering set takes (R298): `mode` 0 keeps, 1 zeroes, 2 inherits from the section of the previous set with the same
OP; LIMIT directions are cleared in modes 1 and 2. -/
def enterStates (b : List Byte) (q : Nat) (prev : Option Nat) (e : Eng) : Eng :=
  ((setSecs b q).zipIdx).foldl (fun (e : Eng) x =>
    let key := 64 * q + x.2
    if x.1.mode = 0 then e
    else
      let v := match prev with
        | none => (0, 0)
        | some p =>
          match x.1.mode, (setSecs b p)[x.1.inherit]? with
          | 2, some y => if y.op = x.1.op then Tbl.getD e.states (64 * p + x.1.inherit) (0, 0) else (0, 0)
          | _, _ => (0, 0)
      { e with states := Tbl.put e.states key v, clamp := Tbl.del e.clamp key }) e

/-! ### Sets and inputs -/

/-- The set that engine `k` runs in its actuator's present state (Table CTL-3, R296). -/
def State.setSel (s : State) (k : Nat) : Option Nat :=
  let a := s.act k
  let b := s.coef k
  let some' := fun q => if (setSecs b q).isEmpty then (if q = 2 then 1 else if q = 3 then 0 else q) else q
  let byLen := fun (n : Nat) => if 64 < n then 1 else 2
  if (Tbl.getD s.eng k {}).safe.isSome then some 5
  else
    match s.actSt k with
    | 1 => some (if a.arriving then some' (byLen a.len) else 4)
    | 2 => some 0
    | 3 => some (some' (byLen a.len))
    | 4 => some (some' 3)
    | 5 => some (some' 3)
    | 6 =>
      match a.motion with
      | some m => some (if m.under then 4 else some' (byLen m.track))
      | none => some 4
    | 7 => some 4
    | _ => none

/-- An integer square root by `n` bits, from the highest. -/
def isqrt (x : Nat) : Nat → Nat → Nat
  | 0, r => if (r + 1) * (r + 1) ≤ x then r + 1 else r
  | n + 1, r => isqrt x n (if (r + 2 ^ (n + 1)) * (r + 2 ^ (n + 1)) ≤ x then r + 2 ^ (n + 1) else r)

/-- The seek reference `n` ticks after the seek's start, as velocity and acceleration in node format: the least of the acceleration at ACC,
the cruise at VMAX and the deceleration at DEC to the target (R265, Table CTL-1). The last bit of the deceleration is not stated and free. -/
def Prof.ref (p : Prof) (len n free : Nat) : Nat × Int :=
  let ad := p.acc * p.dec
  let up := 16 * p.acc * n
  let top := 65536 * p.vmax
  let tri := decide (len * ad < 2048 * p.vmax * p.vmax * (p.acc + p.dec))
  let total := if tri then isqrt (2097152 * len * p.dec * (p.acc + p.dec) / max 1 p.acc) 32 0
    else 16 * p.dec * len / max 1 p.vmax + 32768 * p.vmax * p.dec / max 1 p.acc + 32768 * p.vmax
  let down := total + free % 2 - 16 * p.dec * n
  if up ≤ top ∧ up ≤ down then (up, (16 * p.acc : Nat))
  else if top ≤ down then (top, 0)
  else (down, if down = 0 then 0 else -(16 * p.dec : Nat))

/-- The back-EMF that a ramp motion of actuator `k` in state `st` asks for, in mV, inward positive: UL_BEMF inward in a load and outward in an orderly
unload, EMG_BEMF outward in an emergency park (Tables SRV-2 and SRV-8). -/
def State.bemfTarget (s : State) (k st : Nat) : Int :=
  if st = 1 then (s.actLe k 10 2 : Int) else if st = 6 then -(s.actLe k 10 2 : Int) else -(s.actLe k 12 2 : Int)

/-- Volts from mV in node format; the last bit is rounded as the spec leaves open (assumption log 14). -/
def nodeVolts (mv : Int) (free : Nat) : Int := if 65536 * mv % 1000 = 0 then 65536 * mv / 1000 else 65536 * mv / 1000 + (free % 2 : Nat)

/-- Nodes 0 to 8 of the tick (Table CTL-1, R288): from the edge latch, the seek reference, and what the ramp motion and the coil show. -/
def State.inputs (s : State) (k : Nat) (bemf icoil : Int) : List Int :=
  let a := s.act k
  let e := Tbl.getD s.eng k {}
  let stale := s.latch.get SRV_STAT_STALE k 0 == 1
  let est := s.latch.get SRV_POS k 0
  let pos : Int := (bitsOf est 16 24 * 65536 + bitsOf est 0 16 : Nat)
  let st := e.at_
  let ref : Int × Int := if st = 3 then
      let r := (s.prof k a.row).ref a.len (s.clk.edges - a.seekEdge) (s.freeAt 2)
      if e.tgt < a.start then (-(r.1 : Int), -r.2) else (r.1, r.2)
    else (0, 0)
  let ramp := st == 1 || st == 6 || st == 7
  let sat := fun v => (satS 32 v).1
  [if stale then 0 else sat (e.tgt - pos), if stale then 0 else sat (4096 * toSigned 16 (bitsOf est 40 16)), sat ref.1, sat ref.2,
    if ramp then sat (nodeVolts (s.bemfTarget k st - bemf) (s.freeAt 4)) else 0, sat icoil, if e.vcm % 2 = 0 then e.vcm / 2 else e.vcm / 2 + (s.freeAt 3 % 2 : Nat), 2 * e.ma, 65536]

/-- The node file with its inputs loaded. -/
def loadInputs (l : List Int) (nodes : Tbl Int) : Tbl Int := (l.zipIdx).foldl (fun t x => Tbl.put t x.2 x.1) nodes

/-- The output cycle of a run whose result is ready at cycle `ready` (R301, R302), and whether it is delayed. -/
def outCycle (outAt ready : Nat) : Nat × Bool :=
  if outAt = 0 then (max 180 ready, false) else if ready ≤ outAt then (outAt, false) else (ready, true)

/-- Change engine `k`. -/
def State.setEng (s : State) (k : Nat) (f : Eng → Eng) : State := { s with eng := Tbl.put s.eng k (f (Tbl.getD s.eng k {})) }

/-- A run stops (R305): no output, the gate drops, the run counts as unfinished at the next edge. -/
def State.runStop (s : State) (k q cause : Nat) : State :=
  let s := ((s.pk CTL_STAT_STOPC k cause).pk CTL_STAT_SET k q).gateDrop k
  let s := if cause = 2 then s.bumpk CTL_ECC_UNCORR k 1 else s
  s.setEng k fun e => { e with stop := some (cause, q), bad := e.bad || cause == 2, prev := some q }

/-- The flags of a run (R303): VSAT, MSAT, LIM, INT, OVF, their sticky copies and the lowest section. -/
def State.runFlags (s : State) (k : Nat) (r : Run) (vsat msat : Bool) : State :=
  let l := [vsat, msat, r.lim, r.int, r.ovf]
  let s := s.pk CTL_SAT_FLAGS k ((l.zipIdx).foldl (fun m e => m + b2n e.1 * 2 ^ e.2) 0)
  let s := (l.zipIdx).foldl (fun s e => if e.1 then s.hwSet CTL_SAT_STICKY k 0 e.2 else s) s
  let s := (s.pk CTL_SATSEC k (r.sec.getD 0)).pk CTL_SATSEC_VALID k (b2n r.sec.isSome)
  let s := if vsat then s.bumpk CTL_VSATCNT k 1 else s
  s.pk SRV_STAT_MA_CLIP k (b2n msat)

/-- What follows the output cycle: the trace comparison, the trace word and the trace port's sample (R313, R314, R665). -/
def State.afterOutput (s : State) (k : Nat) : State :=
  let shown := (Tbl.getD s.eng k {}).shown
  let n := s.gki TST_TRCCFG_NODE 0 k
  let s := s.traceCompare k shown
  let s := if n = 63 then s else s.tracePush (traceMsg 2 (16384 * k + n) s.now (ofSigned 32 (Tbl.getD shown n 0)))
  s.traceNodes k shown

/-- The run of set `q` completes: outputs, flags, registers (R293, R297, R301, R303). -/
def State.runDone (s : State) (k q : Nat) (x : CtlIn) : State :=
  let b := s.coef k
  let secs := setSecs b q
  let e := Tbl.getD s.eng k {}
  let e := if e.prev = some q then e else enterStates b q e.prev e
  let quiet := q == 1 || q == 4 || q == 5
  let nodes := loadInputs (s.inputs k x.bemf x.icoil) (if quiet then Tbl.put e.nodes 63 0 else e.nodes)
  let r := Run.go q e.clamp { nodes := nodes, states := e.states, clamp := e.clamp } 0 secs
  let v := satS 18 (2 * Tbl.getD r.nodes 62 0)
  let m := if quiet then (0, false) else satS 16 (roundAway (Tbl.getD r.nodes 63 0) 1)
  let oc := outCycle (leAt b (setOff b q + 2) 2) (32 + setCost secs + 4 * x.rereads)
  let s := s.atCycle oc.1
  let s := s.setEng k fun _ => { e with
    nodes := r.nodes, shown := r.nodes, states := r.states, clamp := r.clamp, prev := some q, vcm := v.1, ma := m.1, ran := true }
  let s := ((s.pk CTL_STAT_SET k q).pk CTL_STAT_OUTCYC k oc.1).pk CTL_STAT_DELAYED k (b2n oc.2)
  (s.fresh.runFlags k r v.2 m.2).afterOutput k

/-- One control engine's work in a tick: no set (R298), a run (R287), or a stop for its coefficients or the time (R305). -/
def State.engineRun (s : State) (k : Nat) (x : CtlIn) : State :=
  let s := (s.bumpk CTL_ECC_CORR k x.corrected).bumpk CTL_ECC_REREAD k x.rereads
  match (Tbl.getD s.eng k {}).sel with
  | none =>
    let s := ((s.setEng k fun e => { e with vcm := 0, ma := 0, prev := none }).pk CTL_STAT_SET k 7).slotDone k
    (s.atCycle 181).traceNodes k (Tbl.getD s.eng k {}).nodes
  | some q =>
    let ready := 32 + setCost (setSecs (s.coef k) q) + 4 * x.rereads
    let held := (Tbl.getD s.eng k {}).nodes
    if x.stop = 1 ∨ x.stop = 2 then (((s.atCycle 28).runStop k q x.stop).atCycle 181).traceNodes k held
    else if 420 < ready then ((s.atCycle 420).runStop k q 3).traceNodes k held
    else (s.runDone k q x).slotDone k

/-- CONTROL_RUN (R287): engine `k` runs the set of its actuator's state; a parity error, a word uncorrectable in both copies or a result
later than cycle 420 stops the run (R304, R305). In a state without a set both outputs are 0 (R296). -/
def execControlRun (k : Fin 4) (x : CtlIn) (s : State) : Out :=
  .next (if s.slotOpen k.val && decide (k.val < s.nAct) && (Tbl.getD s.eng k {}).stop.isNone then s.engineRun k x else s)

/-! ### Safe hold -/

/-- The control-engine record: opening with its exit open, closing with both timestamps (R306, R308). -/
def safeRecord (k : Nat) (h : Safe) (exit : Nat) : List (Nat × Nat × Nat) :=
  [(16, 8, h.ts), (24, 8, exit), (32, 1, k), (33, 1, h.cause), (34, 1, h.set)]

/-- Escalation of engine `k` (R310, R311): event 110, a retract; after a cause-2 stop the actuator is out of service and the record closes
at once. -/
def State.escalate (s : State) (k cause : Nat) : State :=
  let e := Tbl.getD s.eng k {}
  let s := match e.safe with
    | some h => s.record (mkClose 0x10 48 (safeRecord k h s.now))
    | none => s
  let s := s.setEng k fun e => { e with safe := none, endHold := false, esc := some { ts := s.now, cause := cause } }
  let s := (s.pk CTL_STAT_SAFE k 0).raise 110
  let loading := s.actSt k == 1 || (s.act k).arriving
  let s := if loading then s else s.setAct k fun a => { a with tries := 0 }
  let s := s.orderMotion k 3 0
  if cause = 0 then (s.withdraw k).escEnd k 1 else s

/-- Safe hold begins for a stop of `cause` in set `q`, and ends a calibration slice (R306, R307, R652). -/
def State.safeEnter (s : State) (k cause q : Nat) : State :=
  let st := s.actSt k
  let h : Safe := { ts := s.now, cause := cause, set := q, seek := st == 3 }
  let s := s.setEng k fun e => { e with
    nodes := e.nodes.filter fun n => decide (n.1 < 9)
    states := e.states.filter fun x => x.1 / 64 != q && x.1 / 64 != 5
    safe := some h, endHold := false }
  let s := s.abandonSlice k
  let s := ((s.pk CTL_STAT_SAFE k 1).bumpk CTL_STAT_SAFECNT k 1).raise 108
  let s := (s.record (mkRec 0x10 48 (safeRecord k h 0xFFFFFFFFFFFFFFFF))).trcSource k 2
  if 2 ≤ st ∧ st ≤ 5 then
    let s := (s.setActSt k 4).gateDrop k
    s.setAct k fun a => { a with tgt := 65536 * (trackOf a.pos : Int), cur := none, chg := false }
  else s.gateDrop k

/-- An overrun of engine `k` at the edge: safe hold, or escalation (R306, R310). -/
def State.engineOverrun (s : State) (k : Nat) : State :=
  let e := Tbl.getD s.eng k {}
  let cq := e.stop.getD (3, e.sel.getD 7)
  let st := s.actSt k
  if e.safe.isSome then (if cq.1 = 2 then s.escalate k 0 else s.escalate k 1)
  else
    let s := s.safeEnter k cq.1 cq.2
    if cq.1 = 2 then s.escalate k 0
    else if s.secLe 0x12 k 4 1 16 < s.gk CTL_STAT_SAFECNT k then s.escalate k 2
    else if st = 1 ∨ st = 6 ∨ st = 7 ∨ (s.act k).arriving then s.escalate k 3
    else s

/-- Safe hold ends (R308): event 109 and the closing record; the actuator seeks from where it stands to its target track. -/
def State.safeExit (s : State) (k : Nat) (h : Safe) : State :=
  let s := (s.setEng k fun e => { e with safe := none, endHold := false }).pk CTL_STAT_SAFE k 0
  (s.raise 109).record (mkClose 0x10 48 (safeRecord k h s.now))

/-- The tick edge at engine `k`: an overrun, a hold that a motion ends (R309), or the count of clean ticks (R308); the entry tick is the
first. -/
def State.engineEdge (s : State) (k : Nat) (ovr : Bool) : State :=
  let e := Tbl.getD s.eng k {}
  let s := if s.clk.tick % 250000 = 0 then s.pk CTL_STAT_SAFECNT k 0 else s
  let bad := ovr || e.stop.isSome
  let s := if bad then s.engineOverrun k
    else match e.safe with
      | none => s
      | some h =>
        if e.endHold then s.safeExit k h
        else
          let n := if e.ran && s.latchPrev.get SRV_STAT_STALE k 0 == 0 then h.clean + 1 else 0
          s.setEng k fun e => { e with safe := some { h with clean := n } }
  s.setEng k fun e => { e with stop := none, ran := false, prev := if e.ran || bad then e.prev else none }

/-- What the edge latches for the tick's run of engine `k`, once its state changes have been made (R287, R296). -/
def State.latchRun (s : State) (k : Nat) : State :=
  s.setEng k fun e => { e with sel := s.setSel k, at_ := s.actSt k, tgt := (s.act k).tgt }

/-- The same for every engine. -/
def State.engineLatch (s : State) : State := s.actList.foldl State.latchRun s

/-- The exit from a safe hold of engine `k`: its closing record, then the seek to the target it held, or on with the seek it interrupted (R308). -/
def State.holdExit (s : State) (k : Nat) (h : Safe) : State :=
  let s := s.safeExit k h
  let a := s.act k
  let q : Seek := { head := s.gk SRV_TGT_HEAD k, track := s.gk SRV_TGT_TRACK k, write := a.forWrite }
  let s := (s.setAct k fun a => { a with seek := some (a.seek.getD q) }).startSeek k (a.seek.getD q)
  if h.seek then s.setAct k fun b => { b with seekEdge := a.seekEdge } else s

/-- SAFE_HOLD_END (R308): SAFE_TICKS consecutive clean ticks; at their edge, so that the tick's run is one of the set that follows. A seek that the hold interrupted keeps its start for T_MAX. -/
def execSafeHoldEnd (k : Fin 4) (s : State) : Out :=
  match (Tbl.getD s.eng k {}).safe with
  | none => .next s
  | some h => .next (if s.running && !(Tbl.getD s.eng k {}).endHold && decide (s.secLe 0x12 k 2 2 25 ≤ h.clean) then (s.holdExit k h).latchRun k else s)

end Sys2Proof.Machine
end

