-- ==== Sys2Proof/Machine/Sections.lean ====
section
/-! DEFINITION. The checks of section bodies against their home chapters: check orders 13 and 15 of Table CHT-5 (R63, R227, R256, R262, R269, R278,
R299, R300, R328, R330, R345, R353, R379, R400, R412, R556, R573, R628 to R630, R658). `c` is the state into which the candidate's sections are
laid. -/

namespace Sys2Proof.Machine

/-! ### Ranges -/

/-- A value lies outside a range. -/
def outside (lo hi v : Nat) : Bool := decide (v < lo) || decide (hi < v)

/-- A field of `b`, given as (offset, bytes, least, greatest), lies outside its range. -/
def fieldsBad (b : List Byte) (base : Nat) (l : List (Nat × Nat × Nat × Nat)) : Bool := l.any fun f => outside f.2.2.1 f.2.2.2 (leAt b (base + f.1) f.2.1)

/-- A signed field lies outside its range. -/
def signedBad (b : List Byte) (o n : Nat) (lo hi : Int) : Bool := decide (leSigned b o n < lo) || decide (hi < leSigned b o n)

/-- A reserved byte of `[o, o + n)` is not 0. -/
def notZero (b : List Byte) (o n : Nat) : Bool := (b.drop o).take n |>.any fun x => x != 0

/-- Strictly rising. -/
def rising : List Int → Bool
  | x :: y :: t => decide (x < y) && rising (y :: t)
  | _ => true

/-! ### Actuators and heads (R262, R269, R278) -/

/-- An actuator's record at `o` (Table SRV-2). -/
def actBad (b : List Byte) (o nHead : Nat) : Bool :=
  fieldsBad b o [(4, 2, 100, 3000), (6, 2, 16, 768), (8, 1, 10, 100), (9, 1, 0, 0), (10, 2, 20, 2000), (12, 2, leAt b (o + 10) 2, 4000), (14, 2, 500, 6000),
    (16, 2, 20, 300), (18, 2, 20, 200), (20, 1, 5, 50), (21, 1, 0, 0), (22, 2, 10, 500)] ||
  notZero b (o + 24) 8 || leAt b o 4 == 0 || decide (2 ^ nHead ≤ leAt b o 4)

/-- Section 0x0010 (R262). -/
def sec10Bad (b : List Byte) : Bool :=
  let na := leAt b 0 1
  let nh := leAt b 1 1
  outside 1 4 na || outside 1 20 nh || outside 1000 16777215 (leAt b 4 4) || notZero b 2 2 || notZero b 8 8 || b.length != 16 + 32 * na + 16 * nh ||
  ((List.range na).any fun k => actBad b (16 + 32 * k) nh) ||
  (List.range nh).any fun h =>
    let o := 16 + 32 * na + 16 * h
    let on := (List.range na).filter fun k => bitAt (leAt b (16 + 32 * k) 4) h
    on != [leAt b (o + 1) 1] || leAt b o 1 != h || decide (1 < leAt b (o + 2) 1) || notZero b (o + 3) 1

/-- Section 0x0011 (R269). -/
def State.sec11Bad (c : State) (b : List Byte) : Bool :=
  let n := leAt b 0 1
  let len := fun i => leAt b (16 + 16 * i) 3
  outside 1 16 n || notZero b 1 15 || b.length != 16 + 16 * n ||
  ((List.range n).any fun i => fieldsBad b (16 + 16 * i) [(0, 3, 2, 16777215), (3, 2, 1, 2000), (5, 2, 1, 8192), (7, 2, 1, 8192), (9, 1, 4, 128), (10, 1, 4, 128),
    (11, 2, 10, 10000), (13, 3, 0, 0)]) ||
  !rising ((List.range n).map fun i => ((len i : Nat) : Int)) || decide (len (n - 1) ≤ c.tracks - 1)

/-- Section 0x0013 (R278). -/
def sec13Bad (b : List Byte) : Bool :=
  b.length != 16 || fieldsBad b 0 [(0, 2, 40, 300), (2, 2, 20, leAt b 0 2 - 1), (4, 1, 4, 64), (5, 1, 0, 1), (6, 1, 1, 8)] || notZero b 8 8

/-! ### Coefficient tables (R299, R300) -/

/-- C values that an operation does not use (Table CTL-2). -/
def unusedC (op : Nat) : List Nat := if op = 1 then [] else if op = 2 then [2, 3, 4] else if op = 3 then [3, 4] else [0, 3, 4]

/-- A section record at `o` of a set `l` is bad. -/
def recordBad (b : List Byte) (o : Nat) (l : List SecRec) : Bool :=
  let x := secRec b o
  let link := leAt b (o + 6) 1
  fieldsBad b o [(0, 1, 1, 4), (1, 1, 9, 63), (2, 1, 0, 63), (3, 1, 0, 63), (4, 1, 0, 2), (5, 1, 0, 63), (7, 1, 0, 0), (28, 4, 0, 0)] ||
  ((unusedC x.op).any fun i => x.c.getD i 0 != 0) ||
  ((x.op == 3 || x.op == 4) && decide (x.c.getD 2 0 < x.c.getD 1 0)) ||
  (if x.op = 3 then link != 0xFF && !((l[link]?).any fun y => y.op == 4) else link != 0xFF)

/-- Set `i` of a table is bad. -/
def setBad (b : List Byte) (i : Nat) : Bool :=
  let o := setOff b i
  let l := setSecs b i
  let outs := l.map (·.out)
  let at' := leAt b (o + 2) 2
  decide (64 < leAt b o 1) || notZero b (o + 1) 1 || notZero b (o + 4) 12 ||
  (at' != 0 && (outside 180 420 at' || decide (at' < 32 + setCost l))) ||
  ([0, 1, 4, 5].contains i && l.isEmpty) || (!l.isEmpty && !outs.contains 62) || ([1, 4, 5].contains i && outs.contains 63) || !outs.Nodup ||
  (List.range l.length).any fun j => recordBad b (o + 16 + 32 * j) l

/-- Section 0x0012 (R299). -/
def sec12Bad (b : List Byte) : Bool :=
  leAt b 0 1 != 6 || notZero b 1 1 || fieldsBad b 0 [(2, 2, 25, 2500), (4, 1, 1, 16)] || notZero b 5 27 || b.length != setOff b 6 || (List.range 6).any (setBad b)

/-! ### The spindle (R227, R256) -/

/-- π to twenty decimals, as a multiple of 10⁻²⁰ (assumption log 25). -/
def pi20 : Nat := 314159265358979323846

/-- The retract budget holds (R256): both of its sides over one denominator, with the speeds in rpm × 10⁵ × KE. -/
def budgetOk (b : List Byte) (nAct : Nat) : Bool :=
  let ke := leAt b 4 2
  let nf := (leAt b 42 2 + 1400) * 1000 * 100000
  let nl := leAt b 0 2 * (100000 - leAt b 8 2) * ke
  let d := 100000 * ke * (30 * 10 ^ 20)
  decide (nf < nl) && decide (leAt b 40 2 * (2 * leAt b 36 2 * pi20 * nf * d + 25 * nAct * leAt b 38 2 * d * d) ≤ (nl - nf) * nf * pi20 * pi20 * leAt b 32 4)

/-- Section 0x0020 (R227, R256). -/
def State.sec20Bad (c : State) (b : List Byte) : Bool :=
  b.length != 64 ||
  fieldsBad b 0 [(0, 2, 5400, 10000), (2, 1, 2, 8), (3, 1, 0, 2), (4, 2, 100, 5000), (6, 2, 5, 500), (8, 2, leAt b 6 2, 2000), (10, 2, 100, 4000), (12, 2, 100, 4000),
    (14, 2, 100, 4000), (16, 2, 20, 1000), (18, 2, 100, 10000), (20, 2, 300, 2000), (22, 1, 32, 224), (23, 1, 8, 64), (24, 2, 10, 600), (26, 2, 10, 600),
    (28, 2, 1, 65535), (32, 4, 100, 100000), (36, 2, 1, 10000), (38, 2, 50, 5000), (40, 2, 10, 500), (42, 2, 2500, 8000), (44, 1, 1, 8), (45, 1, 2, 8),
    (46, 1, 2, 50)] ||
  notZero b 47 17 || decide (255 < leAt b 22 1 + leAt b 23 1) || decide (10000000 ≤ leAt b 4 2 * leAt b 0 2) || !budgetOk b c.nAct

/-! ### Channels (R328, R330, R345) -/

/-- A tap or offset lies outside the chart envelope of a tunable for a channel. -/
def State.envOut (c : State) (id k : Nat) (v : Int) : Bool :=
  let e := c.chartEnv id k
  decide (v < e.1) || decide (e.2.1 < v)

/-- The sideband bytes SB_ADDR, SB_ID and SB_TEMP of head `h` (Table CHN-3). -/
def State.sbBytes (c : State) (h : Nat) : Nat × Nat × Nat := (c.secLe 0x30 h 44 1 0, c.secLe 0x30 h 45 1 0, c.secLe 0x30 h 46 1 0)

/-- Another head of the actuator has other sideband bytes, or one of another actuator has the same address (R318). -/
def State.sidebandBad (c : State) (h : Nat) : Bool :=
  (List.range c.nHead).any fun g =>
    if c.headAct g = c.headAct h then c.sbBytes g != c.sbBytes h else (c.sbBytes g).1 == (c.sbBytes h).1

/-- Section 0x0030, instance `h` (R318, R328, R330). -/
def State.sec30Bad (c : State) (h : Nat) (b : List Byte) : Bool :=
  let k := c.headAct h
  b.length != 192 || leAt b 0 1 != h || notZero b 1 1 || notZero b 15 1 || notZero b 39 1 || notZero b 47 17 ||
  fieldsBad b 0 [(2, 2, 0, 1023), (4, 2, 0, 1023), (6, 2, 0, 1023), (16, 2, 1, 1000), (18, 2, 16, 1023), (20, 2, 16, 1023), (22, 2, 50, 1000), (24, 2, 50, 1000),
    (26, 2, 20, 500), (28, 2, 0, 500), (30, 1, 1, 100), (32, 1, 0, 100), (33, 1, 0, 15), (34, 1, 0, 15), (35, 1, 0, 15), (36, 1, 4, 15),
    (37, 1, 1, leAt b 36 1), (38, 1, 2, 15), (40, 2, 0, 8192), (44, 1, 8, 0x77)] ||
  signedBad b 31 1 (-50) 50 || signedBad b 42 1 (-64) 63 || signedBad b 43 1 (-64) 63 ||
  c.envOut 5 k (leSigned b 42 1) || c.envOut 5 k (leSigned b 43 1) || c.sidebandBad h ||
  (List.range 64).any fun i => signedBad b (64 + 2 * i) 2 (-512) 511 || c.envOut 4 k (leSigned b (64 + 2 * i) 2)

/-- A recovery step at `o` (Tables CHN-4 and CHN-5). -/
def stepBad (b : List Byte) (o : Nat) : Bool :=
  let kind := leAt b o 1
  fieldsBad b o [(0, 1, 1, 5), (1, 1, 4, 60), (2, 1, 0, 2), (6, 2, 0, 0)] ||
  (if kind = 4 then signedBad b (o + 3) 1 (-64) 63 || signedBad b (o + 4) 1 (-100) 100 || signedBad b (o + 5) 1 (-64) 63
    else notZero b (o + 4) 2 || (if kind = 5 then outside 2 8 (leAt b (o + 3) 1) else if kind = 3 then outside 16 48 (leAt b (o + 3) 1) else notZero b (o + 3) 1))

/-- Section 0x0031 (R345). -/
def sec31Bad (b : List Byte) : Bool :=
  let n := leAt b 0 1
  outside 1 32 n || (leAt b 1 1 != 0 && outside 5 200 (leAt b 1 1)) || decide (3 < leAt b 2 1) || notZero b 3 13 || b.length != 16 + 8 * n ||
  (List.range n).any fun i => stepBad b (16 + 8 * i)

/-! ### Media (R353) -/

/-- The map region of head `h` holds what Table MED-8 places in it. -/
def State.mapFits (c : State) (b : List Byte) (h : Nat) : Bool :=
  let n := c.mapBlocks h + sumOf (((List.range c.nHead).filter fun g => c.copyB g == h).map c.mapBlocks)
  decide (n ≤ (leAt b 2 2 - leAt b 4 1) * c.zSpt 0)

/-- Zone `z` of section 0x0040 is bad (Table MED-2, R353). -/
def State.zoneBad (c : State) (b : List Byte) (z : Nat) : Bool :=
  let o := 16 + 16 * z
  fieldsBad b o [(0, 3, 0, c.tracks - 1), (3, 2, 64, 4095), (5, 2, 1000, 7200), (7, 1, 0, 1), (8, 1, 1, 64), (9, 2, 0, leAt b (o + 3) 2 - 1), (11, 1, 0, 63),
    (12, 4, 0, 0)] ||
  decide (c.zEnd z ≤ c.zData z + c.zSpare z) ||
  decide (leAt b (o + 5) 2 * 60000000 * 100000 < (leAt b (o + 3) 2 * 43360 + 2000) * c.secLe 0x20 0 0 2 0 * (100000 + c.secLe 0x20 0 8 2 0))

/-- Section 0x0040 (R353). -/
def State.sec40Bad (c : State) (b : List Byte) : Bool :=
  let n := leAt b 0 1
  outside 1 64 n || outside 16 1024 (leAt b 2 2) || outside 2 64 (leAt b 4 1) || notZero b 1 1 || notZero b 5 11 || b.length != 16 + 16 * n ||
  decide (leAt b 2 2 ≤ leAt b 4 1) || c.zStart 0 != 0 || !rising ((List.range n).map fun z => ((c.zStart z : Nat) : Int)) ||
  !((List.range n).any c.zVerified) || ((List.range n).any (c.zoneBad b)) || !((List.range c.nHead).all (c.mapFits b))

/-- Section 0x0041 (Table MED-5). -/
def sec41Bad (b : List Byte) : Bool :=
  b.length != 16 || fieldsBad b 0 [(0, 1, 0, 2), (1, 1, 0, 1), (2, 1, 1, 16), (3, 1, 0, 1), (4, 2, 0, 4096)] || notZero b 6 10

/-! ### Benches and DRAM (R379, R400) -/

/-- Section 0x0050 (R379). -/
def sec50Bad (b : List Byte) : Bool :=
  let l := (List.range 8).map fun i => leAt b (8 + i) 1
  let own := l.filter (· != 0)
  b.length != 16 || fieldsBad b 0 [(0, 1, 0, 1), (1, 1, 32, 255)] || notZero b 2 6 || (own.any fun x => decide (6 < x)) ||
  (leAt b 0 1 == 0 && !own.isEmpty) || !own.Nodup

/-- Section 0x0051 (R400). -/
def State.sec51Bad (c : State) (b : List Byte) : Bool :=
  let pool := leAt b 4 4
  b.length != 32 || ! [2, 4, 8, 16].contains (leAt b 0 1) || fieldsBad b 0 [(1, 1, 0, 2), (2, 1, 0, 1), (3, 1, 1, 168), (8, 2, 1, 65535), (10, 1, 1, 64)] ||
  notZero b 11 21 || (leAt b 1 1 == 0 && leAt b 2 1 == 0) || decide (pool < 1024) || decide (c.dramUsable < pool + (ceilDiv pool 256 + 128))

/-! ### Functions (R412) -/

/-- Section 0x0060 (R412). -/
def sec60Bad (b : List Byte) : Bool :=
  let nvf := leAt b 0 1
  let o := fun f => 16 + 16 * f
  let en := List.range (nvf + 1)
  let base := fun f => leAt b (o f + 2) 2
  let n := fun f => leAt b (o f + 4) 2
  b.length != 272 || decide (15 < nvf) || outside 1 64 (leAt b 1 1) || decide (2 < leAt b 6 1) || notZero b 7 9 ||
  (en.any fun f => fieldsBad b (o f) [(0, 2, 1, 4095), (2, 2, 0, 255), (4, 2, 1, 256), (6, 2, 1, 32768)] || notZero b (o f + 8) 8 || decide (256 < base f + n f)) ||
  decide (4095 < sumOf (en.map fun f => leAt b (o f) 2)) ||
  (en.any fun f => en.any fun g => decide (f < g) && overlaps (base f) (n f) (base g) (n g)) ||
  (List.range 16).any fun f => decide (nvf < f) && notZero b (o f) 16

/-! ### The fabric, twins and spans (R556, R573) -/

/-- A node ID lies inside a torus (Table FAB-8). -/
def insideTorus (w h id : Nat) : Bool := decide (id < 1024) && decide (id % 32 < w) && decide (id / 32 < h)

/-- Section 0x0070 (R556). -/
def sec70Bad (b : List Byte) : Bool :=
  let w := leAt b 2 1
  let h := leAt b 3 1
  let root := leAt b 6 2
  let en := leAt b 1 1
  b.length != 32 || fieldsBad b 0 [(0, 1, 0, 1), (1, 1, 0, 15), (8, 2, 5, 2000), (10, 1, 0, 1), (12, 2, 1, 65535)] || notZero b 11 1 || notZero b 14 18 ||
  (if leAt b 0 1 = 0 then
    outside 1 32 w || outside 1 32 h || !insideTorus w h (leAt b 4 2) || (root != 0xFFFF && !insideTorus w h root) ||
      (w == 1 && en % 4 != 0) || (h == 1 && en / 4 % 4 != 0)
  else w != 0 || h != 0 || leAt b 4 2 != 0xFFFF || (root != 0xFFFF && decide (1023 < root)))

/-- The span records from offset `o` on, `n` of them, each number above `last`; the end of the section, or none where one is bad (Table TWN-1). -/
def spansEnd (b : List Byte) (inside : Nat → Bool) (o last : Nat) : Nat → Option Nat
  | 0 => some o
  | n + 1 =>
    let l := leAt b (o + 2) 2
    let len := 16 + ceilDiv (2 * l) 16 * 16
    let num := leAt b o 1
    if b.length < o + len ∨ fieldsBad b o [(0, 1, last, 15), (1, 1, 0, 0), (2, 2, 1, 4096), (4, 2, 0, 4096), (6, 2, 0, 0), (8, 8, 1, 2 ^ 39)] = true ∨
        notZero b (o + 16 + 2 * l) (len - 16 - 2 * l) = true ∨ ((List.range l).any fun i => !inside (leAt b (o + 16 + 2 * i) 2)) = true then none
    else spansEnd b inside (o + len) (num + 1) n

/-- Section 0x0071 (R573). -/
def State.sec71Bad (c : State) (b : List Byte) : Bool :=
  let n := leAt b 0 2
  let charted := c.secLe 0x70 0 0 1 1 == 0
  let inside := fun id => if charted then insideTorus (c.secLe 0x70 0 2 1 0) (c.secLe 0x70 0 3 1 0) id else decide (id < 1024)
  let pairs := (List.range n).map fun i => (leAt b (16 + 4 * i) 2, leAt b (18 + 4 * i) 2)
  let ids := pairs.flatMap fun p => [p.1, p.2]
  let o := 16 + ceilDiv (4 * n) 16 * 16
  decide (512 < n) || decide (16 < leAt b 2 1) || notZero b 3 13 || decide (b.length < o) || notZero b (16 + 4 * n) (o - 16 - 4 * n) ||
  (pairs.any fun p => decide (p.2 ≤ p.1)) || (ids.any fun i => !inside i) || !ids.Nodup || !rising (pairs.map fun p => ((p.1 : Nat) : Int)) ||
  spansEnd b inside o 0 (leAt b 2 1) != some b.length

/-! ### The Gazetteer (R628, R629) -/

/-- The instances of a source (Table GAZ-4), none for a code that is no source. -/
def srcInst (src : Nat) : Nat :=
  if src = 8 ∨ (0x11 ≤ src ∧ src ≤ 0x13) then 4 else if src = 9 then 20 else if src = 0x10 then 16 else if (1 ≤ src ∧ src ≤ 0xB) ∨ src = 0x14 then 1 else 0

/-- A histogram record at `o`; PERSIST needs pages of 15 000 000 edges. -/
def histBad (b : List Byte) (o page : Nat) : Bool :=
  let n := leAt b (o + 4) 1
  decide (srcInst (leAt b o 1) ≤ leAt b (o + 2) 2) || decide (1 < leAt b (o + 1) 1) || outside 2 32 n || notZero b (o + 5) 3 ||
  !rising ((List.range (n - 1)).map fun i => leSigned b (o + 8 + 4 * i) 4) || notZero b (o + 8 + 4 * (n - 1)) (136 - 4 * (n - 1)) ||
  (leAt b (o + 1) 1 == 1 && decide (page < 15000000))

/-- An extreme's record at `o`. -/
def extBad (b : List Byte) (o page : Nat) : Bool :=
  decide (srcInst (leAt b o 1) ≤ leAt b (o + 2) 2) || decide (1 < leAt b (o + 1) 1) || notZero b (o + 4) 12 ||
  (leAt b (o + 1) 1 == 1 && decide (page < 15000000))

/-- The list records from offset `o` on; the end of the section, or none where one is bad. -/
def listsEnd (b : List Byte) (o : Nat) : Nat → Option Nat
  | 0 => some o
  | k + 1 =>
    let n := leAt b (o + 2) 1
    let len := ceilDiv (8 + 4 * n) 16 * 16
    if b.length < o + len ∨ fieldsBad b o [(0, 1, 0, 191), (1, 1, 0, 1), (2, 1, 1, 32), (3, 1, 0, 0), (4, 4, 0, 0)] = true ∨
        notZero b (o + 8 + 4 * n) (len - 8 - 4 * n) = true ∨ ((List.range n).any fun i => !isRegister (leAt b (o + 8 + 4 * i) 4)) = true then none
    else listsEnd b (o + len) k

/-- Section 0x0080 (R628). -/
def sec80Bad (b : List Byte) : Bool :=
  let h := leAt b 0 1
  let e := leAt b 1 1
  let page := leAt b 4 4
  let o := 16 + 144 * h
  fieldsBad b 0 [(0, 1, 0, 64), (1, 1, 0, 64), (2, 1, 0, 16), (3, 1, 0, 1), (4, 4, 250000, 0xFFFFFFFF), (8, 1, 1, 64)] || notZero b 9 7 ||
  decide (b.length < o + 16 * e) || ((List.range h).any fun i => histBad b (16 + 144 * i) page) || ((List.range e).any fun i => extBad b (o + 16 * i) page) ||
  listsEnd b (o + 16 * e) (leAt b 2 1) != some b.length

/-- The statistics slot and the snapshot slot hold what the section declares (R629). -/
def State.gazWork (c : State) : Bool :=
  let tick := fun (src : Nat) => decide (src < 0x10)
  let h := countP (fun i => tick (c.histCfg i).1) (List.range c.nHist)
  let e := countP (fun i => tick (c.extCfg i).1) (List.range c.nExt)
  let n := ((c.snapLists.map fun l => l.2.2.2.length).mergeSort fun x y => decide (y ≤ x)).take 4
  decide (800 < 16 + 10 * h + 6 * e) || decide (500 < 4 * sumOf n + 80)

/-! ### Events and tests (R630, R658) -/

/-- Reserved events (Table EVT-1). -/
def reservedEvents : List Nat :=
  [11, 12, 13, 14, 15, 22, 23, 28, 29, 30, 31, 76, 77, 78, 79, 82, 91, 92, 93, 94, 95, 127, 159, 173, 174, 175, 189, 190, 191]

/-- Section 0x0090 (R630). -/
def State.sec90Bad (c : State) (b : List Byte) : Bool :=
  let dst := leAt b 0 2
  let vecN := c.secLe 0x60 0 20 2 0
  b.length != 784 || (dst != 0xFFFF && decide (1023 < dst)) || outside 1 16 (leAt b 2 1) || notZero b 3 13 ||
  (List.range 192).any fun e =>
    let o := 16 + 4 * e
    let vec := leAt b o 1
    let evo := leAt b (o + 1) 1
    let fl := leAt b (o + 2) 1
    if reservedEvents.contains e then leAt b o 4 != 0xFFFF
    else (vec != 0xFF && decide (vecN ≤ vec)) || (evo != 0xFF && decide (15 < evo)) || decide (3 < fl) || notZero b (o + 3) 1 ||
      (bitAt fl 1 && (dst == 0xFFFF || e == 187 || e == 188))

/-- Section 0x00A0 (R658). -/
def secA0Bad (b : List Byte) : Bool :=
  b.length != 16 || fieldsBad b 0 [(0, 2, 0, 8760), (2, 2, 0, 8760), (4, 2, 1, 600), (6, 1, 0, 7), (7, 1, 0, 63)] || notZero b 8 8

/-! ### The checks -/

/-- Check order 15: a section breaks its home chapter's rules; the register image and the envelope table have checks of their own. -/
def State.sectionBad (c : State) (x : Sec) : Bool :=
  let b := x.body
  match x.typ with
  | 0x10 => sec10Bad b
  | 0x11 => c.sec11Bad b
  | 0x12 => sec12Bad b
  | 0x13 => sec13Bad b
  | 0x20 => c.sec20Bad b
  | 0x30 => c.sec30Bad x.inst b
  | 0x31 => sec31Bad b
  | 0x40 => c.sec40Bad b
  | 0x41 => sec41Bad b
  | 0x50 => sec50Bad b
  | 0x51 => c.sec51Bad b
  | 0x60 => sec60Bad b
  | 0x70 => sec70Bad b
  | 0x71 => c.sec71Bad b
  | 0x80 => sec80Bad b
  | 0x90 => c.sec90Bad b
  | 0xA0 => secA0Bad b
  | _ => false

/-- A control set of actuator `k` costs more than its slot allows (R300). -/
def State.setsExceed (c : State) (k : Nat) : Bool :=
  (List.range 6).any fun i => decide ((if i = 5 then 148 else 388) < setCost (setSecs (c.coef k) i))

/-- Check order 13: work longer than its slot at 1.00 GHz (R63): the costs of control sets (R300), the Gazetteer's (R629). -/
def State.workExceeds (c : State) : Bool := ((List.range c.nAct).any c.setsExceed) || c.gazWork

end Sys2Proof.Machine
end

