-- ==== Sys2Proof/Machine/ChartCheck.lean ====
section
/-! DEFINITION. The checks that a chart image must pass (spec/05_chart.md, Tables CHT-2 to CHT-8, R160 to R163, R168, R180;
spec/04_pins.md R125, R127, R131; spec/03_supplies_surveyor.md R116, R122). The candidate's sections and register image are
laid into a scratch state, and the checks read it as every later rule reads the active chart. -/

namespace Sys2Proof.Machine

/-! ### Header and directory -/

/-- The flash descriptor lies in its ranges, so that octal mode may be tried with it (R157, Table CHT-2). -/
def descriptorOk (h : List Byte) : Bool :=
  decide (4 ≤ leAt h 113 1) && decide (leAt h 113 1 ≤ 30) && decide (50 ≤ leAt h 114 1) && decide (leAt h 114 1 ≤ 200) &&
  decide (leAt h 115 1 ≤ 3) && decide (1 ≤ leAt h 120 2) && decide (leAt h 120 2 ≤ 450) && decide (100 ≤ leAt h 122 2) &&
  decide (leAt h 122 2 ≤ 8000) && (leAt h 124 4 == 0 || (decide (1000 ≤ leAt h 124 4) && decide (leAt h 124 4 ≤ 1000000)))

/-- Check order 3: the header's fixed fields, reserved bits and flash descriptor (Table CHT-2). -/
def headerBad (h : List Byte) : Bool :=
  leAt h 0 4 != 0x54435341 || leAt h 4 2 != 1 || leAt h 6 2 != 0x100 || leAt h 36 4 != 0x100 ||
  decide (32 < leAt h 16 1) || leAt h 17 1 != 0 || leAt h 21 3 != 0 || decide (3 < leAt h 24 4) ||
  leAt h 42 2 != 0 || !descriptorOk h ||
  (h.drop 128).take 124 != zeros 124

/-- A directory entry: TYPE, INST, OFFSET, LENGTH, SCRC (Table CHT-3). -/
structure DirEnt where
  typ : Nat
  inst : Nat
  off : Nat
  len : Nat
  crc : Nat
  deriving DecidableEq, Repr

/-- Entry `i` of a directory. -/
def dirEnt (d : List Byte) (i : Nat) : DirEnt :=
  { typ := leAt d (16 * i) 2, inst := leAt d (16 * i + 2) 2, off := leAt d (16 * i + 4) 4, len := leAt d (16 * i + 8) 4,
    crc := leAt d (16 * i + 12) 4 }

/-- Entry `e`, with `l` before it in the directory, breaks R160: it does not rise by TYPE and INST, its section is misplaced, or overlaps an
earlier entry's. -/
def dirEntBad (h : List Byte) (l : List DirEnt) (e : DirEnt) : Bool :=
  e.off % 64 != 0 || e.len == 0 || decide (e.off < 256 + 16 * leAt h 40 2) || decide (leAt h 44 4 < e.off + e.len) ||
  l.any fun a => decide (e.typ * 65536 + e.inst ≤ a.typ * 65536 + a.inst) || overlaps a.off a.len e.off e.len

/-- Check order 7, the lengths (R160). -/
def lengthsBad (h : List Byte) : Bool :=
  let img := leAt h 8 4
  img % 64 != 0 || decide (16777216 < img) || decide (img < 64) || leAt h 44 4 != img - 64 || leAt h 40 2 == 0 || decide (255 < leAt h 40 2)

/-- The first entry of the directory that breaks R160. -/
def dirFail (h : List Byte) (l : List DirEnt) : Option Nat := (findIdxFrom (fun (p : DirEnt × Nat) => dirEntBad h (l.take p.2) p.1) 0 l.zipIdx).map (·.1)

/-- Types with a single instance, and whether each is required (Table CHT-4). -/
def singleTypes : List (Nat × Bool) :=
  [(0x1, false), (0x2, false), (0x10, true), (0x20, true), (0x31, true), (0x40, true), (0x41, false), (0x50, false),
    (0x51, true), (0x60, true), (0x70, false), (0x71, false), (0x80, false), (0x90, false), (0xA0, false)]

/-- A section's TYPE or INST is unknown (Table CHT-4). -/
def State.unknownSec (c : State) (x : Sec) : Bool :=
  if x.typ = 0x11 ∨ x.typ = 0x12 ∨ x.typ = 0x13 then decide (c.nAct ≤ x.inst)
  else if x.typ = 0x30 then decide (c.nHead ≤ x.inst)
  else !(singleTypes.any fun t => t.1 == x.typ) || x.inst != 0

/-- Check order 10: required sections, known types and instances (Table CHT-4). -/
def State.typesBad (c : State) : Bool :=
  (singleTypes.any fun t => t.2 && (c.sec t.1 0).isNone) ||
  ((List.range c.nAct).any fun k => (c.sec 0x12 k).isNone) ||
  ((List.range c.nHead).any fun h => (c.sec 0x30 h).isNone) ||
  c.chart.secs.any c.unknownSec

/-! ### The register image -/

/-- The entries of the register image: (address, value) (R161). -/
def imgEntries (b : List Byte) : List (Nat × Nat) := (List.range (b.length / 8)).map fun i => (leAt b (8 * i) 4, leAt b (8 * i + 4) 4)

/-- The CH fields that the register image may set: those of the CLK, PWR, SVY and PIN blocks (R695). -/
def imageFlds : List Fld := (fldsClk ++ fldsPwr ++ fldsSvy ++ fldsPin).filter fun F => F.acc == .ch

/-- Those that take effect with the chart, and those of the pins, which the pin configuration applies at its edge (R173, R143). -/
def imageNow : List Fld := (fldsClk ++ fldsPwr ++ fldsSvy).filter fun F => F.acc == .ch
def imagePins : List Fld := fldsPin.filter fun F => F.acc == .ch

/-- The members of a field that stand in the register at `addr`: (block copy, member). -/
def Fld.membersAt (F : Fld) (addr : Nat) : List (Nat × Nat) :=
  ((List.range F.bn).map fun k => ((List.range F.n).filter fun i => F.at k i == addr).map fun i => (k, i)).flatten

/-- The bits of the register at `addr` that are CH fields of the image. -/
def chMask (addr : Nat) : Nat :=
  imageFlds.foldl (fun m F => (F.membersAt addr).foldl (fun m ki => m + (2 ^ F.w - 1) * 2 ^ F.bit ki.2) m) 0

/-- The image breaks R161: an address without a CH field, a bit outside CH fields, or an address twice. -/
def imageBad (b : List Byte) : Bool :=
  let l := imgEntries b
  b.length % 8 != 0 || !(l.map (·.1)).Nodup ||
  l.any fun e => chMask e.1 == 0 || Nat.land e.2 (chMask e.1) != e.2

/-- Each entry writes the fields of `l` in its register; a field whose register has no entry keeps its default (R161, R162). -/
def State.applyImage (s : State) (l : List Fld) (b : List Byte) : State :=
  (imgEntries b).foldl (fun s e =>
    l.foldl (fun s F => (F.membersAt e.1).foldl (fun s ki => s.pki F ki.1 ki.2 (bitsOf e.2 (F.bit ki.2) F.w)) s) s) s

/-- The fields of `l` return to their defaults. -/
def State.clearImage (s : State) (l : List Fld) : State :=
  l.foldl (fun s F => (List.range F.bn).foldl (fun s k => (List.range F.n).foldl (fun s i => s.pki F k i F.dflt) s) s) s

/-- A value of the register image that its home chapter declares invalid (R82, R116, R122, R163). -/
def State.imageValueBad (c : State) : Bool :=
  let env := c.chartEnv 1 0
  let out := fun (v : Nat) => decide ((v : Int) < env.1) || decide (env.2.1 < (v : Int))
  let en := (List.range 4).filter fun i => c.gki SVY_BSENS_EN 0 i == 1
  let resv := fun (a : Nat) => decide (a < 8) || decide (0x78 ≤ a)
  outside 30 56 (c.g PWR_CFG_VINWARN) || outside 180 220 (c.g PWR_CFG_VMWARN) ||
  outside 10 200 (c.g SVY_SHKCFG_THR) || outside 4 250 (c.g SVY_SHKCFG_QUIET) || outside 90 108 (c.g SVY_THERM_THROT) ||
  c.g SVY_I2CCFG_BMODE == 3 || c.g SVY_I2CCFG_PMODE == 3 || c.g SVY_I2CCFG_TMODE == 3 || resv (c.g SVY_I2CCFG_TADDR) ||
  !(en.map fun i => c.gki SVY_BSENS_ADDR 0 i).Nodup || (en.any fun i => resv (c.gki SVY_BSENS_ADDR 0 i)) ||
  outside 1400 1700 (c.g SVY_AVSCFG0_F125) || outside 1400 (c.g SVY_AVSCFG0_F125) (c.g SVY_AVSCFG0_F100) ||
  outside 16 120 (c.g SVY_AVSCFG1_M_LO) || outside (c.g SVY_AVSCFG1_M_LO + 4) 160 (c.g SVY_AVSCFG1_M_HI) ||
  outside 5 90 (c.g SVY_AVSCFG1_U_LO) || outside (c.g SVY_AVSCFG1_U_LO + 10) 100 (c.g SVY_AVSCFG1_U_HI) ||
  out (c.g SVY_AVSCFG0_F125) || out (c.g SVY_AVSCFG0_F100)

/-! ### The envelope table -/

/-- An entry of the envelope table is invalid (R180). -/
def State.envEntryBad (c : State) (b : List Byte) (id inst o : Nat) : Bool :=
  match c.tunRow id (if inst = 0xFFFF then 0 else inst) with
  | none => true
  | some r =>
    let lo := tunVal r b (o + 4)
    let hi := tunVal r b (o + 8)
    let init := tunVal r b (o + 12)
    (inst != 0xFFFF && !tunInst id inst) ||
    match r.kind with
    | .range =>
      if id = 0x9 then
        let l := if lo = 0xFFFFFFFF then r.lo else lo
        let h := if hi = 0xFFFFFFFF then r.hi else hi
        decide (h < l) || decide (r.hwHi < h) || init != 0xFFFFFFFF
      else decide (hi < lo) || decide (lo < r.hwLo) || decide (r.hwHi < hi) || decide (init < lo) || decide (hi < init)
    | .subset =>
      let set := if id = 0x2 then r.hi else hi
      lo != 0 || (id == 0x2 && hi != 0) || decide (r.hwHi < hi) || set == 0 || init == 0 || setAnd set init != init
    | .bits => lo != 0 || hi != 0 || decide (65535 < init)

/-- Check order 12: the envelope table (R180). -/
def State.envBad (c : State) : Bool :=
  match c.sec 0x2 0 with
  | none => false
  | some b =>
    let l := envEntries b
    b.length % 16 != 0 || !(l.map fun e => (e.1, e.2.1)).Nodup || l.any fun e => c.envEntryBad b e.1 e.2.1 e.2.2

/-! ### Pins -/

/-- Does pin `p` (0 to 63) have an alternate function (Table PIN-4). -/
def hasAlternate (p : Nat) : Bool :=
  decide (p < 8) || (decide (16 ≤ p) && decide (p ≤ 25)) || p == 32 || p == 33 || (decide (40 ≤ p) && decide (p ≤ 43))

/-- Check order 14: the pin rules R125, R127 and R131, and the reserved EXTINT modes. -/
def State.pinsBad (c : State) : Bool :=
  ((List.range 64).any fun p =>
    let f := c.gki PIN_FUNC 0 p
    let ie := bitAt (c.gki PIN_PAD 0 p) 6
    let oe := bitAt (c.gki PIN_OUT_OE 0 (p / 16)) (p % 16)
    decide (3 < f) || (f == 3 && !hasAlternate p) || (f == 1 && !ie) || (f == 0 && !oe && !ie) ||
    bitAt (c.gki PIN_PAD 0 p) 7 || (f == 1 && c.gki PIN_EXTSEL_PORT 0 (p % 16) != p / 16)) ||
  (List.range 16).any fun n =>
    let m := c.gki PIN_EXTCFG_MODE 0 n
    decide (5 < m) || (m != 0 && c.gki PIN_FUNC 0 (16 * c.gki PIN_EXTSEL_PORT 0 n + n) != 1)

/-! ### The whole check -/

/-- The sections of an image in its slot, as the directory lists them. -/
def State.slotSections (s : State) (base : Nat) (l : List DirEnt) : List Sec :=
  l.map fun e => { typ := e.typ, inst := e.inst, body := Memory.read 0xFF s.flash (base + e.off) e.len }

/-- The place of the first element that passes a test, 0xFF for none. -/
def idxOr {α : Type} (p : α → Bool) (l : List α) : Nat := match findIdxFrom p 0 l with
  | some (i, _) => i
  | none => 0xFF

/-- The section whose declared work alone exceeds its slot: the coefficients of an actuator (R300), or the Gazetteer's (R629). -/
def State.workSec (c : State) (x : Sec) : Bool := (x.typ == 0x12 && c.setsExceed x.inst) || (x.typ == 0x80 && c.gazWork)

/-- The scratch state in which a candidate's header, sections and register image stand. -/
def State.scratch (s : State) (h : List Byte) (secs : List Sec) : State :=
  let c : State := { s with chart := { s.chart with hdr := h, secs := secs, host := [] } }
  (c.clearImage imageFlds).applyImage imageFlds ((c.sec 0x1 0).getD [])

/-- Checks 3 to 15 of Table CHT-5 in their order, on the image whose header is `h` and whose other bytes lie in the slot at
`base`: the reject code, 0 for a pass, and the directory index of the failing section (R168, R169). -/
def State.checkImage (s : State) (h : List Byte) (base : Nat) : Nat × Nat :=
  let raw := fun (o n : Nat) => if o + n ≤ 256 then (h.drop o).take n
    else if o < 256 then h.drop o ++ Memory.read 0xFF s.flash (base + 256) (o + n - 256) else Memory.read 0xFF s.flash (base + o) n
  if headerBad h then (0x02, 0xFF)
  else if leAt h 18 2 != 0x9440 || decide (Config.stepping < leAt h 20 1) then (0x03, 0xFF)
  else
    let key := (h.drop 48).take 32
    let hash := (List.range 8).flatMap fun i => leBytes (s.gki CHT_KEYHASH 0 i) 4
    let unprog := hash == zeros 32
    let dev := unprog && s.on TST_FUSE_DEV
    if !dev && (unprog || sha256 key != hash) then (0x04, 0xFF)
    else if leAt h 16 1 < s.g CHT_EPOCH_FUSED then (0x05, 0xFF)
    else
      let n := leAt h 40 2
      let d := raw 256 (16 * n)
      let dir := (List.range n).map (dirEnt d)
      if lengthsBad h then (0x06, 0xFF)
      else if (dirFail h dir).isSome then (0x06, (dirFail h dir).getD 0xFF)
      else
        let secs := s.slotSections base dir
        let crcBad := fun (p : DirEnt × Sec) => crc32c p.2.body != p.1.crc
        if (dir.zip secs).any crcBad then (0x07, idxOr crcBad (dir.zip secs))
        else
          let sig := leAt h 44 4
          if !ed25519 key (raw 0 sig) (raw sig 64) then (0x08, 0xFF)
          else
            let c := s.scratch h secs
            let img := (c.sec 0x1 0).getD []
            if c.typesBad then (0x09, idxOr c.unknownSec secs)
            else if imageBad img || c.imageValueBad then (0x0A, idxOr (fun x => x.typ == 0x1) secs)
            else if c.envBad then (0x0B, idxOr (fun x => x.typ == 0x2) secs)
            else if c.workExceeds then (0x0C, idxOr c.workSec secs)
            else if c.pinsBad then (0x0D, idxOr (fun x => x.typ == 0x1) secs)
            else if secs.any c.sectionBad then (0x0E, idxOr c.sectionBad secs)
            else (0, 0xFF)

end Sys2Proof.Machine
end

