-- ==== Sys2Proof/Machine/Apply.lean ====
section
/-! DEFINITION. What the application of a chart sets beyond the register image: the chart fields that sections fill, and what the heads, the lanes and
the node take from them (spec/05_chart.md R162, R173; the register tables of the home chapters). -/

namespace Sys2Proof.Machine

/-- `n` bytes at offset `o` of head `h`'s section (Table CHN-3). -/
def State.hdLe (s : State) (h o n : Nat) : Nat := s.secLe 0x30 h o n 0

/-- A signed field of head `h`'s section. -/
def State.hdSg (s : State) (h o n : Nat) : Int := toSigned (8 * n) (s.hdLe h o n)

/-- The context that section 0x0030 gives a head at reset. -/
def State.headInit (s : State) (h : Nat) : HeadCtx :=
  { tapsL := (List.range 32).map fun i => s.hdSg h (64 + 2 * i) 2
    tapsT := (List.range 32).map fun i => s.hdSg h (128 + 2 * i) 2
    ofsL := s.hdSg h 42 1, ofsT := s.hdSg h 43 1 }

/-- Benches, functions, the Gazetteer, event parcels, the fabric and traces: CH fields and what follows them (Tables BEN-6, MQP-9, GAZ-7, EVT-5, FAB-9,
CTL-10). -/
def State.applyFields (s : State) : State :=
  let s := (s.p BEN_CFG_MODE (s.secLe 0x50 0 0 1 0)).p BEN_CFG_STALL_MAX (s.secLe 0x50 0 1 1 32)
  let s := (List.range 8).foldl (fun (s : State) i => s.pki BEN_OWN 0 i (s.secLe 0x50 0 (8 + i) 1 0)) s
  let s := ((List.range 16).filter fun f => f ≤ s.secLe 0x60 0 0 1 0).foldl (fun (s : State) f =>
    ((s.pk MQP_CAP_QMAX f (s.secLe 0x60 0 (16 + 16 * f) 2 0)).pk MQP_CAP_VECN f (s.secLe 0x60 0 (20 + 16 * f) 2 0)).pk MQP_INFL_CAP f
      (s.secLe 0x60 0 (22 + 16 * f) 2 0 - 1)) s
  let s := (s.p GAZ_STAT_PDIS (s.secLe 0x80 0 3 1 0 % 2)).p GAZ_STAT_SOLID (b2n (s.solidOf 5).isSome)
  let s := (s.p EVT_FABCFG_DST (s.secLe 0x90 0 0 2 0xFFFF % 1024)).p EVT_FABCFG_MAX (s.secLe 0x90 0 2 1 4)
  let s := (s.p FAB_CFG_MODE (s.secLe 0x70 0 0 1 1)).p FAB_CFG_PORT_EN (s.secLe 0x70 0 1 1 15)
  (List.range 4).foldl (fun (s : State) k => s.pk CTL_TRCSTAT_NOBENCH k (b2n (s.trcBench k).isNone)) s

/-- The lanes' settings begin at INIT of tunables 0x0006 and 0x0007 (FAB_LANEn). -/
def State.applyLanes (s : State) : State :=
  (List.range 24).foldl (fun (s : State) n =>
    (s.pki FAB_LANE_CTLE 0 n (s.chartEnv 6 n).2.2.toNat).pki FAB_LANE_DFE 0 n (s.chartEnv 7 n).2.2.toNat) s

/-- The sections of the chart are applied; in charted mode the node knows its ID and its torus. -/
def State.applySections (s : State) : State :=
  let s := s.applyFields.applyLanes
  let s : State := { s with heads := (List.range s.nHead).map fun h => (h, s.headInit h) }
  let s := (List.range s.nHead).foldl (fun (s : State) h => s.pk CHN_FH_HTR h (s.tunInit 3 h).toNat) s
  if s.g FAB_CFG_MODE = 0 then s.nodeKnown (s.secLe 0x70 0 4 2 0x3FF) (s.secLe 0x70 0 2 1 0) (s.secLe 0x70 0 3 1 0) else s

end Sys2Proof.Machine
end

