-- ==== Sys2Proof/Machine/Chart.lean ====
section
/-! DEFINITION. The chart stage of start-up and the flash commands (spec/05_chart.md; spec/06_power_to_ready.md R201, R202,
R215 to R219; spec/18_gazetteer.md R612, R613). -/

namespace Sys2Proof.Machine

/-! ### The scans of the chart stage -/

/-- The mark journal (R177): the current mark sector, the last GEN, the half-erased sectors, each of which raises event 67
and writes a half-erase record (R178); then the wear table, brought up to date by later completion entries (R189). -/
def State.markScan (s : State) : State :=
  let a := s.markList 0 0 4096
  let b := s.markList 1 0 4096
  let gen := fun (l : List (Nat × Nat × Nat × Nat × Nat)) => maxOf (l.map (·.2.2.1))
  let cur := if gen a.2 < gen b.2 then 1 else 0
  let all := a.2 ++ b.2
  let half := halfErased all
  let s : State := { s with chart := { s.chart with half := half } }
  let w := match s.checkpointGen 0, s.checkpointGen 1 with
    | some x, some y => if x < y then (y, s.checkpointWear 1) else (x, s.checkpointWear 0)
    | some x, none => (x, s.checkpointWear 0)
    | none, some y => (y, s.checkpointWear 1)
    | none, none => (0, [])
  let wear := (all.filter fun e => e.1 == 0x43 && decide (w.1 < e.2.2.1)).foldl (fun t e =>
    let o := Tbl.getD t e.2.1 {}
    let first := if o.first = 0 then e.2.2.2.2 else o.first
    let slow := decide (2 * first < e.2.2.2.2) && o.state == 0
    Tbl.put t e.2.1 { o with erases := e.2.2.2.1, first := first, last := e.2.2.2.2, state := if slow then 1 else o.state }) w.2
  let s : State := { s with chart := { s.chart with
    wear := wear, markCur := cur, markCnt := (if cur = 1 then b.1 else a.1), markGen := gen all } }
  let s := s.p CHT_WEAR_SPARES (8 - countP (fun e => e.2.state == 3) wear)
  let s := s.p CHT_WEAR_SLOW (countP (fun e => e.2.state == 1) wear)
  let s := s.p CHT_WEAR_SEALED (b2n s.chart.sealed)
  let s := s.p GAZ_STAT_SEALED (b2n s.chart.sealed)
  half.foldl (fun s n => (s.record (mkRec 0x07 32 [(16, 8, s.now), (24, 2, n)])).raise 67) s

/-- A sector of chart slot `i` is half-erased. -/
def State.slotHalf (s : State) (i : Nat) : Bool := s.chart.half.any fun n => n / 256 == i && decide (n < 512)

/-- The reject code of slot `i` is stored. -/
def State.putRej (s : State) (i code : Nat) : State := s.p (if i = 0 then CHT_STAT_REJ_A else CHT_STAT_REJ_B) code

/-- A failed slot: its code, the chart-rejection record and event 64 (R169). -/
def State.rejectSlot (s : State) (i code dir : Nat) : State :=
  let seq := if code = 0x01 ∨ code = 0x0F then 0 else leAt (s.slotHeader i) 12 4
  let s := s.putRej i code
  (s.record (mkRec 0x06 48 [(16, 8, s.now), (24, 1, i), (25, 1, code), (26, 1, dir), (32, 4, seq)])).raise 64

/-- The flash link runs 8D-8D-8D or 1S-1S-1S, at `mhz`. -/
def State.setLink (s : State) (octal : Bool) (mhz : Nat) : State := { s with chart := { s.chart with octal := octal, mhz := mhz } }

/-- The link mode for the checks of slot `i`: octal at the frequency of its descriptor, in which the header is read again, unless the session has
fallen back to 1S-1S-1S at 50 MHz, which it does when that read differs, the strap says so or the descriptor's OCT_EN is 0; a descriptor out of
range changes nothing (R157). -/
def State.goOctal (s : State) (i : Nat) (differs : Bool) : State :=
  let h := s.slotHeader i
  if s.on CHT_STAT_XSPI_1 || !descriptorOk h then s
  else if s.on PIN_STRAP_XSPI1 || !bitAt (leAt h 115 1) 0 then (s.p CHT_STAT_XSPI_1 1).setLink false 50
  else
    let s := (s.setLink true (leAt h 114 1)).xspi (leAt h 112 1) (0x1000000 * i) 256
    if differs then (s.p CHT_STAT_XSPI_1 1).setLink false 50 else s

/-- Check the candidates in order until one passes; `n` counts those tried (R168, R171). -/
def State.trySlots (s : State) (differs : List Bool) : List Nat → Nat → State
  | [], _ => s.p CHT_STAT_ACTIVE 3
  | i :: t, n =>
    let s := s.goOctal i (differs.getD i false)
    let h := s.slotHeader i
    let r := s.checkImage h (0x1000000 * i)
    if r.1 = 0 then
      let dir := (List.range (leAt h 40 2)).map (dirEnt (Memory.read 0xFF s.flash (0x1000000 * i + 256) (16 * leAt h 40 2)))
      let s := (s.putRej i 0).p CHT_STAT_ACTIVE i
      let s := s.p CHT_SEQ (leAt h 12 4)
      let s : State := { s with chart := { s.chart with hdr := h, secs := s.slotSections (0x1000000 * i) dir } }
      if 0 < n then (s.p CHT_STAT_FELLBACK 1).raise 65 else s
    else State.trySlots (s.rejectSlot i r.1 r.2) differs t (n + 1)

/-- Slot selection (spec/05_chart.md, Slot selection): both headers are read in 1S-1S-1S at 25 MHz (R156); a half-erased slot and a header whose CRC fails are no candidates; the
others are checked in order of SEQ, A before B on equal SEQ. -/
def State.selectSlot (s : State) (differs : List Bool) : State :=
  let s := [0, 1].foldl (fun s i => s.xspi 0x13 (0x1000000 * i) 256) s
  let cand := [0, 1].filter fun i => !s.slotHalf i && hdrCrcOk (s.slotHeader i)
  let s := [0, 1].foldl (fun s i =>
    if s.slotHalf i then s.rejectSlot i 0x0F 0xFF
    else if hdrCrcOk (s.slotHeader i) then s else s.rejectSlot i 0x01 0xFF) s
  let seq := fun i => leAt (s.slotHeader i) 12 4
  let order := if cand = [0, 1] ∧ seq 0 < seq 1 then [1, 0] else cand
  s.trySlots differs order 0

/-- The class of journal slot `i` (R215). -/
def State.jclass (s : State) (i : Nat) : JSlot :=
  let a := 0x2040000 + 4096 * i
  if s.isHalf (516 + i / 16) then .ignored
  else
    let b := s.flashRead a 4096
    if b.all (· == 0xFF) then .preErased
    else if leAt b 0 4 = 0 then .consumed
    else if leAt b 0 4 = 0x314A5341 ∧ leAt b 4 4 = 0 ∧ leAt b 60 4 = crc32c (b.drop 64) then .complete
    else .incomplete

/-- Is journal `x` newer than journal `y`: bit `y` of its PRIOR is set (R216). -/
def State.jnewer (s : State) (x y : Nat) : Bool := bitAt (leAt (s.flashRead (0x2040000 + 4096 * x) 64) 24 8) y

/-- Place a journal among others, newest first. -/
def insertJournal (newer : Nat → Nat → Bool) (x : Nat) : List Nat → List Nat
  | [] => [x]
  | y :: t => if newer x y then x :: y :: t else y :: insertJournal newer x t

/-- The power-loss journal at boot: the slots' classes, the groups presented newest first, SYS_BOOT.JNL with event 3 or 4, and
PWR_STATE.JNL_RDY (R215 to R217). -/
def State.journalScan (s : State) : State :=
  let cls := (List.range 64).map fun i => (i, s.jclass i)
  let complete := (cls.filter fun c => c.2 == .complete).map (·.1)
  let groups := complete.foldl (fun l x => insertJournal s.jnewer x l) []
  let s : State := { s with chart := { s.chart with
    jslots := cls, groups := groups, gbytes := groups.map fun i => s.flashRead (0x2040000 + 4096 * i) 4096, prior := complete.foldl (fun m i => m + 2 ^ i) 0 } }
  let s := s.journalReady
  let cause := s.g SVY_RSTCAUSE_CAUSE
  if !complete.isEmpty then (s.p SYS_BOOT_JNL 1).raise 3
  else if (cls.any fun c => c.2 == .incomplete) || [1, 2, 3, 4, 5, 7].contains cause then (s.p SYS_BOOT_JNL 2).raise 4
  else s.p SYS_BOOT_JNL 0

/-- A sector header of the persistent area is valid (Table GAZ-3). -/
def gazHeaderOk (h : List Byte) : Bool :=
  leAt h 0 1 == 0 && leAt h 4 4 == 0x5A475341 && leAt h 60 4 == crc32c ((h.drop 1).take 59)

/-- A record passes R605. -/
def recordOk (b : List Byte) : Bool :=
  let n := leAt b 2 2
  leAt b 0 1 == 0 && leAt b 14 2 == crc16 ((b.drop 1).take 13) && decide (16 ≤ n) && decide (n ≤ 512) &&
    (decide (n < 32) || leAt b (n - 4) 4 == crc32c ((b.drop 1).take (n - 5)))

/-- What the walk finds at offset `o` of the write sector: the end (erased or no room), a record with its length and, when it
is valid, its stamps, or a damaged header (R612). -/
inductive WalkStep where
  | fin
  | item (len : Nat) (stamps : Option (Nat × Nat))
  | bad
  deriving DecidableEq, Repr

/-- One step of the walk over the bytes from the offset on. -/
def walkStep (b : List Byte) : WalkStep :=
  if b.take 16 = List.replicate 16 0xFF then .fin
  else if leAt b 14 2 = crc16 ((b.drop 1).take 13) ∧ 32 ≤ leAt b 2 2 ∧ leAt b 2 2 ≤ 512 then
    .item (leAt b 2 2) (if recordOk b then some (leAt b 4 5, leAt b 9 3) else none)
  else .bad

/-- One step of the walk at offset `o` of the write sector. -/
def State.walkAt (s : State) (base o : Nat) : WalkStep :=
  if 65536 ≤ o then .fin else walkStep ((s.flashRead (base + o) 512).take (65536 - o))

/-- Walk the records of the write sector from offset `o`: the stamps of the last valid one, and whether a damaged header
stopped the walk (R612). -/
def State.gazWalk (s : State) (base o : Nat) (last : Nat × Nat) : Nat → (Nat × Nat) × Bool
  | 0 => (last, false)
  | n + 1 =>
    match s.walkAt base o with
    | .fin => (last, false)
    | .bad => (last, true)
    | .item len st => State.gazWalk s base (o + len) (st.getD last) n

/-- The sector that the scan makes the write sector, with the result of its walk: append point and stamps (R612, R613). -/
def State.gazAdopt (s : State) (i sgen : Nat) (w : (Nat × Nat) × Bool) : State :=
  let phys := s.physSector (gazSector i) * 65536
  let used := s.flash.filter fun (e : Host.Cell) => decide (phys ≤ e.1) && decide (e.1 < phys + 65536)
  let top := maxOf (used.map fun (e : Host.Cell) => e.1 - phys)
  let s : State := { s with gaz := { s.gaz with inUse := true, append := max 64 (ceilDiv (top + 1) 16 * 16) } }
  let s := s.p GAZ_PSECT i
  let s := s.p GAZ_SGEN sgen
  let s := s.p GAZ_STAMP_OPSEC w.1.1
  let s := s.p GAZ_STAMP_PCYCLE w.1.2
  if w.2 then s.raise 10 else s

/-- The sector headers of the area that are not half-erased, as (area index, header). -/
def State.gazHeaders (s : State) : List (Nat × List Byte) :=
  ((List.range 496).filter fun i => !s.isHalf (gazSector i)).map fun i => (i, s.flashRead (gazSector i * 65536) 64)

/-- The header with the highest SGEN. -/
def bestHeader (l : List (Nat × List Byte)) : Option (Nat × List Byte) :=
  l.foldl (fun (m : Option (Nat × List Byte)) h => match m with
    | none => some h
    | some x => if leAt x.2 8 4 < leAt h.2 8 4 then some h else some x) none

/-- The write sector is the one with the highest valid SGEN, and its records are walked (R612). -/
def State.gazPick (s : State) (hs : List (Nat × List Byte)) : State :=
  match bestHeader (hs.filter fun h => gazHeaderOk h.2) with
  | none => s
  | some h => s.gazAdopt h.1 (leAt h.2 8 4) (s.gazWalk (gazSector h.1 * 65536) 64 (leAt h.2 12 5, leAt h.2 17 3) s.flash.length)

/-- The sector taken into use next is erased already, or its erase is asked for (R617). -/
def State.gazPrepare (s : State) : State :=
  let n := gazSector s.gazNext
  if s.isHalf n || s.flash.any fun (e : Host.Cell) => e.1 / 65536 == s.physSector n then s.gazEraseNext
  else { s with gaz := { s.gaz with nextReady := true } }

/-- PCYCLE increments at a cold start and PREADY shows the end of the scan (R613, Table GAZ-7). -/
def State.gazStamps (s : State) : State :=
  let s := if s.g SVY_RSTCAUSE_CAUSE = 0 then s.bump GAZ_STAMP_PCYCLE 1 else s
  let s := s.p GAZ_STAT_PREADY 1
  { s with gaz := { s.gaz with edges := 0, accepted := 0 } }

/-- The boot scan of the persistent area: write sector, append point, OPSEC and PCYCLE, event 10 for damage (R612, R613). -/
def State.gazScan (s : State) : State :=
  let hs := s.gazHeaders
  let damaged := hs.any fun h => !gazHeaderOk h.2 && h.2.any (· != 0xFF)
  let s := s.gazPick hs
  let s := if damaged then s.raise 10 else s
  s.gazStamps.gazPrepare

/-! ### Application -/

/-- The pre-chart buffer moves to the ring in the order in which its records were made; a Dropped record of kind 0 follows
where some were lost (R609). -/
def State.movePreChart (s : State) : State :=
  let pre := s.gaz.pre
  let lost := s.gaz.preLost
  let s : State := { s with gaz := { s.gaz with pre := [], preLost := 0 } }
  let s := pre.foldl (fun s r => s.ringOrHold r) s
  if lost = 0 then s else s.dropRecord 0 lost

/-- The fabric branch ends alone (Table SYS-12): FAB 6 and event 7; FAB_DISC.STATE shows 6 unless discovery failed. -/
def State.fabAlone (s : State) : State :=
  let s := if s.g FAB_DISC_STATE = 7 then s else s.p FAB_DISC_STATE 6
  (s.p SYS_BOOT_FAB 6).raise 7

/-- A span that the chart does not declare loses its key verifier (R510). -/
def State.forgetKver (s : State) : State :=
  s.setMed fun m => { m with vols := m.vols.map fun v => if 64 ≤ v.1 ∧ (s.spanRec (v.1 - 64)).isNone then (v.1, { v.2 with kver := none }) else v }

/-- The chart is applied (R173, R201 step 5): the register image, the sections in TYPE order, TN fields at INIT, the comparator
levels kept in the always-on domain (R84), the pre-chart records; the three branches begin. -/
def State.applyChart (s : State) : State :=
  let s := (s.clearImage imageNow).applyImage imageNow ((s.sec 0x1 0).getD [])
  let s := s.applySections
  let s := (s.p SVY_AVS_VCORE (s.tunInit 1 0).toNat).showTunables
  let s : State := { s with
    chart := { s.chart with applied := true },
    pwr := { s.pwr with vinWarn := s.g PWR_CFG_VINWARN, vmWarn := s.g PWR_CFG_VMWARN, pfEn := s.on PWR_CFG_PF_EN },
    boot := { s.boot with vmRun := 0 },
    evt := { s.evt with early := (List.range 192).filter s.evtPend }
    gaz := { s.gaz with pageStart := s.now, pageEdges := 0 } }
  let s := s.movePreChart.forgetKver
  let s := s.p SYS_BOOT_STAGE 3
  let s := ((s.p SYS_BOOT_DRAM 1).p DRM_STAT_STATE 1).stageBegin 0
  let s := (s.p SYS_BOOT_MEDIA 1).stageBegin 1
  if s.g FAB_CFG_PORT_EN = 0 then s.fabAlone else ((s.p SYS_BOOT_FAB 1).p FAB_DISC_STATE 1).stageBegin 2

/-- Chart-absent mode (R174). -/
def State.chartAbsent (s : State) : State :=
  let s := s.p CHT_STAT_ABSENT 1
  let s := s.p SYS_BOOT_STAGE 0xF
  s.raise 66

/-- The scans of the chart stage, in their order: mark journal and wear table, slots, power-loss journals, the Gazetteer's area (R201). -/
def State.chartScan (s : State) (differs : List Bool) : State :=
  let s := s.markScan
  let s := s.selectSlot differs
  let s := s.journalScan
  let s := s.gazScan
  s.stageEndAt 2

/-- CHART_STAGE (R201): the scans, slot selection, the journal and Gazetteer scans, and application or chart-absent mode.
`differs` says for slots A and B whether the octal header read differs from the 1S-1S-1S read (R157). -/
def execChartStage (differs : List Bool) (s : State) : Out :=
  if s.g SYS_BOOT_STAGE = 2 ∧ s.pwr.inReset = none then
    .next (if (s.chartScan differs).g CHT_STAT_ACTIVE = 3 then (s.chartScan differs).chartAbsent else (s.chartScan differs).applyChart)
  else .next s

/-! ### Flash operations -/

/-- The session of an update closes after a failure in a chart slot (R185): status 0x0520 and event 75. -/
def State.updateFail (s : State) : State :=
  let s : State := { s with chart := { s.chart with jobs := s.chart.jobs.filter fun j => j.why != .chart && j.why != .commit } }
  let s := (s.p CHT_UPD_STATE 0).raise 75
  match s.chart.cmd with
  | some c => ({ s with chart := { s.chart with cmd := none } } : State).complete c 0x0520
  | none => s

/-- The Chart Write or Chart Commit whose last operation was `j` completes (R185, R187). -/
def State.updateDone (s : State) (j : FlashJob) : State :=
  if s.chart.jobs.any fun k => k.why == j.why then s
  else
    match s.chart.cmd with
    | none => s
    | some c =>
      let s : State := { s with chart := { s.chart with cmd := none } }
      let s := s.complete c 0
      if j.why = .commit then ((s.p CHT_STAT_PEND (j.addr / 0x1000000 + 1)).p CHT_UPD_STATE 3).raise 68 else s

/-- The mark sector after the switch gets its head entry (R179, step 4). -/
def State.askHead (s : State) : State :=
  let i := 1 - s.chart.markCur
  s.flashAsk { prio := 2, erase := false, addr := markSector i * 65536, bytes := s.markBytes 0x48 (markSector i) 0 0, why := .head }

/-- What follows the erase of sector `n`, by its purpose; `ok` says that the sector, or a spare for it, is erased. -/
def State.afterErase (s : State) (j : FlashJob) (ok : Bool) : State :=
  let n := j.addr / 65536
  match j.why with
  | .gaz => if ok then { s with gaz := { s.gaz with nextReady := true } } else s
  | .journal => s.journalErased (n - 516) ok
  | .half => if 516 ≤ n ∧ n < 520 then s.journalErased (n - 516) ok else s
  | .switchWear => if ok then
      s.flashAsk { prio := 4, erase := false, addr := n * 65536, bytes := s.wearImage, valid := some (n * 65536 + 12, zeros 4), why := .checkpoint } else s
  | .switchMark => if ok then s.askHead else s
  | .chart => s.updateDone j
  | _ => s

/-- The flash is free: the next operation begins. -/
def State.flashFree (s : State) : State := ({ s with chart := { s.chart with busy := none } } : State).flashKick.markSwitch

/-- The erase `j` of a sector is complete with its marks: its wear is counted where the sector stands, and the limit rule applies (R190, R192). -/
def State.eraseDone (s : State) (j : FlashJob) : State :=
  let n := j.addr / 65536
  let p := s.physSector n
  let s : State := { s with chart := { s.chart with half := s.chart.half.filter (· != p), busy := none } }
  let s := s.wearErase p (min j.etime 65535)
  let r := if (s.wearOf p).erases < s.eraseLimit then (true, s)
    else if isChartSector n then (true, s.raise 72) else s.retire n 2
  (r.2.afterErase j (r.1 || p == n)).flashFree

/-- The intent entry of erase `j` has read back: the sector counts as half-erased until its completion entry, and the erase begins (R175, R177). A
power loss leaves it there (R97). -/
def State.eraseGo (s : State) (j : FlashJob) : State :=
  let p := s.physSector (j.addr / 65536)
  let s := s.mark 0x49 p 0 0
  let s : State := { s with chart := { s.chart with half := p :: s.chart.half.filter (· != p) } }
  if s.pwr.loss.isSome then s.flashFree
  else ({ s with chart := { s.chart with busy := some { j with phase := 2 } } } : State).xspi (s.flashOp 117) (p * 65536) 0

/-- A mark entry of erase `j` has been programmed, `ok` if it read back; where it did not, the mark sector is retired and the entry stands on its
spare (R175, R191), or the erase is given up where there is none. -/
def State.markEnd (s : State) (j : FlashJob) (ok : Bool) : State :=
  let r := if ok then (true, s) else s.retire (markSector s.chart.markCur) 0
  if !r.1 then (({ r.2 with chart := { r.2.chart with busy := none } } : State).afterErase j false).flashFree
  else if j.phase = 1 then r.2.eraseGo j
  else
    let p := r.2.physSector (j.addr / 65536)
    (r.2.mark 0x43 p (satAdd 24 (r.2.wearOf p).erases 1) (min j.etime 65535)).eraseDone j

/-- The running erase `j` ends after `t` × 100 µs, `ok` if it ended in time and every byte reads 0xFF: its completion entry is programmed; else the
update fails, or the sector is retired and the operation is complete on its spare (R175, R185, R191). -/
def State.eraseEnd (s : State) (j : FlashJob) (t : Nat) (ok : Bool) : State :=
  let n := j.addr / 65536
  if ok then
    let s := s.flashClear n
    ({ s with chart := { s.chart with busy := some { j with phase := 3, etime := t } } } : State).xspi (s.flashOp 116) s.markAddr 16
  else if isChartSector n then s.updateFail.flashFree
  else
    let r := s.retire n 1
    (({ r.2 with chart := { r.2.chart with busy := none } } : State).afterErase j r.1).flashFree

/-- FLASH_ERASE_COMPLETE (R175): the status poll of the running erase ends after `t` × 100 µs; `blank` says that every byte then reads 0xFF. An erase
that passes T_SE_MAX has failed. -/
def execFlashEraseComplete (t : Nat) (blank : Bool) (s : State) : Out :=
  match s.chart.busy with
  | none => .next s
  | some j => .next (if !j.erase || j.phase != 2 || s.pwr.inReset.isSome then s else s.eraseEnd j t (blank && decide (t ≤ 10 * s.seMax)))

/-- What follows a program operation that has read back, by its purpose. -/
def State.afterProgram (s : State) (j : FlashJob) : State :=
  match j.why with
  | .gazHead => s.gazTaken
  | .checkpoint => s.flashAsk { prio := 4, erase := true, addr := markSector (1 - s.chart.markCur) * 65536, why := .switchMark }
  | .head => { s with chart := { s.chart with markCur := 1 - s.chart.markCur, markCnt := 1, markGen := s.chart.markGen + 1 } }
  | .chart => s.updateDone j
  | .commit => s.updateDone j
  | .consume => { s with chart := { s.chart with jslots := Tbl.put s.chart.jslots ((j.addr - 0x2040000) / 4096) .consumed } }
  | _ => s

/-- The power-loss journal of which page 0 stands at `a` reads back with its CRC (R100). -/
def State.journalReads (s : State) (a : Nat) : Bool :=
  let b := s.flashRead (a - a % 4096) 4096
  leAt b 60 4 == crc32c (b.drop 64)

/-- A page of operation `j` has read back: its next page follows, then what is programmed last (the VALID of a journal only where its CRC reads back,
R100), then what waits for the operation. A declared power loss lets no operation but the journal go on (R94). -/
def State.pageGo (s : State) (j : FlashJob) : State :=
  let rest := j.bytes.drop j.page.length
  let s := s.flashWrite j.addr j.page
  let go := fun (k : FlashJob) => ({ s with chart := { s.chart with busy := some k } } : State).xspi (s.flashOp 116) k.addr k.page.length
  if s.pwr.loss.isSome && j.why != .power then s.flashFree
  else if !rest.isEmpty then go { j with addr := j.addr + j.page.length, bytes := rest }
  else match j.valid with
    | some v => if j.why == .power && !s.journalReads j.addr then s.flashFree else go { j with addr := v.1, bytes := v.2, valid := none }
    | none => (({ s with chart := { s.chart with busy := none } } : State).afterProgram j).flashFree

/-- A page of operation `j` ends: a failed read-back closes the update session in a chart slot, elsewhere it retires the sector and the operation goes
on on the spare, or is given up where there is none (R185, R191, R193). -/
def State.pageEnd (s : State) (j : FlashJob) (ok : Bool) : State :=
  if ok then s.pageGo j
  else if isChartSector (j.addr / 65536) then s.updateFail.flashFree
  else
    let r := s.retire (j.addr / 65536) 0
    if r.1 then r.2.pageGo j else r.2.flashFree

/-- FLASH_PROGRAM_COMPLETE (R185): the running page program, of an operation or of an erase's mark, ends after `us` microseconds; `same` says that the
page reads back as programmed. A program that passes T_PP_MAX has failed. -/
def execFlashProgramComplete (same : Bool) (s : State) (us : Nat := 0) : Out :=
  match s.chart.busy with
  | none => .next s
  | some j =>
    let ok := same && decide (us ≤ s.ppMax)
    .next (if (j.erase && j.phase == 2) || s.pwr.inReset.isSome then s else if j.erase then s.markEnd j ok else s.pageEnd j ok)

/-- A journal sector of which all 16 slots are used, and none holds an unread complete journal (R159). -/
def State.journalUsed (s : State) (q : Nat) : Bool :=
  (List.range 16).all fun i =>
    let c := Tbl.find s.chart.jslots (16 * q + i)
    c == some .consumed || c == some .incomplete

/-- FLASH_BACKGROUND_ERASE (R159, R178): a half-erased sector outside the chart slots is erased again, or a fully used journal
sector is re-erased; at priority 6. -/
def execFlashBackgroundErase (s : State) : Out :=
  let ask := fun (n : Nat) (w : FlashWhy) => s.flashAsk { prio := 6, erase := true, addr := n * 65536, why := w }
  let waiting := fun (n : Nat) =>
    s.chart.jobs.any (fun j => j.erase && j.addr / 65536 == n) || s.chart.busy.any (fun j => j.erase && j.addr / 65536 == n)
  if s.g SYS_BOOT_STAGE < 3 ∨ s.pwr.inReset.isSome ∨ s.pwr.loss.isSome then .next s
  else
    match (s.chart.half.filter fun p => (s.wearOf p).state != 2).findSome? fun p =>
      let n := s.logicalSector p
      if isChartSector n || waiting n then none else some n with
    | some n => .next (ask n .half)
    | none =>
      match [0, 1, 2, 3].find? fun q => s.journalUsed q && !waiting (516 + q) with
      | some q => .next (ask (516 + q) .journal)
      | none => .next s

end Sys2Proof.Machine
end

