-- ==== Sys2Proof/Machine/FabLink.lean ====
section
/-! DEFINITION. The links of the fabric: link-state records and the view, ports that come up, fail or are held, the start and the
failure of discovery (spec/16_efina.md R530 to R563). -/

namespace Sys2Proof.Machine

/-! ### Bytes of link-local parcels (assumption log 24) -/

/-- HELLO: serial, port, node ID, discovery mode (R538). -/
def State.helloBody (s : State) (p : Nat) : List Byte := Config.serial ++ leBytes p 1 ++ leBytes s.node 2 ++ leBytes (s.g FAB_CFG_MODE) 1

/-- ASSIGN: W, H and the receiver's ID (R559). -/
def assignBody (w h id : Nat) : List Byte := leBytes w 1 ++ leBytes h 1 ++ leBytes id 2

/-- LSR: node ID, serial, flags, root, ports, origination tick, sequence number, and the tick in which discovery ended. -/
def lsrBody (id : Nat) (x : Lsr) : List Byte :=
  leBytes id 2 ++ x.serial ++ leBytes (b2n x.rootOk + 2 * b2n x.aligned + 4 * b2n x.ended.isSome) 1 ++ leBytes x.root 2 ++
    x.ports.flatMap (fun e => leBytes (b2n e.1) 1 ++ leBytes e.2 2) ++ leBytes x.tick 6 ++ leBytes x.seq 4 ++ leBytes (x.ended.getD 0) 6

/-! ### ALIGNED (R569) -/

/-- ALIGNED rises. -/
def State.alignRise (s : State) : State := s.p CLK_STAT_ALIGNED 1

/-- ALIGNED falls, with event 184. -/
def State.alignFall (s : State) : State := if s.on CLK_STAT_ALIGNED then (s.p CLK_STAT_ALIGNED 0).raise 184 else s

/-! ### The view (R554, R557) -/

/-- Ports that are up, but for port `skip`. -/
def State.upPorts (s : State) (skip : Nat) : List Nat := [0, 1, 2, 3].filter fun p => p != skip && s.portUp p

/-- A link-state record goes out of every up port but `skip`. -/
def State.flood (s : State) (id : Nat) (x : Lsr) (skip : Nat) : State := (s.upPorts skip).foldl (fun s p => s.linkSend p 0x07 (lsrBody id x)) s

/-- The tick of the next switch for a view: the first multiple of 64 at or after M + 64 + ⌈N / 4⌉ (R554). -/
def switchTick (view : Tbl Lsr) : Nat := ceilDiv (maxOf (view.map fun e => e.2.tick) + 64 + ceilDiv view.length 4) 64 * 64

/-- A record enters the view, which has changed; the switch moves later only (R554). -/
def State.viewPut (s : State) (id : Nat) (x : Lsr) : State :=
  let view := Tbl.put s.fab.view id x
  { s with fab := { s.fab with view := view, viewEdge := s.clk.edges, switch := some (max (s.fab.switch.getD 0) (switchTick view)) } }

/-- This node may serve as time root (Table FAB-8). -/
def State.rootOk (s : State) : Bool := bitAt (s.secLe 0x70 0 10 1 1) 0

/-- This node's record. -/
def State.ownLsr (s : State) : Lsr :=
  { serial := Config.serial, rootOk := s.rootOk, aligned := s.on CLK_STAT_ALIGNED, root := s.g FAB_DISC_ROOT,
    ports := [0, 1, 2, 3].map fun p => (s.portUp p, s.gk FAB_PSTAT_NBR p), tick := s.clk.tick, seq := s.fab.seq + 1, ended := s.fab.ended }

/-- This node originates a record, once its ID is known and discovery routes (R557). -/
def State.originate (s : State) : State :=
  if s.node = 0x3FF ∨ (s.g FAB_DISC_STATE ≠ 4 ∧ s.g FAB_DISC_STATE ≠ 5) then s
  else
    let x := s.ownLsr
    (({ s with fab := { s.fab with seq := x.seq } } : State).viewPut s.node x).flood s.node x 4

/-! ### Discovery: its start and its failure (R558 to R563) -/

/-- Fabric port `p` is enabled (Table FAB-8). -/
def State.portOn (s : State) (p : Nat) : Bool := bitAt (s.g FAB_CFG_PORT_EN) p

/-- A link record (Table GAZ-2). -/
def State.linkRecord (s : State) (p kind cause lanes : Nat) : State :=
  s.record (mkRec 0x17 32 [(16, 8, s.now), (24, 1, p), (25, 1, kind), (26, 1, cause), (27, 1, lanes)])

/-- Lanes of a port's width (FAB_PSTAT). -/
def State.portLanes (s : State) (p : Nat) : Nat := if s.gk FAB_PSTAT_STATE p = 3 then 2 else 4

/-- The lanes of a port are idle or run (R542). -/
def State.lanesIdle (s : State) (p v : Nat) : State := [0, 1, 2, 3].foldl (fun s l => s.pki FAB_LANE_IDLE 0 (4 * p + l) v) s

/-- A port is held down: event 179 and a link record; until reset, or until an edge (R538, R539, R558, R561). -/
def State.holdPort (s : State) (p cause : Nat) (until? : Option Nat) : State :=
  let lanes := s.portLanes p
  let s := (s.pk FAB_PSTAT_STATE p 5).lanesIdle p 1
  let s := s.setPort p fun x => { x with heldUntil := until?, heldGood := until?.isNone, kept := x.kept ++ x.queue.filter (fun q => decide (8 ≤ q.kind)), queue := [] }
  (s.raise 179).linkRecord p 2 cause lanes

/-- The node leaves the fabric: event 182 and a discovery record, every enabled port is held down until reset, ALIGNED falls (R561, R569). -/
def State.leaveFabric (s : State) (result : Nat) : State :=
  let s := (s.p FAB_DISC_STATE 7).raise 182
  let s := s.record (mkRec 0x19 32 [(16, 8, s.now), (24, 1, result), (26, 2, s.node)])
  let s := ([0, 1, 2, 3].filter fun p => s.portOn p && s.gk FAB_PSTAT_STATE p != 5).foldl (fun s p => s.holdPort p 3 none) s
  let s := ([0, 1, 2, 3].filter s.portOn).foldl (fun s p => s.setPort p fun x => { x with heldUntil := none, heldGood := true }) s
  ({ s with fab := { s.fab with routes := [], tabled := false, switch := none } } : State).alignFall

/-- Discovery fails (R561): the node leaves the fabric; FCODE 0x30, events 2 and 7, the branch ends alone (Table SYS-12). -/
def State.discFail (s : State) (result : Nat) : State :=
  let s := ((s.leaveFabric result).p SYS_BOOT_FCODE 0x30).raise 2
  s.fabAlone

/-- Serials are compared byte by byte as unsigned values (R559). -/
def serialLt : List Byte → List Byte → Bool
  | a :: s, b :: t => decide (a.toNat < b.toNat) || (a == b && serialLt s t)
  | [], _ :: _ => true
  | _, [] => false

/-- The lowest serial heard, this node's own included. -/
def State.lowest (s : State) : List Byte := if s.fab.low.isEmpty then Config.serial else s.fab.low

/-- ELECT goes out of every up port (R559). -/
def State.elect (s : State) : State := (s.upPorts 4).foldl (fun s p => s.linkSend p 0x04 s.lowest) s

/-- Discovery begins (R558 to R560): with the ID known the node originates its record; with a neighbour that holds an ID it waits for ASSIGN; else
the election runs. -/
def State.discBegin (s : State) : State :=
  let s : State := { s with fab := { s.fab with began := s.clk.edges } }
  if s.node != 0x3FF then (s.p FAB_DISC_STATE 4).originate
  else if (s.upPorts 4).any fun p => s.gk FAB_PSTAT_NBR p != 0x3FF then s.p FAB_DISC_STATE 3
  else
    let s := s.p FAB_DISC_STATE 2
    ({ s with fab := { s.fab with low := s.lowest, lowEdge := s.clk.edges } } : State).elect

/-- The training stage ends: with a port up the discovery stage begins, else the branch ends alone (Table SYS-10, Table SYS-12). -/
def State.trainingEnd (s : State) : State :=
  if (s.upPorts 4).isEmpty then s.fabAlone
  else (((s.p SYS_BOOT_FAB 2).stageEndAt 7).stageBegin 2).discBegin

/-- The training stage ends once no enabled port is still to train or training. -/
def State.trainingCheck (s : State) : State :=
  if s.g SYS_BOOT_FAB = 1 ∧ s.g SYS_BOOT_STAGE = 3 ∧ !([0, 1, 2, 3].any fun p => s.portOn p && decide (s.gk FAB_PSTAT_STATE p < 2)) then s.trainingEnd else s

/-! ### Links that fail (R534, R535, R539) -/

/-- A partly received parcel of port `p` ends: it is discarded and counted, and ends with ABORT on the output by which it was passing (R535). The words
of it that had gone on before are not shown: a passing parcel goes on whole (assumption log 163). -/
def State.cutParcel (s : State) (p : Nat) : State :=
  if (s.port p).rxLeft = 0 then s
  else
    let h := (s.port p).rxHead
    let s := (s.bump FAB_DROP 1).setPort p fun x => { x with rxLeft := 0, rxHead := [] }
    let v := leAt h 1 1
    let q : Parcel := {
      kind := leAt h 0 1, dst := leAt h 2 2 % 1024, inPort := p, dlc := bitAt v 2, passed := bitAt v 4
      waypt := if bitAt v 3 then some (leAt h 6 2 % 1024) else none }
    if q.kind < 8 ∨ q.dst = s.node then s
    else match s.hop q with
      | some (o, _) => if s.portUp o then s.flitSeq o true (zeros 608) else s
      | none => s

/-- An up port fails: its replay buffer and partly received parcels are discarded, those that wait to leave are kept, lanes idle, event 177, a record;
the eighth failure in 250 000 ticks holds the port; the view changes; without an up port the node has left the fabric. -/
def State.linkFail (s : State) (p cause : Nat) : State :=
  if !s.portUp p then s
  else
    let lanes := s.portLanes p
    let s := (s.raise 177).linkRecord p 1 cause lanes
    let s := s.bumpk FAB_PDLY_DOWNS p 1
    let s := (s.pk FAB_PSTAT_STATE p 4).lanesIdle p 1
    let s := s.cutParcel p
    let fails := s.clk.edges :: (s.port p).fails.filter fun e => decide (s.clk.edges < e + 250000)
    let s := s.setPort p fun x => { x with
      fails := fails, again := s.clk.edges, waitReplay := false, naks := 0, txAck := 4095, rxSeq := 4095, peerSerial := none, delays := []
      txWords := [], txSeq := 4095, unacked := [], owed := ({} : Port).owed
      kept := x.kept ++ x.queue.filter (fun q => decide (8 ≤ q.kind)), queue := [] }
    let s := if 8 ≤ fails.length then s.holdPort p 1 (some (s.clk.edges + 250000)) else s
    let s := s.originate
    if (s.upPorts 4).isEmpty then s.alignFall else s

end Sys2Proof.Machine
end

