-- ==== Sys2Proof/Machine/Surveyor.lean ====
section
/-! DEFINITION. The Surveyor's samples and decisions and the AVS loop (spec/03_supplies_surveyor.md R109 to R122, R706). -/

namespace Sys2Proof.Machine

/-- The functions of the block: the PF is 0, the VFs 1 to 15. -/
def allFns : List Nat := List.range 16

/-- Thermal throttle by temperature starts (R112): event 40, 1.00 GHz requested; the AVS loop and the fetch credits follow through the edge latch. -/
def State.throttleStart (s : State) : State :=
  let s : State := { s with svy := { s.svy with hot := true, coolRun := 0 } }
  ((s.p SVY_TEMP_THROT 1).raise 40).requestClock true

/-- Critical temperature (R114): gates dropped, emergency park of every loaded actuator, event 42. -/
def State.criticalTemp (s : State) : State :=
  let s := s.gateDropAll
  let s := s.eparkAll 17
  let s := s.raise 42
  { s with svy := { s.svy with critical := some s.instant } }

/-- What the Surveyor itself takes from a tick's samples, whether or not they are posted (R109): the die filters, the ticks below the throttle's release
level (R113), the minima of a hold (R91). -/
def State.surveyTake (s : State) (x : SurveyIn) : State :=
  let s := s.filterDie x.temps
  let h := dieMax s.svy.die
  let s : State := { s with svy := { s.svy with coolRun := if h < 8 * (s.g SVY_THERM_THROT : Nat) - 40 then s.svy.coolRun + 1 else 0 } }
  if s.holding then
    let v := minOf 8191 x.vin
    let m := minOf 65535 x.vm
    { s with pwr := { s.pwr with minVin := some (min v (s.pwr.minVin.getD v)), minVm := some (min m (s.pwr.minVm.getD m)) } }
  else s

/-- What the post slot publishes: supplies, shock peaks, the hottest die site (Table SVY-1, Table SVY-2). -/
def State.postSurvey (s : State) (x : SurveyIn) : State :=
  let mean := fun (l : List Nat) => l.foldl (· + ·) 0 / 4
  let s := (s.p SVY_VIN_MEAN (mean x.vin)).p SVY_VIN_MIN (minOf 8191 x.vin)
  let s := s.p SVY_VM_MEAN (mean x.vm)
  let s := (s.p SVY_SHOCK_PEAK0 (min x.peak0 255)).p SVY_SHOCK_PEAK1 (min x.peak1 255)
  let h := hottest s.svy.die
  (s.p SVY_TEMP_TMAX (ofSigned 12 h.1)).p SVY_TEMP_SITE h.2

/-- What the hottest site `m`, in 0.125 °C, starts: thermal throttle, the critical temperature (R112, R114). -/
def State.thermalStep (s : State) (m : Int) : State :=
  let s := if s.chart.applied && !s.svy.hot && decide (8 * (s.g SVY_THERM_THROT : Int) ≤ m) then s.throttleStart else s
  if s.svy.critical.isNone && decide (112 * 8 ≤ m) then s.criticalTemp else s

/-- The Surveyor's work on a tick's samples, and its decisions (R109). -/
def State.survey (s : State) (x : SurveyIn) : State := (s.surveyTake x).thermalStep (dieMax (s.surveyTake x).svy.die)

/-- SURVEYOR_POST (R109): the Surveyor's work of the tick, and the post of its values. -/
def execSurveyorPost (x : SurveyIn) (s : State) : Out :=
  .next (if s.slotOpen 5 then
    let s := (s.atCycle 420).slotDone 5
    ((s.surveyTake x).postSurvey x).thermalStep (dieMax (s.surveyTake x).svy.die) else s)

/-- THERMAL_THROTTLE_END (R113): 2500 consecutive ticks below THROT − 5 °C; event 41, and the AVS loop is released unless a
margin throttle holds it. -/
def execThermalThrottleEnd (s : State) : Out :=
  if s.running && s.svy.hot && decide (2500 ≤ s.svy.coolRun) then
    let s : State := { s with svy := { s.svy with hot := false } }
    let s := s.p SVY_TEMP_THROT (s.g SVY_AVS_MTHROT)
    .next (s.raise 41)
  else .next s

/-- CRITICAL_TEMP_RESET (R114): every actuator is parked, or 5 ms have passed since the 112 °C reading. -/
def execCriticalTempReset (s : State) : Out :=
  match s.svy.critical with
  | none => .next s
  | some e => .next (if s.running && (s.allParked || decide (e + fiveMs ≤ s.instant)) then s.enterReset 4 else s)

/-- SHOCK_CROSSING (R110): an axis exceeds THR, `mg` being its magnitude: every write gate drops, event 39 is raised and write inhibit starts, or is
kept up. A value exactly at THR does not trip (R111). -/
def execShockCrossing (s : State) (mg : Nat := 127501) : Out :=
  if s.running && decide (500 * s.g SVY_SHKCFG_THR < mg) then
    let s := ((s.gateDropAll.abandonSlices).shockLoads).p SVY_SHOCK_INH 1
    let s : State := { s with svy := { s.svy with quietRun := 0 } }
    .next (s.raise 39)
  else .next s

/-- WRITE_INHIBIT_END (R111): both axes have stayed quiet for QUIET consecutive ticks; abandoned writes are re-issued. -/
def execWriteInhibitEnd (s : State) : Out :=
  .next (if s.running && s.on SVY_SHOCK_INH && decide (s.g SVY_SHKCFG_QUIET ≤ s.svy.quietRun) then
    ((s.p SVY_SHOCK_INH 0).reissue).shockRestart else s)

/-! ### Board sensors -/

/-- A sensor reading in 0.125 °C, rounded down: FORMAT 0 two bytes, most significant first, in 1/256 °C; FORMAT 1 one byte in °C
(R116). -/
def sensorValue (format : Nat) (b : List Byte) : Int :=
  if format = 0 then toSigned 16 (leAt b 0 1 * 256 + leAt b 1 1) / 32 else toSigned 8 (leAt b 0 1) * 8

/-- A read of sensor `k` (R116): a transaction on the board bus, which gives its bytes or fails; the third failure in a row, and no later one, raises
event 46 (R115; assumption log 135). -/
def State.sensorRead (s : State) (k : Nat) (b : Option (List Byte)) : State :=
  let s := s.emit (.i2c 0 (s.gki SVY_BSENS_ADDR 0 k) (s.gki SVY_BSENS_REG 0 k) (2 - s.gki SVY_BSENS_FORMAT 0 k))
  match b with
  | some b =>
    { s with svy := { s.svy with board := Tbl.put s.svy.board k (sensorValue (s.gki SVY_BSENS_FORMAT 0 k) b), boardFail := Tbl.put s.svy.boardFail k 0 } }
  | none =>
    let n := Tbl.getD s.svy.boardFail k 0 + 1
    let s : State := { s with svy := { s.svy with boardFail := Tbl.put s.svy.boardFail k n } }
    if n = 3 then s.raise 46 else s

/-- BOARD_SENSOR_READ (R116): the periodic read of a declared sensor, every 25 000 ticks, the first 25 000 ticks after the count began at reset
(assumption log 140). -/
def execBoardSensorRead (k : Fin 4) (b : Option (List Byte)) (s : State) : Out :=
  if s.running && s.chart.applied && s.gki SVY_BSENS_EN 0 k == 1 && decide (25000 ≤ Tbl.getD s.svy.boardTicks k 0) then
    .next (({ s with svy := { s.svy with boardTicks := Tbl.put s.svy.boardTicks k 0 } } : State).sensorRead k b)
  else .next s

/-- SENSOR_ALERT_READ (R116): the read in the tick after the sensor's alert input, on GPA4 + k with function 3, was seen low. -/
def execSensorAlertRead (k : Fin 4) (b : Option (List Byte)) (s : State) : Out :=
  .next (if s.running && s.chart.applied && s.gki SVY_BSENS_EN 0 k == 1 && s.svy.alert.contains k then
    ({ s with svy := { s.svy with alert := s.svy.alert.filter (· != k.val) } } : State).sensorRead k b else s)

/-! ### The AVS loop -/

/-- The mean of the last 16 published values, in 0.1 %, exceeds U_HI (Table SVY-4). -/
def State.wantsFast (s : State) : Bool :=
  let l := s.svy.util.take 16
  l.length == 16 && decide (16 * 10 * s.g SVY_AVSCFG1_U_HI < l.foldl (· + ·) 0)

/-- The last 1024 published values are all below U_LO (Table SVY-4). -/
def State.wantsSlow (s : State) : Bool :=
  let l := s.svy.util.take 1024
  l.length == 1024 && l.all fun u => decide (u < 10 * s.g SVY_AVSCFG1_U_LO)

/-- The clock that the loop wishes, 1.00 GHz being `true`: a change under Table SVY-4, or the clock in force. -/
def State.clockWish (s : State) : Bool :=
  if s.econ then !(s.wantsFast && s.g PWR_STATE_CUR != 2) else s.wantsSlow && s.on CLK_CFG_ECON_EN

/-- The clock that the effective set of tunable 0x0002 lets it have: the wished one, else the other (R47, R121). -/
def State.clockAllowed (s : State) : Bool :=
  if bitAt (s.eff 2 0).2.toNat (if s.clockWish then 0 else 1) then s.clockWish else !s.clockWish

/-- The VCORE that the loop wants (Table SVY-4, R119): raised by 5 mV below M_LO or on the way to F125, lowered by 2.5 mV after
256 ticks above M_HI, not below the floor of the clock in force. A lowering that is due goes before a request for 1.25 GHz, which it can put off
(assumption log 142). -/
def State.wantVcore (s : State) (m : Nat) : Int :=
  let v : Int := (s.g SVY_AVS_VCORE : Nat)
  let floor : Int := (if s.econ then s.g SVY_AVSCFG0_F100 else s.g SVY_AVSCFG0_F125 : Nat)
  if (s.econ && !s.clockAllowed && decide (v < (s.g SVY_AVSCFG0_F125 : Nat))) || decide (m < s.g SVY_AVSCFG1_M_LO) then v + 10
  else if s.svy.highRun ≥ 256 ∧ floor ≤ v - 5 then v - 5
  else v

/-- The step of a loop that no safety action holds: VCORE within the effective envelope, then the clock: the loop moves to the allowed clock, to
1.25 GHz only from F125 on, and is pinned where the wished one is not allowed (R47, R118 to R121). A lowering restarts the count of ticks above M_HI,
also one that the envelope clamps (assumption log 141). -/
def State.avsFree (s : State) (m : Nat) : State :=
  let want := s.wantVcore m
  let e := s.eff 1 0
  let v := clampI e.1 e.2 want
  let pins := b2n (decide (v ≠ want)) + 2 * b2n (s.clockAllowed != s.clockWish)
  let lowered := decide (want < (s.g SVY_AVS_VCORE : Nat))
  let tgt := s.clockAllowed
  let s := s.p SVY_AVS_VCORE v.toNat
  let s : State := if lowered then { s with svy := { s.svy with highRun := 0 } } else s
  let s := if tgt != s.econ && (tgt || decide ((s.g SVY_AVSCFG0_F125 : Int) ≤ v)) then s.requestClock tgt else s
  s.loopStep 0 pins

/-- A margin throttle starts (R120): event 45, VCORE at the chart's VMAX whatever the host bound, 1.00 GHz where allowed. -/
def State.marginThrottle (s : State) : State :=
  let s := (s.p SVY_AVS_MTHROT 1).p SVY_TEMP_THROT 1
  let s := s.raise 45
  let s := s.p SVY_AVS_VCORE (s.chartEnv 1 0).2.1.toNat
  let s := s.requestClock true
  { s with svy := { s.svy with okRun := 0 } }

/-- The margin of an AVS step and the runs of steps above and below its thresholds (Table SVY-4, R120). -/
def State.avsMargin (s : State) (m : Nat) : State :=
  let s := (s.atCycle 1400).slotDone 8
  let s := s.p SVY_AVS_MARGIN (min m 255)
  { s with svy := { s.svy with
    highRun := (if s.g SVY_AVSCFG1_M_HI < m then s.svy.highRun + 1 else 0),
    okRun := (if s.g SVY_AVSCFG1_M_LO ≤ m then s.svy.okRun + 1 else 0) } }

/-- AVS_STEP (R118): one step of the AVS loop on the smallest margin `m`, in 0.25 %; 3 % is 12. A throttle holds the loop, the temperature's as the
edge latch shows it (R49, R62, R112, R120). -/
def execAvsStep (m : Nat) (s : State) : Out :=
  if s.slotOpen 8 && s.chart.applied then
    let s := s.avsMargin m
    if m < 12 && !s.on SVY_AVS_MTHROT then .next (s.marginThrottle.loopHold 0)
    else if s.svy.hotL || s.on SVY_AVS_MTHROT then .next (s.loopHold 0)
    else .next (s.avsFree m)
  else .next s

/-- MARGIN_THROTTLE_END (R120): the margin has stayed at or above M_LO for 256 consecutive ticks. -/
def execMarginThrottleEnd (s : State) : Out :=
  if s.running && s.on SVY_AVS_MTHROT && decide (256 ≤ s.svy.okRun) then
    let s := s.p SVY_AVS_MTHROT 0
    let s := s.p SVY_TEMP_THROT (b2n s.svy.hot)
    .next (s.raise 41)
  else .next s

end Sys2Proof.Machine
end

