-- ==== Sys2Proof/Machine/Boot.lean ====
section
/-! DEFINITION. Start-up after the chart stage, its failure exits, Ready and the host-ordered reset
(spec/06_power_to_ready.md R199 to R222). -/

namespace Sys2Proof.Machine

/-- After a Vigil exit the hand-over also waits for the power state to be Run with no transition pending (R223; assumption log 147). -/
def State.handoverPower (s : State) : Bool :=
  s.g SVY_RSTCAUSE_CAUSE != 6 || (s.g PWR_STATE_CUR == 0 && s.g PWR_STATE_PEND == 0)

/-- HANDOVER_END (R203, R223): VM has been in range for 25 ticks and the hottest site reads below THROT: the spindle stage begins. -/
def execHandoverEnd (s : State) : Out :=
  if s.running && s.g SYS_BOOT_STAGE == 3 && s.g SYS_BOOT_MEDIA == 1 && decide (25 ≤ s.boot.vmRun) && s.handoverPower &&
      decide (toSigned 12 (s.g SVY_TEMP_TMAX) < 8 * (s.g SVY_THERM_THROT : Nat)) then
    let s := s.stageEndAt 4
    let s := (s.p SYS_BOOT_MEDIA 2).stageBegin 1
    .next (s.spindleStart 0)
  else .next s

/-- Tick edges of `ms` milliseconds. -/
def msEdges (ms : Nat) : Nat := 250 * ms

/-- Candidate slot `i` can be checked in octal mode (R157). -/
def State.slotOctal (s : State) (i : Nat) : Bool :=
  descriptorOk (s.slotHeader i) && bitAt (leAt (s.slotHeader i) 115 1) 0 && !s.on PIN_STRAP_XSPI1

/-- The longest time of the checks of slot `i` in tick edges (R170). -/
def State.slotBound (s : State) (i : Nat) : Nat :=
  let h := s.slotHeader i
  msEdges 1 + (if s.slotOctal i then ceilDiv (leAt h 8 4) (8 * max 1 (leAt h 114 1)) else ceilDiv (leAt h 8 4) 25)

/-- The bound of the chart stage: the scans, the checks of the candidate slots, the journal and Gazetteer scans, the application (Table SYS-10). -/
def State.chartBound (s : State) : Nat :=
  let cand := [0, 1].filter fun i => !s.slotHalf i && hdrCrcOk (s.slotHeader i)
  msEdges 46 + sumOf (cand.map s.slotBound) + (if cand.all s.slotOctal then msEdges 3 else msEdges 75) + msEdges 2

/-- The bound of a stage in tick edges (Table SYS-10). The clock stage runs before ticks do: its bound is in µs; the heads stage has one bound for each
actuator. -/
def State.stageBound (s : State) : Stage → Nat
  | .clock => if s.on SYS_BOOT_WARM && s.g SVY_RSTCAUSE_CAUSE != 2 then 200 else 5200
  | .bist => if s.on SYS_BOOT_WARM && s.g SVY_RSTCAUSE_CAUSE != 2 then msEdges 4 else msEdges 25
  | .chart => s.chartBound
  | .dram => msEdges 20 + ceilDiv (s.dramBytes * 250) (s.dramInitRate * 1000000)
  | .spindle => msEdges (100 * s.secLe 0x20 0 24 2 0)
  | .heads => 0
  | .training => msEdges 30
  | .discovery => msEdges (s.secLe 0x70 0 8 2 100)

/-- The edge count at which the stage began. -/
def State.stageBegan (s : State) : Stage → Nat
  | .clock => 0
  | .bist => 0
  | .chart => Tbl.getD s.boot.began 3 0
  | .dram => Tbl.getD s.boot.began 0 0
  | .spindle => Tbl.getD s.boot.began 1 0
  | .heads => Tbl.getD s.boot.began 1 0
  | .training => Tbl.getD s.boot.began 2 0
  | .discovery => Tbl.getD s.boot.began 2 0

/-- The stage is the one that runs. -/
def State.stageRuns (s : State) : Stage → Bool
  | .clock => s.g SYS_BOOT_STAGE == 0 && !s.clk.core
  | .bist => s.g SYS_BOOT_STAGE == 1
  | .chart => s.g SYS_BOOT_STAGE == 2
  | .dram => s.g SYS_BOOT_STAGE == 3 && (s.g SYS_BOOT_DRAM == 1 || s.g SYS_BOOT_DRAM == 2)
  | .spindle => s.g SYS_BOOT_STAGE == 3 && s.g SYS_BOOT_MEDIA == 2 && !Tbl.has s.boot.ends 5
  | .heads => s.g SYS_BOOT_STAGE == 3 && s.g SYS_BOOT_MEDIA == 3
  | .training => s.g SYS_BOOT_STAGE == 3 && s.g SYS_BOOT_FAB == 1
  | .discovery => s.g SYS_BOOT_STAGE == 3 && s.g SYS_BOOT_FAB == 2

/-- The DRAM failure exit: fault mode with code 0x10; the media and fabric branches stop and the heads unload. -/
def State.dramFail (s : State) : State := (s.unloadAll 2).faultMode 0x10

/-- The BIST stage passes its bound: fault mode, with the record of a failed boot self-test that names no block (Table SYS-12, Table GAZ-2). -/
def State.bistFail (s : State) : State := (((s.p TST_BIST_FAIL 1).p TST_BIST_COLD (b2n (s.stageBound .bist == msEdges 25))).bistRecord 1 0 0
    |>.result 0 0 0 1 1 0 0 s.clk.edges 0 1).faultMode 0x01

/-- The actuators whose heads stage has passed its own bound (R204). -/
def State.lateHeads (s : State) : List Nat :=
  s.actList.filter fun k => !s.actReady k && !s.actFailed k && decide (s.stageBegan .heads + s.headsBound k ≤ s.clk.edges)

/-- The failure exit of a stage (Table SYS-12). -/
def State.stageExit (s : State) : Stage → State
  | .clock => s.enterReset 2
  | .bist => s.bistFail
  | .chart => s.chartAbsent
  | .dram => s.dramFail
  | .spindle => s.spindleFail
  | .heads => (s.lateHeads.foldl (fun s k => s.outOfService k) s).headsStageEnd
  | .training => s.trainingEnd
  | .discovery => s.discFail 1

/-- A stage has passed its bound: the clock stage by the µs it has run, the others by edges, the heads stage for some actuator. -/
def State.stageLate (s : State) (us : Nat) : Stage → Bool
  | .clock => decide (s.stageBound .clock < us)
  | .heads => !s.lateHeads.isEmpty
  | st => decide (s.stageBegan st + s.stageBound st ≤ s.clk.edges)

/-- STAGE_BOUND_EXPIRY (R199): a start-up stage that passes its bound takes its failure exit. -/
def execStageBoundExpiry (st : Stage) (s : State) (us : Nat := 4000000000) : Out :=
  .next (if s.pwr.inReset.isNone && !s.pwr.vigil && s.stageRuns st && s.stageLate us st then s.stageExit st else s)

/-- MAGIC of every unread journal slot is to be programmed to 0, which marks it consumed (R218). -/
def State.consumeJournals (s : State) : State :=
  s.chart.jslots.foldl (fun s e =>
    if e.2 = .complete ∨ e.2 = .incomplete then
      s.flashAsk { prio := 1, erase := false, addr := journalAddr e.1, bytes := zeros 4, why := .consume } else s) s

/-- The epoch fuses are burned up to the chart's EPOCH when it sets ADVANCE, with event 74, but not in development mode
(R167, R667). -/
def State.burnEpoch (s : State) : State :=
  let e := leAt s.chart.hdr 16 1
  if s.hdrFlag 1 && decide (s.g CHT_EPOCH_FUSED < e) && !s.on TST_FUSE_DEVMODE then (s.p CHT_EPOCH_FUSED e).raise 74 else s

/-- The lock fuse is burned under a chart with BURN_LOCK (R668). -/
def State.burnLock (s : State) : State := if bitAt (s.secLe 0xA0 0 6 1 0) 2 then s.p TST_FUSE_LOCK 1 else s

/-- The boot record (R207, Table GAZ-2). -/
def State.bootRecord (s : State) : Rec :=
  mkRec 0x01 128 ([(16, 8, s.now), (24, 1, s.g SVY_RSTCAUSE_CAUSE), (25, 1, s.g SYS_BOOT_WARM), (26, 1, s.g SYS_BOOT_ACTFAIL),
    (27, 1, s.g SYS_BOOT_JNL)] ++ (List.range 11).map fun i => (28 + 8 * i, 8, Tbl.getD s.boot.ends i 0))

/-- The extents that this member reserves for span `n`: one for each stripe it owns below CAP, plus PEER_SPARE (R575). -/
def State.spanReserve (s : State) (n : Nat) : Nat :=
  let t := s.spanTable n
  let l := max 1 t.length
  let cap := s.spanCap n
  cap / l * countP (· == s.node) t + countP (· == s.node) (t.take (cap % l)) + s.spanSpare n

/-- The CRC-32C of the chart's definition of span `n`, by which a stored one is known again. -/
def State.spanCrc (s : State) (n : Nat) : Nat :=
  match s.spanRec n with
  | some (b, o) => crc32c ((b.drop o).take (16 + 2 * s.spanL n))
  | none => 0

/-- Span `n` is short: event 171 and a span-short record (R575). -/
def State.spanShort (s : State) (n reason : Nat) : State :=
  let v := (Tbl.getD s.med.vols (64 + n) {})
  let s := s.setMed fun m => { m with vols := Tbl.put m.vols (64 + n) { v with short := true } }
  (s.raise 171).record (mkRec 0x1C 32 [(16, 8, s.now), (24, 1, n), (25, 1, reason)])

/-- The reservation of span `n` at Ready: kept where the stored definition is identical, made anew where it may, else the span is short (R575). -/
def State.reserveSpan (s : State) (n : Nat) : State :=
  if !s.spanMember n then s
  else
    let v := Tbl.getD s.med.vols (64 + n) {}
    let want := s.spanReserve n
    let crc := s.spanCrc n
    let placed := s.placedOf (64 + n)
    if v.crc = crc ∧ v.resv = want then s.setMed fun m => { m with vols := Tbl.put m.vols (64 + n) { v with short := false } }
    else if v.crc ≠ crc ∧ 0 < placed then s.spanShort n 1
    else if s.forReserve + (v.resv - placed) < want then s.spanShort n 0
    else s.setMed fun m => { m with vols := Tbl.put m.vols (64 + n) { v with resv := want, crc := crc, cap := s.spanCap n, short := false } }

/-- Every head's count of operating seconds since its calibrations starts at this Ready (R647). -/
def State.calRestart (s : State) : State :=
  let now := s.g GAZ_STAMP_OPSEC
  { s with heads := s.heads.map fun e => (e.1, { e.2 with tdLast := now, sepLast := now }) }

/-- The node is ready: stage, event 0, Boot record (R207), journals (R218), fuses (R167, R668), span reservations (R575), the
stripes held as a peer (R598), the functions. -/
def State.enterReady (s : State) : State :=
  let s := (s.p SYS_BOOT_STAGE 4).raise 0
  let s := s.record s.bootRecord
  let s := s.consumeJournals
  let s := s.burnEpoch
  let s := s.burnLock
  let s := ((List.range 16).foldl State.reserveSpan s).calRestart
  let s := s.peerStripes.foldl State.peerAdd s
  let s := allFns.foldl (fun s f => s.pk MQP_STS_NODE_RDY f 1) s
  { s with pwr := { s.pwr with idleTicks := 0, stbyTicks := 0 } }

/-- READY (R207): the DRAM, media and fabric branches have ended: STAGE 4, event 0, the boot record; journals are consumed and
fuses burned (R167, R218, R668); span reservations are made (R575); the functions see NODE_RDY. -/
def execReady (s : State) : Out :=
  .next (if s.running && s.g SYS_BOOT_STAGE == 3 && s.g SYS_BOOT_DRAM == 3 && s.g SYS_BOOT_MEDIA == 4 &&
      (s.g SYS_BOOT_FAB == 5 || s.g SYS_BOOT_FAB == 6) then s.enterReady else s)

/-- A host-ordered reset (R220): event 5, fetching and completions stop, gates drop, every loaded actuator unloads, and the
journal is written. A second order during the sequence, or one during a power loss, has no effect (R222). -/
def State.hostReset (s : State) : State :=
  if s.pwr.hostReset.isSome || s.pwr.loss.isSome then s
  else
    let s := s.raise 5
    let s := s.gateDropAll
    let s := s.unloadAll 2
    let r := s.journalWrite 2
    { r.2 with pwr := { r.2.pwr with hostReset := some r.1 } }

/-- SYS_RSTCTL_GO (R220): a PF write of GO; a write whose KEY is not 0x9440 is ignored (Table SYS-14). -/
def execSysRstctlGo (key : BitVec 16) (s : State) : Out :=
  .next (if s.barOpen && key == 0x9440 then s.hostReset else s)

/-- HOST_RESET_ENTER (R220 step 6): the unload and the journal are complete; reset with cause 0x7. -/
def execHostResetEnter (s : State) : Out :=
  match s.pwr.hostReset with
  | none => .next s
  | some _ => .next (if s.anyLoaded || s.journalBusy then s else s.enterReset 7)

end Sys2Proof.Machine
end

