-- ==== Sys2Proof/Machine/AdmVol.lean ====
section
/-! DEFINITION. Volumes, spans, keys, Power State and Reset (spec/14_commands.md R465 to R477; spec/11_media.md R369; spec/15_integrity_errors.md
R510; spec/03_supplies_surveyor.md R104 to R106; spec/01_capture_model.md R25, R30, R31). -/

namespace Sys2Proof.Machine

/-! ### Fields of Table MQP-16 -/

def Cmd.action (c : Cmd) : Nat := c.le 32 1
def Cmd.vmodes (c : Cmd) : Nat := c.le 33 1
def Cmd.vmask (c : Cmd) : Nat := c.le 34 2
def Cmd.capExt (c : Cmd) : Nat := c.le 40 8

/-- MODES with a reserved bit or acknowledgement code. -/
def badModes (m : Nat) : Bool := decide (32 ≤ m) || ackOf m == 3

/-- The refusals of a requested mode: Local without the laboratory flag, Held without a twin (R31, R25). -/
def State.modeChecks (s : State) (m : Nat) (twinned : Bool) : List (Bool × Nat) :=
  [(ackOf m == 2 && !s.hdrFlag 0, 0x010C), (ackOf m == 0 && !twinned, 0x010D)]

/-! ### Volume Manage -/

/-- Run a Volume Manage action; an ACTION that no row names is answered by any of them. -/
def State.volManage (s : State) (slot action : Nat) (used : List (Nat × Nat)) (checks : Cmd → List (Bool × Nat)) (f : Cmd → State → State) : State :=
  s.adminPlain slot 0x10 (fun c => c.action == action || decide (3 < c.action)) ([(32, 4)] ++ used)
    (fun c => (decide (64 ≤ c.vol) || (action != 0 && c.action == action && (s.volAt c.vol).isNone), 0x0102) :: (c.action != action, 0x0101) :: checks c)
    fun c s => (f c s).complete slot 0

/-- CAP_EXT outside 1 to 2^40 (Table MQP-16). -/
def Cmd.badCap (c : Cmd) : Bool := c.capExt == 0 || decide (2 ^ 40 < c.capExt)

/-- VOLUME_CREATE (R466, R369): the extents are reserved, and the definition stored (R465). -/
def execVolumeCreate (slot : Nat) (s : State) : Out :=
  .next (s.volManage slot 0 [(40, 8)]
    (fun c => [(badModes c.vmodes || c.badCap, 0x0101), ((s.volAt c.vol).isSome, 0x0113), (decide (s.forReserve < c.capExt), 0x0500)] ++
      s.modeChecks c.vmodes s.hasTwin)
    fun c s => s.setMed fun m => { m with vols := Tbl.put m.vols c.vol { modes := c.vmodes, fmask := c.vmask, cap := c.capExt, resv := c.capExt } })

/-- A volume has a command in flight, a lock held or waiting, or an unlanded piece (R467). -/
def State.volBusy (s : State) (v slot : Nat) : Bool :=
  s.cmds.any (fun e => e.1 != slot && e.2.sq != 0 && volCode e.2.vol == some v) ||
    (s.locks.table ++ s.locks.reqs ++ s.locks.queue).any (fun l => l.vol == v) || s.slabs.any (fun e => e.2.vol == v && !e.2.twin) ||
    s.pieces.any fun e => e.2.vol == v && !e.2.landed

/-- A volume goes: its extents, unwritable ranges, key, statistics and host bounds (R467, R369). -/
def State.volRemove (s : State) (v : Nat) : State :=
  let s := s.setMed fun m => { m with
    vols := Tbl.del m.vols v, map := m.map.filter fun e => !(e.2.vol == v), unwr := m.unwr.filter fun r => !(r.vol == v) }
  { s with
    keys := Tbl.del s.keys v
    chan := s.chan.map fun e => (e.1, { e.2 with refresh := e.2.refresh.filter fun r => !(r.1 == v) })
    chart := { s.chart with host := Tbl.del (Tbl.del s.chart.host (tunKey 8 v)) (tunKey 9 v) } }

/-- VOLUME_DELETE (R467). -/
def execVolumeDelete (slot : Nat) (s : State) : Out :=
  .next (s.volManage slot 1 [] (fun c => [(s.volBusy c.vol slot, 0x0114)]) fun c s => s.volRemove c.vol)

/-- The capacity of a volume. -/
def State.capOf (s : State) (v : Nat) : Nat := ((s.volAt v).getD {}).cap

/-- VOLUME_GROW (R466, R369). -/
def execVolumeGrow (slot : Nat) (s : State) : Out :=
  .next (s.volManage slot 2 [(40, 8)]
    (fun c => [(c.badCap || decide (c.capExt ≤ s.capOf c.vol), 0x0101), (decide (s.forReserve < c.capExt - s.capOf c.vol), 0x0500)])
    fun c s => s.modVol c.vol fun v => { v with cap := c.capExt, resv := c.capExt })

/-- VOLUME_SET_MODES (R466, R470, R30): commands fetched earlier keep the modes they were fetched with. -/
def execVolumeSetModes (slot : Nat) (s : State) : Out :=
  .next (s.volManage slot 3 []
    (fun c => (badModes c.vmodes || encOf c.vmodes != encOf (s.modesOf c.vol), 0x0101) :: s.modeChecks c.vmodes s.hasTwin)
    fun c s => s.modVol c.vol fun v => { v with modes := c.vmodes, fmask := c.vmask })

/-! ### Span Manage -/

/-- The volume code of the span that VOL names. -/
def Cmd.spanCode (c : Cmd) : Nat := (volCode c.vol).getD 64

/-- The span is attached on this node. -/
def State.attachedOn (s : State) (v : Nat) : Bool := (s.volAt v).any (·.attached)

/-- Every member of a span has a declared twin (R25). -/
def State.spanTwinned (s : State) (n : Nat) : Bool := (s.spanTable n).all fun m => (s.twinIn m).isSome

/-- Run a Span Manage action; an ACTION that no row names is answered by any of them. -/
def State.spanManage (s : State) (slot action : Nat) (checks : Cmd → List (Bool × Nat)) (f : Cmd → State → State) : State :=
  s.adminPlain slot 0x11 (fun c => c.action == action || decide (2 < c.action)) [(32, 4)]
    (fun c => (decide (c.vol < 64) || s.volUnknown c.vol, 0x0102) :: (c.action != action, 0x0101) :: checks c)
    fun c s => (f c s).complete slot 0

/-- SPAN_ATTACH (R468): ENC is fixed from attach to detach. -/
def execSpanAttach (slot : Nat) (s : State) : Out :=
  .next (s.spanManage slot 0
    (fun c => [(badModes c.vmodes || (s.attachedOn c.spanCode && encOf c.vmodes != encOf (s.modesOf c.spanCode)), 0x0101),
        (!s.spanMember (c.spanCode - 64) || s.g SYS_BOOT_FAB == 6, 0x0401)] ++ s.modeChecks c.vmodes (s.spanTwinned (c.spanCode - 64)))
    fun c s => s.setMed fun m => { m with
      vols := Tbl.put m.vols c.spanCode { Tbl.getD m.vols c.spanCode {} with modes := c.vmodes, fmask := c.vmask, attached := true } })

/-- SPAN_DETACH (R469). -/
def execSpanDetach (slot : Nat) (s : State) : Out :=
  .next (s.spanManage slot 1
    (fun c => [(!s.attachedOn c.spanCode, 0x0402), (s.cmds.any fun e => e.2.sq != 0 && volCode e.2.vol == some c.spanCode, 0x0114)])
    fun c s => s.modVol c.spanCode fun v => { v with attached := false })

/-- SPAN_SET_MODES (R468, R470). -/
def execSpanSetModes (slot : Nat) (s : State) : Out :=
  .next (s.spanManage slot 2
    (fun c => [(!s.attachedOn c.spanCode, 0x0402), (badModes c.vmodes || encOf c.vmodes != encOf (s.modesOf c.spanCode), 0x0101)] ++
      s.modeChecks c.vmodes (s.spanTwinned (c.spanCode - 64)))
    fun c s => s.modVol c.spanCode fun v => { v with modes := c.vmodes, fmask := c.vmask })

/-! ### Keys -/

/-- A volume, or a span attached here, has ENC. -/
def State.hasEnc (s : State) (v : Nat) : Bool := encOf (s.modesOf v) && (decide (v < 64) || s.attachedOn v)

/-- The checks of the 64 key bytes (R474, R510). -/
def State.keyStatus (s : State) (v kchk : Nat) (b : List Byte) : Nat :=
  if b.take 32 = (b.drop 32).take 32 then 0x0101
  else if kchk ≠ crc32c b then 0x0119
  else if s.hasKey v then 0x0117
  else match (s.volAt v).bind (·.kver) with
    | some k => if k = keyVerifier (b.take 32) then 0 else 0x0119
    | none => 0

/-- A key enters the key RAM; the first one gives the volume its verifier (R473, R510). -/
def State.putKey (s : State) (v : Nat) (b : List Byte) : State :=
  let s : State := { s with keys := Tbl.put s.keys v b }
  s.setMed fun m => { m with vols := m.vols.map fun e => if e.1 = v ∧ e.2.kver.isNone then (e.1, { e.2 with kver := some (keyVerifier (b.take 32)) }) else e }

/-- KEY_LOAD (R473, R474): `r` is what the DKIND 1 buffer holds. -/
def execKeyLoad (slot : Nat) (r : HRead) (s : State) : Out :=
  .next (s.admin slot 0x14 (fun _ => true) [(32, 4)]
    (fun c => [(s.volUnknown c.vol, 0x0102), (!s.hasEnc ((volCode c.vol).getD 0), 0x0101), (c.dkind != 1, 0x0112)])
    fun c s => s.withSegs slot c {} (· == 64) fun _ s =>
      match r with
      | .err aer => s.hostReadError slot aer
      | .ok b =>
        let b := pageBytes b 0 64
        let v := (volCode c.vol).getD 0
        let st := s.keyStatus v (c.le 32 4) b
        (if st = 0 then s.putKey v b else s).complete slot st)

/-- KEY_CLEAR (R475). -/
def execKeyClear (slot : Nat) (s : State) : Out :=
  .next (s.adminPlain slot 0x15 (fun _ => true) []
    (fun c => [(s.volUnknown c.vol, 0x0102), (s.cmds.any fun e => e.2.sq != 0 && (volCode e.2.vol).isSome && volCode e.2.vol == volCode c.vol, 0x0114)])
    fun c s => ({ s with keys := Tbl.del s.keys ((volCode c.vol).getD 0) } : State).complete slot 0)

/-! ### Power State and Reset -/

/-- Run a Power State order; a TARGET that no row names is answered by any of them (R476). -/
def State.powerCmd (s : State) (slot target : Nat) (f : State → State) : State :=
  s.adminPlain slot 0x18 (fun c => c.le 32 1 == target || ! [0, 2, 3].contains (c.le 32 1)) [(32, 1)] (fun c => [(c.le 32 1 != target, 0x0101)]) fun _ s => f s

/-- POWER_STATE_RUN (R476): a pending transition is cancelled; from Standby the path to Run starts. -/
def execPowerStateRun (slot : Nat) (s : State) : Out := .next (s.powerCmd slot 0 fun s => s.leaveStandby.complete slot 0)

/-- POWER_STATE_STANDBY, POWER_STATE_VIGIL (R476, R104, R105). -/
def execPowerStateStandby (slot : Nat) (s : State) : Out :=
  .next (s.powerCmd slot 2 fun s => let r := s.orderPower 2; r.2.complete slot (if r.1 then 2 else 0))
def execPowerStateVigil (slot : Nat) (s : State) : Out :=
  .next (s.powerCmd slot 3 fun s => let r := s.orderPower 3; r.2.complete slot (if r.1 then 2 else 0))

/-- RESET (R477): a host-ordered reset, without a completion. -/
def execReset (slot : Nat) (s : State) : Out := .next (s.adminPlain slot 0x19 (fun _ => true) [] (fun _ => []) fun _ s => s.hostReset)

end Sys2Proof.Machine
end

