-- ==== Sys2Proof/Machine/AdmChart.lean ====
section
/-! DEFINITION. Chart Write and Chart Commit (spec/05_chart.md R184 to R188; spec/14_commands.md R479; spec/20_selftest_debug.md R645). -/

namespace Sys2Proof.Machine

/-- The flash operations of a Chart Write: each sector is erased before its first page, the first one at the opening of the session; bytes 0 to 255
stay in staging (R184, R185). -/
def chartJobs (base : Nat) (b : List Byte) (off : Nat) : Nat → List FlashJob
  | 0 => []
  | n + 1 =>
    let a := base + off
    let page : FlashJob := { prio := 3, erase := false, addr := a, bytes := b.take 256, why := .chart }
    let erase : FlashJob := { prio := 3, erase := true, addr := a / 65536 * 65536, why := .chart }
    let rest := chartJobs base (b.drop 256) (off + 256) n
    if off = 0 then erase :: rest
    else if off % 65536 = 0 then erase :: page :: rest
    else page :: rest

/-- Flash operations wait their turn (R158). -/
def State.askAll (s : State) (l : List FlashJob) : State := l.foldl State.flashAsk s

/-- A Chart Write's data has come (R184). -/
def State.chartData (s : State) (slot off : Nat) (b : List Byte) : State :=
  let s := if off = 0 then
      let s : State := { s with chart := { s.chart with staging := b.take 256, jobs := s.chart.jobs.filter fun j => j.why != .chart } }
      (s.p CHT_UPD_STATE 1).p CHT_STAT_PEND 0
    else s
  let s := s.p CHT_UPDOFF (off + b.length)
  let jobs := chartJobs (0x1000000 * s.inactiveSlot) b off (b.length / 256)
  ({ s with chart := { s.chart with cmd := some slot } } : State).askAll jobs

/-- CHART_WRITE (R184, R185, R479): `r` is what the data buffer holds. The completion follows the last page's read-back. A range past the slot's
16 MiB is refused (assumption log 21). -/
def execChartWrite (slot : Nat) (d : DescIn) (r : HRead) (s : State) : Out :=
  .next (s.admin slot 0x20 (fun _ => true) [(32, 4)]
    (fun c => [(c.le 32 4 != 0 && (s.g CHT_UPD_STATE != 1 || c.le 32 4 != s.g CHT_UPDOFF), 0x0121)])
    fun c s => s.withSegs slot c d (fun _ => true) fun l s =>
      let n := segSum l
      if n < 256 ∨ 1048576 < n ∨ n % 256 ≠ 0 ∨ 0x1000000 < c.le 32 4 + n then s.complete slot 0x0101
      else match r with
        | .err aer => s.hostReadError slot aer
        | .ok b => s.chartData slot (c.le 32 4) (pageBytes b 0 n))

/-- The checks of Chart Commit: those of Table CHT-5 on the staged image, its length in order 7, and code 0x10 (R186). -/
def State.commitCheck (s : State) : Nat :=
  let i := s.inactiveSlot
  let h := s.chart.staging
  if s.slotHalf i then 0x0F
  else if !hdrCrcOk h then 0x01
  else
    let r := (s.checkImage h (0x1000000 * i)).1
    if 2 ≤ r ∧ r ≤ 5 then r
    else if leAt h 8 4 ≠ s.g CHT_UPDOFF then 0x06
    else if r ≠ 0 then r
    else if !s.on CHT_STAT_ABSENT && decide (leAt h 12 4 ≤ s.g CHT_SEQ) then 0x10
    else 0

/-- CHART_COMMIT (R186, R187): on a pass the header is programmed, and its read-back completes the command; a failed check ends the session
(assumption log 21). -/
def execChartCommit (slot : Nat) (s : State) : Out :=
  .next (s.adminPlain slot 0x21 (fun _ => true) [] (fun _ => [(s.g CHT_UPD_STATE != 1, 0x0121)])
    fun _ s =>
      let r := s.commitCheck
      if r = 0 then
        let job : FlashJob := { prio := 3, erase := false, addr := 0x1000000 * s.inactiveSlot, bytes := s.chart.staging, why := .commit }
        (({ s with chart := { s.chart with cmd := some slot } } : State).p CHT_UPD_STATE 2).flashAsk job
      else (((s.p CHT_UPD_STATE 0).p CHT_UPD_REJ r).raise 69).completeWith slot 0x0120 r)

end Sys2Proof.Machine
end

