-- ==== Sys2Proof/Machine/AdmTun.lean ====
section
/-! DEFINITION. Set Tunable and Get Tunable (spec/14_commands.md R471, R472; spec/01_capture_model.md R42 to R45; spec/05_chart.md R181;
spec/04_pins.md R129; spec/00_scope.md R15). -/

namespace Sys2Proof.Machine

/-- Fields of Table MQP-17. -/
def Cmd.tunId (c : Cmd) : Nat := c.le 32 2
def Cmd.tunIns (c : Cmd) : Nat := c.le 34 2
def Cmd.hmin (c : Cmd) : Nat := c.le 40 4
def Cmd.hmax (c : Cmd) : Nat := c.le 44 4

/-- The instances of a tunable (Table CHT-8). -/
def tunAll (id : Nat) : List Nat := (List.range 64).filter (tunInst id) ++ (List.range 16).filterMap fun i => if tunInst id (0x8000 + i) then some (0x8000 + i) else none

/-- The instance of tunable 0x0008 or 0x0009 names no existing volume or attached span (R471). -/
def State.tunNoVol (s : State) (id inst : Nat) : Bool :=
  (id == 8 || id == 9) && (match volCode inst with
    | some v => if v < 64 then (s.volAt v).isNone else !s.attachedOn v
    | none => true)

/-- The instances that a Set Tunable names (R471). -/
def State.tunNamed (s : State) (id inst : Nat) : List Nat := if inst = 0xFFFF then (tunAll id).filter fun i => !s.tunNoVol id i else [inst]

/-- A host bound as a value of the tunable's sign; of 0x0009 one that is not given is the chart's (Table CHT-8). -/
def hostBound (r : TunRow) (id : Nat) (chart : Int) (v : Nat) : Int :=
  if id = 9 ∧ v = 0xFFFFFFFF then chart else if r.signed then toSigned 32 v else (v : Nat)

/-- What Set Tunable makes of one instance: the new host bounds with a clamping note, or an empty envelope (R15, R43, R44, R181). -/
def State.tunNew (s : State) (id inst : Nat) (c : Cmd) : Option ((Option (Int × Int)) × Bool) :=
  match s.tunRow id inst with
  | none => none
  | some r =>
    let e := s.chartEnv id inst
    let restore := bitAt (c.le 36 1) 0
    match r.kind with
    | .range =>
      if restore then some (none, false)
      else
        let a := hostBound r id e.1 c.hmin
        let b := hostBound r id e.2.1 c.hmax
        let lo := clampI e.1 e.2.1 a
        let hi := clampI e.1 e.2.1 b
        if hi < lo then none else some (some (lo, hi), lo != a || hi != b)
    | .subset =>
      if restore then some (some (0, e.2.1), false)
      else
        let x := setAnd (c.hmax : Nat) e.2.1
        if x = 0 then none else some (some (0, x), x != ((c.hmax : Nat) : Int))
    | .bits =>
      if restore then some (none, false)
      else
        let cur := match (s.chart.hostNext.filter fun x => x.2.1 == tunKey id inst).getLast? with
          | some (_, _, some h) => h.2.toNat
          | some (_, _, none) => e.2.2.toNat
          | none => s.outInForce inst
        let m := Nat.land c.hmin e.2.1.toNat
        let v := Nat.land c.hmax m + (cur - Nat.land cur m)
        let out := c.hmin - m
        some (some (0, (v : Nat)), Nat.land c.hmax out != Nat.land e.2.2.toNat out)

/-- Set Tunable of the named instances: with an empty envelope nothing changes; the bounds take effect at an edge after the posting (R44, R45). -/
def State.setTunable (s : State) (slot : Nat) (c : Cmd) : State :=
  let l := (s.tunNamed c.tunId c.tunIns).map fun i => (i, s.tunNew c.tunId i c)
  if l.any fun x => x.2.isNone then s.complete slot 0x010B
  else
    let s := l.foldl (fun s x => match x.2 with
      | some n => { s with chart := { s.chart with hostNext := s.chart.hostNext ++ [(c.seq, tunKey c.tunId x.1, n.1)] } }
      | none => s) s
    s.complete slot (if l.any fun x => (x.2.map (·.2)).getD false then 3 else 0)

/-- The ID or the INST of a tunable command is unknown. -/
def State.tunUnknown (s : State) (c : Cmd) (every : Bool) : Bool :=
  (s.tunRow c.tunId 0).isNone || !(tunInst c.tunId c.tunIns || (every && c.tunIns == 0xFFFF))

/-- A subset tunable's HMIN is 0 (Table MQP-17). -/
def badSubset (c : Cmd) : Bool := (c.tunId == 2 || c.tunId == 8) && !bitAt (c.le 36 1) 0 && c.hmin != 0

/-- SET_TUNABLE (R471). -/
def execSetTunable (slot : Nat) (s : State) : Out :=
  .next (s.adminPlain slot 0x0A (fun _ => true) [(32, 5), (40, 8)]
    (fun c => [(decide (2 ≤ c.le 36 1) || badSubset c, 0x0101), (s.tunUnknown c true, 0x0101), (c.tunIns != 0xFFFF && s.tunNoVol c.tunId c.tunIns, 0x0102)])
    fun c s => s.setTunable slot c)

/-! ### Get Tunable -/

/-- The value in force of a tunable's instance (R472). The loop of 0x0004 and of 0x0005 applies several values, of which the spec names none:
free (assumption log 3). -/
def State.tunValue (s : State) (id inst : Nat) : Int :=
  match id with
  | 0x1 => (s.g SVY_AVS_VCORE : Nat)
  | 0x2 => if s.econ then 1 else 2
  | 0x3 => (s.gk CHN_FH_HTR inst : Nat)
  | 0x4 => (s.freeAt 0 : Nat)
  | 0x5 => (s.freeAt 1 : Nat)
  | 0x6 => (s.gki FAB_LANE_CTLE 0 inst : Nat)
  | 0x7 => (s.gki FAB_LANE_DFE 0 inst : Nat)
  | 0xC => (s.gki PIN_OUT_OUT 0 inst : Nat)
  | 0x8 => (s.eff id inst).2
  | 0x9 => (s.eff id inst).2
  | _ => s.inForce id inst

/-- PIN and HELD of an instance as R702 reports them. -/
def State.tunPin (s : State) (id inst : Nat) : Nat :=
  let held := fun (b : Nat) => b2n (bitAt (s.g SYS_LOOPPIN_HELD) b)
  match id with
  | 0x1 => b2n (bitAt (s.loopAt 0).last 0) + 2 * held 0
  | 0x2 => b2n (bitAt (s.loopAt 0).last 1) + 2 * held 0
  | 0x3 => s.gk CHN_FH_PIN inst + 2 * s.gk CHN_FH_HELD inst
  | 0x4 => s.gk CHN_STAT_FIR_PIN inst + 2 * held 2
  | 0x5 => s.gk CHN_STAT_THR_PIN inst + 2 * held 2
  | 0x6 => s.gki FAB_LANE_PIN 0 inst + 2 * held 3
  | 0x7 => s.gki FAB_LANE_PIN 0 inst + 2 * held 3
  | 0x8 => s.g MED_PLC_PIN + 2 * held 4
  | 0x9 => s.g MED_PLC_PIN + 2 * held 4
  | _ => 0

/-- The 32 bytes of Get Tunable (R472). -/
def State.tunBytes (s : State) (id inst : Nat) : List Byte :=
  match s.tunRow id inst with
  | none => zeros 32
  | some r =>
    let w := fun (v : Int) => leBytes (ofSigned 32 v) 4
    let e := s.chartEnv id inst
    let h := Tbl.find s.chart.host (tunKey id inst)
    let f := s.eff id inst
    let tail := w (s.tunValue id inst) ++ [byte (s.tunPin id inst), 0, 0, 0]
    match r.kind with
    | .range =>
      let b := h.getD (e.1, e.2.1)
      w e.1 ++ w e.2.1 ++ w b.1 ++ w b.2 ++ w f.1 ++ w f.2 ++ tail
    | .subset => w 0 ++ w e.2.1 ++ w 0 ++ w ((h.map (·.2)).getD e.2.1) ++ w 0 ++ w f.2 ++ tail
    | .bits => w 0 ++ w e.2.1 ++ w e.2.1 ++ w (setAnd (s.outInForce inst : Nat) e.2.1) ++ w 0 ++ w e.2.1 ++ tail

/-- GET_TUNABLE (R472). -/
def execGetTunable (slot : Nat) (s : State) : Out :=
  .next ((s.admin slot 0x0B (fun _ => true) [(32, 5), (40, 8)]
    (fun c => [(c.le 36 1 != 0 || s.tunUnknown c false, 0x0101), (s.tunNoVol c.tunId c.tunIns, 0x0102), (c.dkind != 1, 0x0112)])
    fun c s => s.withSegs slot c {} (· == 32) fun l s => (s.toHost { c with segs := l } 0 (s.tunBytes c.tunId c.tunIns)).complete slot 0).fresh)

end Sys2Proof.Machine
end

