-- ==== Sys2Proof/Machine/Channel.lean ====
section
/-! DEFINITION. The channels: preamp link and sideband, equaliser and threshold loops, fly height, touchdown, start-up calibration
(spec/10_channel.md R318 to R337, R351; spec/20_selftest_debug.md R647 to R653). -/

namespace Sys2Proof.Machine

/-! ### Channels and heads -/

/-- Channel `k` and a change of it. -/
def State.chn (s : State) (k : Nat) : Chan := Tbl.getD s.chan k {}
def State.setChn (s : State) (k : Nat) (f : Chan → Chan) : State := { s with chan := Tbl.put s.chan k (f (s.chn k)) }

/-- The context of head `h` and a change of it. -/
def State.hd (s : State) (h : Nat) : HeadCtx := Tbl.getD s.heads h {}
def State.setHd (s : State) (h : Nat) (f : HeadCtx → HeadCtx) : State := { s with heads := Tbl.put s.heads h (f (s.hd h)) }

/-- The selected head of actuator `k` (SRV_TGT.HEAD). -/
def State.selHead (s : State) (k : Nat) : Nat := s.gk SRV_TGT_HEAD k

/-! ### The preamp link -/

/-- Writing is disabled on a head: event 120; writes that map to it complete with 0x0221 (R325, R653). -/
def State.disableHead (s : State) (h : Nat) : State :=
  if (s.hd h).wdis then s
  else ((s.setHd h fun x => { x with wdis := true }).raise 120).failWrites (fun l => locHead l == h) 0x0221

/-- Link failure: the gate drops, the actuator parks and is out of service, event 121 (R322). -/
def State.linkFailure (s : State) (k : Nat) : State :=
  let s := ((s.gateDrop k).pk CHN_PLINK_FAIL k 1).raise 121
  let s := (s.epark k 22).withdraw k
  if s.g SYS_BOOT_STAGE = 3 then s.headsStageEnd else s

/-- A contact outside calibration: gate low, heater 0, event 122, PTD lowered by 5 %, the loop held, touchdown due at once (R337, R647). -/
def State.contact (s : State) (k h : Nat) : State :=
  let s := (s.gateDrop k).raise 122
  let s := s.zeroHeater k h
  let s := (s.pk CHN_PTD_PTD h (roundFree (95 * s.gk CHN_PTD_PTD h) 100 (s.freeAt 0))).fresh
  (s.loopHold (loopId 1 h)).setHd h fun x => { x with contact := some s.clk.edges, tdDue := some (x.tdDue.getD s.clk.edges) }

/-- A frame's command word (R319): RD, HEAD, ADDR, and DATA in a write. -/
def LFrame.word (f : LFrame) : Nat :=
  let r := f.rd || f.back
  b2n r * 2 ^ 31 + f.head * 2 ^ 26 + f.addr * 2 ^ 18 + (if r then 0 else f.data)

/-- The CRC of a command word, over its bits in the order in which they travel, and that of the response to a read, over the word and then the data
(R319, R320, R700). -/
def frameCrc (w : Nat) : Nat := crc16 (leBytes w 4).reverse
def responseCrc (w data : Nat) : Nat := crc16 ((leBytes w 4).reverse ++ (leBytes data 2).reverse)

/-- A frame's place in the order of R324; a read-back goes with the configuration writes. -/
def LFrame.rank (f : LFrame) : Nat := if f.back then 3 else f.cls

/-- The frame that the link serves next (R324). -/
def nextFrame (l : List LFrame) : Option LFrame := [0, 1, 2, 3].findSome? fun r => l.find? fun f => f.rank == r

/-- Two frames are for one register of one head. -/
def LFrame.same (f g : LFrame) : Bool := f.cls == g.cls && f.head == g.head && f.addr == g.addr && f.rd == g.rd

/-- A frame joins those that wait; an older frame for the same register gives way, and the same frame waits once. -/
def State.linkWait (s : State) (k : Nat) (f : LFrame) : State :=
  s.setChn k fun c => { c with
    link := if c.link.any fun g => g.same f && g.data == f.data then c.link else c.link.filter (fun g => !g.same f) ++ [f] }

/-- A frame leaves on the link: its command word and the CRC (R319). -/
def State.linkEmit (s : State) (k : Nat) (f : LFrame) : State := s.emit (.link k (f.word * 65536 + frameCrc f.word))

/-- A write frame leaves, and its read-back waits, but for a heater write while a head is writing (R321). -/
def State.linkWrite (s : State) (k : Nat) (f : LFrame) : State :=
  let s := s.linkEmit k f
  if f.cls = 1 ∧ (s.act k).gate.isSome then s else s.linkWait k { f with back := true }

/-- The heater code that gives a head its value: steps of HTR_LSB µW, a fraction rounded freely (log 14); a code that 16 bits cannot hold is free. -/
def State.heaterCode (s : State) (h : Nat) : Nat :=
  let c := roundFree (100 * s.gk CHN_FH_HTR h) (max 1 (s.hdLe h 16 2)) (s.freeAt (20 + h))
  if c < 65536 then c else s.freeAt (40 + h) % 65536

/-- The frames that an edge brings to the link of channel `k`: the selection of a new head, whose data the spec does not give; the heater value of the
selected head and every value that has changed; a read of the contact sensor, for the responses (R323, R324, R333, R336; assumption log 157). Selection
and heater writes leave at once. -/
def State.linkEdge (s : State) (k : Nat) : State :=
  if s.onk CHN_PLINK_FAIL k then s
  else
    let h := s.selHead k
    let s := if (s.chn k).sel = some h then s
      else (s.linkWrite k { cls := 0, head := h, addr := s.hdLe h 8 1, data := s.freeAt 60 % 65536 }).setChn k fun c => { c with sel := some h }
    let s := ((s.headsOf k).filter fun g => g == h || (s.hd g).sent.getD 0 != s.gk CHN_FH_HTR g).foldl (fun s g =>
      (s.linkWrite k { cls := 1, head := g, addr := s.hdLe g 9 1, data := s.heaterCode g }).setHd g fun x => { x with sent := some (s.gk CHN_FH_HTR g) }) s
    (s.linkWait k { cls := 2, head := h, addr := s.hdLe h 13 1, data := 0, rd := true }).fresh

/-- A link error on a frame: it is repeated, and the third in a row is a link failure (R321, R322). -/
def State.linkError (s : State) (k : Nat) (f : LFrame) : State :=
  let s := s.bumpk CHN_PLINK_ERR k 1
  if 2 ≤ f.errs then s.linkFailure k
  else s.setChn k fun c => { c with link := { f with back := false, errs := f.errs + 1 } :: c.link }

/-- What a status read answers: the fault register goes to CHN_PLINK.FCODE; a contact counts for the touchdown calibration under way, else it is one
outside calibration (R325, R333, R337). -/
def State.statusRead (s : State) (k : Nat) (f : LFrame) (data : Nat) (hit : Bool) : State :=
  if f.data = 1 then s.pk CHN_PLINK_FCODE k data
  else if !hit then s
  else match (s.chn k).touch with
    | some t => if t.head = f.head ∧ t.ended = none then s.setChn k fun c => { c with touch := some { t with hit := true } } else s
    | none => if f.head = s.selHead k ∧ (s.hd f.head).contact = none then s.contact k f.head else s

/-- LINK_FRAME (R319 to R325, R333, R337): the link of channel `k` serves the frame that waits first. `data` and `crc` are the response to a read; `hit`
says that the data of the contact sensor reports contact, a coding that the preamp has. `word` names the frame: where it is not the command word of the
frame that is due, no frame goes (assumption log 178). -/
def execLinkFrame (k : Fin 4) (word : BitVec 32) (data crc : BitVec 16) (hit : Bool) (s : State) : Out :=
  if s.running && decide (k.val < s.nAct) && !s.onk CHN_PLINK_FAIL k then
    match nextFrame (s.chn k).link with
    | none => .next s
    | some f =>
      if word.toNat ≠ f.word then .next s else
      let s := s.setChn k fun c => { c with link := c.link.erase f }
      if !(f.rd || f.back) then .next (s.linkWrite k f)
      else
        let s := s.linkEmit k f
        if crc.toNat ≠ responseCrc f.word data.toNat ∨ (f.back ∧ data.toNat ≠ f.data) then .next (s.linkError k f)
        else if f.back then .next s
        else .next (s.statusRead k f data.toNat hit)
  else .next s

/-- CONTACT_HOLD_END (R337): 250 ticks after the contact the loop resumes from 0. -/
def execContactHoldEnd (head : Fin 20) (s : State) : Out :=
  match (s.hd head).contact with
  | none => .next s
  | some e => .next (if s.running && decide (e + 250 ≤ s.clk.edges) then
      s.setHd head fun x => { x with contact := none } else s)

/-- PREAMP_FAULT (R325): PFAULT_N has been low for `cycles` cycles, at least 16: gate low, event 119; the third fault of a head within 25 000 ticks
disables writing on it. -/
def execPreampFault (k : Fin 4) (s : State) (cycles : Nat := 16) : Out :=
  if s.running && decide (k.val < s.nAct) && (s.chn k).fault.isNone && decide (16 ≤ cycles) then
    let h := s.selHead k
    let s := (s.gateDrop k).raise 119
    let s := (s.pk CHN_PLINK_FHEAD k h).setChn k fun c => { c with fault := some s.instant }
    let s := s.linkWait k { cls := 2, head := h, addr := s.hdLe h 12 1, data := 1, rd := true }
    let s := s.setHd h fun x => { x with faults := s.clk.edges :: x.faults.filter fun e => decide (s.clk.edges < e + 25000) }
    .next (if 3 ≤ (s.hd h).faults.length then s.disableHead h else s)
  else .next s

/-- PREAMP_FAULT_CLEAR (R325): PFAULT_N is high again; the abandoned sector waits for SECTOR_REWRITE when the fault lasted at most one tick,
else for an ordinary write of its location. -/
def execPreampFaultClear (k : Fin 4) (s : State) : Out :=
  match (s.chn k).fault with
  | none => .next s
  | some e =>
    let s := s.setChn k fun c => { c with fault := none }
    .next (if s.instant ≤ e + 20000 then s
      else { s with wr := s.wr.map fun w => if s.locAct w.1 = k.val ∧ w.2.phase = 2 then (w.1, { w.2 with phase := 0 }) else w })

/-- The outcome of one sideband read (R318): three failures in a row raise event 123. -/
def State.sideband (s : State) (k : Nat) (F : Fld) (v : Option Nat) : State :=
  match v with
  | some x => (s.pk F k x).setChn k fun c => { c with sbFail := 0 }
  | none =>
    let s := (s.bumpk CHN_SB_ERR k 1).setChn k fun c => { c with sbFail := c.sbFail + 1 }
    if (s.chn k).sbFail = 3 then s.raise 123 else s

/-- The preamp sideband reaches its pins: GPC0 and GPC1 have their alternate function (Table PIN-4). -/
def State.sidebandOn (s : State) : Bool := s.gki PIN_FUNC 2 0 == 3 && s.gki PIN_FUNC 2 1 == 3

/-- The two sideband transactions of actuator `k`'s preamp: identity, two bytes, and temperature, one (R318). -/
def State.sidebandGo (s : State) (k : Nat) : State :=
  let h := ((s.headsOf k).head?).getD 0
  if s.sidebandOn then (s.emit (.i2c 1 (s.hdLe h 44 1) (s.hdLe h 45 1) 2)).emit (.i2c 1 (s.hdLe h 44 1) (s.hdLe h 46 1) 1) else s

/-- The results of the two reads; without the pins both fail. -/
def State.sidebandGot (s : State) (k : Nat) (id : Option (BitVec 16)) (temp : Option (BitVec 8)) : State :=
  (s.sideband k CHN_SB_ID (if s.sidebandOn then id.map (·.toNat) else none)).sideband k CHN_SB_TEMP (if s.sidebandOn then temp.map (·.toNat) else none)

/-- SIDEBAND_READ (R318): the identity and the temperature, every 25 000 ticks; none for a read that failed. -/
def execSidebandRead (k : Fin 4) (id : Option (BitVec 16)) (temp : Option (BitVec 8)) (s : State) : Out :=
  if s.running && decide (k.val < s.nAct) && decide ((s.chn k).sbEdge + 25000 ≤ s.clk.edges) then
    .next (((s.setChn k fun c => { c with sbEdge := s.clk.edges }).sidebandGo k).sidebandGot k id temp)
  else .next s

/-! ### Equaliser and threshold loops -/

/-- One adaptation step of a value from its sum, held to its envelope, with whether it was pinned (R331, R47). -/
def adapt (env : Int × Int) (mu : Nat) (v sum : Int) (free : Nat) : Int × Bool :=
  let n := v + roundNear sum (2 ^ (mu + 8)) free
  (clampI env.1 env.2 n, clampI env.1 env.2 n != n)

/-- The taps of a reader after a step, with whether one was pinned. -/
def adaptAll (env : Int × Int) (mu : Nat) (free : Nat → Nat) (taps sums : List Int) : List Int × Bool :=
  let l := (taps.zip (sums ++ List.replicate 32 0)).zipIdx.map fun x => adapt env mu x.1.1 x.1.2 (free x.2)
  (l.map (·.1), l.any (·.2))

/-- The head that channel `k` read with in the previous tick: the one that was selected until this tick's edge (R62, R270). -/
def State.readHead (s : State) (k : Nat) : Nat := s.latch.get SRV_TGT_HEAD k 0

/-- The loop of channel `k` steps from the sums of the previous tick (R331); without read samples it takes no step, and the tick neither counts
nor ends an episode (R332). -/
def State.chanLoop (s : State) (k : Nat) (x : Option ChanSums) : State :=
  match x with
  | none => s
  | some x =>
    let h := s.readHead k
    let c := s.hd h
    let e4 := s.eff 4 k
    let e5 := s.eff 5 k
    let mf := s.hdLe h 34 1
    let mt := s.hdLe h 35 1
    let l := adaptAll e4 mf (fun i => s.freeAt (128 * k + i)) c.tapsL x.lead
    let t := adaptAll e4 mf (fun i => s.freeAt (128 * k + 32 + i)) c.tapsT x.trail
    let ol := adapt e5 mt c.ofsL x.ofsL (s.freeAt (128 * k + 64))
    let ot := adapt e5 mt c.ofsT x.ofsT (s.freeAt (128 * k + 65))
    let s := s.setHd h fun c => { c with tapsL := l.1, tapsT := t.1, ofsL := ol.1, ofsT := ot.1 }
    s.loopStep (loopId 2 k) (b2n (l.2 || t.2) + 2 * b2n (ol.2 || ot.2))

/-- CHANNEL_STEP (R331, R332): the step of each channel loop; the list gives what channels 0 to 3 accumulated in the previous tick. -/
def execChannelStep (x : List (Option ChanSums)) (s : State) : Out :=
  if s.slotOpen 10 && s.chart.applied then
    let s := (s.atCycle 1900).slotDone 10
    .next (s.actList.foldl (fun s k => s.chanLoop k (x.getD k none)) s).fresh
  else .next s

/-! ### Fly height -/

/-- A loop is idle in a tick: the tick neither counts toward an episode nor ends one (R332, R335). -/
def State.loopIdle (s : State) (l : Nat) : State :=
  { s with loops := Tbl.put s.loops l { s.loopAt l with pinned := false, which := 0, held := false } }

/-- The heater that the loop of head `h` on actuator `k` wants, in 0.1 mW over a denominator: the loop of spec/10_channel.md with its backoff at the
target track, the temperature of the previous tick and the correction, bounded by the touchdown guard; numerator and denominator. -/
def State.heaterWant (s : State) (k h : Nat) : Int × Nat :=
  let d : Nat := max 1 (s.tracks - 1)
  let den : Nat := d * 8 * 2 ^ 15
  let ptd : Int := (s.gk CHN_PTD_PTD h : Nat)
  let t : Int := (s.gk SRV_TGT_TRACK k : Nat)
  let od : Int := (s.hdLe h 22 2 : Nat)
  let bk : Int := (s.hdLe h 24 2 : Nat)
  let temp := toSigned 12 (s.latch.get SVY_TEMP_TMAX 0 0)
  let comp : Int := if (s.act k).gate.isSome then (s.hdLe h 28 2 : Nat) else 0
  let want := (ptd - comp) * den - (od * d + (bk - od) * t) * (8 * 2 ^ 15) - s.hdSg h 31 1 * (temp - 8 * (s.hdLe h 32 1 : Nat)) * (d * 2 ^ 15) +
    (s.hd h).corr * (d * 8)
  (min want ((ptd - (s.hdLe h 26 2 : Nat)) * den), den)

/-- The heater value that the loop of head `h` holds: the one in force less what a step in progress changes (R346). -/
def State.loopHeater (s : State) (k h : Nat) : Nat :=
  match (s.chn k).adj with
  | some a => if a.head = h then a.base else s.gk CHN_FH_HTR h
  | none => s.gk CHN_FH_HTR h

/-- The loop's heater value goes into force; a step in progress changes it within the touchdown guard and the effective envelope (R346). -/
def State.setHeater (s : State) (k h v : Nat) : State :=
  match (s.chn k).adj with
  | some a =>
    if a.head = h then
      let e := s.eff 3 h
      let top : Int := (s.gk CHN_PTD_PTD h : Nat) - (s.hdLe h 26 2 : Nat)
      (s.pk CHN_FH_HTR h (clampI e.1 e.2 (min (v + a.htr) top)).toNat).setChn k fun c => { c with adj := some { a with base := v } }
    else s.pk CHN_FH_HTR h v
  | none => s.pk CHN_FH_HTR h v

/-- The fly-height loop of the selected head of actuator `k` steps (R334): guard, envelope, slew; a fractional value is rounded freely (log 14). It is
pinned where the envelope limits the wanted value or the heater still slews back into it (R47). -/
def State.flyLoop (s : State) (k : Nat) : State :=
  let h := s.selHead k
  let w := s.heaterWant k h
  let e := s.eff 3 h
  let den : Int := w.2
  let lim := clampI (e.1 * den) (e.2 * den) w.1
  let slew : Int := (s.hdLe h 30 1 : Nat) * den
  let cur : Int := (s.loopHeater k h : Nat) * den
  let nxt := cur + clampI (-slew) slew (lim - cur)
  let out := decide (nxt < e.1 * den) || decide (e.2 * den < nxt)
  let s := s.setHeater k h (roundFree nxt.toNat w.2 (s.freeAt k))
  s.loopStep (loopId 1 h) (b2n (lim != w.1 || out))

/-- The clearance read in the previous tick: the estimate and the correction of the head that read (Fly height, The loop). -/
def State.clearance (s : State) (k : Nat) (x : Option ClearIn) : State :=
  match x with
  | none => s
  | some c =>
    let h := s.readHead k
    (s.pk CHN_CLR_EST h (ofSigned 16 c.est)).setHd h fun y => { y with corr := y.corr + c.err * 2 ^ (15 - s.hdLe h 33 1) }

/-- What the fly-height slot does for head `h`: the loop of a selected head in FOLLOW, SEEK, SETTLE or SWITCH steps; after a contact it is held; a
head under touchdown calibration keeps that heater; elsewhere the heater is 0 and the loop idle (R335, R337). -/
def State.flyHead (s : State) (h : Nat) : State :=
  let k := s.headAct h
  let st := s.actSt k
  if (s.hd h).contact.isSome then (s.zeroHeater k h).loopHold (loopId 1 h)
  else if (s.chn k).touch.any fun t => t.head == h then s.loopIdle (loopId 1 h)
  else if s.selHead k = h ∧ 2 ≤ st ∧ st ≤ 5 then s.flyLoop k
  else if st = 7 ∨ st = 8 then (s.zeroHeater k h).loopHold (loopId 1 h)
  else (s.zeroHeater k h).loopIdle (loopId 1 h)

/-- FLY_HEIGHT_STEP (R334, R335): the list gives what actuators 0 to 3 read of the clearance in the previous tick. -/
def execFlyHeightStep (x : List (Option ClearIn)) (s : State) : Out :=
  if s.slotOpen 11 && s.chart.applied then
    let s := (s.atCycle 2300).slotDone 11
    let s := (List.range s.nHead).foldl State.flyHead s
    .next (s.actList.foldl (fun s k => s.clearance k (x.getD k none)) s).fresh
  else .next s

/-! ### Touchdown -/

/-- The smallest touchdown power that passes (R333). -/
def State.ptdFloor (s : State) (h : Nat) : Nat := s.hdLe h 26 2 + 100

/-- The heater at which a touchdown calibration without contact fails: 1500 units at start-up, PTD + 300 in a slice (R333, R651). -/
def State.touchTop (s : State) (slice : Bool) (h : Nat) : Nat := if slice then s.gk CHN_PTD_PTD h + 300 else 1500

/-- A step of a touchdown calibration ends (R333, R651). -/
def State.touchNext (s : State) (slice : Bool) (t : Touch) : Touch :=
  let t := { t with steps := t.steps + 1, contacts := if t.hit then t.contacts + 1 else 0, edge := s.clk.edges, hit := false }
  if t.contacts = 2 then
    if slice ∧ t.steps = 2 then { t with ended := some none, again := decide ((s.hd t.head).tdLows < 3) }
    else { t with ended := some (if t.htr - 10 < s.ptdFloor t.head then none else some (t.htr - 10)) }
  else if s.touchTop slice t.head ≤ t.htr then { t with ended := some none }
  else { t with htr := t.htr + 10 }

/-- TOUCHDOWN_STEP (R333): 25 ticks of a step are over, in each of which the contact sensor was read; `contact` is what the last tick's read reports. -/
def execTouchdownStep (k : Fin 4) (contact : Bool) (s : State) : Out :=
  match (s.chn k).touch with
  | none => .next s
  | some t =>
    if s.running && t.ended.isNone && decide (t.edge + 25 ≤ s.clk.edges) && s.actSt k == 2 && s.selHead k == t.head then
      let slice := (s.chn k).slice.isSome
      let t := s.touchNext slice { t with hit := t.hit || contact }
      let s := s.setChn k fun c => { c with touch := some t }
      .next (s.pk CHN_FH_HTR t.head (if t.ended.isSome then (if slice then t.old else 0) else t.htr))
    else .next s

/-! ### Self-test results (Table TST-5) -/

/-- The admin test that runs has dealt with a head: it leaves the list of those to do, and a failure counts. -/
def State.testHead (s : State) (h code : Nat) (ok : Bool) : State :=
  match s.tst.run with
  | some r =>
    if r.heads.contains h then
      { s with tst := { s.tst with run := some { r with
        heads := r.heads.erase h, count := r.count + 1, fails := r.fails + b2n (!ok), code := if ok || r.code != 0 then r.code else code } } }
    else s
  | none => s

/-! ### Start-up calibration -/

/-- A head's start-up calibration may run: its actuator follows in the heads stage, or the Recalibrate test names the head (R351, Table TST-4). -/
def State.calWanted (s : State) (h : Nat) : Bool :=
  let k := s.headAct h
  s.running && decide (h < s.nHead) && !s.actFailed k && s.actSt k == 2 && (s.act k).motion.isNone &&
    ((s.g SYS_BOOT_STAGE == 3 && s.g SYS_BOOT_MEDIA == 3 && !(s.hd h).cal && ((s.headsOf k).find? fun g => !(s.hd g).cal) == some h) ||
      s.tst.run.any fun r => r.test == 0x12 && r.heads.contains h)

/-- The calibration of a head has failed: in the heads stage its actuator is out of service (R204); in a test it counts. -/
def State.calFail (s : State) (k h : Nat) : State :=
  let s := (s.setChn k fun c => { c with touch := none, calAt := none }).zeroHeater k h
  if s.g SYS_BOOT_STAGE = 3 then (s.outOfService k).headsStageEnd else s.testHead h (0x70 + h) false

/-- The down-track separation that the chart gives head `h` at track `t`, in channel bits (R326). -/
def State.chartSep (s : State) (h t : Nat) : Int :=
  let m := s.tracks - 1
  let od : Int := (s.hdLe h 18 2 : Nat)
  let id : Int := (s.hdLe h 20 2 : Nat)
  roundNear (od * m + (id - od) * t) (max 1 m) (s.freeAt 6)

/-- A separation measured on the track that actuator `k` follows, less the chart's (R326). -/
def State.sepDiff (s : State) (k h : Nat) (sep : Int) : Int := sep - s.chartSep h (s.gk SRV_TGT_TRACK k)

/-- The separation in force on track `t`: the chart's, replaced by what was measured (R326). -/
def State.separation (s : State) (h t : Nat) : Int := s.chartSep h t + (s.hd h).sep

/-- The calibration of a head has passed: PTD, separation, context; the actuator is ready with its last head (R204, R333, R326). -/
def State.calPass (s : State) (k h ptd : Nat) (x : CalIn) : State :=
  let s := (s.setChn k fun c => { c with touch := none, calAt := none }).zeroHeater k h
  let s := (s.pk CHN_PTD_PTD h ptd).setHd h fun y => { y with
    sep := s.sepDiff k h x.sep, cal := true, tapsL := x.lead.take 32 ++ y.tapsL.drop x.lead.length, tapsT := x.trail.take 32 ++ y.tapsT.drop x.trail.length, ofsL := x.ofsL, ofsT := x.ofsT }
  if s.g SYS_BOOT_STAGE = 3 then
    if (s.headsOf k).all fun g => (s.hd g).cal then (s.setAct k fun a => { a with ready := true }).headsStageEnd else s
  else s.testHead h 0 true

/-- The configuration writes of a head: write current, overshoot, reader bias, each read back (R321, R351). -/
def State.configFrames (s : State) (k h : Nat) : State :=
  [(10, 2), (11, 4), (14, 6)].foldl (fun (s : State) e => s.linkWait k { cls := 3, head := h, addr := s.hdLe h e.1 1, data := s.hdLe h e.2 2 }) s

/-- The link check of a calibration is over: no configuration write of the head waits. -/
def State.linkChecked (s : State) (k h : Nat) : Bool := !(s.chn k).link.any fun f => f.cls == 3 && f.head == h

/-- The sideband results and the link check decide whether touchdown begins: a read that failed fails the calibration (R318, R351). -/
def State.calTouch (s : State) (k h : Nat) (x : CalIn) : State :=
  if s.linkChecked k h then
    let s := s.sidebandGot k x.id x.temp
    if s.sidebandOn && x.id.isSome && x.temp.isSome then
      s.setChn k fun c => { c with touch := some { head := h, htr := 0, edge := s.clk.edges } }
    else s.calFail k h
  else s

/-- HEAD_CALIBRATION (R351): the head is selected; its preamp is read over the sideband and its configuration registers are written and read back; then
touchdown begins; once it has ended, the calibration track and the separation decide. 280 ms, 70 000 ticks, bound it. -/
def execHeadCalibration (head : Fin 20) (x : CalIn) (s : State) : Out :=
  let h := head.val
  let k := s.headAct h
  if !s.calWanted h then .next s
  else if s.selHead k ≠ h then .next (s.orderSeek k { head := h, track := s.gk SRV_TGT_TRACK k, write := false })
  else
    match (s.chn k).calAt.filter (fun b => b.1 == h), (s.chn k).touch with
    | none, _ => .next (((s.setChn k fun c => { c with calAt := some (h, s.clk.edges) }).sidebandGo k).configFrames k h)
    | some b, t =>
      if b.2 + 70000 ≤ s.clk.edges then .next (s.calFail k h)
      else match t with
        | none => .next (s.calTouch k h x)
        | some t =>
          match t.ended with
          | none => .next s
          | some (some p) => .next (if x.track && decide ((s.sepDiff k h x.sep).natAbs ≤ 8) then s.calPass k h p x else s.calFail k h)
          | some none => .next (s.calFail k h)

end Sys2Proof.Machine
end

