-- ==== Sys2Proof/Machine/BistTap.lean ====
section
/-! DEFINITION. The boot self-test, boundary scan, the debug window and host-armed snapshots (spec/20_selftest_debug.md R642 to R646 and
R659 to R666). -/

namespace Sys2Proof.Machine

/-- BIST_END (R644, R646): on a pass the chart stage begins; `fail` gives the lowest failing block code of Table TST-1 and DETAIL, and start-up
ends in fault mode with code 0x01 (R202). The cold set runs on a cold start and after cause 0x2 (R642). -/
def execBistEnd (fail : Option (BitVec 8 × BitVec 16)) (s : State) : Out :=
  if s.running && s.g SYS_BOOT_STAGE == 1 && !s.on PIN_STRAP_SCANHOLD then
    let cold := !s.on SYS_BOOT_WARM || s.g SVY_RSTCAUSE_CAUSE == 2
    let block := match fail with
      | some f => f.1.toNat
      | none => 0
    let detail := match fail with
      | some f => f.2.toNat
      | none => 0
    let bad := fail.isSome
    let s := (s.p TST_BIST_BLOCK block).p TST_BIST_DETAIL detail
    let s := (s.p TST_BIST_FAIL (b2n bad)).p TST_BIST_COLD (b2n cold)
    let s := s.bistRecord (b2n bad) block detail
    let s := s.result 0 0 0 (b2n bad) (b2n bad) block detail s.clk.edges 0 (b2n bad)
    .next (if bad then s.faultMode 0x01 else ((s.p SYS_BOOT_STAGE 2).stageEndAt 1).stageBegin 3)
  else .next s

/-! ### The test access port -/

/-- Replace the test access port's state, which lives outside the core and its resets. -/
def State.setTap (s : State) (t : Tap) : State := { s with tst := { s.tst with tap := t } }

/-- The cells of the boundary register that drive their balls when an instruction gives it the pins: all but those of the spindle, VCM and milliactuator
gate drivers, which only observe (R660, R661). -/
def drivingCells : Nat := maskOf 968 fun i => !Config.gateCell i

/-- Opcode `op` selects the bypass register, and the pins stay with the system (Table TST-7, R659). -/
def State.tapBypass (s : State) (op : Nat) : State := s.setTap { s.tst.tap with ir := op, sel := 0, capture := 0, drive := 0, driven := 0 }

/-- An instruction that drives the pins acts with SCANHOLD at 1, and selects the bypass register otherwise (R659). -/
def State.tapDrive (s : State) (op : Nat) (f : Tap → Tap) : State :=
  if s.on PIN_STRAP_SCANHOLD then s.setTap (f { s.tst.tap with ir := op, driven := 0 }) else s.tapBypass op

/-- TAP_RESET (R659): TRST_N is low: IDCODE is loaded and the pins are the system's. -/
def execTapReset (s : State) : Out := .next (s.setTap { s.tst.tap with ir := 1, sel := 1, drive := 0, driven := 0 })

/-- The test instructions: the pins are captured, then driven from the cells shifted in; the gate drivers' cells observe only, and their drivers stay off
(R659 to R661). -/
def State.tapTest (s : State) (op cells pins : Nat) : State :=
  s.tapDrive op fun t => { t with sel := 2, cells := cells, capture := pins, drive := 1, driven := drivingCells }

/-- EXTEST, EXTEST_PULSE, EXTEST_TRAIN (R659, R661). -/
def execExtest (cells pins : BitVec 968) (s : State) : Out := .next (s.tapTest 0 cells.toNat pins.toNat)
def execExtestPulse (cells pins : BitVec 968) (s : State) : Out := .next (s.tapTest 6 cells.toNat pins.toNat)
def execExtestTrain (cells pins : BitVec 968) (s : State) : Out := .next (s.tapTest 7 cells.toNat pins.toNat)

/-- IDCODE (R659): the identification register; its low 28 bits are given, the stepping is the device's (assumption log 5). -/
def execIdcode (s : State) : Out := .next (s.setTap { s.tst.tap with ir := 1, sel := 1, capture := idcode, drive := 0, driven := 0 })

/-- SAMPLE_PRELOAD (R659): the pins are sampled and the cells loaded; the pins stay with the system. -/
def execSamplePreload (cells pins : BitVec 968) (s : State) : Out :=
  .next (s.setTap { ir := 2, sel := 2, cells := cells.toNat, capture := pins.toNat, drive := 0 })

/-- HIGHZ (R659): with SCANHOLD at 1 the outputs go to high impedance, bypass selected. -/
def execHighz (s : State) : Out := .next (s.tapDrive 4 fun t => { t with sel := 0, capture := 0, drive := 2 })

/-- CLAMP (R659, R661): with SCANHOLD at 1 the boundary register holds the outputs but the gate drivers', bypass selected. -/
def execClamp (s : State) : Out := .next (s.tapDrive 5 fun t => { t with sel := 0, capture := 0, drive := 1, driven := drivingCells })

/-- BYPASS (Table TST-7): opcode 0xFF, or any opcode that Table TST-7 does not list; another opcode is not this command (assumption log 11). -/
def execBypass (op : BitVec 8) (s : State) : Out :=
  .next (if [0, 1, 2, 4, 5, 6, 7].contains op.toNat then s else s.tapBypass op.toNat)

/-! ### The debug window -/

/-- A write of TST_DBGCTL (R662): OPEN at 0 closes; OPEN at 1 with the key opens where the chart and the lock fuse allow it, with event 27. -/
def State.dbgCtl (s : State) (openIt : Bool) (key : Nat) : State :=
  if !openIt then s.p TST_DBGCTL_OPEN 0
  else if bitAt (s.secLe 0xA0 0 6 1 0) 0 && !s.on TST_FUSE_LOCK && key == 0x0DB6 && !s.on TST_DBGCTL_OPEN then (s.p TST_DBGCTL_OPEN 1).raise 27
  else s

/-- TST_DBGCTL_OPEN, TST_DBGCTL_CLOSE (R662). -/
def execTstDbgctlOpen (key : BitVec 16) (s : State) : Out := .next (if s.barOpen then s.dbgCtl true key.toNat else s)
def execTstDbgctlClose (s : State) : Out := .next (if s.barOpen then s.dbgCtl false 0 else s)

/-- The buffer address of dword `i` of the debug window (R663). -/
def State.dbgAddr (s : State) (i : Nat) : Nat := 4096 * s.g TST_DBGADDR_PAGE + 4 * i

/-- The solid bench, 0 to 7, that a buffer address falls in in split mode (Table BEN-1). -/
def State.solidAt (s : State) (a : Nat) : Option Nat :=
  if s.g BEN_CFG_MODE = 1 ∧ 0xE00000 ≤ a then some ((a - 0xE00000) / 0x40000) else none

/-- Bench master 25 addressed an unused solid bench (R381). -/
def State.dbgBad (s : State) : State := ((s.hwSet BEN_ERR_BADADDR 0 0 0).p BEN_ERR_MASTER 25).raise 137

/-- The owner of a solid bench reports idle or stopped: an engine's trace in state 0 or 3; the Gazetteer's ring and the trace port work as long as
they hold their bench (R380). -/
def State.solidIdle (s : State) (owner : Nat) : Bool :=
  decide (1 ≤ owner) && decide (owner ≤ 4) && (s.gk CTL_TRCSTAT_STATE (owner - 1) == 0 || s.gk CTL_TRCSTAT_STATE (owner - 1) == 3)

/-- A read of dword `i` of the window: 0 while it is closed (R662), in a solid bench whose owner is at work (R380), or in an unused one (R381). -/
def State.dbgRead (s : State) (i : Nat) : List Byte × State :=
  if !s.on TST_DBGCTL_OPEN then (zeros 4, s)
  else
    let a := s.dbgAddr i
    match s.solidAt a with
    | none => (Memory.read 0 s.buf a 4, s)
    | some b =>
      if s.gki BEN_OWN 0 b = 0 then (zeros 4, s.dbgBad)
      else if s.solidIdle (s.gki BEN_OWN 0 b) then (Memory.read 0 s.buf a 4, s)
      else (zeros 4, s)

/-- A write of dword `i` of the window: ignored while it is closed; discarded and counted outside development mode (R663); discarded in a solid
bench, whose one port is its owner's (R380, R381). -/
def State.dbgWrite (s : State) (i v : Nat) : State :=
  if !s.on TST_DBGCTL_OPEN then s
  else if !s.on TST_FUSE_DEVMODE then s.bump TST_DBGCTL_WDROP 1
  else
    let a := s.dbgAddr i
    match s.solidAt a with
    | none => s.bufWrite a (leBytes v 4)
    | some b => if s.gki BEN_OWN 0 b = 0 then s.dbgBad else s

/-- TST_DBGWIN_WRITE, TST_DBGWIN_READ (R663). -/
def execTstDbgwinWrite (i : Fin 1024) (v : BitVec 32) (s : State) : Out := .next (if s.barOpen then s.dbgWrite i v.toNat else s)
def execTstDbgwinRead (i : Fin 1024) (s : State) : Out :=
  .next (if s.barOpen then
    let r := s.dbgRead i
    r.2.emit (.bus 0 r.1) else s)

/-! ### Host-armed snapshots -/

/-- A write of TST_SNAPARM: every list that the chart defines and whose bit is 1 is armed with event 0xFF (R666). -/
def State.snapHost (s : State) (m : Nat) : State :=
  s.snapLists.foldl (fun s l => if bitAt m l.1 then s.snapArm l.1 0xFF else s) s

/-- TST_SNAPARM (R666). -/
def execTstSnaparm (m : BitVec 16) (s : State) : Out := .next (if s.barOpen then s.snapHost m.toNat else s)

end Sys2Proof.Machine
end

