-- ==== Sys2Proof/Machine/MapRegion.lean ====
section
/-! DEFINITION. The map region: where its blocks stand, what they hold, their copies and spares, and what boot finds in them (spec/11_media.md R357 to
R359, R376, R703, Tables MED-3, MED-8 and MED-9). -/

namespace Sys2Proof.Machine

/-! ### Blocks and their places (R357, R703) -/

/-- The block numbers of head `h`'s own list (orders 1 to 3 of Table MED-8): placement map, spare-table share. -/
def State.mapOrder1 (s : State) : Nat := ceilDiv (sumOf ((List.range s.nZones).map (s.zExts))) 512
def State.mapOrder2 (s : State) : Nat := ceilDiv (sumOf ((List.range s.nZones).map (s.zSpares))) 256

/-- The place of the sector with linear index `i` in the map region of head `h` (R703). -/
def State.mapPlace (s : State) (h i : Nat) : Nat := s.locAt h 0 0 i

/-- Where copy A of block `i` of head `h` stands, and copy B, after the blocks of that head's own list and those of lower heads (Table MED-8, order 4). -/
def State.copyAPlace (s : State) (h i : Nat) : Nat := s.mapPlace h i
def State.copyBPlace (s : State) (h i : Nat) : Nat :=
  let g := s.copyB h
  s.mapPlace g (s.mapBlocks g + sumOf (((List.range h).filter fun x => s.copyB x == g).map s.mapBlocks) + i)

/-! ### What they hold (Tables MED-3, MED-8, MED-9) -/

/-- The physical extents of map block `j` of head `h`, zone by zone from zone 0 (Table MED-8). -/
def State.blockExtents (s : State) (h j : Nat) : List Nat :=
  ((List.range s.nZones).foldl (fun (a : List Nat × Nat) z =>
    let lo := max a.2 (512 * j)
    let hi := min (a.2 + s.zExts z) (512 * j + 512)
    (a.1 ++ (List.range (hi - lo)).map (fun i => mkPe h z (lo - a.2 + i)), a.2 + s.zExts z)) ([], 0)).1

/-- A placement map entry (Table MED-3): USED, VOL, EXT, RELOC; zero where the extent holds no stored placement. -/
def State.entBytes (s : State) : Option Ent → List Byte
  | some e => if e.stored then leBytes (1 + 2 * e.vol + 2 ^ 8 * s.localExt e.vol e.ext + 2 ^ 48 * b2n e.reloc) 8 else zeros 8
  | none => zeros 8

/-- A place in six bytes: head, track, position. -/
def placeBytes (l : Nat) : List Byte := leBytes (locHead l) 1 ++ leBytes (locTrack l) 3 ++ leBytes (locPos l) 2

/-- An entry closed by the CRC-16 of what stands before it. -/
def crcTail (b : List Byte) : List Byte := b ++ leBytes (crc16 b) 2

/-- A spare-table entry of 16 bytes: the sector, its spare, a CRC-16 (log 72 for the order of its bytes). -/
def spareBytes (o : Nat) (x : Spare) : List Byte := crcTail (placeBytes o ++ placeBytes x.loc ++ zeros 2)

/-- The record of volume code `c` in the definitions (Table MED-9). -/
def State.defBytes (s : State) (c : Nat) : List Byte :=
  let v := Tbl.find s.med.vols c
  let x := v.getD {}
  let b := [byte (b2n v.isSome), byte x.modes] ++ leBytes x.fmask 2 ++ zeros 4 ++ leBytes x.cap 8 ++ leBytes (x.kver.getD 0) 4 ++ [byte (b2n x.kver.isSome)] ++ zeros 3 ++
    leBytes x.resv 8 ++ leBytes (if 64 ≤ c then x.crc else 0) 4 ++ zeros 24
  b ++ leBytes (crc32c b) 4

/-- A redirect (Table MED-9): the span and stripe, and the peer that took it. -/
def redirBytes (e : Nat × Nat) : List Byte := crcTail ([1, byte (e.1 / 2 ^ 40)] ++ leBytes e.2 2 ++ leBytes (e.1 % 2 ^ 40) 5 ++ zeros 5)

/-- Block `j` of the node tables: unwritable ranges, definitions, redirects. -/
def State.nodeTable (s : State) (j : Nat) : List Byte :=
  if j < 16 then
    (((s.med.unwr.drop (256 * j)).take 256).map fun r => jentBytes { vol := volOf r.vol, kind := 0, lba := r.lba, count := r.n, merged := r.merged }).flatten
  else if j < 20 then ((List.range (min 64 (80 - min 80 (64 * (j - 16))))).map fun i => s.defBytes (64 * (j - 16) + i)).flatten
  else (((s.med.redir.drop (256 * (j - 20))).take 256).map redirBytes).flatten

/-- The 4096 bytes of block `i` of head `h`'s list. -/
def State.mapBody (s : State) (h i : Nat) : List Byte :=
  let a := s.mapOrder1
  let b := s.mapOrder2
  let l := if i < a then ((s.blockExtents h i).map fun pe => s.entBytes (Tbl.find s.med.map pe)).flatten
    else if i < a + b then
      (((s.med.spares.filter fun e => e.2.stored && locHead e.2.loc == h).drop (256 * (i - a))).take 256).flatMap fun e => spareBytes e.1 e.2
    else s.nodeTable (i - a - b)
  l ++ zeros (4096 - l.length)

/-- The block as its sectors hold it: its bytes and a tag with its index and its head (R703). -/
def State.mapUnit (s : State) (h i : Nat) : List Byte := let b := s.mapBody h i; b ++ mkTag (crc64 b) i h false

/-- A map block passes its tag checks as a block of a strict volume does (R359), and the tag names its head. -/
def mapGood (h i : Nat) (u : List Byte) : Bool := (classify false false i u).row == 1 && leAt u 4108 2 == h

/-! ### Writing a block (R358, R376) -/

/-- `n` writes of a map block on head `g` fail: each takes a map spare of that head, and the copy can be written as long as they last. -/
def State.mapCopy (s : State) (g n : Nat) : Bool × State :=
  let top := s.secLe 0x40 0 4 1 0 * s.zSpt 0
  let used := Tbl.getD s.med.mapUsed g 0 + n
  (decide (used ≤ top), s.setMed fun m => { m with mapUsed := Tbl.put m.mapUsed g (min used top) })

/-- The map block of a physical extent: head, and block number over the head's zones in order (R703). -/
def State.mapBlock (s : State) (pe : Nat) : Nat := peHead pe * 2 ^ 32 + (sumOf ((List.range (peZone pe)).map s.zExts) + peIdx pe) / 512

/-- The block of an extent is written: copy A, then copy B, with so many failures each; a copy given up stays so (R358, R376). Answered: 0 both copies,
1 A alone, 2 B alone, 3 neither. -/
def State.mapWrite (s : State) (pe failA failB : Nat) : Nat × State :=
  let h := peHead pe
  let held := Tbl.getD s.med.single (s.mapBlock pe) 0
  let a := if held = 2 ∨ held = 3 then (false, s) else s.mapCopy h failA
  let b := if held = 1 ∨ held = 3 then (false, a.2) else a.2.mapCopy (s.copyB h) failB
  (if a.1 && b.1 then 0 else if a.1 then 1 else if b.1 then 2 else 3, b.2)

/-! ### The map at boot (R359) -/

/-- Block `i` of head `h` is yielded by copy A, if that is stored, decodes and passes its tag checks, or by copy B; bits 0 and 1 of `bad` say that copies A
and B do not decode. -/
def State.mapYields (s : State) (h i bad : Nat) : Bool :=
  let held := Tbl.getD s.med.single (h * 2 ^ 32 + i) 0
  mapGood h i (s.mapUnit h i) && ((decide (held ≤ 1) && !bitAt bad 0) || ((held == 0 || held == 2) && !bitAt bad 1))

/-- A map block that neither copy yields: its extents are unusable and every LBA it mapped is unwritable; event 135 (R359). -/
def State.mapLost (s : State) (h j : Nat) : State :=
  let l := s.blockExtents h j
  let gone := s.med.map.filter fun e => l.contains e.1
  let s := s.setMed fun m => { m with map := m.map.filter fun e => !l.contains e.1, dead := m.dead ++ l }
  let s := gone.foldl (fun s e => s.makeUnwritable e.2.vol (256 * e.2.ext) 256) s
  (s.p MED_STAT_MAPLOST 1).raise 135

/-- MAP_LOAD (R359): in the heads stage the map is built; the list names map blocks, by head and number, of which copies do not decode. -/
def execMapLoad (bad : List (Nat × Nat × Nat)) (s : State) : Out :=
  if s.running && s.g SYS_BOOT_STAGE == 3 && s.g SYS_BOOT_MEDIA == 3 && !s.med.loaded then
    let l := bad.filter fun e => decide (e.1 < s.nHead) && decide (e.2.1 < s.mapOrder1) && !s.mapYields e.1 e.2.1 e.2.2
    let s := l.foldl (fun s e => s.mapLost e.1 e.2.1) s
    .next (s.setMed fun m => { m with loaded := true })
  else .next s

end Sys2Proof.Machine
end

