-- ==== Sys2Proof/Machine/Recovery.lean ====
section
/-! DEFINITION. Sectors read from the media: LDPC classes, the media checkpoint, the recovery ladder (spec/10_channel.md R329, R343 to R350;
spec/15_integrity_errors.md R504, R505; spec/11_media.md R363). -/

namespace Sys2Proof.Machine

/-! ### The place under the head -/

/-- Actuator `k` follows a place's track with its head selected, ready to read or to write (R266). -/
def State.onHead (s : State) (k loc : Nat) (write : Bool) : Bool :=
  decide (k < s.nAct) && s.actSt k == 2 && s.locAct loc == k && s.selHead k == locHead loc && (s.act k).cur == some (locTrack loc) &&
    (if write then s.onk SRV_STAT_WREADY k else s.onk SRV_STAT_RREADY k)

/-- A sector can be read: media may work, no calibration slice holds the actuator, and no step reads at an
offset (R85, R346, R649). -/
def State.readable (s : State) (k loc : Nat) : Bool := s.readOk && (s.chn k).slice.isNone && (s.chn k).adj.isNone && s.onHead k loc false

/-! ### Outcome classes (Table CHN-2) -/

/-- The class of a decoded sector under an iteration budget. -/
def ldpcClass (marg budget : Nat) (x : DecodeIn) : Nat :=
  if !x.sync then 4 else if x.iters = 0 then 0 else if x.iters ≤ min marg budget then 1 else if x.iters ≤ budget then 2 else 3

/-- MARG_ITER and ITER_NORM of a head (Table CHN-3). -/
def State.margIter (s : State) (h : Nat) : Nat := s.hdLe h 37 1
def State.iterNorm (s : State) (h : Nat) : Nat := s.hdLe h 36 1

/-- The count of a class on channel `k`. -/
def State.countClass (s : State) (k c : Nat) : State := s.bumpki CHN_LDPC k c 1

/-! ### The refresh queue (R363) -/

/-- REFRESH of the placement policy: the refresh queue is enabled. -/
def State.refreshOn (s : State) : Bool := s.secLe 0x41 0 3 1 1 == 1

/-- A marginal sector joins its actuator's refresh queue; a full one drops it, with event 132. -/
def State.refreshAdd (s : State) (k vol lba : Nat) : State :=
  if !s.refreshOn || (s.chn k).refresh.contains (vol, lba) then s
  else if (s.chn k).refresh.length < 256 then s.setChn k fun c => { c with refresh := c.refresh ++ [(vol, lba)] }
  else (s.bump MED_REFRESH_DROPPED 1).raise 132

/-! ### Delivery -/

/-- MODES that a reader's command or piece carries. -/
def State.readerModes (s : State) (r : Nat) : Nat :=
  if r < 65536 then ((s.cmd r).map (·.modes)).getD 0 else ((Tbl.find s.pieces (r - 65536)).map (·.modes)).getD 0

/-- The read jobs that wait at a place. -/
def State.jobsAt (s : State) (loc : Nat) : List RJob := (s.med.reads.filter fun e => e.1 == loc).map (·.2)

/-- The first job at a place goes. -/
def dropRead (loc : Nat) : List (Nat × RJob) → List (Nat × RJob)
  | [] => []
  | e :: t => if e.1 = loc then t else e :: dropRead loc t

/-- A block read from the source of a relocation goes to the job that writes it (R366). -/
def State.relocRead (s : State) (j : RJob) (u : List Byte) : State :=
  { s with wr := s.wr.map fun e => if e.2.phase = 4 ∧ e.2.vol = j.vol ∧ e.2.lba = j.lba then (e.1, { e.2 with phase := 0, unit := some u }) else e }

/-- A scan's sector has been read: the admin test counts it, and a failure of class 3 or 4 (Table TST-4). -/
def State.scanned (s : State) (bad : Bool) : State :=
  match s.tst.run with
  | some r => { s with tst := { s.tst with run := some { r with count := r.count + 1, fails := r.fails + b2n bad } } }
  | none => s

/-- A sector that decoded reaches the media checkpoint and its reader (R504, R505). -/
def State.sectorGood (s : State) (k loc cl : Nat) (j : RJob) : State :=
  let s := s.setMed fun m => { m with reads := dropRead loc m.reads }
  let s := if cl = 2 then (s.raise 125).refreshAdd k j.vol j.lba else s
  match j.slot, Tbl.find s.med.disc loc with
  | none, u => if j.why = 3 then s.relocRead j ((u.map (·.bytes)).getD (zeroUnit j.lba)) else s.scanned false
  | some _, none => s
  | some r, some u =>
    let modes := s.readerModes r
    if encOf modes then s.supply r j.lba { bytes := u.bytes, uchk := unitCheck u.bytes } false
    else
      let v := classify (repairOf (if r < 65536 then s.modesOf j.vol else modes)) false j.lba u.bytes
      let s := s.integrity 4 j.vol j.lba u.bytes v
      if isError v.status then s.failReader r j.lba v.status { v.err 4 j.lba u.bytes with lclass := cl }
      else
        let s := if v.status = 1 then (s.modVol j.vol fun x => { x with repaired := satAdd 32 x.repaired 1 }).refreshAdd k j.vol j.lba else s
        let s := if r < 65536 then s.modCmd r fun c => { c with note := max c.note v.status } else s
        s.supply r j.lba { bytes := v.bytes } false

/-! ### The ladder (R343 to R347) -/

/-- A field of section 0x0031's step `i`, and the number of steps. -/
def State.stepLe (s : State) (i o : Nat) : Nat := s.secLe 0x31 0 (16 + 8 * i + o) 1 0
def State.nStep (s : State) : Nat := s.secLe 0x31 0 0 1 0

/-- A step of kind 0x04 or 0x05 reads the sector again. -/
def State.reRead (s : State) (i : Nat) : Bool := decide (4 ≤ s.stepLe i 0)

/-- The first step of a ladder: without samples, the first that reads again (R343). -/
def State.firstStep (s : State) (samples : Bool) : Nat :=
  if samples then 0 else ((List.range s.nStep).find? s.reRead).getD s.nStep

/-- Revolutions and cycles of a step's worst case (Table CHN-5); two ticks go with a step that reads again. -/
def State.stepRevs (s : State) (i : Nat) : Nat :=
  match s.stepLe i 0 with
  | 4 => if s.stepLe i 3 = 0 then 1 else 2
  | 5 => s.stepLe i 3
  | _ => 0
def State.stepCycles (s : State) (i : Nat) : Nat :=
  640 * s.stepLe i 1 + (match s.stepLe i 0 with
    | 1 => 200
    | 2 => 8200
    | 3 => 1200
    | _ => 0)

/-- The worst-case end of step `i`, started now, lies past the deadline less MARGIN (R347): times in units of 0.2 ns, scaled by the denominator
of T_REV = 60 / (TARGET × (1 − WBAND)) s. -/
def State.pastDeadline (s : State) (i dl : Nat) : Bool :=
  let d := s.spnLe 0 2 * (100000 - s.spnLe 8 2)
  let cost := s.unit * s.stepCycles i + (if s.reRead i then 40000 else 0)
  decide (dl * d < (s.instant + cost + 20000 * s.rcvMargin) * d + s.stepRevs i * 3 * 10 ^ 16)

/-- The command that a reader of this node serves. -/
def State.readerSlot (s : State) (r : Nat) : Option Nat := if r < 65536 then some r else (Tbl.find s.pieces (r - 65536)).bind (·.slot)

/-- The end of a sector's ladder is recorded: 0 recovered, 1 unrecovered, 2 cut, 3 aborted. -/
def State.rcvRecord (s : State) (k : Nat) (v : Recov) (j : RJob) (by' how : Nat) : State :=
  let s := s.record (mkRec 0x12 48 [(16, 8, s.now), (24, 6, j.lba), (30, 2, volOf j.vol), (32, 1, k), (33, 1, v.run), (34, 1, by'), (35, 1, how)])
  s.occur 0x13 k v.run

/-- A sector leaves the ladder. -/
def State.rcvDrop (s : State) (k loc : Nat) : State := s.setChn k fun c => { c with recov := c.recov.filter fun v => v.loc != loc }

/-- Every step has run without success: the sector is unrecovered (R344). -/
def State.unrecovered (s : State) (k : Nat) (v : Recov) (j : RJob) : State :=
  let s := (s.bumpk CHN_UNREC k 1).raise 114
  let s := (s.rcvRecord k v j 0xFF 1).rcvDrop k v.loc
  let s := s.setMed fun m => { m with reads := dropRead v.loc m.reads }
  match j.slot with
  | some r => s.failReader r j.lba 0x0220 { lclass := v.lclass }
  | none => if j.why = 3 then s else s.scanned true

/-- The deadline cut: the command completes with 0x0602 at once (R347). -/
def State.deadlineCut (s : State) (k : Nat) (v : Recov) (j : RJob) (slot : Nat) : State :=
  let s := (s.bumpk CHN_RCVSTOP_CUT k 1).raise 115
  ((s.rcvRecord k v j 0xFF 2).rcvDrop k v.loc).endIo slot 0x0602

/-- The sector that the ladder of channel `k` works on: the first whose reader still waits. -/
def State.rcvHead (s : State) (k : Nat) : Option (Recov × RJob) :=
  (s.chn k).recov.findSome? fun v => (s.jobsAt v.loc).head?.map fun j => (v, j)

/-- The command whose deadline bounds a reader (R347). -/
def State.rcvCmd (s : State) (j : RJob) : Option (Nat × Cmd) :=
  (j.slot.bind s.readerSlot).bind fun i => (s.cmd i).map fun c => (i, c)

/-- The actuator is sent over a track again, for the reference that a step changes or gives back (R346). -/
def State.reSeat (s : State) (k : Nat) (a : Adj) : State :=
  if a.ofs ≠ 0 ∧ s.actSt k = 2 ∧ s.selHead k = a.head ∧ (s.act k).cur = some a.track then
    s.orderSeek k { head := a.head, track := a.track, write := false }
  else s

/-- Step `v.step` of a sector starts; a re-read applies its track offset, heater change and offset change (R346, Table CHN-4). -/
def State.stepStart (s : State) (k : Nat) (v : Recov) : State :=
  let s := s.setChn k fun c => { c with recov := c.recov.map fun w => if w.loc = v.loc then { w with going := true, start := s.instant } else w }
  let h := locHead v.loc
  let a : Adj := { head := h, track := locTrack v.loc, ofs := 256 * toSigned 8 (s.stepLe v.step 3), htr := 5 * toSigned 8 (s.stepLe v.step 4),
                   lvl := toSigned 8 (s.stepLe v.step 5), base := s.gk CHN_FH_HTR h }
  if s.stepLe v.step 0 = 4 ∧ ¬(a.ofs = 0 ∧ a.htr = 0 ∧ a.lvl = 0) then (s.setChn k fun c => { c with adj := some a }).reSeat k a else s

/-- A step has ended: offset, heater and level return to the values of the loops (R346). -/
def State.stepClear (s : State) (k : Nat) : State :=
  match (s.chn k).adj with
  | none => s
  | some a => ((s.pk CHN_FH_HTR a.head a.base).setChn k fun c => { c with adj := none }).reSeat k a

/-- The context of the selected head as channel `k` uses it: a step in progress changes the offsets within their envelope (R346). -/
def State.ctxNow (s : State) (k : Nat) : HeadCtx :=
  let c := s.hd (s.selHead k)
  match (s.chn k).adj with
  | some a =>
    let e := s.eff 5 k
    if a.head = s.selHead k then { c with ofsL := clampI e.1 e.2 (c.ofsL + a.lvl), ofsT := clampI e.1 e.2 (c.ofsT + a.lvl) } else c
  | none => c

/-- The next step of the first sector starts, or the ladder ends there: with no step left the sector is unrecovered; a step that the
deadline does not allow is not started (R344, R347); a step that reads again does not start in a supply hold (R350); an Abort that waits comes before
both (Table CHN-6). A step whose sector no reader wants any more has ended. -/
def State.rcvGo (s : State) (k : Nat) : State :=
  match s.rcvHead k with
  | none => s.stepClear k
  | some (v, j) =>
    if v.going then s
    else
      let s := s.stepClear k
      if (s.rcvCmd j).any fun c => !c.2.aborter.isEmpty then s
      else if s.nStep ≤ v.step then s.unrecovered k v j
      else
        let cut := match s.rcvCmd j with
          | some (i, _) => (match s.deadlineOf i with
            | some d => if s.pastDeadline v.step d then some i else none
            | none => none)
          | none => none
        match cut with
        | some i => s.deadlineCut k v j i
        | none => if s.reRead v.step && s.holding then s else s.stepStart k v

/-- LBA order of failed sectors (R343). -/
def State.rcvInsert (s : State) (v : Recov) (lba : Nat) : List Recov → List Recov
  | [] => [v]
  | w :: t => if (((s.jobsAt w.loc).head?.map (·.lba)).getD 0) ≤ lba then w :: s.rcvInsert v lba t else v :: w :: t

/-- A sector enters recovery (R343): event 112, its samples where the buffer of four has room, else event 124. -/
def State.enterRecovery (s : State) (k loc cl : Nat) (j : RJob) : State :=
  let s := s.raise 112
  let live := (s.chn k).recov.filter fun v => !(s.jobsAt v.loc).isEmpty
  let keep := decide (countP (fun v => v.samples) live < 4)
  let s := if keep then s else s.raise 124
  let v : Recov := { loc := loc, lclass := cl, samples := keep, step := s.firstStep keep }
  (s.setChn k fun c => { c with recov := s.rcvInsert v j.lba live }).rcvGo k

/-! ### Commands -/

/-- The first decode of a sector, with both readers (R327, R329): its class is counted; it is good, or its recovery begins. -/
def State.firstDecode (s : State) (k : Nat) (head loc : Nat) (x : ReadIn) (j : RJob) : State :=
  let x := if Tbl.has s.med.disc loc then x.by 0 else { x.by 0 with sync := false }
  let c := ldpcClass (s.margIter head) (s.iterNorm head) x
  let s := (s.actFalls k).countClass k c
  let s := if c = 4 then s else s.occur 0x12 k (min x.iters (s.iterNorm head))
  if c ≤ 2 then s.sectorGood k loc c j
  else (if c = 4 then s.raise 126 else s).enterRecovery k loc c j

/-- SECTOR_DECODE (R329): the sector at a place, for the first reader that waits for it, receives its class; a sector that holds nothing shows no
sync mark. -/
def execSectorDecode (k : Fin 4) (head : Fin 20) (track : BitVec 24) (pos : BitVec 12) (x : ReadIn) (s : State) : Out :=
  let loc := mkLoc head track.toNat pos.toNat
  match (s.jobsAt loc).head? with
  | none => .next s
  | some j => .next (if s.readable k loc && !((s.chn k).recov.any fun v => v.loc == loc) then s.firstDecode k head loc x j else s)

/-- A sector's ladder has a place in the sample buffer of four (R343). -/
def State.sampleRoom (s : State) (k : Nat) : Bool := decide (countP (·.samples) (s.chn k).recov < 4)

/-- A recovery step has run, with the decode of its READER (R344, R327): the sector is good and its recovery ends, or the next step follows. -/
def State.rcvStepDone (s : State) (k : Nat) (x : ReadIn) (v : Recov) (j : RJob) : State :=
  let w := { v with step := v.step + 1, run := v.run + 1, going := false, samples := v.samples || (s.reRead v.step && s.sampleRoom k) }
  let s := s.stepClear k
  let x := x.by (s.stepLe v.step 2)
  let x := if Tbl.has s.med.disc v.loc then x else { x with sync := false }
  let c := ldpcClass (s.margIter (locHead v.loc)) (s.stepLe v.step 1) x
  if c ≤ 2 then
    let s := (s.bumpk CHN_RCV k 1).raise 113
    let s := (s.rcvRecord k w j v.step 0).rcvDrop k v.loc
    (s.sectorGood k v.loc c j).rcvGo k
  else
    let s := s.setChn k fun y => { y with recov := y.recov.map fun z => if z.loc = v.loc then { w with lclass := c } else z }
    s.rcvGo k

/-- RECOVERY_STEP_END (R344): the step in progress ends; in class 0 to 2 the sector is recovered and delivered, else the next step starts or the
ladder ends. A step that reads again waits for the sector to pass (Table CHN-6); an Abort that waits ends the recovery instead. -/
def execRecoveryStepEnd (k : Fin 4) (x : ReadIn) (s : State) : Out :=
  match s.rcvHead k with
  | none => .next s
  | some (v, j) =>
    let aborted := (s.rcvCmd j).any fun c => !c.2.aborter.isEmpty
    let passed := !s.reRead v.step || (s.on SPN_STAT_AT_SPEED && s.g SPN_STAT_STATE != 8 && (s.chn k).slice.isNone && s.onHead k v.loc false &&
      !(s.act k).go && !(s.act k).chg)
    .next (if s.running && v.going && passed && !aborted then s.rcvStepDone k x v j else s)

/-- The cycles from the start of a stored-sample step at which its phases end (R349): setup or marking or four adaptation passes, then a decode pass. -/
def State.phaseEnds (s : State) (i : Nat) : List Nat :=
  let l := match s.stepLe i 0 with
    | 1 => [200]
    | 2 => [2050, 4100, 6150, 8200]
    | 3 => [1200]
    | _ => []
  l ++ [s.stepCycles i]

/-- The boundary at which an Abort that arrived at an instant ends the step in progress has come: the end of the phase under way, or, for a step that
reads again, of the sector under the head, which the sender sees (R349). -/
def State.abortDue (s : State) (v : Recov) (t : Nat) : Bool :=
  !v.going || s.reRead v.step ||
    (match (s.phaseEnds v.step).find? fun c => decide (t ≤ v.start + s.unit * c) with
    | some c => decide (v.start + s.unit * c ≤ s.instant)
    | none => true)

/-- RECOVERY_ABORT_END (R349): at the sector or phase boundary the recovery of an aborted command ends with event 116 and 0x0600. -/
def execRecoveryAbortEnd (k : Fin 4) (s : State) : Out :=
  match s.rcvHead k with
  | none => .next s
  | some (v, j) =>
    match s.rcvCmd j with
    | none => .next s
    | some (i, c) =>
      if s.running && !c.aborter.isEmpty && s.abortDue v c.abortAt then
        let s := ((s.bumpk CHN_RCVSTOP_ABORT k 1).raise 116).stepClear k
        let s := (s.rcvRecord k v j 0xFF 3).rcvDrop k v.loc
        .next ((s.endIo i 0x0600).rcvGo k)
      else .next s

end Sys2Proof.Machine
end

