-- ==== Sys2Proof/Machine/Dram.lean ====
section
/-! DEFINITION. The benches' counters and the DRAM: reads, error classes, scrub, channel faults (spec/12_benches_dram.md R382 to R407), and the
credit refresh (spec/13_queues.md R430). -/

namespace Sys2Proof.Machine

/-! ### Lost and restored blocks (R404) -/

/-- The code of a reader's volume. -/
def State.readerVol (s : State) (r : Nat) : Option Nat :=
  if r < 65536 then (s.cmd r).bind fun c => volCode c.vol else (Tbl.find s.pieces (r - 65536)).map (·.vol)

/-- A block of an owned extent is lost from its slab: event 141, the lost-range page, the status 0x0240 of commands that carry it and have not
completed; it is not written. -/
def State.bufferLost (s : State) (vol lba : Nat) : State :=
  let s := (s.noteLost vol lba 1).raise 141
  let s := s.loseBlocks 5 vol lba 1
  let s := match s.slabOf false vol (lba / 256) with
    | some e => s.modSlab e.1 fun x => { x with blocks := Tbl.del x.blocks (lba % 256), bad := x.bad.filter (· != lba % 256), conf := x.conf.filter (· != lba % 256) }
    | none => s
  let s : State := { s with wr := s.wr.filter fun w => !(w.2.vol == vol && w.2.lba == lba) }
  let hit := s.dreads.filter fun d => d.2 == lba && s.readerVol d.1 == some vol
  let s : State := { s with dreads := s.dreads.filter fun d => !hit.contains d }
  let s := hit.foldl (fun s d => s.failReader d.1 lba 0x0240 {}) s
  let l := s.pieces.filter fun e => e.2.vol == vol && !e.2.read && decide (e.2.lba ≤ lba) && e.2.comm.contains (lba - e.2.lba) && e.2.status.isNone
  l.foldl (fun s e => (s.pieceFinish e.1 0x0240).pieceSweep) s

/-- A block of an owned extent cannot be read from its slab: the twin that holds a copy is asked for it, else it is lost. -/
def State.slabUnitBad (s : State) (vol lba : Nat) : State :=
  match s.slabOf false vol (lba / 256) with
  | none => s
  | some e =>
    let b := lba % 256
    if !Tbl.has e.2.blocks b then s
    else if e.2.conf.contains b && s.hasTwin && s.g TWN_STAT_STATE != 2 then
      let s := s.modSlab e.1 fun x => { x with bad := b :: x.bad.filter (· != b) }
      s.ask { kind := 0x13, dst := s.twin, lba := lba, volc := vol, modes := s.extModes vol (lba / 256), keyTick := s.clk.tick }
    else s.bufferLost vol lba

/-- The twin discards a block of a copy that cannot be read and asks the owner to send it again. -/
def State.copyUnitBad (s : State) (k b : Nat) : State :=
  match Tbl.find s.slabs k with
  | none => s
  | some x =>
    let s := s.modSlab k fun x => { x with blocks := Tbl.del x.blocks b }
    s.send { kind := 0x1D, dst := s.twin, lba := 256 * x.ext + b, volc := x.vol, modes := x.modes }

/-- A channel fault, until reset (R406). -/
def State.channelFault (s : State) (m : Nat) : State :=
  if bitAt (s.g DRM_STAT_FAULT) m then s else (s.p DRM_STAT_FAULT (setBit (s.g DRM_STAT_FAULT) m)).raise 142

/-- The slab rows of R404 for block `b` of slab `k`. -/
def State.slabLineBad (s : State) (k b : Nat) : State :=
  match Tbl.find s.slabs k with
  | none => s
  | some x => if x.twin then s.copyUnitBad k b else s.slabUnitBad x.vol (256 * x.ext + b)

/-- The use of a line as DRM_ERRADDR.USE gives it: by the slab, or by the part of the table region. -/
def State.lineUse (s : State) (d : Nat) (t : TableUse) : Nat :=
  if s.poolBase * 2 ^ 20 ≤ d then
    match Tbl.find s.slabs (d / 2 ^ 20 - s.poolBase) with
    | some x => if x.twin then 1 else 0
    | none => 4
  else match t with
    | .tag _ _ => 2
    | .map => 3
    | .free => 4
    | .other => 5

/-- A class U error at an address whose use is `u` is counted, with event 139; UE_FAULT of them on a channel in one window fault it (R404, R406). -/
def State.ueCount (s : State) (d u : Nat) : State :=
  let m := dramCh d
  let s := ((s.bumpki DRM_UE 0 m 1).p DRM_ERRADDR_D d).p DRM_ERRADDR_USE u
  let s := s.raise 139
  let n := Tbl.getD s.ueWin m 0 + 1
  let s : State := { s with ueWin := Tbl.put s.ueWin m n }
  if decide (s.secLe 0x51 0 10 1 0 ≤ n) then s.channelFault m else s

/-- A class U error at an address is resolved by the line's use (R404). -/
def State.ueResolve (s : State) (d u : Nat) (t : TableUse) : State :=
  if s.poolBase * 2 ^ 20 ≤ d then
    (if u = 4 then s.dramWrite (d / 64 * 64) (zeros 64) else s.slabLineBad (d / 2 ^ 20 - s.poolBase) (d % 2 ^ 20 / 4096))
  else match t with
    | .tag k b => s.slabLineBad k b
    | .other => s.channelFault (dramCh d)
    | .map => s
    | .free => s.dramWrite (d / 64 * 64) (zeros 64)

/-- A class U error at an address (R404, R406). -/
def State.classU (s : State) (d : Nat) (t : TableUse) : State := (s.ueCount d (s.lineUse d t)).ueResolve d (s.lineUse d t) t

/-- A class C error on a channel: counted, with event 138 as the window's count reaches CE_TH (R400, R403). -/
def State.classC (s : State) (m : Nat) : State :=
  let s := s.bumpki DRM_CE 0 m 1
  let s : State := { s with ceWin := Tbl.put s.ceWin m (Tbl.getD s.ceWin m 0 + 1) }
  if Tbl.getD s.ceWin 0 0 + Tbl.getD s.ceWin 1 0 = s.secLe 0x51 0 8 2 0 then s.raise 138 else s

/-- What the check of a line shows (Table DRM-2). `late`: a write of the line was granted after this read, so that an error found in the old data has no
outcome beyond its count (R407). -/
def State.lineCheck (s : State) (d : Nat) (t : TableUse) (c : DramCls) (late : Bool) : State :=
  match c with
  | .ok => s
  | .link => if s.on DRM_STAT_LINK_ECC then s.bumpki DRM_LINK 0 (dramCh d) 1 else s
  | .corrected => if late then s.bumpki DRM_CE 0 (dramCh d) 1 else s.classC (dramCh d)
  | .uncorrectable => if late then s.bumpki DRM_UE 0 (dramCh d) 1 else s.classU d t

/-! ### Commands -/

/-- The ticks that initialisation takes at the rate of R391. -/
def State.dramInitTicks (s : State) : Nat := ceilDiv s.dramBytes (4000 * s.dramInitRate)

/-- Training has ended (R390, R391): both devices must have the density of CH_GIB, and initialisation begins; else the branch takes its exit. -/
def State.dramTrained (s : State) (ok : Bool) (gib0 gib1 : Nat) : State :=
  let c := s.secLe 0x51 0 0 1 0
  if ok && gib0 == c && gib1 == c then
    { (s.p SYS_BOOT_DRAM 2).p DRM_STAT_STATE 2 with dram := [], dramAcc := [], dramEdge := s.clk.edges }
  else s.dramFail

/-- Initialisation has ended: the DRAM is ready, and the DRAM branch has ended. -/
def State.dramReady (s : State) : State :=
  let s := (((s.p SYS_BOOT_DRAM 3).stageEndAt 3).headsGo).reclaimGo
  let s := (s.p DRM_STAT_STATE 3).p DRM_STAT_LINK_ECC (s.secLe 0x51 0 2 1 0)
  let s := (s.p DRM_USABLE_MIB s.dramUsable).p DRM_POOL_BASE s.poolBase
  s.p DRM_POOL_SIZE s.poolSlabs

/-- DRAM_INIT_COMPLETE (R390, R391): the step of the DRAM branch under way completes: training, whose success and device densities are given; then
initialisation, which writes every line at the rate of R391. -/
def execDramInitComplete (ok : Bool) (s : State) (gib0 : Nat := 0) (gib1 : Nat := 0) : Out :=
  if s.running && s.g SYS_BOOT_STAGE == 3 then
    .next (if s.g SYS_BOOT_DRAM = 1 then s.dramTrained ok gib0 gib1
      else if s.g SYS_BOOT_DRAM = 2 ∧ s.dramEdge + s.dramInitTicks ≤ s.clk.edges then s.dramReady
      else s)
  else .next s

/-- A block read for a reader from its slab reaches it; where the slab has gone meanwhile, the block is served anew. -/
def State.dramServed (s : State) (r vol lba : Nat) : State :=
  match s.slabUnit vol lba with
  | some u => s.supply r lba u false
  | none => s.serve r vol lba false

/-- DRAM_READ_COMPLETE (R396, R403): the DRAM read of a waiting block completes; `line` is the line of the block that shows an error. A block
that waits for its RESTORE goes on waiting. -/
def execDramReadComplete (reader lba : Nat) (line : Fin 64) (c : DramCls) (s : State) (late : Bool := false) : Out :=
  match s.readerVol reader with
  | none => .next s
  | some vol =>
    if s.running && decide (3 ≤ s.g DRM_STAT_STATE) && s.dreads.contains (reader, lba) && !s.slabBad vol lba then
      let s := match s.slabOf false vol (lba / 256) with
        | some e => (s.dramFetch e.1 (lba % 256)).lineCheck (s.slabAddr e.1 (lba % 256) line) .free c late
        | none => s
      .next (if !s.dreads.contains (reader, lba) || s.slabBad vol lba then s
        else ({ s with dreads := s.dreads.erase (reader, lba) } : State).dramServed reader vol lba)
    else .next s

/-- The patrol scrub may read its next line: the DRAM is out of self-refresh; a pass over all lines begins once in SCRUB_H hours (R401, R402). -/
def State.scrubMay (s : State) : Bool :=
  s.running && s.g DRM_STAT_STATE == 3 &&
    !(s.scrubLine == 0 && s.g DRM_SCRUB == 0 && s.scrubEdge.any fun e => decide (s.clk.edges < e + 900000000 * s.secLe 0x51 0 3 1 1))

/-- The scrub goes on to the next data line, in address order. -/
def State.scrubNext (s : State) : State :=
  let g := s.g DRM_SCRUB
  if s.scrubLine < 7 then { s with scrubLine := s.scrubLine + 1 }
  else ({ s with scrubLine := 0 } : State).p DRM_SCRUB (if g + 1 < 2 * s.dramGroups then g + 1 else 0)

/-- SCRUB_READ (R401, R402, R407): the patrol scrub reads the next data line, in address order; a corrected line is written back with its corrected data,
but where a write of it was granted meanwhile (`late`). It stands still in self-refresh. -/
def execScrubRead (c : DramCls) (t : TableUse) (s : State) (late : Bool := false) : Out :=
  if s.scrubMay then
    let d := 512 * s.g DRM_SCRUB + 64 * s.scrubLine
    let s : State := if s.scrubLine = 0 ∧ s.g DRM_SCRUB = 0 then { s with scrubEdge := some s.clk.edges } else s
    let s := s.dramCount (dramCh d) false 1
    let s := if c = .corrected ∧ late = false then s.dramWrite d (s.dramAt d) else s
    .next (s.lineCheck d t c late).scrubNext
  else .next s

/-- DRAM_PERIODIC_TRAINING (R406): a periodic training that fails declares a channel fault. -/
def execDramPeriodicTraining (m : Fin 2) (ok : Bool) (s : State) : Out :=
  .next (if s.running && decide (3 ≤ s.g DRM_STAT_STATE) && !ok then s.channelFault m else s)

/-- STALL_PROMOTION (R382 to R384, R389): cycles of the present tick pass at the benches with the requests that masters first present in them; a master
whose stall run reaches STALL_MAX is promoted. BEN_WDOG and event 136 follow at the publication of the tick. -/
def execStallPromotion (cycles : List (List BReq)) (s : State) : Out := .next (if s.running then s.benchRun cycles else s)

/-! ### The credit-refresh slot -/

/-- The counts of the ended ticks are published (R386 to R389): BEN_MCNT, BEN_UTIL over the cycles they cover, BEN_WDOG with event 136. -/
def State.benchPublish (s : State) (corr : Nat) : State :=
  let due := s.bench.due
  let s := (List.range 26).foldl (fun s m =>
    let c := Tbl.getD due m {}
    ((((s.pki BEN_MCNT_GRANTS 0 m c.grants).pki BEN_MCNT_STALLS 0 m (min 0xFFFF c.stalls)).pki BEN_MCNT_MAXRUN 0 m (min 0xFF c.maxrun)).pki
      BEN_MCNT_PROMO 0 m (min 0xFF c.promo))) s
  let len := fun (r : RegFile) => if r.get CLK_STAT_ECON 0 0 = 1 then 4000 else 5000
  let cycles := len s.latch + if s.credMissed then len s.latchPrev else 0
  let u := min 1000 (1000 * sumOf (due.map fun e => e.2.grants) / (s.nBench * cycles))
  let s := (s.p BEN_UTIL_UTIL u).p BEN_UTIL_MERGED (b2n s.credMissed)
  let s := s.bump BEN_ECC_CORR corr
  let s : State := { s with svy := { s.svy with utilNew := u :: s.svy.utilNew } }
  let l := s.promoDue
  let s : State := { s.setBench (fun b => { b with due := [] }) with promoDue := [], credMissed := false }
  match l with
  | [] => s
  | a :: t => ((s.p BEN_WDOG_LAST (minOf a t)).bump BEN_WDOG_COUNT l.length).raise 136

/-- Thermal throttle of either cause as the edge latch shows it (R62, R112, R120). -/
def State.throttled (s : State) : Bool := s.svy.hotL || s.svy.mthrL

/-- The credit of a function at a refresh: the value of tunable 0x000D, halved under thermal throttle with a floor of 1 (R430). -/
def State.creditOf (s : State) (fn : Nat) : Nat :=
  let l := s.gk MQP_CRED_LIMIT fn
  if s.throttled then max 1 (l / 2) else l

/-- CREDIT_REFRESH (R386, R388, R430): the bench counts since the last publication, and the class C bench errors among them, are published; every
function has its credits anew. -/
def execCreditRefresh (corrA corrB : Nat) (s : State) : Out :=
  if s.slotOpen 6 && s.chart.applied then
    let s := ((s.atCycle 520).benchPublish (corrA + corrB)).slotDone 6
    .next ((List.range 16).foldl (fun s fn =>
      (s.pk MQP_CRED_USED fn 0 |>.pk MQP_CRED_HALVED fn (b2n s.throttled) : State)) { s with
        credit := (List.range 16).map fun fn => (fn, s.creditOf fn) })
  else .next s

end Sys2Proof.Machine
end

