-- ==== Sys2Proof/Machine/Twin.lean ====
section
/-! DEFINITION. Twins: copies, heartbeats, Solo, resync, reclaim (spec/17_twins_spans.md R582 to R596; spec/12_benches_dram.md R404; the transit
checkpoint of spec/15_integrity_errors.md R502). -/

namespace Sys2Proof.Machine

/-! ### Consuming parcels -/

/-- A parcel of type `kind` reaches its destination: a bad header check discards it (R543), and one of an older epoch that is no resend
(R571); else it is consumed. -/
def State.consume (s : State) (p : Parcel) (kind : Nat) (f : State → State) : Out :=
  .next (if !s.takes p || p.kind != kind then s
    else
      let s := s.leaveBuffer p
      if !p.good || s.stale p then s.dropParcel else f (s.landPayload p))

/-- RESENDQ for a block that a parcel carried (R502, R405): its sender sends it once more. -/
def State.askAgain (s : State) (p : Parcel) : State :=
  s.send { kind := 0x1D, dst := p.src, lba := p.lba, modes := p.modes, volc := p.volc, xid := p.xid, keyTick := p.keyTick, keyNode := p.keyNode, span := p.span, first := p.first, count := p.count }

/-- The transit check of a block (R502): a first failure asks the sender once more, with event 156; a second is classified under Table MQP-25, or
rejected with 0x0300 under ENC. `good` takes the unit and its note, `bad` the status. -/
def State.transit (s : State) (p : Parcel) (vol : Nat) (enc : Bool) (good : Unit4k → Nat → State → State) (bad : Nat → State → State) : State :=
  let u := bodyUnit p.body
  if unitGood enc p.lba u then good u 0 s
  else if s.fab.asked.contains (identOf p) then
    let s : State := { s with fab := { s.fab with asked := s.fab.asked.erase (identOf p) } }
    if enc then bad 0x0300 (s.unitReject vol p.lba)
    else
      let v := classify (repairOf p.modes) false p.lba u.bytes
      let s := s.integrity 2 vol p.lba u.bytes v
      if isError v.status then bad v.status s else good { bytes := v.bytes } v.status s
  else
    let s : State := { s with fab := { s.fab with asked := identOf p :: s.fab.asked } }
    let s := (s.bump MQP_INTCNT1_RESEND 1).raise 156
    s.askAgain p

/-! ### Solo (R588 to R591) -/

/-- Owned slabs with Held data, and whether one holds a committed block without CONFIRM. -/
def State.heldSlabs (s : State) : List (Nat × Slab) := s.slabs.filter fun e => !e.2.twin && bitAt e.2.modes 0
def Slab.unconfirmed (x : Slab) : Bool := x.blocks.any fun b => !x.conf.contains b.1

/-- The reclaim stage ends (R206, R596). -/
def State.reclaimEnd (s : State) : State := if s.g SYS_BOOT_FAB = 4 then (s.p SYS_BOOT_FAB 5).stageEndAt 10 else s

/-- The Solo record's fields. -/
def soloFields (r : SoloRec) (twin tend lack mib : Nat) : List (Nat × Nat × Nat) :=
  [(16, 8, r.ts), (24, 8, tend), (32, 2, twin), (34, 1, r.cause), (36, 4, lack), (40, 4, mib)]

/-- The node enters Solo (R587, R588, R595): event 165, its record; Held pieces acknowledge at landing from now on (R34); extents with blocks not
confirmed become LACK, and those whose LANDED was not answered become FREE; reclaim ends. -/
def State.enterSolo (s : State) (cause : Nat) : State :=
  let first := !s.solo
  let s := (s.p TWN_STAT_STATE 2).raise 165
  let s : State := if first then { s with twn := { s.twn with solo := some { ts := s.now, cause := cause, lack := 0 } } } else s
  let s := match s.twn.solo with
    | some r => if first then s.record (mkRec 0x1B 48 (soloFields r s.twin 0xFFFFFFFFFFFFFFFF 0xFFFFFFFF 0xFFFFFFFF)) else s
    | none => s
  let away := s.twn.await.filter fun t => t.2.kind == 0x15
  let s : State := { s with
    twn := { s.twn with
      await := [], rcSent := false, rcLeft := 0, rcDone := false, rsDone := false,
      dirty := s.twn.dirty.map fun e => (e.1, { e.2 with sent := false, left := [] }) }
    locks := { s.locks with
      table := s.locks.table.filter fun l => l.req != 23
      reqs := s.locks.reqs.filter fun l => l.req != 23
      queue := s.locks.queue.filter fun l => l.req != 23 } }
  let s := s.answered fun p => decide (0x20 ≤ p.kind) || p.kind == 0x15
  let s := away.foldl (fun s t => s.dirtyPut t.2.vol t.2.ext false) s
  let s := (s.heldSlabs.filter fun e => e.2.unconfirmed).foldl (fun s e => s.dirtyPut e.2.vol e.2.ext true) s
  let l := s.pieces.filter fun e => ackOf e.2.modes == 0 && !e.2.read && e.2.status.isNone && decide (0 < e.2.got)
  let s := l.foldl (fun s e => (s.modPiece e.1 fun p => { p with asLanded := true, unconf := [] }).pieceCheck e.1) s
  s.reclaimEnd

/-- Twin loss falls due (R587): no HEARTBEAT for 64 ticks, or no route to the twin. -/
def State.twinLost (s : State) : Option Nat :=
  if s.hasTwin && (s.g TWN_STAT_STATE == 1 || s.g TWN_STAT_STATE == 3) && s.g SYS_BOOT_DRAM == 3 && (s.g SYS_BOOT_FAB == 4 || s.g SYS_BOOT_FAB == 5) then
    if !s.reachable s.twin then some 1 else if s.twn.hbEdge + 65 ≤ s.clk.edges then some 0 else none
  else none

/-- TWIN_LOSS (R588). -/
def execTwinLoss (s : State) : Out :=
  match s.twinLost with
  | some c => .next (if s.running then (s.gather.enterSolo c).inOrder else s)
  | none => .next s

/-! ### Resync (R592 to R595) -/

/-- The lock holder of a resync block. -/
def resyncWho (vol lba : Nat) : Who := .resync (vol * 2 ^ 48 + lba)

/-- An extent of the dirty list is sent: LANDED for FREE, a shared lock on every block it holds for LACK (R593). -/
def State.resyncExtent (s : State) (key : Nat) (d : Dirty) : State :=
  let vol := dirtyVol key
  let ext := dirtyExt key
  if d.sent then s
  else if d.lack then
    let l := match s.slabOf false vol ext with
      | some e => e.2.blocks.map (·.1)
      | none => []
    if l.isEmpty then { s with twn := { s.twn with dirty := Tbl.del s.twn.dirty key } }
    else
      let s : State := { s with twn := { s.twn with dirty := Tbl.put s.twn.dirty key { d with sent := true, left := l } } }
      l.foldl (fun s b => s.present { vol := vol, lba := 256 * ext + b, n := 1, excl := false, req := 23, who := resyncWho vol (256 * ext + b) }) s
  else
    let s : State := { s with twn := { s.twn with dirty := Tbl.put s.twn.dirty key { d with sent := true } } }
    s.twinSend 0x15 vol (256 * ext) 0 []

/-- Resync starts (R592): event 167; a FRESH twin, or a list that overflowed, is sent every unlanded Held extent, and FREE entries go. -/
def State.startResync (s : State) (fresh : Bool) : State :=
  let s := (s.p TWN_STAT_STATE 3).raise 167
  let s := if fresh || s.on TWN_DIRTY_OVF then
      let s : State := { s with twn := { s.twn with dirty := s.twn.dirty.filter fun e => e.2.lack } }
      s.heldSlabs.foldl (fun s e => s.dirtyPut e.2.vol e.2.ext true) (s.p TWN_DIRTY_OVF 0)
    else s
  s.twn.dirty.foldl (fun s e => s.resyncExtent e.1 e.2) s

/-- RESYNC_COMPLETE (R594): the dirty list is empty and every CONFIRM has arrived: the node leaves Solo, with event 166 and the closing record. -/
def execResyncComplete (s : State) : Out :=
  if s.running && s.g TWN_STAT_STATE == 3 && s.twn.dirty.isEmpty && !(s.twn.await.any fun t => t.2.kind == 0x20 || t.2.kind == 0x21) then
    let s := (s.p TWN_STAT_STATE 1).raise 166
    let s := match s.twn.solo with
      | some r => s.record (mkClose 0x1B 48 (soloFields r s.twin s.now r.lack (r.blocks * 4096 / 2 ^ 20)))
      | none => s
    .next { s with twn := { s.twn with solo := none, rsDone := true } }
  else .next s

/-! ### Heartbeats (Table TWN-2) -/

/-- HEARTBEAT_SEND (R586, R406): at a tick edge whose number is a multiple of 8, from the end of the DRAM stage; a channel fault stops it. -/
def execHeartbeatSend (s : State) : Out :=
  if s.running && s.hasTwin && s.g SYS_BOOT_DRAM == 3 && !s.dramFaulted && s.clk.tick % 8 == 0 && s.twn.hbSent != some s.clk.tick then
    let fl := b2n s.solo + 2 * s.g TWN_STAT_FRESH + 4 * b2n s.twn.rcDone + 8 * b2n s.twn.rsDone
    let s : State := { s with twn := { s.twn with hbSent := some s.clk.tick } }
    let copies := countP (fun e => e.2.twin) s.slabs
    .next (s.send { kind := 8, dst := s.twin, body := leBytes fl 4 ++ leBytes copies 4 ++ zeros 8 })
  else .next s

/-- Every copy held for the twin goes back to it (R596). -/
def State.reclaimSend (s : State) : State :=
  let l := (s.slabs.filter fun e => e.2.twin).flatMap fun e => e.2.blocks.map fun b => (e.2, b)
  let s : State := { s with twn := { s.twn with rcSent := true, rcLeft := l.length, rcDone := l.isEmpty } }
  l.foldl (fun s e => s.twinBlock 0x22 e.1.vol (256 * e.1.ext + e.2.1) e.1.modes e.2.2) s

/-- The effect of a HEARTBEAT parcel that this node consumes (R587, R592, R596). -/
def State.parcelHeartbeat (s : State) (p : Parcel) : State :=
  if !s.hasTwin || p.src != s.twin then s
  else
    let fl := leAt p.body 0 1
    let fresh := bitAt fl 1
    let s : State := { s with twn := { s.twn with hbEdge := s.clk.edges, rcSent := s.twn.rcSent && fresh } }
    let s := s.p TWN_STAT_TWRCD (b2n (bitAt fl 2))
    let s := if fresh && !s.solo then s.enterSolo 2 else if s.g TWN_STAT_STATE = 2 then s.startResync fresh else s
    let s := if fresh && !s.twn.rcSent then s.reclaimSend else s
    if bitAt fl 2 || leAt p.body 4 4 == 0 then s.reclaimEnd else s

/-- HEARTBEAT (R587, R592, R596): liveness; FRESH while paired means Solo, the first one consumed in Solo starts resync, FRESH calls for the copies
back, RCDONE ends reclaim. -/
def execHeartbeat (p : Parcel) (s : State) : Out := s.consume p 8 fun s => (s.gather.parcelHeartbeat p).inOrder

/-! ### Copies at the twin -/

/-- Twin copies are accepted from the end of the DRAM stage (R209); with a channel fault they are answered as by a node not ready (R406). -/
def State.copyIn (s : State) (p : Parcel) : State :=
  let answer := fun (s : State) => s.send { kind := 0x1B, dst := p.src, lba := p.lba, volc := p.volc, xid := p.xid }
  let own := p.kind == 0x22
  if !s.hasTwin || p.src != s.twin || s.g SYS_BOOT_DRAM != 3 then s
  else if s.dramFaulted then s.send { kind := 0x1C, dst := p.src, lba := p.lba, xid := p.xid, volc := p.volc, keyTick := p.keyTick }
  else if s.known p then (if s.copyWait.any fun e => identOf e.2 == identOf p then s else answer s)
  else s.transit p p.volc (encOf p.modes) (fun u _ s =>
    let s := s.remember p
    let s := s.dramWake
    let s := if own then s else s.p TWN_STAT_FRESH 0
    let p := { p with body := dataBody (encOf p.modes) u (bodyKver p.body) }
    match s.slabOf (!own) p.volc (p.lba / 256) with
    | some e => s.storeCopy e.1 p
    | none =>
      match s.slabWait, s.freeSlab with
      | [], some k => (s.newSlab k (!own) p.volc (p.lba / 256)).storeCopy k p
      | _, _ =>
        let w := (Tbl.firstFree s.copyWait 0 (s.copyWait.length + 1)).getD 0
        ({ s with copyWait := Tbl.put s.copyWait w p } : State).waitSlab (2 ^ 32 + w))
    (fun _ s => s.dropParcel)

/-- COPY (R582), RESYNC (R593), RECLAIM (R596). -/
def execCopy (p : Parcel) (s : State) : Out := s.consume p 0x20 fun s => s.copyIn p
def execResync (p : Parcel) (s : State) : Out := s.consume p 0x21 fun s => s.copyIn p
def execReclaim (p : Parcel) (s : State) : Out := s.consume p 0x22 fun s => s.copyIn p

/-- The effect of a LANDED parcel that this node consumes (R584). -/
def State.parcelLanded (s : State) (p : Parcel) : State :=
  if !s.hasTwin || p.src != s.twin then s
  else
    let s := if s.known p then s
      else
        let s := (s.remember p).p TWN_STAT_FRESH 0
        match s.slabOf true p.volc (p.lba / 256) with
        | some e => s.dropSlab e.1
        | none => s
    s.send { kind := 0x1E, dst := p.src, lba := p.lba, volc := p.volc, xid := p.xid }

/-- LANDED (R584): every copy of the extent is freed, and the answer is ACK. -/
def execLanded (p : Parcel) (s : State) : Out := s.consume p 0x15 (·.parcelLanded p)

/-- The effect of a RESTORE parcel that this node consumes (R404). -/
def State.parcelRestore (s : State) (p : Parcel) : State :=
  if !s.hasTwin || p.src != s.twin then s
  else
    let s := if s.known p then s else s.remember p
    match (s.slabOf true p.volc (p.lba / 256)).bind fun e => (Tbl.find e.2.blocks (p.lba % 256)).map fun u => (e.2.modes, u) with
    | some (m, u) => s.send { kind := 0x1A, dst := p.src, lba := p.lba, modes := m, volc := p.volc, keyTick := p.keyTick, body := dataBody (encOf m) u (s.kverOf p.volc) }
    | none => s

/-- RESTORE (R404): the twin answers with the block of its copy. -/
def execRestore (p : Parcel) (s : State) : Out := s.consume p 0x13 (·.parcelRestore p)

/-! ### Answers of the twin -/

/-- A twin parcel is answered; no longer waited for. -/
def State.twinAnswered (s : State) (x : Nat) : State :=
  let s : State := { s with twn := { s.twn with await := Tbl.del s.twn.await x } }
  s.answered fun q => (decide (0x20 ≤ q.kind) || q.kind == 0x15) && q.xid == x

/-- A block's copy is CONFIRMed: the slab notes it, and the piece that waits for it goes on (R583). -/
def State.copyConfirmed (s : State) (vol ext blk : Nat) : State :=
  let lba := 256 * ext + blk
  let more := s.twn.await.any fun t => t.2.kind != 0x22 && t.2.kind != 0x15 && t.2.vol == vol && t.2.ext == ext && t.2.blk == blk
  let s := match s.slabOf false vol ext with
    | some e => if more then s else s.modSlab e.1 fun x => { x with conf := blk :: x.conf.filter (· != blk) }
    | none => s
  let l := s.pieces.filter fun e => e.2.vol == vol && !e.2.read && !e.2.landed && decide (e.2.lba ≤ lba) && e.2.unconf.contains (lba - e.2.lba)
  l.foldl (fun s e => (s.modPiece e.1 fun p => { p with unconf := p.unconf.filter (· != lba - p.lba) }).pieceCheck e.1) s

/-- A RESYNC block is CONFIRMed: its lock goes, and with the last one the extent leaves the list (R593). -/
def State.resyncConfirmed (s : State) (vol ext blk : Nat) : State :=
  let s := s.unlock (resyncWho vol (256 * ext + blk))
  let s : State := match s.twn.solo with
    | some r => { s with twn := { s.twn with solo := some { r with blocks := r.blocks + 1 } } }
    | none => s
  s.resyncLess vol ext blk

/-- The effect of a CONFIRM parcel that this node consumes (R583, R593, R596). -/
def State.parcelConfirm (s : State) (p : Parcel) : State :=
  match Tbl.find s.twn.await p.xid with
  | none => s
  | some t =>
    if p.src != s.twin then s
    else
      let s := s.twinAnswered p.xid
      match t.kind with
      | 0x20 => s.copyConfirmed t.vol t.ext t.blk
      | 0x21 => (s.copyConfirmed t.vol t.ext t.blk).resyncConfirmed t.vol t.ext t.blk
      | 0x22 => { s with twn := { s.twn with rcLeft := s.twn.rcLeft - 1, rcDone := s.twn.rcDone || s.twn.rcLeft == 1 } }
      | _ => s

/-- CONFIRM (R583, R593, R596): the twin holds a copy, or has its block back. -/
def execConfirm (p : Parcel) (s : State) : Out := s.consume p 0x1B (·.parcelConfirm p)

/-- The effect of an ACK parcel that this node consumes (R584, R593). -/
def State.parcelAck (s : State) (p : Parcel) : State :=
  match Tbl.find s.twn.await p.xid with
  | none => s
  | some t =>
    if p.src != s.twin || t.kind != 0x15 then s
    else
      let s := s.twinAnswered p.xid
      let key := dirtyKey t.vol t.ext
      match Tbl.find s.twn.dirty key with
      | some d => if d.lack then s else { s with twn := { s.twn with dirty := Tbl.del s.twn.dirty key } }
      | none => s

/-- ACK (R584, R593): a LANDED is answered; a FREE extent leaves the list. -/
def execAck (p : Parcel) (s : State) : Out := s.consume p 0x1E (·.parcelAck p)

end Sys2Proof.Machine
end

