-- ==== Sys2Proof/Machine/Span.lean ====
section
/-! DEFINITION. Spans: pieces from their ingress node to their owners, the settle window, responses, resends, the peer spare remap
(spec/17_twins_spans.md R574 to R581, R597 to R599; spec/16_efina.md R543, R570, R571; spec/15_integrity_errors.md R502, R511). -/

namespace Sys2Proof.Machine

/-! ### The ingress node (R576 to R578) -/

/-- The node that a piece of a span goes to: its owner, or the peer to which this node, its owner, has moved the stripe (R598). -/
def State.pieceDst (s : State) (n k : Nat) : Nat :=
  if s.ownsStripe n k then s.node
  else if s.stripeOwner n k = s.node then (s.redirOf n k).getD s.node else s.stripeOwner n k

/-- Change piece `i` of the command in a slot. -/
def State.modIPiece (s : State) (slot i : Nat) (f : IPiece → IPiece) : State :=
  s.modCmd slot fun c => { c with pieces := (c.pieces.zipIdx).map fun e => if e.2 = i then f e.1 else e.1 }

/-- A piece of a write waits for the next edge behind an earlier overlapping piece with the same key tick and no DONE (R577). -/
def State.keyClash (s : State) (slot : Nat) (c : Cmd) (p : IPiece) : Bool :=
  c.opc == 1 && s.cmds.any fun e => e.1 != slot && e.2.sq != 0 && e.2.vol == c.vol && decide (e.2.seq < c.seq) && e.2.phase == 2 &&
    e.2.pieces.any fun q => (q.phase == 1 || q.phase == 3) && q.keyTick == s.clk.tick && overlaps q.lba q.n p.lba p.n

/-- Blocks of a remote write piece in staging, from index `i` on, without a gap. -/
def stagedRun (t : Tbl Unit4k) (base i : Nat) : Nat → Nat
  | 0 => 0
  | f + 1 => if Tbl.has t (base + i) then 1 + stagedRun t base (i + 1) f else 0

/-- The staged blocks of a remote write piece that have not been sent go as PIECE parcels, one per block. -/
def State.sendBlocks (s : State) (slot i : Nat) : State :=
  match s.cmd slot with
  | none => s
  | some c =>
    match c.pieces[i]? with
    | none => s
    | some p =>
      let n := c.vol - 0x8000
      let base := p.lba - c.slba
      let m := stagedRun c.staged base p.sent (p.n - p.sent)
      let dst := s.pieceDst n (p.lba / 256)
      let s := if 0 < m then s.modCmd slot fun c => { c with left := true } else s
      let s := s.modIPiece slot i fun p => { p with sent := p.sent + m }
      (List.range m).foldl (fun s j =>
        match Tbl.find c.staged (base + p.sent + j) with
        | none => s
        | some u => s.ask {
          kind := 0x10, dst := dst, first := p.lba, count := p.n, lba := p.lba + p.sent + j, modes := c.modes, xid := slot, keyTick := p.keyTick,
          keyNode := s.node, span := n, body := dataBody (encOf c.modes) u (s.kverOf (n + 64)) }) s

/-- A piece is handed to this node's own settle queue, with its blocks in staging. -/
def State.ownPiece (s : State) (slot i : Nat) (c : Cmd) (p : IPiece) : State :=
  let n := c.vol - 0x8000
  let base := p.lba - c.slba
  let st : Tbl Unit4k := c.staged.filterMap fun e => if base ≤ e.1 ∧ e.1 < base + p.n then some (e.1 - base, e.2) else none
  let s := s.modIPiece slot i fun p => { p with phase := 1, keyTick := s.clk.tick, sent := p.n }
  let s := s.modCmd slot fun c => { c with staged := c.staged.filter fun e => !(decide (base ≤ e.1) && decide (e.1 < base + p.n)) }
  (s.newPiece {
    vol := n + 64, lba := p.lba, n := p.n, modes := c.modes, slot := some slot, src := s.node, xid := slot, keyTick := s.clk.tick, keyNode := s.node,
    phase := 0, staged := st, seq := some c.seq, read := c.opc == 2, edge := s.clk.edges, kver := s.kverOf (n + 64), req := c.fn }).2

/-- A piece goes: to this node's own settle queue, or to its owner as PIECE parcels or one READ; without a route it fails with 0x0400 (R553,
R576, R578). A mode that this node as owner does not accept fails it (R25, R31), and so does a short span (R575). DESIGN CHOICE (log 131): a piece that fails unsent before any key was
stamped stands before every stamped piece in span-key order (R28). -/
def State.pieceGo (s : State) (slot i : Nat) (c : Cmd) (p : IPiece) : State :=
  let n := c.vol - 0x8000
  let k := p.lba / 256
  let dst := s.pieceDst n k
  if dst = s.node then
    match if ((s.volAt (n + 64)).getD {}).short then some 0x0500 else if c.opc = 1 then s.ackRefusal c.modes else none with
    | some st => (s.modIPiece slot i fun p => { p with phase := 2, keyTick := s.clk.tick, status := st }).spanCheck slot
    | none => s.ownPiece slot i c p
  else if !s.reachable dst then (s.modIPiece slot i fun p => { p with phase := 2, status := 0x0400 }).spanCheck slot
  else
    let key := if p.phase = 0 then s.clk.tick else p.keyTick
    let s := s.modIPiece slot i fun p => { p with phase := 1, keyTick := key, sent := 0 }
    if c.opc = 1 then s.sendBlocks slot i
    else s.ask { kind := 0x11, dst := dst, first := p.lba, count := p.n, lba := p.lba, modes := c.modes, xid := slot, keyTick := key, keyNode := s.node, span := n }

/-- PIECE_SEND (R576, R577): piece `i` of a span command takes its key and goes, or further blocks of it do. -/
def execPieceSend (slot i : Nat) (s : State) : Out :=
  match s.cmd slot with
  | none => .next s
  | some c =>
    match c.pieces[i]? with
    | none => .next s
    | some p =>
      if s.running && !s.hostStopped && c.phase == 2 && c.sq != 0 then
        if p.phase = 0 then .next (if s.keyClash slot c p then s else s.pieceGo slot i c p)
        else if p.phase = 1 ∧ c.opc = 1 then .next (s.sendBlocks slot i)
        else .next s
      else .next s

/-- PIECE_RETRY (R578): 250 ticks after NOTREADY the piece is sent again, with its key. -/
def execPieceRetry (slot i : Nat) (s : State) : Out :=
  match s.cmd slot with
  | none => .next s
  | some c =>
    match c.pieces[i]? with
    | none => .next s
    | some p => .next (if s.running && !s.hostStopped && c.phase == 2 && p.phase == 3 && decide (p.retry ≤ s.clk.edges) then s.pieceGo slot i c p else s)

/-! ### The owner (R579, R580) -/

/-- A piece is presented to the range-lock table with its requester's index (R440, R579). -/
def State.presentPiece (s : State) (id : Nat) : State :=
  match Tbl.find s.pieces id with
  | none => s
  | some p =>
    (s.modPiece id fun p => { p with phase := 1 }).present { vol := p.vol, lba := p.lba, n := p.n, excl := !p.read, req := p.req, who := .piece id }

/-- The order of span keys: KEY_TICK, then the lower node ID, then the LBA (R576). -/
def keyLt (a b : OPiece) : Bool :=
  decide (a.keyTick < b.keyTick) || (a.keyTick == b.keyTick && (decide (a.keyNode < b.keyNode) || (a.keyNode == b.keyNode && decide (a.lba < b.lba))))

/-- The piece of lowest key among some. -/
def lowestKey : List (Nat × OPiece) → Option (Nat × OPiece)
  | [] => none
  | e :: t =>
    match lowestKey t with
    | some m => if keyLt m.2 e.2 then some m else some e
    | none => some e

/-- SETTLE_RELEASE (R579): at the edge of KEY_TICK + 2 or later, the held piece of lowest key is presented. -/
def execSettleRelease (s : State) : Out :=
  match lowestKey (s.pieces.filter fun e => e.2.phase == 0 && decide (e.2.keyTick + 2 ≤ s.clk.tick)) with
  | some e => .next (if s.running then s.presentPiece e.1 else s)
  | none => .next s

/-- The status with which an owner refuses a piece: a short span (R575), Held without a twin (R25), Local without the laboratory flag (R31), a KVER
that differs from the stored one (R511). -/
def State.pieceRefusal (s : State) (p : Parcel) (write : Bool) : Option Nat :=
  let v := (s.volAt (p.span + 64)).getD {}
  if v.short then some 0x0500
  else if write ∧ (s.ackRefusal p.modes).isSome then s.ackRefusal p.modes
  else if write ∧ encOf p.modes ∧ (v.kver.any fun k => k != bodyKver p.body) then some 0x0119
  else none

/-- A response to a parcel of a piece. -/
def State.respond (s : State) (p : Parcel) (kind lba : Nat) (body : List Byte) : State :=
  s.send { kind := kind, dst := p.src, lba := lba, modes := p.modes, volc := p.volc, xid := p.xid, keyTick := p.keyTick, keyNode := p.keyNode, span := p.span, first := p.first, count := p.count, body := body }

/-- The piece that a parcel belongs to. -/
def State.pieceFor (s : State) (p : Parcel) (read : Bool) : Option (Nat × OPiece) :=
  s.pieces.find? fun e => e.2.seq.isNone && e.2.src == p.src && e.2.vol == p.span + 64 && e.2.xid == p.xid && e.2.keyTick == p.keyTick && e.2.read == read &&
    decide (e.2.lba ≤ p.lba) && decide (p.lba < e.2.lba + e.2.n)

/-- The owner holds a new piece in its settle queue, or presents a late one at once, with event 168 once per tick (R579, R580). -/
def State.holdPiece (s : State) (p : Parcel) (read : Bool) : Nat × State :=
  let r := s.newPiece {
    vol := p.span + 64, lba := p.first, n := p.count, modes := p.modes, slot := none, src := p.src, xid := p.xid, keyTick := p.keyTick, keyNode := p.keyNode,
    read := read, edge := s.clk.edges, kver := bodyKver p.body, req := 16 + p.inPort % 4 }
  if p.keyTick + 2 ≤ s.clk.tick then
    let s := r.2.bump TWN_SETTLE_LATE 1
    let s := if s.twn.late then s else ({ s with twn := { s.twn with late := true } } : State).raise 168
    (r.1, s.presentPiece r.1)
  else r

/-- The node is no owner for a request now: not yet Ready, or with a faulted DRAM channel (R209, R406). -/
def State.notReady (s : State) : Bool := s.g SYS_BOOT_STAGE != 4 || s.dramFaulted

/-- What an owner does first with a request: it forwards one for a redirected stripe, discards one for a stripe it does not own, refuses one while not
ready (R209, R406, R598); else `f` goes on. -/
def State.asOwner (s : State) (p : Parcel) (f : State → State) : State :=
  let k := p.lba / 256
  match s.redirOf p.span k with
  | some d => s.routeOut { p with dst := d, passed := true }
  | none =>
    if !s.ownsStripe p.span k then s.dropParcel
    else if s.notReady then s.respond p 0x1C p.first []
    else f s

/-- The transit check of a block passed: it is staged for its piece and reported after 16, or with the last (R579, Table FAB-5). -/
def State.blockIn (s : State) (id : Nat) (p : Parcel) (u : Unit4k) (note : Nat) : State :=
  let s := (s.remember p).modPiece id fun x => { x with
    staged := Tbl.put x.staged (p.lba - x.lba) u, unrep := (p.lba - x.lba) :: x.unrep, note := max x.note note }
  match Tbl.find s.pieces id with
  | some x => if 16 ≤ x.unrep.length ∨ x.got + x.staged.length = x.n then s.sendAccept id else s
  | none => s

/-- A block of a piece is rejected at transit: the blocks before it may land, the piece has its status (R501, R502). -/
def State.blockBad (s : State) (id : Nat) (p : Parcel) (status : Nat) : State :=
  let s := (s.remember p).pieceFinish id status
  match Tbl.find s.pieces id with
  | some x => if x.phase < 2 then s.dropPiece id else s.cutPiece id (p.lba - x.lba)
  | none => s

/-- The effect of a PIECE parcel that this node consumes (R579, R502, R511). -/
def State.parcelPiece (s : State) (p : Parcel) : State :=
  if s.known p then (s.bump FAB_E2E_DUP 1).respond p 0x18 p.lba (leBytes 1 2 ++ zeros 14)
  else s.asOwner p fun s =>
    let take := fun (s : State) (id : Nat) => s.transit p (p.span + 64) (encOf p.modes) (fun u n s => s.blockIn id p u n) (fun st s => s.blockBad id p st)
    match s.pieceFor p false with
    | some e => take s e.1
    | none =>
      match s.pieceRefusal p true with
      | some st => (s.remember p).respond p 0x19 p.first (leBytes st 2 ++ zeros 14)
      | none =>
        let s := if encOf p.modes then s.modVol (p.span + 64) fun v => { v with kver := some (v.kver.getD (bodyKver p.body)) } else s
        let r := s.mediaArrives.holdPiece p false
        take r.2 r.1

/-- PIECE (R579, R502, R511): a block of a span write reaches its owner; without a staging word for it the parcel is not consumed yet (R41, R544). -/
def execPiece (p : Parcel) (s : State) : Out := if s.stagingRoom then s.consume p 0x10 (·.parcelPiece p) else .next s

/-- The owner of a stripe under remap serves all of it to the peer that took it, under its own lock, and asks for the end by QUERY (Table TWN-3
step 4). -/
def State.remapServe (s : State) (p : Parcel) (key : Nat) (r : Remap) : State :=
  let q := s.newPiece {
    vol := p.span + 64, lba := p.first, n := p.count, modes := p.modes, slot := none, src := p.src, xid := p.xid, keyTick := p.keyTick, keyNode := p.keyNode,
    read := true, edge := s.clk.edges, phase := 2 }
  let s := q.2.serveAll (pieceReader q.1) (p.span + 64) p.first p.count false
  let s : State := { s with twn := { s.twn with remaps := Tbl.put s.twn.remaps key { r with step := 5 } } }
  s.ask { kind := 0x12, dst := p.src, lba := p.first, modes := p.modes, xid := p.xid, keyTick := p.keyTick, keyNode := p.keyNode, span := p.span }

/-- The effect of a READ parcel that this node consumes (R579, R598, R209). -/
def State.parcelReadParcel (s : State) (p : Parcel) : State :=
  if s.known p && (s.pieceFor p true).isSome then s.bump FAB_E2E_DUP 1
  else s.asOwner p fun s =>
    let key := stripeKey p.span (p.lba / 256)
    match Tbl.find s.twn.remaps key with
    | some r => if r.peer = p.src ∧ r.step = 3 then (s.remember p).remapServe p key r else ((s.remember p).mediaArrives.holdPiece p true).2
    | none =>
      match s.pieceRefusal p false with
      | some st => (s.remember p).respond p 0x19 p.first (leBytes st 2 ++ zeros 14)
      | none => ((s.remember p).mediaArrives.holdPiece p true).2

/-- READ_PARCEL (R579, R598, R209): a READ reaches the owner of its range. -/
def execReadParcel (p : Parcel) (s : State) : Out := s.consume p 0x11 (·.parcelReadParcel p)

/-- The status that an owner has reported for a piece. -/
def State.statusOf (s : State) (p : Parcel) : Option Nat :=
  let q : Ident := { src := p.src, kind := p.span + 64, xid := p.xid, keyTick := p.keyTick, lba := p.lba }
  ((s.fab.done ++ s.fab.donePrev).find? fun e => e.1 == q).map (·.2)

/-- The effect of a QUERY parcel that this node consumes (R570). -/
def State.parcelQuery (s : State) (p : Parcel) : State :=
  match s.redirOf p.span (p.lba / 256) with
  | some d => s.routeOut { p with dst := d, passed := true }
  | none =>
    match s.statusOf p with
    | some st => (s.remember p).respond p 0x19 p.lba (leBytes st 2 ++ zeros 14)
    | none => s.remember p

/-- QUERY (R570): answered with DONE when the status of the piece is determined; ignored before. -/
def execQuery (p : Parcel) (s : State) : Out := s.consume p 0x12 (·.parcelQuery p)

/-! ### Answers at the ingress node -/

/-- The pieces of a command to which a response belongs, by an LBA of theirs, still waiting. -/
def State.hasPiece (s : State) (p : Parcel) : Bool :=
  match s.cmd p.xid with
  | some c => decide (0x8000 ≤ c.vol) && c.vol == 0x8000 + p.span && c.phase == 2 &&
      c.pieces.any fun q => q.phase == 1 && q.keyTick == p.keyTick && decide (q.lba ≤ p.lba) && decide (p.lba < q.lba + q.n)
  | none => false

/-- Change the pieces of a response's command that hold its LBA. -/
def State.onPiece (s : State) (p : Parcel) (f : IPiece → IPiece) : State :=
  s.modCmd p.xid fun c => { c with pieces := c.pieces.map fun q => if q.phase = 1 ∧ q.keyTick = p.keyTick ∧ q.lba ≤ p.lba ∧ p.lba < q.lba + q.n then f q else q }

/-- The effect of an ACCEPT parcel that this node consumes (R543, R502). -/
def State.parcelAccept (s : State) (p : Parcel) : State :=
  if !s.hasPiece p then s
  else
    let n := leAt p.body 0 2
    let s := s.answered fun q => q.kind == 0x10 && q.xid == p.xid && q.keyTick == p.keyTick && q.span == p.span && decide (p.lba ≤ q.lba) && decide (q.lba < p.lba + n)
    let s := s.onPiece p fun q => { q with acc := min q.n (q.acc + n) }
    s.modCmd p.xid fun c => { c with staged := c.staged.filter fun e => !(decide (p.lba ≤ c.slba + e.1) && decide (c.slba + e.1 < p.lba + n)) }

/-- ACCEPT (R543, R502): blocks were accepted at transit; they leave the staging area. -/
def execAccept (p : Parcel) (s : State) : Out := s.consume p 0x18 (·.parcelAccept p)

/-- A remap's peer has reported: on success the stripe is the peer's: redirect stored, own extent retired with VOL 127, pieces done, event 169, record
(Table TWN-3 step 6, R598); else the next candidate is asked. -/
def State.remapDone (s : State) (key : Nat) (r : Remap) (status : Nat) : State :=
  if isError status then s.remapNext key
  else
    let vol := r.span + 64
    let s := s.setMed fun m => { m with
      redir := Tbl.put m.redir key r.peer
      map := m.map.map fun e => if e.2.vol = vol ∧ e.2.ext = r.stripe then (e.1, { e.2 with vol := 127, ext := s.localExt vol e.2.ext }) else e
      elig := m.elig.filter fun i => match Tbl.find s.pieces i with
        | some p => !(p.vol == vol && p.ext == r.stripe)
        | none => false }
    let s : State := { s with
      wr := s.wr.filter fun w => !(w.2.vol == vol && w.2.lba / 256 == r.stripe)
      twn := { s.twn with remaps := Tbl.del s.twn.remaps key, peers := s.twn.peers.filter (· != key) } }
    let s := s.unlock (.realloc key)
    let s := (s.raise 169).record (mkRec 0x1D 48 [(16, 8, s.now), (24, 1, r.span), (26, 2, r.peer), (28, 5, r.stripe)])
    let s := s.bump TWN_REMAP_COUNT 1
    (s.pieces.filter fun e => e.2.vol == vol && e.2.ext == r.stripe && !e.2.read && !e.2.landed).foldl (fun s e => s.pieceLand e.1) s

/-- The effect of a DONE parcel that this node consumes (R578). -/
def State.parcelDone (s : State) (p : Parcel) : State :=
  let st := leAt p.body 0 2
  let key := stripeKey p.span (p.lba / 256)
  let gone := fun (s : State) => s.answered fun q =>
    (q.kind == 0x10 || q.kind == 0x11 || q.kind == 0x12) && q.xid == p.xid && q.keyTick == p.keyTick && q.span == p.span && q.lba / 256 == p.lba / 256
  match Tbl.find s.twn.remaps key with
  | some r => if r.peer = p.src ∧ r.step = 5 then (gone s).remapDone key r st else s
  | none =>
    if !s.hasPiece p then s
    else
      let s := (gone s).onPiece p fun q => { q with phase := 2, status := if isError q.status then q.status else max q.status st }
      let s := if isError st then s.modCmd p.xid fun c => { c with err := { c.err with lba := some p.lba, node := p.src } } else s
      s.spanCheck p.xid

/-- DONE (R578): a piece's status reaches the ingress node, or the end of a remap its owner. -/
def execDone (p : Parcel) (s : State) : Out := s.consume p 0x19 fun s => (s.gather.parcelDone p).inOrder

/-- The effect of a NOTREADY parcel that this node consumes (R578). -/
def State.parcelNotready (s : State) (p : Parcel) : State :=
  if !s.hasPiece p then s
  else
    let s := s.answered fun q => (q.kind == 0x10 || q.kind == 0x11) && q.xid == p.xid && q.keyTick == p.keyTick && q.span == p.span && q.lba / 256 == p.lba / 256
    s.onPiece p fun q => { q with phase := 3, retry := s.clk.edges + 250, sent := 0 }

/-- NOTREADY (R578): the piece waits 250 ticks to be sent again. -/
def execNotready (p : Parcel) (s : State) : Out := s.consume p 0x1C (·.parcelNotready p)

/-- A block that the twin returned for one that could not be read (R404): the slab is rewritten, with event 140; one that fails again is lost. -/
def State.restored (s : State) (p : Parcel) : State :=
  let b := p.lba % 256
  match s.slabOf false p.volc (p.lba / 256) with
  | none => s
  | some e =>
    if !e.2.bad.contains b then s
    else s.transit p p.volc (encOf p.modes)
      (fun u _ s =>
        let s := s.answered fun q => q.kind == 0x13 && q.volc == p.volc && q.lba == p.lba
        ((s.dramStore e.1 b u.bytes).modSlab e.1 fun x => { x with blocks := Tbl.put x.blocks b u, bad := x.bad.filter (· != b) }).raise 140)
      (fun _ s => (s.answered fun q => q.kind == 0x13 && q.volc == p.volc && q.lba == p.lba).bufferLost p.volc p.lba)

/-- A block of a stripe that this peer takes from its owner (Table TWN-3 step 5). -/
def State.takeBlock (s : State) (p : Parcel) (id : Nat) : State :=
  match Tbl.find s.pieces id with
  | none => s
  | some x =>
    let i := p.lba - x.lba
    if p.lba < x.lba ∨ x.n ≤ i ∨ Tbl.has x.staged i ∨ i < x.got then s
    else s.transit p x.vol (encOf p.modes) (fun u n s => s.modPiece id fun x => { x with staged := Tbl.put x.staged i u, note := max x.note n, modes := p.modes })
      (fun st s => ({ s with twn := { s.twn with taking := s.twn.taking.filter fun e => e.2 != id } } : State).pieceFail id st)

/-- The effect of an RDATA parcel that this node consumes (R502, R511). -/
def State.parcelRdata (s : State) (p : Parcel) : State :=
  if p.volc != 0xFF then (if p.src == s.twin then s.restored p else s)
  else
    match Tbl.find s.twn.taking (stripeKey p.span (p.lba / 256)) with
    | some id => s.takeBlock p id
    | none =>
      if !s.hasPiece p then s
      else
        let s := s.transit p (p.span + 64) (encOf p.modes)
          (fun u n s =>
            if encOf p.modes && bodyKver p.body != s.kverOf (p.span + 64) then s.spanBlock p.xid p.lba 0x0119
            else (s.modCmd p.xid fun c => { c with note := max c.note n }).deliver p.xid p.lba u false)
          (fun st s => s.spanBlock p.xid p.lba st)
        if s.hasPiece p then s else s.answered fun q => q.kind == 0x11 && q.xid == p.xid && q.keyTick == p.keyTick && q.span == p.span && q.lba / 256 == p.lba / 256

/-- RDATA (R502, R511): a block for a Read of this node, a restored block, or a block of a stripe taken over. -/
def execRdata (p : Parcel) (s : State) : Out := s.consume p 0x1A (·.parcelRdata p)

/-- A read response is sent again from its source (R502). -/
def State.serveAgain (s : State) (p : Parcel) : State :=
  match s.pieceFor p true with
  | some e => (s.modPiece e.1 fun x => { x with got := x.got - 1 }).serve (pieceReader e.1) (p.span + 64) p.lba (strictOf p.modes)
  | none =>
    let r := s.newPiece {
      vol := p.span + 64, lba := p.lba, n := 1, modes := p.modes, slot := none, src := p.src, xid := p.xid, keyTick := p.keyTick, keyNode := p.keyNode,
      read := true, edge := s.clk.edges, req := 16 + p.inPort % 4 }
    r.2.presentPiece r.1

/-- The effect of a RESENDQ parcel that this node consumes (R502, R404). -/
def State.parcelResendq (s : State) (p : Parcel) : State :=
  match s.fab.await.find? fun x => x.p.dst == p.src && x.p.xid == p.xid && x.p.keyTick == p.keyTick && x.p.lba == p.lba && x.p.volc == p.volc &&
      x.p.span == p.span && (x.p.kind == 0x10 || decide (0x20 ≤ x.p.kind)) with
  | some x => s.send { x.p with resend := true }
  | none =>
    if p.volc != 0xFF then
      match (s.slabOf true p.volc (p.lba / 256)).bind fun e => (Tbl.find e.2.blocks (p.lba % 256)).map fun u => (e.2.modes, u) with
      | some (m, u) => s.respond p 0x1A p.lba (dataBody (encOf m) u (s.kverOf p.volc))
      | none =>
        match s.slabOf false p.volc (p.lba / 256) with
        | none => s
        | some e =>
          if e.2.bad.contains (p.lba % 256) then s.bufferLost p.volc p.lba
          else match Tbl.find e.2.blocks (p.lba % 256) with
            | some u => (s.modSlab e.1 fun x => { x with conf := x.conf.filter (· != p.lba % 256) }).twinBlock 0x20 p.volc p.lba p.modes u
            | none => s
    else if s.ownsStripe p.span (p.lba / 256) then s.serveAgain p
    else s

/-- RESENDQ (R502, R404): a block failed its transit check, or a twin copy was lost; it goes once more from the copy still held. -/
def execResendq (p : Parcel) (s : State) : Out := s.consume p 0x1D (·.parcelResendq p)

/-! ### The peer of a remap -/

/-- Free peer-spare extents of a span on this node. -/
def State.peerFree (s : State) (n : Nat) : Nat :=
  s.spanSpare n - countP (fun k => k / 2 ^ 40 == n) s.twn.peers - countP (fun e => e.1 / 2 ^ 40 == n) s.twn.taking

/-- The effect of a REMAP parcel that this node consumes (R597). -/
def State.parcelRemap (s : State) (p : Parcel) : State :=
  let k := p.lba / 256
  let key := stripeKey p.span k
  if s.known p then s.respond p 0x1F p.lba (leBytes (b2n (!Tbl.has s.twn.taking key && !s.twn.peers.contains key)) 1 ++ zeros 15)
  else
    let s := s.remember p
    if s.notReady || !s.spanMember p.span || ((s.volAt (p.span + 64)).getD {}).short || s.peerFree p.span == 0 then s.respond p 0x1F p.lba (leBytes 1 16)
    else
      let r := s.newPiece {
        vol := p.span + 64, lba := 256 * k, n := 256, modes := p.modes, slot := none, src := p.src, xid := 0, keyTick := s.clk.tick, keyNode := s.node,
        edge := s.clk.edges, phase := 2 }
      let s : State := { r.2 with twn := { r.2.twn with taking := Tbl.put r.2.twn.taking key r.1 } }
      let s := s.respond p 0x1F p.lba (leBytes 0 16)
      s.ask { kind := 0x11, dst := p.src, first := 256 * k, count := 256, lba := 256 * k, modes := p.modes, xid := 0, keyTick := s.clk.tick, keyNode := s.node, span := p.span }

/-- REMAP (R597, Table TWN-3 step 3): a peer grants one of its peer-spare extents and reads the stripe, or refuses. -/
def execRemap (p : Parcel) (s : State) : Out := s.consume p 0x14 (·.parcelRemap p)

/-- The effect of a REMAPR parcel that this node consumes (R597). -/
def State.parcelRemapr (s : State) (p : Parcel) : State :=
  let key := stripeKey p.span (p.lba / 256)
  match Tbl.find s.twn.remaps key with
  | none => s
  | some r =>
    if r.peer != p.src || r.step != 2 then s
    else
      let s := s.answered fun q => q.kind == 0x14 && q.dst == p.src && q.lba == p.lba && q.span == p.span
      if leAt p.body 0 1 = 0 then { s with twn := { s.twn with remaps := Tbl.put s.twn.remaps key { r with step := 3 } } }
      else s.remapNext key

/-- REMAPR (R597): granted, the owner waits for the peer's READ; refused, the next candidate is asked. -/
def execRemapr (p : Parcel) (s : State) : Out := s.consume p 0x1F (·.parcelRemapr p)

/-- A stripe taken by this peer has all its blocks: it is held here from now on. -/
def State.takeEnd (s : State) : State :=
  let l := s.twn.taking.filter fun e => match Tbl.find s.pieces e.2 with
    | some p => p.full
    | none => true
  l.foldl (fun s e => { s with twn := { s.twn with taking := Tbl.del s.twn.taking e.1, peers := e.1 :: s.twn.peers } }) s

/-- Remaps whose peer has become unreachable go on with the next candidate (R599). -/
def State.remapRetry (s : State) : State :=
  (s.twn.remaps.filter fun e => decide (2 ≤ e.2.step) && !s.reachable e.2.peer).foldl (fun s e => s.remapNext e.1) s

end Sys2Proof.Machine
end

