-- ==== Sys2Proof/Machine/MediaCmd.lean ====
section
/-! DEFINITION. Sectors written, verified and reallocated, landing, marginal refresh, the placement loop, the map at boot (spec/11_media.md R356 to
R376; spec/10_channel.md R338 to R341; spec/08_servo_band.md R272; spec/15_integrity_errors.md R503). -/

namespace Sys2Proof.Machine

/-! ### A sector's write ends -/

/-- The sector whose place has a given spare, else the place itself. -/
def State.originOf (s : State) (loc : Nat) : Nat :=
  match s.med.spares.find? fun e => e.2.loc == loc with
  | some e => e.1
  | none => loc

/-- A place as a record gives it: head, track, position. -/
def locFields (o loc : Nat) : List (Nat × Nat × Nat) := [(o, 1, locHead loc), (o + 1, 3, locTrack loc), (o + 4, 2, locPos loc)]

/-- A job is done: its block is stored (and verified); a spare's table entry is stored, with event 128 and the reallocation record (R360, R361);
a refresh gives its lock back. -/
def State.jobDone (s : State) (loc : Nat) (j : WJob) : State :=
  let s : State := { s with wr := Tbl.del s.wr loc }
  let s := (s.locks.table.filter fun l => l.req == 20 && l.vol == j.vol && l.lba == j.lba).foldl (fun s l => s.unlock l.who) s
  match s.med.spares.find? fun e => e.2.loc == loc && !e.2.stored with
  | none => s
  | some (o, x) =>
    let s := s.setMed fun m => { m with spares := Tbl.put m.spares o { x with stored := true } }
    let s := (s.raise 128).bump MED_REALLOC 1
    s.record (mkRec 0x13 64 ([(16, 8, s.now), (24, 6, j.lba), (30, 2, volOf j.vol)] ++ locFields 32 o ++ locFields 38 loc ++ [(44, 1, j.tries), (48, 4, s.freeSpares)]))

/-- The zone of a place is verified (R354). -/
def State.locVerified (s : State) (loc : Nat) : Bool := s.zVerified (s.zoneOf (locTrack loc))

/-- The writing of the sector under gate `k` has ended: in a fast zone the job is done, in a verified one it waits for its verify. -/
def State.gateEnd (s : State) (k : Nat) : State :=
  match (s.act k).gate with
  | none => s
  | some (loc, _) =>
    let s := (s.actFalls k).setAct k fun a => { a with gate := none }
    match Tbl.find s.wr loc with
    | some j => if s.locVerified loc then s else s.jobDone loc j
    | none => s

/-! ### Writing -/

/-- The unit that a job writes: a refresh its own; else the newest copy in the slab, a captured unit, a zero block (R356, R366). -/
def State.jobUnit (s : State) (j : WJob) : List Byte :=
  let own := j.unit.getD (zeroUnit j.lba)
  if j.why = 1 then own
  else match s.slabUnit j.vol j.lba with
    | some u => u.bytes
    | none => own

/-- The tick edges that a sector's writing takes: 43 360 bits at the zone's rate. -/
def State.sectorEdges (s : State) (loc : Nat) : Nat := ceilDiv 43360 (4 * max 1 (s.zRate (s.zoneOf (locTrack loc))))

/-- The egress check of the block that a channel takes from a slab (R503): `bad` says that what it read differs from what was stored. -/
def State.egressBad (s : State) (j : WJob) (bad : Bool) : Bool :=
  match s.slabUnit j.vol j.lba with
  | some u => j.why != 1 && (bad || !unitGood (encOf (s.extModes j.vol (j.lba / 256))) j.lba u)
  | none => false

/-- The gate may assert for a place (R272). -/
def State.mayWrite (s : State) (k loc : Nat) (j : WJob) : Bool :=
  s.mediaOk && decide (j.edge ≤ s.clk.edges) && (s.chn k).slice.isNone && s.onHead k loc true && s.wgBlock k == 0 && !s.slabBad j.vol j.lba

/-- Gate `k` asserts and the sector is written from its start; a block that fails the egress check is not written, with event 158 (R503). -/
def State.sectorWrite (s : State) (k loc : Nat) (j : WJob) (bad : Bool) : State :=
  let s := s.gateEnd k
  if s.egressBad j bad then ((s.bump MQP_INTCNT2_EGRESS 1).raise 158).slabUnitBad j.vol j.lba
  else
    let s := s.setMed fun m => { m with disc := Tbl.put m.disc loc { bytes := s.jobUnit j } }
    let s : State := { s with wr := Tbl.put s.wr loc { j with phase := 1 } }
    s.setAct k fun a => { a with gate := some (loc, s.clk.edges + s.sectorEdges loc) }

/-- SECTOR_WRITE (R272): a queued sector passes under the writer. -/
def execSectorWrite (k : Fin 4) (head : Fin 20) (track : BitVec 24) (pos : BitVec 12) (bad : Bool) (s : State) : Out :=
  let loc := mkLoc head track.toNat pos.toNat
  match Tbl.find s.wr loc with
  | some j => .next (if j.phase = 0 ∧ s.mayWrite k loc j then s.sectorWrite k loc j bad else s)
  | none => .next s

/-- SECTOR_REWRITE (R338): a sector abandoned, or failed at verify, passes again once the gate may assert; it is written in full. -/
def execSectorRewrite (k : Fin 4) (head : Fin 20) (track : BitVec 24) (pos : BitVec 12) (bad : Bool) (s : State) : Out :=
  let loc := mkLoc head track.toNat pos.toNat
  match Tbl.find s.wr loc with
  | some j => .next (if (j.phase = 2 ∨ j.phase = 3) ∧ s.mayWrite k loc j then s.sectorWrite k loc j bad else s)
  | none => .next s

/-! ### Verify and reallocation -/

/-- A sector is handed to reallocation (R341, R360): a free spare takes its block; a spare that failed is spent; with none left R373 decides. -/
def State.reallocate (s : State) (loc : Nat) (j : WJob) : State :=
  let o := s.originOf loc
  let s : State := { s with wr := Tbl.del s.wr loc }
  let s := if o = loc then s else s.setMed fun m => { m with spent := loc :: m.spent, spares := Tbl.del m.spares o }
  match s.pickSpare o with
  | some n =>
    let s := s.setMed fun m => { m with spares := Tbl.put m.spares o { loc := n, vol := j.vol, lba := j.lba } }
    s.addJob n { j with why := 3, phase := 0, unit := some (s.jobUnit j) }
  | none =>
    let s := (s.locks.table.filter fun l => l.req == 20 && l.vol == j.vol && l.lba == j.lba).foldl (fun s l => s.unlock l.who) s
    if j.vol < 64 then s.noSpare j.vol j.lba (locHead o) else s.startRemap j.vol j.lba

/-- VFY_RETRY of section 0x0031. -/
def State.vfyRetry (s : State) : Nat := s.secLe 0x31 0 2 1 0

/-- A verify failure (R341): event 117; the sector is rewritten, or with VFY_RETRY rewrites failed, event 118 and reallocation. A failed write to a
spare takes the next spare at once (R360). -/
def State.verifyFail (s : State) (k loc : Nat) (j : WJob) : State :=
  let s := (s.bumpk CHN_VFY_FAIL k 1).raise 117
  if j.why = 3 then s.reallocate loc j
  else
    let j := { j with tries := j.tries + 1 }
    if j.tries ≤ s.vfyRetry then { s with wr := Tbl.put s.wr loc { j with phase := 3 } }
    else ((s.bumpk CHN_VFY_EXH k 1).raise 118).reallocate loc j

/-- The deadline cut of a command that waits for a sector to land which must be written again (R342, R347): 0x0602 at once, event 115; the writing goes on.
Table CHN-5 gives no cost for a re-write, and 0 is taken (assumption log 180). -/
def State.landCuts (s : State) (vol lba : Nat) : State :=
  (s.cmds.filter fun c => s.pieces.any fun p => p.2.landWaits c.1 vol lba).foldl (fun s c =>
    match s.deadlineOf c.1 with
    | some d => if d < s.instant + 20000 * s.rcvMargin then (s.raise 115).endIo c.1 0x0602 else s
    | none => s) s

/-- A verify passes, with the trail reader alone (R327): class 0 or 1 under ITER_VFY, and at most VFY_UCHK unsatisfied checks before the first iteration (R339). -/
def State.verifyGood (s : State) (h : Nat) (x : ReadIn) (unsat : Nat) : Bool :=
  decide (ldpcClass (s.margIter h) (s.hdLe h 38 1) x.trail ≤ 1) && decide (unsat ≤ s.hdLe h 40 2)

/-- VERIFY_RESULT (R339 to R342): the trail reader has read a sector of a verified zone back; a write that was abandoned has failed. -/
def execVerifyResult (k : Fin 4) (head : Fin 20) (track : BitVec 24) (pos : BitVec 12) (x : ReadIn) (unsat : Nat) (s : State) : Out :=
  let loc := mkLoc head track.toNat pos.toNat
  match Tbl.find s.wr loc with
  | none => .next s
  | some j =>
    if s.running && s.locAct loc == k.val && s.locVerified loc && (j.phase == 1 || j.phase == 2) then
      let s := if (s.act k).gate.any fun g => g.1 == loc then (s.actFalls k).setAct k fun a => { a with gate := none } else s
      .next (if j.phase = 1 ∧ s.verifyGood head x unsat then s.jobDone loc j else (s.verifyFail k loc j).landCuts j.vol j.lba)
    else .next s

/-! ### Landing (R358, R366, R376) -/

/-- The map entry of an extent is stored in copy A, copy B or both; a block kept in one copy sets MAP1 with event 134, once (R376). -/
def State.storeEnt (s : State) (pe : Nat) (e : Ent) (copies : Nat) : State :=
  let b := s.mapBlock pe
  let first := copies != 0 && !Tbl.has s.med.single b
  let s := s.setMed fun m => { m with map := Tbl.put m.map pe { e with stored := true }, single := if copies = 0 then m.single else Tbl.put m.single b copies }
  if first then (s.p MED_STAT_MAP1 1).raise 134 else s

/-- A relocation has landed: its source is free, and event 131 is raised (R366). -/
def State.moveEnd (s : State) (pe : Nat) : State :=
  match Tbl.find s.med.moves pe with
  | none => s
  | some src => (s.setMed fun m => { m with map := Tbl.del m.map src, moves := Tbl.del m.moves pe }).raise 131

/-- A placement whose map block can be written in neither copy is undone; its pieces fail as for no spare (R376, R373). -/
def State.placeRefused (s : State) (pe : Nat) (e : Ent) : State :=
  let s := s.setMed fun m => { m with map := Tbl.del m.map pe, moves := Tbl.del m.moves pe, single := Tbl.put m.single (s.mapBlock pe) 3 }
  let l := s.pieces.filter fun p => p.2.vol == e.vol && p.2.ext == e.ext && !p.2.read && !p.2.landed && p.2.phase == 3
  l.foldl (fun s p =>
    if e.vol < 64 then ((List.range p.2.n).foldl (fun s i => s.noSpare e.vol (p.2.lba + i) (peHead pe)) s).pieceLand p.1
    else s.startRemap e.vol p.2.lba) s

/-- What storing the map entry of extent `pe` leads to (R358, R366, R373, R376). -/
def State.landMap (s : State) (id pe : Nat) (e : Ent) (failA failB : Nat) : State :=
  let w := s.mapWrite pe failA failB
  if w.1 = 3 then w.2.placeRefused pe e else (((w.2.storeEnt pe e w.1).moveEnd pe).pieceLand id).strictGo

/-- PIECE_LANDED (R358): the sectors of a piece are written and verified, and its map blocks are stored, after so many failed writes of copy A and of copy
B. Strict reads that waited for it go. -/
def execPieceLanded (id failA : Nat) (s : State) (failB : Nat := 0) : Out :=
  match Tbl.find s.pieces id with
  | none => .next s
  | some p =>
    match s.writePe p.vol p.ext with
    | none => .next s
    | some pe =>
      match Tbl.find s.med.map pe with
      | none => .next s
      | some e => .next (if s.running && s.onMedia p then (if e.stored then (s.pieceLand id).strictGo else s.landMap id pe e failA failB) else s)

/-! ### Marginal refresh -/

/-- A host media operation waits on actuator `k`. -/
def State.hostWaits (s : State) (k : Nat) : Bool :=
  s.med.reads.any (fun e => e.2.slot.isSome && s.locAct e.1 == k) || s.wr.any fun e => e.2.why != 1 && s.locAct e.1 == k

/-- MARGINAL_REFRESH (R363): the next queued sector of an idle actuator asks for the lock of its LBA; its rewrite follows at the grant. -/
def execMarginalRefresh (k : Fin 4) (s : State) : Out :=
  match (s.chn k).refresh with
  | [] => .next s
  | (vol, lba) :: t =>
    let busy := (s.locks.table ++ s.locks.reqs ++ s.locks.queue).any fun l => decide (l.who = .refresh k.val)
    if s.mediaOk && s.refreshOn && !s.hostWaits k && !busy && (s.chn k).slice.isNone then
      let s := s.setChn k fun c => { c with refresh := t }
      .next (s.present { vol := vol, lba := lba, n := 1, excl := true, req := 20, who := .refresh k })
    else .next s

/-! ### The placement loop (R364 to R371) -/

/-- Media work that waits on actuator `k`, in blocks: what has joined its queue (Table MED-4). -/
def State.backlog (s : State) (k : Nat) : Nat := countP (fun e => s.locAct e.1 == k && decide (e.2.edge ≤ s.clk.edges)) s.wr + countP (fun e => s.locAct e.1 == k) s.med.reads

/-- The zones in the order of the policy (R364). -/
def State.zonesBy (s : State) : List Nat :=
  let n := s.nZones
  match s.secLe 0x41 0 0 1 0 with
  | 0 => List.range n
  | 1 => (List.range n).map fun i => (s.med.lastZone + 1 + i) % max 1 n
  | _ => (List.range n).reverse

/-- The head with the most free extents of zone `z` among some, the lowest on a tie. -/
def State.bestHead (s : State) (z : Nat) : List Nat → Option Nat
  | [] => none
  | h :: t =>
    match s.bestHead z t with
    | some g => if s.freeIn h z < s.freeIn g z then some g else some h
    | none => if 0 < s.freeIn h z then some h else none

/-- The actuator of smallest backlog among some, the lowest on a tie. -/
def State.leastBusy (s : State) : List Nat → Option Nat
  | [] => none
  | k :: t =>
    match s.leastBusy t with
    | some j => if s.backlog j < s.backlog k then some j else some k
    | none => some k

/-- The best head and zone from some actuators and zones. -/
def State.bestPlace (s : State) (acts : List Nat) (zone : Nat → Bool) : Option (Nat × Nat) :=
  let zs := s.zonesBy.filter zone
  let room := fun (k z : Nat) => (s.headsOf k).any fun h => decide (0 < s.freeIn h z)
  match s.leastBusy (acts.filter fun k => zs.any fun z => room k z) with
  | none => none
  | some k => (zs.find? fun z => room k z).bind fun z => (s.bestHead z (s.headsOf k)).map fun h => (h, z)

/-- What the loop decides for a piece: a head and zone with whether the choice was pinned, a pinned wait, or a wait for a free extent. -/
inductive Place where
  | at (h z : Nat) (pinned : Bool)
  | waitPinned
  | waitFree
  deriving DecidableEq, Repr

/-- The choice for a piece of volume `vol` (R364, R365, R370): the wanted place, or the best inside the effective envelope of tunables 0x0008 and
0x0009. An actuator out of service or under an exclusive test is outside every choice. -/
def State.placeFor (s : State) (vol : Nat) (verified moving : Bool) : Place :=
  let acts := s.actList.filter fun k => !s.actFailed k && !bitAt (s.g TST_CAL_EXCL) k
  let cls := fun (z : Nat) => !verified || s.zVerified z
  let others := sumOf (s.med.vols.map fun v => if v.1 = vol then 0 else v.2.resv - s.placedOf v.1)
  if moving ∧ s.freeExtents ≤ others then .waitFree
  else match s.bestPlace acts cls with
    | none => .waitFree
    | some (h, z) =>
      let set := (s.eff 8 (volOf vol)).2.toNat
      let zr := s.eff 9 (volOf vol)
      let zin := fun (y : Nat) => decide (zr.1 ≤ (y : Int)) && decide ((y : Int) ≤ zr.2)
      if bitAt set (s.headAct h) && zin z then .at h z false
      else match s.bestPlace (acts.filter fun k => bitAt set k) fun y => cls y && zin y with
        | some (g, y) => .at g y true
        | none => .waitPinned

/-- A piece may stand only in a verified zone (R33, R364). -/
def State.wantsVerified (s : State) (p : OPiece) : Bool := p.atLanding || s.secLe 0x41 0 1 1 0 == 0

/-- An extent is placed: the blocks that the write does not carry are zero blocks (R356). -/
def State.placeNew (s : State) (p : OPiece) (pe : Nat) : State :=
  let s := s.setMed fun m => { m with map := Tbl.put m.map pe { vol := p.vol, ext := p.ext } }
  (s.queueJobs pe p.vol (256 * p.ext) 256 4 (s.clk.edges + 1)).queueJobs pe p.vol p.lba p.n 0 (s.clk.edges + 1)

/-- An extent is relocated (R366): the blocks of the piece come from DRAM, the other ones are read from the source, whose entry shows RELOC. -/
def State.placeMove (s : State) (p : OPiece) (pe src : Nat) : State :=
  let s := s.setMed fun m => { m with
    map := Tbl.put (m.map.map fun e => if e.1 = src then (e.1, { e.2 with reloc := true }) else e) pe { vol := p.vol, ext := p.ext }
    moves := Tbl.put m.moves pe src }
  let edge := s.clk.edges + 1
  let s := (List.range 256).foldl (fun s j =>
    let lba := 256 * p.ext + j
    let s := s.setMed fun m => { m with reads := m.reads ++ [(s.spareOf (s.peLoc src j), { vol := p.vol, lba := lba, why := 3 })] }
    s.addJob (s.spareOf (s.peLoc pe j)) { vol := p.vol, lba := lba, why := 2, phase := 4, edge := edge }) s
  s.queueJobs pe p.vol p.lba p.n 0 edge

/-- What a placement step has done: placements, a pinned piece, a piece that waits for a free extent. -/
structure PlcOut where
  placed : Nat := 0
  pinned : Bool := false
  free : Bool := false
  deriving DecidableEq, Repr

/-- One eligible piece of the step (R364 to R367, R370). -/
def State.placeOne (a : State × PlcOut) (id : Nat) : State × PlcOut :=
  let s := a.1
  let o := a.2
  let off := fun (s : State) => s.setMed fun m => { m with elig := m.elig.filter (· != id) }
  match Tbl.find s.pieces id with
  | none => (off s, o)
  | some p =>
    if !s.med.elig.contains id then (s, o)
    else
      let src := s.writePe p.vol p.ext
      let stored := match src.bind (Tbl.find s.med.map) with
        | some e => e.stored
        | none => false
      match src with
      | some pe =>
        if !stored then
          if p.atLanding && !s.zVerified (peZone pe) then (s, o) else (off (s.queueJobs pe p.vol p.lba p.n 0 (s.clk.edges + 1)), o)
        else if !(p.atLanding && !s.zVerified (peZone pe)) then (off (s.queueJobs pe p.vol p.lba p.n 0 (s.clk.edges + 1)), o)
        else match s.placeFor p.vol true true with
          | .waitFree => (s, { o with free := true })
          | .waitPinned => (s, { o with pinned := true, free := true })
          | .at h z pin =>
            match lowFree s.med.map s.med.dead (mkPe h z 0) (s.zExts z) with
            | none => (s, { o with free := true })
            | some q => (off ((s.placeMove p q pe).setMed fun m => { m with lastZone := z }), { o with placed := o.placed + 1, pinned := o.pinned || pin })
      | none =>
        match s.placeFor p.vol (s.wantsVerified p) false with
        | .waitFree => (if s.med.noFree then s else (s.setMed fun m => { m with noFree := true }).raise 130, { o with free := true })
        | .waitPinned => (s, { o with pinned := true, free := true })
        | .at h z pin =>
          match lowFree s.med.map s.med.dead (mkPe h z 0) (s.zExts z) with
          | none => (s, { o with free := true })
          | some q => (off ((s.placeNew p q).setMed fun m => { m with lastZone := z, noFree := false }), { o with placed := o.placed + 1, pinned := o.pinned || pin })

/-- The eligible pieces in the loop's order: those of spans among themselves in span-key order, the others in order of eligibility. -/
def State.placeOrder (s : State) (l : List Nat) : List Nat :=
  let sp := (l.filterMap fun i => match Tbl.find s.pieces i with
    | some p => if 64 ≤ p.vol then some (i, p) else none
    | none => none).mergeSort fun a b => !keyLt b.2 a.2
  (l.foldl (fun (a : List Nat × List (Nat × OPiece)) i =>
    match Tbl.find s.pieces i, a.2 with
    | some p, e :: t => if 64 ≤ p.vol then (a.1 ++ [e.1], t) else (a.1 ++ [i], a.2)
    | _, _ => (a.1 ++ [i], a.2)) ([], sp)).1

/-- One step of the placement loop over the pieces that the edge latched, in its order and up to BATCH (R364 to R368). -/
def State.placementRun (s : State) : State :=
  let s := (s.atCycle 1500).slotDone 9
  let l := (s.placeOrder s.med.eligNow).take (s.secLe 0x41 0 2 1 16)
  let r := l.foldl State.placeOne (s, {})
  let s := r.1.setMed fun m => { m with eligNow := [] }
  ((s.p MED_PLC_PLACED r.2.placed).p MED_PLC_WAITFREE (b2n r.2.free)).loopStep (loopId 4 0) (b2n r.2.pinned)

/-- PLACEMENT_STEP (R364 to R368): up to BATCH of the pieces that the edge latched are placed. -/
def execPlacementStep (s : State) : Out := .next (if s.slotOpen 9 && s.chart.applied then s.placementRun else s)

end Sys2Proof.Machine
end

