-- ==== Sys2Proof/Machine/SelfTest.lean ====
section
/-! DEFINITION. Admin self-tests and runtime calibration slices (spec/20_selftest_debug.md R647 to R657; spec/14_commands.md R478). -/

namespace Sys2Proof.Machine

/-! ### The start of a test -/

/-- TEST and ACTMASK of a Self-Test. -/
def Cmd.test (c : Cmd) : Nat := c.le 32 1
def Cmd.actmask (c : Cmd) : Nat := c.le 33 1

/-- The tests in the order of Table TST-4, with the exclusive ones. -/
def testCodes : List Nat := [0x01, 0x02, 0x10, 0x11, 0x12, 0x20]
def exclusiveTests : List Nat := [0x10, 0x11, 0x12]

/-- The chart's TESTS mask excludes a test (Table TST-6). -/
def State.testMasked (s : State) (test : Nat) : Bool := !bitAt (s.secLe 0xA0 0 7 1 0x3F) (testCodes.idxOf test)

/-- The volumes and attached spans that a test of the actuators in `mask` affects (R655). -/
def State.affected (s : State) (mask : Nat) : List (Nat × Vol) :=
  s.med.vols.filter fun v => (decide (v.1 < 64) || v.2.attached) && s.testAffects mask v.1

/-- Every I/O queue of every function with access to an affected volume is quiesced (R655). -/
def State.quiesced (s : State) (mask : Nat) : Bool :=
  let fns := (List.range 16).filter fun f => (s.affected mask).any fun v => bitAt v.2.fmask f
  s.sqs.all fun e =>
    let fn := e.1 / 65536
    let q := e.1 % 65536
    q == 0 || !fns.contains fn || (e.2.head == e.2.tail && e.2.buf.isEmpty && (s.inFlight fn q).isEmpty)

/-- The actuators of a mask that are in service. -/
def State.testActs (s : State) (mask : Nat) : List Nat := s.actList.filter fun k => bitAt mask k && !s.actFailed k

/-- A test starts: its registers, event 24 and the hold of its actuators where it is exclusive; an actuator out of service is skipped, and the
test fails with code 0x01 (R654, R656). -/
def State.testStart (s : State) (slot : Nat) (c : Cmd) : State :=
  let mask := c.actmask
  let excl := exclusiveTests.contains c.test
  let skip := s.actList.any fun k => bitAt mask k && s.actFailed k
  let run : TestRun := { slot := some slot, test := c.test, mask := mask, edge := s.clk.edges, code := b2n skip }
  let s : State := { s with tst := { s.tst with run := some run } }
  let s := ((s.p TST_TEST_TEST c.test).p TST_TEST_ACTMASK mask).p TST_TEST_SLICES 0
  if excl then ((s.p TST_CAL_EXCL (mask % 16)).p PWR_STATE_DEFER_WHY (setBit (s.g PWR_STATE_DEFER_WHY) 4)).raise 24 else s

/-- A change of the test that runs. -/
def State.modRun (s : State) (f : TestRun → TestRun) : State :=
  match s.tst.run with
  | some r => { s with tst := { s.tst with run := some (f r) } }
  | none => s

/-- A Self-Test of one of the codes: its checks, then its start and `f` (R478, R654, R655). -/
def State.selfTest (s : State) (slot : Nat) (sel : Nat → Bool) (f : Nat → State → State) : State :=
  s.adminPlain slot 0x1C (fun c => sel c.test) [(32, 2)]
    (fun c => [(!testCodes.contains c.test, 0x0101), ((c.actmask == 0) != (c.test == 0x20), 0x0101), (decide (2 ^ s.nAct ≤ c.actmask), 0x0101),
      (s.testMasked c.test, 0x010A), (exclusiveTests.contains c.test && !s.quiesced c.actmask, 0x010E)])
    fun c s => f c.actmask (s.testStart slot c)

/-- The heads of the actuators under test. -/
def State.testHeads (s : State) (mask : Nat) : List Nat := (s.testActs mask).flatMap s.headsOf

/-- A calibration of every head under test falls due, and the test waits for it (Table TST-4). -/
def State.testDue (s : State) (mask : Nat) (f : HeadCtx → HeadCtx) : State :=
  ((s.testHeads mask).foldl (fun s h => s.setHd h f) s).modRun fun r => { r with heads := s.testHeads mask }

/-- TOUCHDOWN_NOW (R654): TEST 0x01; an unknown TEST is answered here too. -/
def execTouchdownNow (slot : Nat) (s : State) : Out :=
  .next (s.selfTest slot (fun t => t == 0x01 || !testCodes.contains t) fun mask s =>
    s.testDue mask fun x => { x with tdDue := some (x.tdDue.getD s.clk.edges) })

/-- SEPARATION_NOW (R654): TEST 0x02. -/
def execSeparationNow (slot : Nat) (s : State) : Out :=
  .next (s.selfTest slot (· == 0x02) fun mask s => s.testDue mask fun x => { x with sepDue := some (x.sepDue.getD s.clk.edges) })

/-- The seeks of a sweep: 16 for each profile row of each actuator; SEEK_DISPATCH makes them, with lengths spread over the row's range as the
sequencer chooses (Table TST-4). -/
def State.sweepOf (s : State) (mask : Nat) : Tbl Nat :=
  (s.testActs mask).foldl (fun t k => (List.range (max 1 (s.secLe 0x11 k 0 1 1))).foldl (fun (t : Tbl Nat) i => Tbl.put t (256 * k + i) 16) t) []

/-- SEEK_SWEEP (R656): TEST 0x10. -/
def execSeekSweep (slot : Nat) (s : State) : Out :=
  .next (s.selfTest slot (· == 0x10) fun mask s => s.modRun fun r => { r with sweep := s.sweepOf mask })

/-- The stored sectors of the placed extents of the actuators under test, as read jobs of a scan (Table TST-4). -/
def State.scanReads (s : State) (mask : Nat) : List (Nat × RJob) :=
  let acts := s.testActs mask
  s.med.map.flatMap fun e =>
    if acts.contains (s.headAct (peHead e.1)) then
      (List.range 256).filterMap fun j =>
        let loc := s.spareOf (s.peLoc e.1 j)
        if Tbl.has s.med.disc loc then some (loc, { vol := e.2.vol, lba := 256 * e.2.ext + j, why := 2 }) else none
    else []

/-- SURFACE_SCAN (R656): TEST 0x11; SECTOR_DECODE reads the sectors. -/
def execSurfaceScan (slot : Nat) (s : State) : Out :=
  .next (s.selfTest slot (· == 0x11) fun mask s => s.setMed fun m => { m with reads := m.reads ++ s.scanReads mask })

/-- RECALIBRATE (R656): TEST 0x12; HEAD_CALIBRATION does the heads. -/
def execRecalibrate (slot : Nat) (s : State) : Out :=
  .next (s.selfTest slot (· == 0x12) fun mask s => s.modRun fun r => { r with heads := s.testHeads mask })

/-- Slabs that no extent and no copy uses. -/
def State.freeSlabCount (s : State) : Nat := s.poolSlabs - s.slabs.length

/-- FREE_SLAB_TEST (R654): TEST 0x20, one slab per tick. -/
def execFreeSlabTest (slot : Nat) (s : State) : Out :=
  .next (s.selfTest slot (· == 0x20) fun _ s => s.modRun fun r => { r with need := s.freeSlabCount })

/-! ### The end of a test -/

/-- A slice holds one of the actuators of a mask. -/
def State.sliceOn (s : State) (mask : Nat) : Bool := (List.range 4).any fun k => bitAt mask k && (s.chn k).slice.isSome

/-- Everything that a test has to do is done; what belongs to an actuator that went out of service meanwhile is left out. -/
def State.testDone (s : State) (r : TestRun) : Bool :=
  r.heads.all (fun h => s.actFailed (s.headAct h)) && r.sweep.all (fun e => e.2 == 0 || s.actFailed (e.1 / 256)) &&
    !(s.med.reads.any fun e => e.2.why == 2 && !s.actFailed (s.locAct e.1)) && decide (r.edge + r.need ≤ s.clk.edges)

/-- The actuators and commands that a test held are free again. -/
def State.testRelease (s : State) : State :=
  let s := s.setMed fun m => { m with reads := m.reads.filter fun e => e.2.why != 2 }
  let s := (List.range 4).foldl (fun s k => s.setChn k fun c => { c with recov := c.recov.filter fun v => !(s.jobsAt v.loc).isEmpty }) s
  let s := ((s.p TST_CAL_EXCL 0).p TST_TEST_TEST 0).p TST_TEST_ACTMASK 0
  let s := s.p PWR_STATE_DEFER_WHY (clrBit (s.g PWR_STATE_DEFER_WHY) 4)
  { s with tst := { s.tst with run := none } }

/-- The command of a test completes, where it still stands in its slot. -/
def State.testReply (s : State) (r : TestRun) (status result : Nat) : State :=
  match r.slot with
  | none => s
  | some i =>
    match s.cmd i with
    | some c => if c.sq = 0 ∧ c.opc = 0x1C ∧ c.phase = 2 then s.completeWith i status result else s
    | none => s

/-- The failure code of a test that has ended: an earlier code, unrecovered sectors, or failing slabs (Table TST-4). -/
def TestRun.endCode (r : TestRun) (slabs : Nat) : Nat :=
  if r.code ≠ 0 then r.code
  else if r.test = 0x11 ∧ 0 < r.fails then 0x60
  else if r.test = 0x20 ∧ 0 < slabs then 0x80
  else 0

/-- The result of test `r` is written, its holds are released, and its command completes with event 25 or 26, or as aborted (R657); `slabs` is what
the free-slab test found failing. The outcome is 3 where every actuator was skipped. -/
def State.testFinish (s : State) (r : TestRun) (slabs : Nat) : State :=
  let code := if r.abort then 0 else r.endCode slabs
  let count := if r.test = 0x20 then r.need else r.count
  let fails := if r.test = 0x20 then slabs else r.fails
  let skipped := r.mask != 0 && s.actList.all fun k => !bitAt r.mask k || s.actFailed k
  let outcome := if r.abort then 2 else if skipped then 3 else b2n (code != 0)
  let s := s.result 2 r.test r.mask outcome code 0 (if 0x70 ≤ code ∧ code < 0x80 then code - 0x70 else 0) (s.clk.edges - r.edge) count fails
  let s := s.testRelease
  if r.abort then s.testReply r 0x0600 0
  else (s.raise (if code = 0 then 25 else 26)).testReply r 0 (b2n (code != 0) + 256 * code)

/-- SELF_TEST_COMPLETE (R657): the last slice on every actuator has ended, or the slice in progress when an Abort came. -/
def execSelfTestComplete (slabs : Nat) (s : State) : Out :=
  match s.tst.run with
  | none => .next s
  | some r => .next (if s.running && !s.sliceOn r.mask && (r.abort || s.testDone r) then s.testFinish r slabs else s)

/-! ### Runtime calibration slices -/

/-- A calibration of head `h` is due since this edge count: touchdown, or separation. -/
def State.calDue (s : State) (h : Nat) (sep : Bool) : Option Nat := if sep then (s.hd h).sepDue else (s.hd h).tdDue

/-- The running test waits for a calibration of head `h` (Table TST-4). -/
def State.testNames (s : State) (h : Nat) (sep : Bool) : Bool :=
  s.tst.run.any fun r => r.test == (if sep then 0x02 else 0x01) && r.heads.contains h

/-- Command `i` has a deadline instant less MARGIN that falls before the edge `n` ticks from now. -/
def State.duesBefore (s : State) (i n : Nat) : Bool :=
  match s.deadlineOf i with
  | some d => decide (d < (s.clk.edges + n + s.rcvMargin) * 20000)
  | none => false

/-- A media operation that waits for actuator `k` falls due before a slice would end: a read of one of its sectors, or a write that
acknowledges at landing (R648). -/
def State.mediaDues (s : State) (k : Nat) : Bool :=
  (s.med.reads.any fun e => s.locAct e.1 == k && (match e.2.slot.bind s.readerSlot with
    | some i => s.duesBefore i 500
    | none => false)) ||
  s.pieces.any fun e => !e.2.read && !e.2.landed && e.2.atLanding && (match s.writePe e.2.vol e.2.ext, e.2.slot with
    | some pe, some i => s.headAct (peHead pe) == k && s.duesBefore i 500
    | _, _ => false)

/-- POSTPONE × 25 000 ticks (Table TST-6). -/
def State.postpone (s : State) : Nat := 25000 * s.secLe 0xA0 0 4 2 50

/-- A due slice of head `h` may start at this edge (R648, R656). -/
def State.sliceMay (s : State) (h : Nat) (sep : Bool) : Bool :=
  let k := s.headAct h
  s.running && decide (h < s.nHead) && s.clk.cycle == 0 && s.actSt k == 2 && (s.act k).motion.isNone && !s.actFailed k &&
    (Tbl.getD s.eng k {}).safe.isNone && !s.holding && !s.on SVY_SHOCK_INH && s.spn.loss.isNone && (s.chn k).slice.isNone &&
    (s.chn k).touch.isNone && !bitAt (s.g TST_CAL_EXCL) k &&
    (match s.calDue h sep with
    | some e => !s.mediaDues k || (!s.testNames h sep && decide (e + s.postpone ≤ s.clk.edges))
    | none => false)

/-- The heater at which a touchdown slice begins (R651). -/
def State.touchFrom (s : State) (h : Nat) : Nat :=
  ((s.hd h).tdFrom).getD (s.gk CHN_PTD_PTD h - 150 - 150 * (s.hd h).tdLows)

/-- A slice of head `h` begins on its actuator: held, its write gate blocked and the head selected; a touchdown begins its steps (R648, R649). -/
def State.sliceBegin (s : State) (h : Nat) (sep : Bool) : State :=
  let k := s.headAct h
  let s := s.setChn k fun c => { c with slice := some { start := s.clk.edges, head := h, kind := if sep then 2 else 1 } }
  let s := (s.p TST_CAL_SLICE (setBit (s.g TST_CAL_SLICE) k)).gateDrop k
  let s := if s.selHead k = h then s else s.orderSeek k { head := h, track := s.gk SRV_TGT_TRACK k, write := false }
  if sep then s else
    let t : Touch := { head := h, htr := s.touchFrom h, edge := s.clk.edges, old := s.gk CHN_FH_HTR h }
    (s.setChn k fun c => { c with touch := some t }).pk CHN_FH_HTR h t.htr

/-- CAL_SLICE_START (R648, R649): the slice holds the actuator, blocks the write gate and selects its head; a touchdown begins its steps. -/
def execCalSliceStart (head : Fin 20) (sep : Bool) (s : State) : Out := .next (if s.sliceMay head sep then s.sliceBegin head sep else s)

/-- A slice has ended: the actuator is released, and the loop's last heater value returns after a touchdown (R649, R651). -/
def State.sliceRelease (s : State) (k : Nat) : State :=
  let s := match (s.chn k).touch with
    | some t => s.pk CHN_FH_HTR t.head t.old
    | none => s
  let s := s.setChn k fun c => { c with slice := none, touch := none }
  (s.p TST_CAL_SLICE (clrBit (s.g TST_CAL_SLICE) k)).bump TST_TEST_SLICES 1

/-- A runtime calibration has a result: a results entry, and the test that waits for the head goes on; a failure raises event 26 and leaves a BIST
record (R653, R657). -/
def State.calResult (s : State) (k : Nat) (x : Slice) (ok : Bool) : State :=
  let code := if ok then 0 else 0x3F + x.kind
  let s := if ok then s else (s.raise 26).bistRecord code (0x10 + k) x.head
  let s := s.result 1 x.kind (2 ^ k) (b2n (!ok)) code (if ok then 0 else 0x10 + k) x.head (s.clk.edges - x.start) 1 (b2n (!ok))
  if s.testNames x.head (x.kind == 2) then s.testHead x.head code ok else s

/-- A touchdown calibration has ended: the new power, or a failure, three of which in a row disable writing on the head (R651, R653). -/
def State.touchEnd (s : State) (k : Nat) (x : Slice) (p : Option Nat) : State :=
  let now := s.g GAZ_STAMP_OPSEC
  let done := fun (y : HeadCtx) => { y with tdDue := none, tdLast := now, tdLows := 0, tdFrom := none }
  match p with
  | some v => ((s.pk CHN_PTD_PTD x.head v).setHd x.head fun y => { done y with tdFails := 0 }).calResult k x true
  | none =>
    let n := (s.hd x.head).tdFails + 1
    let s := (s.setHd x.head fun y => { done y with tdFails := n }).calResult k x false
    if n = 3 then s.disableHead x.head else s

/-- A separation has been measured: `sep` is its value in channel bits (R326, R653). -/
def State.sepEnd (s : State) (k : Nat) (x : Slice) (sep : Int) : State :=
  let d := s.sepDiff k x.head sep
  let now := s.g GAZ_STAMP_OPSEC
  let ok := decide (d.natAbs ≤ 8)
  (s.setHd x.head fun y => { y with sepDue := none, sepLast := now, sep := if ok then d else y.sep }).calResult k x ok

/-- CAL_SLICE_END (R649, R651): the last step has ended, or 500 ticks have passed; `sep` is the separation measured in the slice. Without a
result the calibration stays due, and a touchdown resumes 20 units below the last value reached, or 150 units lower after contact in
both of its first steps. -/
def execCalSliceEnd (k : Fin 4) (sep : Option Int) (s : State) : Out :=
  match (s.chn k).slice with
  | none => .next s
  | some x =>
    let ovr := decide (x.start + 500 ≤ s.clk.edges)
    if !s.running then .next s
    else match x.kind, (s.chn k).touch, sep with
      | 2, _, some d => .next ((s.sliceRelease k).sepEnd k x d)
      | 1, some t, _ =>
        (match t.ended with
        | some r =>
          let s := s.sliceRelease k
          .next (if t.again then s.setHd x.head fun y => { y with tdLows := y.tdLows + 1, tdFrom := none } else s.touchEnd k x r)
        | none => .next (if ovr then (s.sliceRelease k).setHd x.head fun y => { y with tdFrom := some (t.htr - 20) } else s))
      | _, _, _ => .next (if ovr then s.sliceRelease k else s)

end Sys2Proof.Machine
end

