-- ==== Sys2Proof/Machine/Fabric.lean ====
section
/-! DEFINITION. The commands of the fabric's links: flits, training, HELLO, DELAY (spec/16_efina.md R532 to R540, R566). -/

namespace Sys2Proof.Machine

/-! ### Flits (R532 to R535) -/

/-- Replays at which a port raises event 178 in a window (RPL_TH of Table FAB-8). -/
def State.rplTh (s : State) : Nat := s.secLe 0x70 0 12 2 1000

/-- A replay by port `p` at a NAK: counted, with event 178 when the window's count reaches RPL_TH (R540). -/
def State.replay (s : State) (p : Nat) : State :=
  let s := s.bumpk FAB_PERR_REPLAY p 1
  let s := s.setPort p fun x => { x with replays := x.replays + 1, naks := x.naks + 1 }
  if (s.port p).replays = s.rplTh then s.raise 178 else s

/-- Credits that a flit returns are added (R545). -/
def addCredits : List Nat → List Nat → List Nat
  | c :: cs, d :: ds => (c + d) :: addCredits cs ds
  | l, _ => l

/-- The control word of a good flit is taken: the acknowledgement, the credits, a NAK, at which every flit of the replay buffer is sent again; the
eighth NAK of one flit in a row fails the link (R533, R534). -/
def State.flitControl (s : State) (p : Nat) (f : FlitIn) : State :=
  let s := if (s.port p).txAck = f.ack then s
    else s.setPort p fun x => { x with txAck := f.ack, naks := 0, ackAt := s.instant, unacked := ackUpTo f.ack x.unacked }
  let s := s.setPort p fun x => { x with credits := addCredits x.credits f.credits, goodAt := s.instant }
  let s := s.drainPort p (s.port p).queue.length
  let s := s.flitPump p (s.port p).txWords.length
  if f.nak then
    let s := s.replay p
    if 8 ≤ (s.port p).naks then s.linkFail p 1 else s.flitReplay p
  else s

/-- The parcel data of a good sequenced flit is taken in order; after a bad one every flit is discarded until the replayed one (R533); ABORT
discards the parcel in progress (R535). Link-local parcels leave the receive buffer at once (R545). -/
def State.flitData (s : State) (p : Nat) (f : FlitIn) : State :=
  let x := s.port p
  if f.idle || !s.portUp p || f.seq != (x.rxSeq + 1) % 4096 then s
  else
    let r := rxWalk x.rxLeft x.rxHead [] f.words
    let s := s.setPort p fun x => { x with rxSeq := f.seq, waitReplay := false, rxLeft := r.1, rxHead := r.2.1 }
    let s := (r.2.2.filter fun h => decide (leAt h 0 1 < 8)).foldl (fun s h => s.owe p (headCredit h) (1 + ceilDiv (leAt h 10 2) 32)) s
    if f.abort then s.cutParcel p else s

/-- A sequenced flit is answered at once: with what it acknowledges, or, a bad one, with a NAK (R533). -/
def State.flitAnswer (s : State) (p : Nat) (f : FlitIn) : State := if f.idle || !s.portUp p then s else s.flitIdle p !f.good

/-- FLIT_RECEIVE (R532, R533): a flit of port `p` is decoded and checked. -/
def execFlitReceive (p : Fin 4) (f : FlitIn) (s : State) : Out :=
  if s.running && decide (1 ≤ s.gk FAB_PSTAT_STATE p) && decide (s.gk FAB_PSTAT_STATE p ≤ 3) then
    let s := if f.decoded then s.bumpk FAB_PCORR_COUNT p f.corrected else s.bumpk FAB_PERR_UNCORR p 1
    if !s.portUp p then .next s
    else if !f.good then .next ((if f.idle then s else s.setPort p fun x => { x with waitReplay := true }).flitAnswer p f)
    else .next (((s.flitControl p f).flitData p f).flitAnswer p f)
  else .next s

/-- What a port itself knows of a cause of failure (R534): lost lock is the lanes' (0); NAKs of one flit (1); no advance of ACK with flits
unacknowledged for 16 µs (2); no good flit for 2 µs (3); a HELLO that names another peer comes with its parcel (4). -/
def State.linkDead (s : State) (p cause : Nat) : Bool :=
  let x := s.port p
  match cause with
  | 0 => true
  | 1 => decide (8 ≤ x.naks)
  | 2 => !x.unacked.isEmpty && decide (x.ackAt + 80000 ≤ s.instant)
  | 3 => decide (x.goodAt + 10000 ≤ s.instant)
  | _ => false

/-- LINK_FAILURE (R534): a port that is up declares failure for one of the causes that it watches, in their order. -/
def execLinkFailure (p : Fin 4) (cause : Fin 5) (s : State) : Out := .next (if s.running && s.linkDead p cause then s.linkFail p cause else s)

/-! ### Training (R536 to R539) -/

/-- PORT_TRAINING (R536): an enabled port that is not up, training or held starts training: at the chart end, after a failure, 250 ticks after a
training that failed. -/
def execPortTraining (p : Fin 4) (s : State) : Out :=
  let st := s.gk FAB_PSTAT_STATE p
  if s.running && s.pwr.loss.isNone && (s.g SYS_BOOT_STAGE == 3 || s.g SYS_BOOT_STAGE == 4) && decide (1 ≤ s.g SYS_BOOT_FAB) && s.portOn p &&
      (st == 0 || st == 4) && decide ((s.port p).again ≤ s.clk.edges) then
    let s := s.pk FAB_PSTAT_STATE p 1
    .next (s.setPort p fun x => { x with trainEdge := s.clk.edges, peerSerial := none, delays := [] })
  else .next s

/-- PORT_TRAINING_TIMEOUT (R536): a port that has not completed training within 30 ms is down, and retries after 250 ticks. -/
def execPortTrainingTimeout (p : Fin 4) (s : State) : Out :=
  if s.running && s.gk FAB_PSTAT_STATE p == 1 && decide ((s.port p).trainEdge + 7500 ≤ s.clk.edges) then
    let s := s.pk FAB_PSTAT_STATE p 4
    .next ((s.setPort p fun x => { x with again := s.clk.edges + 250 }).trainingCheck)
  else .next s

/-- PORT_HOLD_EXPIRY (R539): 250 000 ticks after its last failure a held port may train again. -/
def execPortHoldExpiry (p : Fin 4) (s : State) : Out :=
  let x := s.port p
  .next (if s.running && s.gk FAB_PSTAT_STATE p == 5 && !x.heldGood && x.heldUntil.any (fun e => decide (e ≤ s.clk.edges)) then
    (s.pk FAB_PSTAT_STATE p 4).setPort p fun x => { x with heldUntil := none }
  else s)

/-- The neighbour's ID that R530 gives for a port of a charted node. -/
def State.chartedNbr (s : State) (p : Nat) : Nat := neighbour (s.g FAB_NODE_W) (s.g FAB_NODE_H) s.node p

/-- HELLO (R538, R558, R534): in training, the peer's port, mode and, in a charted array, ID are checked, and the peer is accepted or the port held
until reset; on an up port another serial or port fails the link. -/
def execHello (p : Fin 4) (serial : List Byte) (port id mode : Nat) (s : State) : Out :=
  let st := s.gk FAB_PSTAT_STATE p
  if !s.running then .next s
  else if st = 1 then
    if port ≠ farPort p ∨ mode ≠ s.g FAB_CFG_MODE then .next ((s.holdPort p 0 none).trainingCheck)
    else if s.g FAB_CFG_MODE = 0 ∧ id ≠ s.chartedNbr p then .next ((s.holdPort p 2 none).trainingCheck)
    else
      let first := (s.port p).peerSerial.isNone
      let s := (s.setPort p fun x => { x with peerSerial := some serial }).pk FAB_PSTAT_NBR p id
      let s := s.pk FAB_PSTAT_NPORT p port
      .next (if first then (s.parcelOut p { kind := 1, body := s.helloBody p, inPort := 4 }).parcelOut p { kind := 2, inPort := 4 } else s)
  else if s.portUp p then
    if (s.port p).peerSerial ≠ some serial ∨ s.gk FAB_PSTAT_NPORT p ≠ port then .next (s.linkFail p 4)
    else .next (s.pk FAB_PSTAT_NBR p id)
  else .next s

/-- The median of 16 doubled delays: the mean of the two middle ones, in units of a quarter of one (assumption log 14 for its rounding). -/
def medianDelay (l : List Int) (free : Nat) : Int :=
  let m := l.mergeSort fun a b => decide (a ≤ b)
  roundNear (m.getD 7 0 + m.getD 8 0) 4 free

/-- DELAY (R566): an exchange with its four timestamps, in 0.25 ns; the sixteenth of a measurement gives the link delay. -/
def execDelay (p : Fin 4) (t1 t2 t3 t4 : Int) (s : State) : Out :=
  if s.running && (s.gk FAB_PSTAT_STATE p == 1 || s.portUp p) && decide ((s.port p).delays.length < 16) then
    let l := (s.port p).delays ++ [t4 - t1 - (t3 - t2)]
    let s := s.setPort p fun x => { x with delays := l }
    if l.length < 16 then .next (s.parcelOut p { kind := 2, inPort := 4 })
    else
      let d := medianDelay l s.free.1
      let s := s.free.2.pk FAB_PDLY_DELAY p (clampI 0 65535 d).toNat
      .next (s.setPort p fun x => { x with dlyEdge := s.clk.edges })
  else .next s

/-- DELAY_MEASURE (R566): 25 000 ticks after a measurement the next one starts. -/
def execDelayMeasure (p : Fin 4) (s : State) : Out :=
  .next (if s.running && s.portUp p && (s.port p).delays.length == 16 && decide ((s.port p).dlyEdge + 25000 ≤ s.clk.edges) then
    (s.setPort p fun x => { x with delays := [] }).linkSend p 2 []
  else s)

/-- The adapted CTLE and DFE of a lane, inside their effective envelopes (R541). -/
def State.laneSet (s : State) (lane : Nat) (ctle dfe : Int) : State :=
  let a := s.eff 6 lane
  let b := s.eff 7 lane
  (s.pki FAB_LANE_CTLE 0 lane (clampI a.1 a.2 ctle).toNat).pki FAB_LANE_DFE 0 lane (clampI b.1 b.2 dfe).toNat

/-- ASSIGN goes out of port `p` (R559). -/
def State.assign (s : State) (p : Nat) : State :=
  let w := s.g FAB_NODE_W
  let h := s.g FAB_NODE_H
  s.linkSend p 0x06 (assignBody w h (neighbour w h s.node p))

/-- Port `p` comes up in full or half width: its lanes, its credits and counters, its event and record, and what the node sends over it (R536, R537,
R541, R557, R559, R560, R563). -/
def State.portRise (s : State) (p : Nat) (half : Bool) (lanes : List (Int × Int)) : State :=
  let s := s.pk FAB_PSTAT_STATE p (if half then 3 else 2)
  let s := (lanes.zipIdx.filter fun e => decide (e.2 < 4)).foldl (fun s e => s.laneSet (4 * p + e.2) e.1.1 e.1.2) s
  let s := s.lanesIdle p 0
  let s := s.setPort p fun x => { x with
    credits := ({} : Port).credits, txAck := 4095, naks := 0, rxSeq := 4095, waitReplay := false, txWords := [], txSeq := 4095, unacked := []
    ackAt := s.instant, goodAt := s.instant, rxLeft := 0, rxHead := [], owed := ({} : Port).owed }
  let s := (s.raise 176).linkRecord p 0 0 (if half then 2 else 4)
  let s := if half then s.raise 178 else s
  let s := s.originate
  let s := if s.node != 0x3FF && s.g FAB_CFG_MODE == 1 && s.gk FAB_PSTAT_NBR p == 0x3FF then s.assign p else s
  let s := if s.g FAB_DISC_STATE = 2 then s.linkSend p 0x04 s.lowest else s
  if s.g SYS_BOOT_FAB = 6 ∧ s.g FAB_DISC_STATE = 6 then s.discBegin else s.trainingCheck

/-- PORT_UP (R536, R537, R541): training step 6 ends, at four lanes or, with `half`, at two: event 176, a record, at two lanes event 178. What the
node knows goes to the new peer (R557, R559, R560), and a node that ended alone starts discovery (R563). -/
def execPortUp (p : Fin 4) (half : Bool) (lanes : List (Int × Int)) (s : State) : Out :=
  let x := s.port p
  .next (if s.running && s.pwr.loss.isNone && s.gk FAB_PSTAT_STATE p == 1 && x.peerSerial.isSome && x.delays.length == 16 && decide (s.clk.edges < x.trainEdge + 7500) then
    s.portRise p half lanes
  else s)

end Sys2Proof.Machine
end

