-- ==== Sys2Proof/Machine/Discovery.lean ====
section
/-! DEFINITION. Discovery and route epochs (spec/16_efina.md R549 to R564, R570 to R572). -/

namespace Sys2Proof.Machine

/-! ### Election, rings, assignment (R559, R560) -/

/-- ELECT (R559): a lower serial than any heard is taken over and passed on. -/
def execElect (p : Fin 4) (serial : List Byte) (s : State) : Out :=
  if s.running && s.portUp p && (s.g FAB_DISC_STATE == 1 || s.g FAB_DISC_STATE == 2) && serialLt serial s.lowest then
    let s : State := { s with fab := { s.fab with low := serial, lowEdge := s.clk.edges } }
    .next (if s.g FAB_DISC_STATE = 2 then s.elect else s)
  else .next s

/-- RING: dimension and count. -/
def ringBody (dim count : Nat) : List Byte := leBytes dim 1 ++ leBytes count 2

/-- The origin has both sizes: it is at (0, 0), it assigns and originates its record (R559, R557). -/
def State.originDone (s : State) : State :=
  let size := fun d => ((s.fab.walked.find? fun e => e.1 == d).map (·.2)).getD 1
  let s := s.nodeKnown 0 (size 0) (size 1)
  let s : State := { s.p FAB_DISC_STATE 4 with fab := { s.fab with walk := none } }
  ((s.upPorts 4).foldl State.assign s).originate

/-- The origin walks the ring of a dimension and then of the next; a dimension whose port is disabled has size 1. -/
def State.ringStart (s : State) (dim : Nat) : Nat → State
  | 0 => s
  | f + 1 =>
    if 2 ≤ dim then s.originDone
    else if s.portOn (2 * dim) then
      ({ s with fab := { s.fab with walk := some (dim, s.clk.edges) } } : State).linkSend (2 * dim) 0x05 (ringBody dim 1)
    else ({ s with fab := { s.fab with walked := s.fab.walked ++ [(dim, 1)] } } : State).ringStart (dim + 1) f

/-- ELECTION_END (R559): the lowest serial has stood for 250 ticks. The origin starts the ring walks, and fails discovery with a port-0 or port-2
link down; every other node waits for ASSIGN. -/
def execElectionEnd (s : State) : Out :=
  if s.running && s.g FAB_DISC_STATE == 2 && decide (s.fab.lowEdge + 250 ≤ s.clk.edges) then
    let s : State := { s.p FAB_DISC_STATE 3 with fab := { s.fab with elected := true } }
    if s.lowest ≠ Config.serial then .next s
    else if [0, 2].any fun p => s.portOn p && !s.portUp p then .next (s.discFail 3)
    else .next (s.ringStart 0 3)
  else .next s

/-- RING (R559): a walk around dimension `dim` arrives with its count: at the origin it gives the ring's size, elsewhere it is relayed. -/
def execRing (p : Fin 4) (dim : Fin 2) (count : Nat) (s : State) : Out :=
  if s.running && s.portUp p then
    match s.fab.walk with
    | some (d, _) =>
      if d = dim ∧ (p : Nat) = 2 * d + 1 then
        .next (({ s with fab := { s.fab with walk := none, walked := s.fab.walked ++ [(d, count)] } } : State).ringStart (d + 1) 2)
      else .next s
    | none => .next (if s.g FAB_DISC_STATE = 2 ∨ s.g FAB_DISC_STATE = 3 then s.linkSend (2 * dim) 0x05 (ringBody dim (count + 1)) else s)
  else .next s

/-- RING_WALK_TIMEOUT (R559): a walk has not returned within 250 ticks: discovery fails. -/
def execRingWalkTimeout (s : State) : Out :=
  match s.fab.walk with
  | some (_, e) => .next (if s.running && s.g FAB_DISC_STATE == 3 && decide (e + 250 ≤ s.clk.edges) then
      ({ s with fab := { s.fab with walk := none } } : State).discFail 3 else s)
  | none => .next s

/-- ASSIGN (R559, R560): the first one gives the node its coordinates and goes on to every other up port; a later one that differs fails
discovery. -/
def execAssign (p : Fin 4) (w h x y : Nat) (s : State) : Out :=
  let st := s.g FAB_DISC_STATE
  if !s.running || !s.portUp p || s.g FAB_CFG_MODE != 1 then .next s
  else if s.node = 0x3FF then
    if st = 1 ∨ st = 2 ∨ st = 3 then
      let s := s.nodeKnown (nodeId x y) w h
      let s := if st = 1 then s else s.p FAB_DISC_STATE 4
      .next (((s.upPorts p).foldl State.assign s).originate)
    else .next s
  else if st = 4 ∧ (s.node ≠ nodeId x y ∨ s.g FAB_NODE_W ≠ w ∨ s.g FAB_NODE_H ≠ h) then .next (s.discFail 4)
  else .next s

/-! ### Link-state records (R557, R562) -/

/-- Among two nodes that have ended discovery, the first one's claim to an ID stands: the earlier tick, then the lower serial (R562). -/
def claimLt (ta : Nat) (a : List Byte) (tb : Nat) (b : List Byte) : Bool := decide (ta < tb) || (ta == tb && serialLt a b)

/-- A record is accepted in place of the one held (R557, R562). -/
def lsrNewer (x old : Lsr) : Bool :=
  if x.serial = old.serial then decide (old.tick < x.tick) || (old.tick == x.tick && decide (old.seq < x.seq))
  else match x.ended, old.ended with
    | some a, some b => claimLt a x.serial b old.serial
    | some _, none => true
    | none, some _ => false
    | none, none => decide (old.tick < x.tick) || (old.tick == x.tick && decide (old.seq < x.seq))

/-- Another node claims this node's ID: a node in discovery loses and fails; one that has ended keeps the ID where its discovery ended earlier, or
in the same tick with the lower serial, and leaves the fabric otherwise (R562). -/
def State.idConflict (s : State) (x : Lsr) : State :=
  match s.fab.ended with
  | none => s.discFail 2
  | some e =>
    match x.ended with
    | some t => if claimLt t x.serial e Config.serial then s.leaveFabric 2 else s.raise 182
    | none => s.raise 182

/-- LSR (R557): a record of node `id` arrives on port `p`; a newer one is accepted and flooded on every other up port. -/
def execLsr (p : Fin 4) (id : Nat) (x : Lsr) (s : State) : Out :=
  let st := s.g FAB_DISC_STATE
  if !s.running || !s.portUp p || st == 0 || st == 7 then .next s
  else if id = s.node ∧ id ≠ 0x3FF ∧ x.serial ≠ Config.serial then .next (s.idConflict x)
  else if (Tbl.find s.fab.view id).all (lsrNewer x) then .next ((s.viewPut id x).flood id x p)
  else .next s

/-! ### The end of discovery (R561, R563) -/

/-- Discovery ends: STATE 5, a record; on the root ALIGNED rises; the alignment stage begins, or a node that ended alone has joined, with event
186. -/
def State.discEnd (s : State) : State :=
  let s : State := { s.p FAB_DISC_STATE 5 with fab := { s.fab with ended := some s.clk.tick } }
  let s := s.record (mkRec 0x19 32 [(16, 8, s.now), (24, 1, 0), (26, 2, s.node)])
  let s := if s.on FAB_TIME_ISROOT then s.alignRise else s
  if s.g SYS_BOOT_FAB = 2 then ((s.p SYS_BOOT_FAB 3).stageEndAt 8).stageBegin 2
  else if s.g SYS_BOOT_FAB = 6 then (s.p SYS_BOOT_FAB 5).raise 186
  else s

/-- DISCOVERY_END (R561): the ID is known, the view has stood for 250 ticks, the route table is in force, and the tick number is loaded or the node
is the time root. -/
def execDiscoveryEnd (s : State) : Out :=
  .next (if s.running && s.g FAB_DISC_STATE == 4 && s.node != 0x3FF && decide (s.fab.viewEdge + 250 ≤ s.clk.edges) && s.fab.switch.isNone &&
      s.fab.tabled && (s.on CLK_STAT_TICK_LOADED || s.on FAB_TIME_ISROOT) then s.discEnd else s)

/-- DISCOVERY_TIMEOUT (R561): DISC_WIN has passed. -/
def execDiscoveryTimeout (s : State) : Out :=
  let st := s.g FAB_DISC_STATE
  .next (if s.running && (st == 2 || st == 3 || st == 4) && decide (s.fab.began + 250 * s.secLe 0x70 0 8 2 100 ≤ s.clk.edges) then s.discFail 1 else s)

/-! ### Route epochs (R554, R555) -/

/-- The lowest node of a list, 0x3FF for none. -/
def lowestNode (l : List Nat) : Nat := minOf 0x3FF l

/-- The time root after a switch: kept while in the view; the first one is TROOT where that node may be root, else the lowest that may; a later one
the lowest aligned one (R564). -/
def State.nextRoot (s : State) (old : Nat) : Nat :=
  let v := s.fab.view
  let aligned := fun (e : Nat × Lsr) => if e.1 = s.node then s.on CLK_STAT_ALIGNED else e.2.aligned
  if old = 0x3FF then
    let t := s.secLe 0x70 0 6 2 0xFFFF
    if (Tbl.find v t).any (·.rootOk) then t else lowestNode ((v.filter fun e => e.2.rootOk).map (·.1))
  else if Tbl.has v old then old
  else lowestNode ((v.filter fun e => e.2.rootOk && aligned e).map (·.1))

/-- The place of this node under its root: upstream port and hops (R565). -/
def State.rootPlace (s : State) (root : Nat) : State :=
  let s := s.p FAB_DISC_ROOT root
  if root = 0x3FF ∨ root = s.node then
    let s := ((s.p FAB_TIME_UP 7).p FAB_TIME_HOPS 0).p FAB_TIME_ISROOT (b2n (root = s.node && root != 0x3FF))
    if root = 0x3FF then s.alignFall
    else
      let s : State := { s with fab := { s.fab with wasRoot := true } }
      if s.g FAB_DISC_STATE = 5 then s.alignRise else s
  else
    let path := dorPath (s.g FAB_NODE_W) (s.g FAB_NODE_H) root s.node
    let up := (path.getLast?.map fun c => farPort (chanPort c)).getD 7
    ((s.p FAB_TIME_UP up).p FAB_TIME_HOPS path.length).p FAB_TIME_ISROOT 0

/-- The time root after a switch, with event 183 and a root record for a change (R564). -/
def State.rootUpdate (s : State) : State :=
  let old := s.g FAB_DISC_ROOT
  let root := s.nextRoot old
  let s := if old = root ∨ old = 0x3FF then s
    else (s.raise 183).record (mkRec 0x1A 32 [(16, 8, s.now), (24, 2, old), (26, 2, root)])
  s.rootPlace root

/-- Parcels kept for down ports, and those that wait at ports that are up, leave by their new routes; this node's own requests are sent again from the list of those that wait (R535, R555,
R570). -/
def State.rerouteKept (s : State) : State :=
  let l := [0, 1, 2, 3].flatMap fun p => (s.port p).kept ++ (s.port p).queue.filter fun q => decide (8 ≤ q.kind)
  let s := [0, 1, 2, 3].foldl (fun s p => s.setPort p fun x => { x with kept := [], queue := x.queue.filter fun q => decide (q.kind < 8) }) s
  (l.filter fun p => !(p.src == s.node && tracked p.kind)).foldl (fun s p => s.routeOut (if p.passed then p else { p with waypt := none })) s

/-- A request toward a node that has become unreachable is not sent again: a block that the twin was asked for is lost; a stripe taken over fails
(R572). Twin parcels and remaps have their own ends (R587, R599). -/
def State.unreachableAsk (s : State) (p : Parcel) : State :=
  match p.kind with
  | 0x13 => s.bufferLost p.volc p.lba
  | 0x11 =>
    match Tbl.find s.twn.taking (stripeKey p.span (p.lba / 256)) with
    | some id => if p.keyNode = s.node ∧ p.xid = 0 then
        ({ s with twn := { s.twn with taking := Tbl.del s.twn.taking (stripeKey p.span (p.lba / 256)) } } : State).pieceFail id 0x0400 else s
    | none => s
  | _ => s

/-- The request and bulk parcels whose responses have not arrived are sent again with RESEND (R570), or end (R572). -/
def State.resendAll (s : State) : State :=
  let away := s.fab.await.filter fun x => !s.reachable x.p.dst && !(decide (0x20 ≤ x.p.kind) || x.p.kind == 0x15)
  let again := s.fab.await.filter fun x => s.reachable x.p.dst
  let s : State := { s with fab := { s.fab with await := s.fab.await.filter fun x => !away.contains x } }
  let s := again.foldl (fun s x => (s.bump FAB_E2E_RESENT 1).send { x.p with resend := true }) s
  away.foldl (fun s x => s.unreachableAsk x.p) s

/-- The pieces of a command after a switch: those toward unreachable owners fail with 0x0400 (R553); a write piece all of whose blocks were accepted
is asked for by QUERY (R570). -/
def State.piecesAtSwitch (s : State) (slot : Nat) (c : Cmd) : State :=
  let n := c.vol - 0x8000
  let far := fun (q : IPiece) => s.pieceDst n (q.lba / 256) != s.node && !s.reachable (s.pieceDst n (q.lba / 256))
  let lost := c.pieces.any fun q => q.phase == 1 && far q
  let s := s.modCmd slot fun c => { c with pieces := c.pieces.map fun q => if q.phase = 1 ∧ far q then { q with phase := 2, status := 0x0400 } else q }
  let ask := c.pieces.filter fun q => c.opc == 1 && q.phase == 1 && q.acc == q.n && !far q && s.pieceDst n (q.lba / 256) != s.node &&
    !s.fab.await.any fun x => x.p.kind == 0x12 && x.p.xid == slot && x.p.keyTick == q.keyTick && x.p.lba == q.lba && x.p.span == n
  let s := ask.foldl (fun s q => s.ask {
    kind := 0x12, dst := s.pieceDst n (q.lba / 256), lba := q.lba, first := q.lba, count := q.n, modes := c.modes, xid := slot, keyTick := q.keyTick,
    keyNode := s.node, span := n }) s
  if lost then s.spanCheck slot else s

/-- The switch to a new epoch (R554 to R557, R564, R570 to R572). -/
def State.epochSwitch (s : State) : State :=
  let me := s.node
  let w := s.g FAB_NODE_W
  let h := s.g FAB_NODE_H
  let keep := joined w h s.fab.view [me] (s.fab.view.length + 1)
  let view : Tbl Lsr := s.fab.view.filter fun e => keep.contains e.1
  let old := s.fab.routes
  let routes := routeTable w h view me
  let down := downLinks w h view
  let s := s.p FAB_EPOCH_EPOCH (s.g FAB_EPOCH_EPOCH + 1)
  let s := s.p FAB_EPOCH_DOWN down
  let s : State := { s with
    fab := { s.fab with
      view := view, routes := routes, tabled := true, switch := none, seenPrev := s.fab.seen, seen := [], donePrev := s.fab.done, done := [], asked := [] } }
  let s := (s.raise 180).record (mkRec 0x18 32 [(16, 8, s.now), (24, 2, s.g FAB_EPOCH_EPOCH), (26, 2, down)])
  let lost := old.filter fun e => e.2.reach && !s.reachable e.1
  let s := lost.foldl (fun s _ => s.raise 181) s
  let s := s.rootUpdate
  let s := s.resendAll
  let s := s.rerouteKept
  let s := (s.cmds.filter fun e => e.2.sq != 0 && e.2.phase == 2 && decide (0x8000 ≤ e.2.vol)).foldl (fun s e => s.piecesAtSwitch e.1 e.2) s
  s.remapRetry

/-- ROUTE_EPOCH_SWITCH (R554): the edge of tick S has come. -/
def execRouteEpochSwitch (s : State) : Out :=
  match s.fab.switch with
  | none => .next s
  | some t => .next (if s.running && decide (t ≤ s.clk.tick) && s.node != 0x3FF && (s.g FAB_DISC_STATE == 4 || s.g FAB_DISC_STATE == 5) then
      s.gather.epochSwitch.inOrder else s)

/-! ### Parcels that pass (R543, R549 to R555) -/

/-- The types of Table FAB-5. -/
def known5 (kind : Nat) : Bool := (decide (1 ≤ kind) && decide (kind ≤ 9)) || tracked kind || (decide (0x18 ≤ kind) && decide (kind ≤ 0x1F))

/-- PARCEL_FORWARD (R543, R549): a parcel for another node goes on by its route; one that reaches 64 hops is discarded; before the first route
table it is kept. One of a type that Table FAB-5 does not list is discarded at its destination. -/
def execParcelForward (p : Parcel) (s : State) : Out :=
  if s.takes p && !known5 p.kind then .next (s.leaveBuffer p).dropParcel
  else if s.running && p.dst != s.node && decide (8 ≤ p.kind) then
    let s := s.leaveBuffer p
    let q : Parcel := { p.passing with hops := p.hops + 1 }
    if 64 ≤ q.hops then .next s.dropParcel
    else if !s.fab.tabled then .next (s.setPort (p.inPort % 4) fun x => { x with kept := x.kept ++ [q] })
    else .next (s.routeOut q)
  else .next s

end Sys2Proof.Machine
end

