-- ==== Sys2Proof/Machine/TimeSync.lean ====
section
/-! DEFINITION. Tick alignment and the SerDes loops (spec/16_efina.md R541, R542, R564 to R569; spec/02_graticule.md R73 to R76). -/

namespace Sys2Proof.Machine

/-- A tick in units of 0.25 ns. -/
def tickQuarters : Int := 16000

/-- Half of a value, a half rounded by a free bit (assumption log 14). -/
def halfFree (v : Int) (free : Nat) : Int := v / 2 + (if v % 2 = 0 then 0 else ((free % 2 : Nat) : Int))

/-- The trim in force, given in 0.005 ppm (R73, R568). -/
def State.setTrim (s : State) (v : Int) : State :=
  let t := if s.on CLK_CFG_TRIM_EN then halfFree (clampI (-40000) 40000 v) s.free.1 else 0
  (s.free.2.p CLK_TRIM_TRIM (ofSigned 16 t)).p CLK_TRIM_AT_LIMIT (b2n (t == 20000 || t == -20000))

/-- The frequency term F, in 0.005 ppm. -/
def State.setF (s : State) (v : Int) : State :=
  let s : State := { s with fab := { s.fab with fterm := v } }
  s.free.2.p FAB_FREQ_F (ofSigned 16 (halfFree v s.free.1))

/-- The root's tick number whose edge lies nearest this node's next edge, by a TIME received at `rx` (R567): `r` is the root's time there. -/
def State.nearestTick (s : State) (tx es rx : Int) (p : Nat) : Nat :=
  let r := tx - es + s.gk FAB_PDLY_DELAY p + (tickQuarters * (s.clk.tick + 1) - rx)
  (roundNear r 16000 s.free.1).toNat % 2 ^ 48

/-- After the load: the trim, the frequency term, ALIGNED (R568, R569); `e` in 0.25 ns. -/
def State.timeStep (s : State) (e : Int) : State :=
  let near := decide (e.natAbs < 160)
  let f := s.fab.fterm
  let s := s.setTrim (f - 250 * e)
  let s := if near then s.setF (clampI (-40000) 40000 (f - e)) else s
  let bad := if near then 0 else s.fab.badRun + 1
  let s : State := { s with fab := { s.fab with badRun := bad } }
  if near then s.alignRise else if 4 ≤ bad then s.alignFall else s

/-- TIME (R565, R567, R568): sent at `tx` of the sender's clock with its error `es`, received at `rx` of this node's, all in 0.25 ns. Taken from the
upstream port only; the first one gives the tick number to load, later ones the trim. -/
def execTime (p : Fin 4) (tx es rx : Int) (s : State) : Out :=
  if s.running && s.portUp p && s.g FAB_TIME_UP == (p : Nat) && s.g FAB_DISC_ROOT != 0x3FF && !s.on FAB_TIME_ISROOT && decide (4 ≤ s.g FAB_DISC_STATE) then
    let e := rx - (tx - es + s.gk FAB_PDLY_DELAY p)
    let s : State := { s with timeNow := true, fab := { s.fab with quiet := 0, err := e } }
    let s := s.p FAB_TIME_ERR (ofSigned 16 (clampI (-32768) 32767 e))
    if s.on CLK_STAT_TICK_LOADED || s.fab.wasRoot then .next (s.timeStep e)
    else if s.clk.load.isSome then .next s
    else
      let n := s.nearestTick tx es rx p
      let s := s.free.2
      .next { s with clk := { s.clk with load := some n } }
  else .next s

/-- TIME goes out of every up port at an edge, with its timestamp and this node's error, 0 at the root (R565). -/
def State.timeSend (s : State) : State :=
  let e : Int := if s.on FAB_TIME_ISROOT then 0 else s.fab.err
  (s.upPorts 4).foldl (fun s p => s.linkSend p 0x03 (leBytes s.now 8 ++ leBytes (ofSigned 64 e) 8)) s

/-- ALIGNED_TIMEOUT (R568, R569): no TIME from upstream for 16 ticks: ALIGNED falls and the trim is F. -/
def execAlignedTimeout (s : State) : Out :=
  .next (if s.running && !s.on FAB_TIME_ISROOT && decide (16 ≤ s.fab.quiet) then (s.alignFall).setTrim s.fab.fterm else s)

/-! ### SerDes (R541, R542) -/

/-- A SerDes lane is idle: its Efina port is not up, or, of a PCIe lane, `x` gives no eye (R542). -/
def State.laneIdle (s : State) (lane : Nat) (x : Option EyeIn) : Bool :=
  match x with
  | none => true
  | some _ => decide (lane < 16) && !s.portUp (lane / 4)

/-- The next value of a setting that moves by one at most, wanted at `dir` from `c`: inside the envelope, or toward it from outside (R47). -/
def slew (lo hi c dir : Int) : Int := if c < lo then c + 1 else if hi < c then c - 1 else clampI lo hi (c + clampI (-1) 1 dir)

/-- The setting is pinned: outside its envelope, or wanting to leave it (R47). -/
def slewPin (lo hi c dir : Int) : Bool := decide (c < lo) || decide (hi < c) || decide (c + clampI (-1) 1 dir < lo) || decide (hi < c + clampI (-1) 1 dir)

/-- One lane's step: DFE by one mV, CTLE by one code in 16 ticks, inside the envelopes; wanting out of one pins (R47, R541). -/
def State.laneStep (s : State) (lane : Nat) (x : Option EyeIn) : State :=
  if s.laneIdle lane x then
    let s := if lane < 16 then s else s.pki FAB_LANE_IDLE 0 lane 1
    s.loopIdle (loopId 3 lane)
  else
    let y := x.getD ⟨0, 0⟩
    let c : Int := s.gki FAB_LANE_CTLE 0 lane
    let d : Int := s.gki FAB_LANE_DFE 0 lane
    let a := s.eff 6 lane
    let b := s.eff 7 lane
    let free := (Tbl.find s.fab.ctleEdge lane).all fun e => decide (e + 16 ≤ s.clk.edges)
    let c' := if free then slew a.1 a.2 c y.ctle else c
    let which := b2n (slewPin b.1 b.2 d y.dfe) + 2 * b2n (slewPin a.1 a.2 c y.ctle)
    let s := (s.pki FAB_LANE_CTLE 0 lane c'.toNat).pki FAB_LANE_DFE 0 lane (slew b.1 b.2 d y.dfe).toNat
    let s : State := if c' = c then s else { s with fab := { s.fab with ctleEdge := Tbl.put s.fab.ctleEdge lane s.clk.edges } }
    (s.pki FAB_LANE_IDLE 0 lane 0).loopStep (loopId 3 lane) which

/-- SERDES_STEP (R541, R542): the step of the 24 lanes' loops from the eyes of the previous tick, in the SerDes slot. -/
def execSerdesStep (x : List (Option EyeIn)) (s : State) : Out :=
  if s.slotOpen 12 then
    let s := s.atCycle 2900
    .next (((List.range 24).foldl (fun s lane => s.laneStep lane (x.getD lane none)) s).slotDone 12)
  else .next s

end Sys2Proof.Machine
end

