-- ==== Sys2Proof/Machine/Live.lean ====
section
/-! DEFINITION. What registers read: fields computed from the state, the edge latch, registers that a selector shows, windows
(the register tables of the home chapters; spec/22_address_map.md R688 to R697; spec/02_graticule.md R701). -/

namespace Sys2Proof.Machine

/-! ### Computed fields -/

/-- A flag or a count held to `w` bits. -/
def satTo (w v : Nat) : Nat := min v (2 ^ w - 1)

/-- CHN_STAT.MODE of channel `k` (Table CHN-7): calibration, recovery, write or verified write, read, idle. -/
def State.chnMode (s : State) (k : Nat) : Nat :=
  let c := s.chn k
  if c.touch.isSome || c.slice.isSome then 5
  else if c.recov.any (·.going) then 4
  else match (s.act k).gate with
    | some (loc, _) => if s.locVerified loc then 3 else 2
    | none => if s.med.reads.any fun e => s.locAct e.1 == k && s.readable k e.1 then 1 else 0

/-- The fields of channel `k` that follow its state. -/
def State.chnFields (s : State) (k : Nat) : List (Fld × Nat × Nat × Nat) :=
  [(CHN_STAT_MODE, k, 0, s.chnMode k), (CHN_STAT_HEAD, k, 0, s.selHead k), (CHN_STAT_WDIS, k, 0, b2n (s.hd (s.selHead k)).wdis),
    (CHN_STAT_SBUF, k, 0, min 4 (countP (·.samples) (s.chn k).recov))]

/-- Free peer-spare extents of all spans (TWN_REMAP.SPARES). -/
def State.peerSpares (s : State) : Nat := sumOf ((List.range 16).map fun n => if s.spanMember n then s.peerFree n else 0)

/-- The fields of the media, pool and twin registers that follow the state (Tables MED-6, DRM-3 and the TWN registers). -/
def State.storeFields (s : State) : List (Fld × Nat × Nat × Nat) :=
  let up := fun v => if s.med.loaded then v else 0
  let strands := countP (fun e => e.2.strand) s.slabs
  [(MED_STAT_NOSPARE, 0, 0, b2n (s.med.loaded && s.freeSpares == 0)), (MED_STAT_STRAND, 0, 0, b2n (decide (0 < strands))),
    (MED_FREE, 0, 0, up s.freeExtents), (MED_RESV, 0, 0, up s.forReserve), (MED_SPARE, 0, 0, up s.freeSpares),
    (MED_UNWR_RANGES, 0, 0, s.med.unwr.length), (MED_PLC_WAITING, 0, 0, satTo 8 s.med.elig.length),
    (MED_REFRESH_QUEUED, 0, 0, satTo 16 (sumOf (s.chan.map fun e => e.2.refresh.length))), (MED_STRAND, 0, 0, strands),
    (DRM_FREE_SLABS, 0, 0, if s.g DRM_STAT_STATE = 3 then satTo 16 s.freeSlabCount else 0), (DRM_FREE_FULL, 0, 0, b2n (!s.slabWait.isEmpty)),
    (TWN_STAT_HBAGE, 0, 0, if s.hasTwin then satTo 6 (s.clk.edges - s.twn.hbEdge) else 0),
    (TWN_DIRTY_LACK, 0, 0, satTo 16 (countP (fun e => e.2.lack) s.twn.dirty)), (TWN_DIRTY_FREE, 0, 0, satTo 15 (countP (fun e => !e.2.lack) s.twn.dirty)),
    (TWN_COPIES_SLABS, 0, 0, satTo 16 (countP (fun e => e.2.twin) s.slabs)), (TWN_SETTLE_HELD, 0, 0, satTo 16 (countP (fun e => e.2.phase == 0) s.pieces)),
    (TWN_REMAP_SPARES, 0, 0, satTo 16 s.peerSpares)] ++
    (List.range 4).map fun k => (MED_BKLOG, 0, k, s.backlog k * 4096 / 2 ^ 20)

/-- The fields of the queue and test registers that follow the state (Tables MQP-9 and TST-9). -/
def State.queueFields (s : State) : List (Fld × Nat × Nat × Nat) :=
  (List.range 16).map (fun f => (MQP_INFL_COUNT, f, 0, satTo 16 (s.fnInFlight f))) ++
  [(TST_IDCODE, 0, 0, idcode), (MQP_LOCK_USED, 0, 0, satTo 16 s.locks.table.length), (MQP_LOCK_QUEUED, 0, 0, satTo 16 s.locks.queue.length), (TST_CAL_DUE, 0, 0, maskOf 20 fun h => (s.hd h).tdDue.isSome || (s.hd h).sepDue.isSome)]

/-- The register file as it stands, computed fields included. -/
def State.live (s : State) : RegFile :=
  ((List.range 4).flatMap s.chnFields ++ s.storeFields ++ s.queueFields).foldl (fun r e => r.put e.1 e.2.1 e.2.2.1 e.2.2.2) s.regs

/-! ### The edge latch (R697, R701) -/

/-- Fields that read through the edge latch: the SPN, SRV, CHN, MED and TWN registers but for those that their chapters except, the flags of R702,
which the edge sets itself, and what a host writes. -/
def latched : List Fld :=
  (fldsSpn.filter (· != SPN_OBS_CONF)) ++ (fldsSrv.filter (· != SRV_WGCNT)) ++
    (fldsChn.filter fun F => ! [CHN_LDPC, CHN_RCV, CHN_UNREC, CHN_RCVSTOP_CUT, CHN_RCVSTOP_ABORT, CHN_VFY_FAIL, CHN_VFY_EXH, CHN_PLINK_ERR, CHN_SB_ERR,
      CHN_STAT_FIR_PIN, CHN_STAT_THR_PIN, CHN_FH_PIN, CHN_FH_HELD].contains F) ++
    (fldsMed.filter fun F => ! [MED_STAT_MAP1, MED_STAT_MAPLOST, MED_STAT_NOSPARE, MED_STAT_STRAND, MED_PLC_PIN].contains F) ++
    (fldsTwn.filter (· != TWN_SPANSEL_SPAN))

/-- The value that a read of a field returns in the present cycle. -/
def State.readFld (s : State) (F : Fld) (k i : Nat) : Nat :=
  if latched.contains F then (if s.clk.cycle < 16 then s.latchPrev else s.latch).get F k i else s.live.get F k i

/-! ### Registers by address -/

/-- A value as taps or offsets of `w` bits, two in a register at 16 and 8 bits apart. -/
def pairAt (l : List Int) (i w sh : Nat) : Nat := ofSigned w (l.getD (2 * i) 0) + ofSigned w (l.getD (2 * i + 1) 0) * 2 ^ sh

/-- A window's dword. -/
def State.bufDword (s : State) (a : Nat) : Nat := ofLe (Memory.read 0 s.buf a 4)

/-- The state of queue `q` of function `f` as MQP_QSTAT shows it: the SQ's state, push, its CQ full, push entries; 0 for none. -/
def State.qstat (s : State) (f q : Nat) : Nat :=
  match s.sq f q with
  | some x => x.st + 8 * b2n x.push + 16 * b2n ((s.cq f x.cq).any (·.full)) + 32 * x.buf.length
  | none => 0

/-- A pad register of ports B to D before the chart's pin configuration is applied: pull-down, input buffer off (R141). -/
def State.padShown (s : State) (o : Nat) : Option Nat :=
  if 0x50 ≤ o ∧ o < 0x80 ∧ !s.pin.applied then some 0x10101010 else none

/-- TWN_SPAN of span `n` as it stands: MEMBER, SHORT, REDIR (Table TWN-5). -/
def State.spanNow (s : State) (n : Nat) : Nat :=
  b2n (s.spanMember n) + 2 * b2n ((s.volAt (64 + n)).getD {}).short + 65536 * satTo 16 (countP (fun e => e.1 / 2 ^ 40 == n) s.med.redir)

/-- Registers and windows that show a part of the state by an index or a selector; `o` is the offset in the block. None where the address holds
plain fields (Tables PIN-6, SRV-9, CTL-10, CHN-7, MQP-9, FAB-9, EVT-5, GAZ-7; R317). -/
def State.shown (s : State) (a : Nat) : Option Nat :=
  let o := a % 4096
  match a / 4096 with
  | 4 => if 0x84 ≤ o ∧ o < 0xA0 ∧ (o - 0x84) % 8 = 0 then some (s.pinIn ((o - 0x84) / 8)) else s.padShown o
  | 7 => if o < 0x400 ∧ o % 256 = 0x10 then some (s.wgBlock (o / 256)) else none
  | 8 =>
    let k := o / 0x400
    let r := o % 0x400
    let c := (if s.clk.cycle < 16 then s.ctxPrev else s.ctxL).getD k {}
    if 0x80 ≤ r ∧ r < 0xC0 then some (pairAt c.tapsL ((r - 0x80) / 4) 10 16)
    else if 0xC0 ≤ r ∧ r < 0x100 then some (pairAt c.tapsT ((r - 0xC0) / 4) 10 16)
    else if r = 0x100 then some (ofSigned 7 c.ofsL + 256 * ofSigned 7 c.ofsT)
    else none
  | 13 => if o = 0x14 then some ((if s.clk.cycle < 16 then s.spansPrev else s.spansL).getD (s.g TWN_SPANSEL_SPAN) 0) else none
  | 14 =>
    let e := s.g EVT_SEL_EVENT
    if o = 0x40 then some (maskOf 12 fun g => (List.range 16).any fun j => s.evtPend (16 * g + j) && !s.evtMasked (16 * g + j))
    else if o = 0x48 then some (if e < 192 then s.routeVec e + 256 * s.routeEvo e + 65536 * (b2n (s.routeRec e) + 2 * b2n (s.routeFab e)) else 0)
    else if o = 0x4C then some (Tbl.getD s.evt.cnt e 0)
    else if 0x60 ≤ o ∧ o < 0x70 then some (match s.evt.recvQ with | p :: _ => leAt p (o - 0x60) 4 | [] => 0)
    else none
  | 15 => if o = 0x1C then
      let d := s.g FAB_RTSEL_DST
      some (if d = s.node ∧ d ≠ 0x3FF then 4 else match s.routeTo d with
        | some r => r.port + 8 * r.waypt.getD 0 + 8192 * b2n r.waypt.isSome
        | none => 7)
    else none
  | b =>
    if b % 0x4000 = 16 then
      let f := b / 0x4000
      let q := s.gk MQP_QSEL_QID f
      if o = 0x2C then some (s.qstat f q)
      else if o = 0x30 then some (match s.sq f q with | some x => x.head + 65536 * x.tail | none => 0)
      else if o = 0x34 then some (match s.cq f q with | some x => x.head + 65536 * x.tail | none => 0)
      else none
    else if 0x20 ≤ b ∧ b < 0x28 then
      let k := (b - 0x20) / 2
      if b % 2 = 1 then some (if s.gk CTL_TRCSTAT_STATE k = 3 then (match s.trcBench k with
        | some i => s.bufDword (solidBase i + 4096 * s.gk CTL_TRCPAGE_PAGE k + o)
        | none => 0) else 0)
      else if o = 0x24 then some (ofSigned 32 (Tbl.getD (Tbl.getD s.eng k {}).shown (s.gk CTL_PEEKSEL_NODE k) 0))
      else none
    else if 0xC0 ≤ b ∧ b < 0x100 then some (s.bufDword (s.ringBase + (a - 0xC0000)))
    else none

/-! ### Which addresses respond (R693, R694) -/

/-- The instance that an address belongs to is declared by the chart; a fabric port's block and lanes respond only with its PORT_EN bit (R694). -/
def State.declared (s : State) (a : Nat) : Bool :=
  let o := a % 4096
  match a / 4096 with
  | 7 => decide (o / 256 < s.nAct) || decide (0x400 ≤ o)
  | 8 => decide (o / 0x400 < s.nAct)
  | 9 => decide (o / 16 < s.nHead)
  | 15 =>
    if 0x100 ≤ o ∧ o < 0x200 then s.portOn ((o - 0x100) / 64) || (o - 0x100) % 64 == 0
    else if 0x200 ≤ o ∧ o < 0x240 then s.portOn ((o - 0x200) / 16)
    else true
  | b => if 0x20 ≤ b ∧ b < 0x28 then decide ((b - 0x20) / 2 < s.nAct) else true

/-- What a register of fields reads as a 64-bit value; the key of SYS_RSTCTL, write-1-to-act bits read 0. -/
def State.fldsValue (s : State) (a : Nat) : Nat :=
  (fldsAt a).foldl (fun v e => v + (if e.1.acc = .w1s ∨ e.1 = SYS_RSTCTL_KEY then 0 else s.readFld e.1 e.2.1 e.2.2) * 2 ^ e.1.bit e.2.2) 0

/-- The 64-bit value at the low address of a register block's register; a 32-bit register in the low half. Addresses carry the function of an MQP
block (Table SYS-29). -/
def State.regValue (s : State) (a : Nat) : Nat :=
  if !s.declared a then 0
  else if a = clkNow then s.now
  else match s.shown a with
    | some v => v
    | none => s.fldsValue a

/-- A dword of a register as a snapshot captures it: nothing is latched and nothing cleared (R626). -/
def State.peek (s : State) (a : Nat) : Nat :=
  if 4 ≤ a ∧ isWide (a - 4) then s.regValue (a - 4) / 2 ^ 32 % 2 ^ 32 else s.regValue a % 2 ^ 32

end Sys2Proof.Machine
end

