-- ==== Sys2Proof/Machine/Bus.lean ====
section
/-! DEFINITION. BAR0 accesses: dword reads and writes, 64-bit registers, wide accesses, the regions of BAR0
(spec/00_scope.md R13 to R18; spec/22_address_map.md R688 to R699; spec/13_queues.md R425 to R428, R435). -/

namespace Sys2Proof.Machine

/-! ### Which block an access meets (R688, R693) -/

/-- The address of an access of function `fn` as the register model numbers it: an MQP block carries its function; none where the function sees
no register there. -/
def blockAddr (fn a : Nat) : Option Nat :=
  if 0x10000 ≤ a ∧ a < 0x11000 then
    (if fn = 0 then some a
    else if a = 0x10040 ∨ a = 0x10044 ∨ (0x10050 ≤ a ∧ a < 0x1005C) then none
    else some (a + fn * 0x4000000))
  else if 0x100000 ≤ a then none
  else if fn = 0 ∨ a / 0x1000 = 1 then some a
  else none

/-- The key of a function's read latch and staging dword of a 64-bit register (R18). -/
def wideKey (fn a : Nat) : Nat := fn * 2 ^ 32 + a

/-- The reset value of a 64-bit register's high dword. -/
def resetHigh (a : Nat) : Nat := (fldsAt a).foldl (fun v e => v + e.1.dflt * 2 ^ e.1.bit e.2.2) 0 / 2 ^ 32 % 2 ^ 32

/-! ### Reads -/

/-- A dword of the MSI-X table or pending bits of function `fn`; entries and bits beyond VEC_N read 0 (R690). -/
def State.msixRead (s : State) (fn o : Nat) : Nat :=
  let n := s.gk MQP_CAP_VECN fn
  if o < 0x1000 then
    let v := o / 16
    if n ≤ v then 0
    else
      let m := s.msixAt fn v
      match o % 16 / 4 with
      | 0 => m.addr % 2 ^ 32
      | 1 => m.addr / 2 ^ 32 % 2 ^ 32
      | 2 => m.data % 2 ^ 32
      | _ => b2n m.masked
  else if o < 0x1020 then
    maskOf 32 fun b => decide (8 * (o - 0x1000) + b < n) && (s.msixAt fn (8 * (o - 0x1000) + b)).pend
  else 0

/-- What an aligned dword read of function `fn` returns (R16 to R18, R689 to R694): the low dword of a 64-bit register loads the function's latch
with the high dword, which a read of the high dword returns. -/
def State.readDword (s : State) (fn a : Nat) : Nat × State :=
  if 0x3000000 ≤ a then (s.msixRead fn (a - 0x3000000), s)
  else match blockAddr fn a with
    | none => (0, s)
    | some b =>
      if 0x29000 ≤ b ∧ b < 0x2A000 then
        let r := s.dbgRead ((b - 0x29000) / 4)
        (ofLe r.1, r.2)
      else if isWide b then
        let v := s.regValue b
        (v % 2 ^ 32, { s with rdLatch := Tbl.put s.rdLatch (wideKey fn b) (v / 2 ^ 32 % 2 ^ 32) })
      else if 4 ≤ b ∧ isWide (b - 4) then (Tbl.getD s.rdLatch (wideKey fn (b - 4)) (resetHigh (b - 4)), s)
      else (s.regValue b % 2 ^ 32, s)

/-- READ_LOW_DWORD (R18): an aligned dword read, which of the low dword of a 64-bit register loads the read latch; any other register's dword is
read as R17 says. -/
def execReadLowDword (fn : Fin 16) (a : BitVec 26) (s : State) : Out :=
  .next (if s.fnOpen fn && a.toNat % 4 == 0 then
    let r := s.readDword fn a.toNat
    r.2.emit (.bus fn (leBytes r.1 4)) else s)

/-! ### Writes -/

/-- Bit `b` of a W1C field stays whatever the host writes: the hardware has set it in this cycle, or an EXTINT line stands at its active level (R14,
R136). -/
def State.w1cHeld (s : State) (F : Fld) (k i b : Nat) : Bool :=
  s.setNow.contains (F.key k i, b) || (F.key k i == PIN_EXTPEND_PEND.key 0 0 && bitAt s.pin.active b)

/-- One field takes a host write of its register's bits (Table SYS-1): RW as written, W1C cleared where 1 is written and the hardware has not set the
bit in this cycle (R14, R698). -/
def State.writeFld (s : State) (F : Fld) (k i v : Nat) : State :=
  let x := bitsOf v (F.bit i) F.w
  match F.acc with
  | .rw => s.pki F k i x
  | .w1c => (List.range F.w).foldl (fun s b => if bitAt x b && !s.w1cHeld F k i b then s.hwClr F k i b else s) s
  | _ => s

/-- The register that defines the admin queue pair of a function whose MQP_CTL.EN is 1: writes to it are ignored (R416). -/
def State.aqLocked (s : State) (a : Nat) : Bool :=
  (a % 0x4000000 == 0x1000C || a % 0x4000000 == 0x10010 || a % 0x4000000 == 0x10018) && s.gk MQP_CTL_EN (a / 0x4000000) == 1

/-- The plain fields of a register take a host write. -/
def State.writeFlds (s : State) (a v : Nat) : State :=
  if s.aqLocked a then s else (fldsAt a).foldl (fun s e => s.writeFld e.1 e.2.1 e.2.2 v) s

/-- A write of SYS_RSTCTL: GO with the key orders a reset (R220, Table SYS-14). -/
def State.rstctlWrite (s : State) (v : Nat) : State := if bitAt v 16 && v % 65536 == 0x9440 then s.hostReset else s

/-- A write of MQP_CTL: EN rises or falls (R416, R449). -/
def State.mqpCtlWrite (s : State) (fn v : Nat) : State :=
  if bitAt v 0 then s.adminEnable fn else if s.gk MQP_CTL_EN fn = 1 then s.fnReset fn else s

/-- A write of CTL_TRCCTL of engine `k`: its fields, then ARM, STOP and TRIG in the order of their bits (Table CTL-10). -/
def State.trcctlWrite (s : State) (k v : Nat) : State :=
  let s := s.writeFlds (0x20048 + 0x2000 * k) v
  let s := if bitAt v 0 then s.traceArm k else s
  let s := if bitAt v 1 then s.traceStop k else s
  if bitAt v 2 then s.traceTrig k else s

/-- A write of a 32-bit register (R13): the registers that act have their actions, every other one its fields. -/
def State.regWrite (s : State) (a v : Nat) : State :=
  if !s.declared a then s
  else if a = 0x84 then s.rstctlWrite v
  else if 0xE020 ≤ a ∧ a < 0xE038 then s.evtMaskWrite ((a - 0xE020) / 4) v
  else if a = 0xE070 then (if bitAt v 0 then s.evtPop else s)
  else if a = 0x28020 then s.dbgCtl (bitAt v 0) (v / 65536)
  else if a = 0x28048 then s.snapHost (v % 65536)
  else if 0x29000 ≤ a ∧ a < 0x2A000 then s.dbgWrite ((a - 0x29000) / 4) v
  else if a % 0x4000000 = 0x10004 then s.mqpCtlWrite (a / 0x4000000) v
  else if a % 0x4000000 = 0x10048 then
    (if bitAt v 0 then s.admThaw (a / 0x4000000) (b2n (bitAt v 1)) else s.pk MQP_ADMTHAW_ACTION (a / 0x4000000) (b2n (bitAt v 1)))
  else if 0x20000 ≤ a ∧ a < 0x28000 ∧ a % 0x2000 = 0x48 then s.trcctlWrite ((a - 0x20000) / 0x2000) v
  else s.writeFlds a v

/-- A write of the high dword of a 64-bit register goes to the function's staging dword (R18), of a locked one nowhere (R416). -/
def State.writeHigh (s : State) (fn a v : Nat) : State :=
  if s.aqLocked a then s else { s with staging := Tbl.put s.staging (wideKey fn a) v }

/-- The staging dword of a 64-bit register is the register's high dword until a high write (R18). -/
def State.stagedHigh (s : State) (fn a : Nat) : Nat := Tbl.getD s.staging (wideKey fn a) (s.regValue a / 2 ^ 32 % 2 ^ 32)

/-- A 64-bit value is committed to a register in one cycle; the staging dword then holds the register's high dword (R18, R696). -/
def State.commitWide (s : State) (fn a v : Nat) : State :=
  let s := s.writeFlds a v
  { s with staging := Tbl.del s.staging (wideKey fn a) }

/-- A dword of the MSI-X table is written; a vector whose mask bit is lifted sends what it has pending (R435, R690). -/
def State.msixWrite (s : State) (fn o v : Nat) : State :=
  if 0x1000 ≤ o ∨ s.gk MQP_CAP_VECN fn ≤ o / 16 then s
  else
    let vec := o / 16
    let m := s.msixAt fn vec
    let put := fun (m : Msix) => ({ s with msix := Tbl.put s.msix (fn * 256 + vec) m } : State)
    match o % 16 / 4 with
    | 0 => put { m with addr := m.addr / 2 ^ 32 * 2 ^ 32 + v }
    | 1 => put { m with addr := m.addr % 2 ^ 32 + v * 2 ^ 32 }
    | 2 => put { m with data := v }
    | _ => if bitAt v 0 then put { m with masked := true } else s.unmask fn vec

/-- An aligned dword write of function `fn` (R13, R18, R425, R428, R690 to R693): a VF's CLK block and every address that does not respond ignore
it. -/
def State.writeDword (s : State) (fn a v : Nat) : State :=
  if 0x3000000 ≤ a then s.msixWrite fn (a - 0x3000000) v
  else if 0x1000000 ≤ a ∧ a < 0x1008000 then
    (if a % 8 = 0 then s.tailWrite fn ((a - 0x1000000) / 8) v else s.headWrite fn ((a - 0x1000000) / 8) v)
  else if 0x1800000 ≤ a ∧ a < 0x1840000 then s.pushWrite fn ((a - 0x1800000) / 64) (leBytes v 4) (a % 64 == 0)
  else match blockAddr fn a with
    | none => s
    | some b =>
      if fn ≠ 0 ∧ b / 0x1000 = 1 then s
      else if isWide b then s.commitWide fn b (v + s.stagedHigh fn b * 2 ^ 32)
      else if 4 ≤ b ∧ isWide (b - 4) then s.writeHigh fn (b - 4) v
      else s.regWrite b v

/-- A narrow or unaligned write is discarded (R17); at a doorbell or push slot it is an ignored write, with event 144 (R426): at a push slot a
malformed push (R428, boundary table). -/
def State.writeBad (s : State) (fn a : Nat) : State :=
  if 0x1000000 ≤ a ∧ a < 0x1008000 then s.dbError fn ((a - 0x1000000) / 8) 6
  else if 0x1800000 ≤ a ∧ a < 0x1840000 then s.pushWrite fn ((a - 0x1800000) / 64) [] false
  else s

/-- REG_WRITE (R13, R17): a write of at most 4 bytes at an address of a function's BAR0. -/
def execRegWrite (fn : Fin 16) (a : BitVec 26) (len : Fin 5) (v : BitVec 32) (s : State) : Out :=
  .next (if !s.fnOpen fn then s
    else if (len : Nat) = 4 ∧ a.toNat % 4 = 0 then s.writeDword fn a.toNat v.toNat
    else s.writeBad fn a.toNat)

/-- The 64-bit register whose low dword stands at BAR0 address `a`, in a function's view. -/
def wideAt (fn a : Nat) : Option Nat := (blockAddr fn a).filter isWide

/-- The 64-bit register that function `fn` may write there: the Graticule is written by function 0 alone (R693). -/
def wideReg (fn a : Nat) : Option Nat := (wideAt fn a).filter fun b => fn == 0 || b / 0x1000 != 1

/-- WRITE_HIGH_DWORD (R18): a write of the high dword of the 64-bit register at `a` goes into the function's staging dword. -/
def execWriteHighDword (fn : Fin 16) (a : BitVec 26) (v : BitVec 32) (s : State) : Out :=
  .next (if !s.fnOpen fn then s
    else match wideReg fn a.toNat with
      | some b => s.writeHigh fn b v.toNat
      | none => s)

/-- WRITE_LOW_DWORD (R18): a write of the low dword of the 64-bit register at `a` commits it with the staging dword. -/
def execWriteLowDword (fn : Fin 16) (a : BitVec 26) (v : BitVec 32) (s : State) : Out :=
  .next (if !s.fnOpen fn then s
    else match wideReg fn a.toNat with
      | some b => s.commitWide fn b (v.toNat + s.stagedHigh fn b * 2 ^ 32)
      | none => s)

/-! ### Wide accesses (R696) -/

/-- One dword of a wide access follows the other in the next cycle. -/
def State.nextCycle (s : State) : State := if s.clk.cycle + 1 < s.tickLen then s.atCycle (s.clk.cycle + 1) else s

/-- The block idles: a cycle of the tick passes, without any work (assumption log 12). -/
def State.idle (s : State) : State := if s.running then s.nextCycle else s

/-- A wide read from address `a`: 64-bit registers covered whole in one cycle, other dwords one per cycle; `n` counts the dwords left. -/
def State.readWide (s : State) (fn a : Nat) (n : Nat) : Nat → List Byte × State
  | 0 => ([], s)
  | f + 1 =>
    if n = 0 then ([], s)
    else match (if 2 ≤ n then wideAt fn a else none) with
      | some b =>
        let r := s.nextCycle.readWide fn (a + 8) (n - 2) f
        (leBytes (s.regValue b) 8 ++ r.1, r.2)
      | none =>
        let x := s.readDword fn a
        let r := x.2.nextCycle.readWide fn (a + 4) (n - 1) f
        (leBytes x.1 4 ++ r.1, r.2)

/-- A wide write of dwords from address `a`. -/
def State.writeWide (s : State) (fn a : Nat) (l : List Byte) : Nat → State
  | 0 => s
  | f + 1 =>
    if l.length < 4 then s
    else match (if 8 ≤ l.length then wideAt fn a else none) with
      | some b => (if fn ≠ 0 ∧ b / 0x1000 = 1 then s else s.commitWide fn b (leAt l 0 8)).nextCycle.writeWide fn (a + 8) (l.drop 8) f
      | none => ((s.writeDword fn a (leAt l 0 4)).nextCycle).writeWide fn (a + 4) (l.drop 4) f

/-- WIDE_ACCESS (R17, R696, R428): a read of `n` bytes or a write of bytes, 8 or more. A write to a push slot is a push write; a write that is not
aligned to 4 bytes is discarded; a read returns the addressed bytes. -/
def execWideAccess (fn : Fin 16) (a : BitVec 26) (n : Nat) (w : Option (List Byte)) (s : State) : Out :=
  let a := a.toNat
  .next (if !s.fnOpen fn then s
    else match w with
      | some b =>
        if 0x1800000 ≤ a ∧ a < 0x1840000 then s.pushWrite fn ((a - 0x1800000) / 64) b (a % 64 == 0)
        else if a % 4 ≠ 0 ∨ b.length % 4 ≠ 0 then s.writeBad fn a
        else s.writeWide fn a b b.length
      | none =>
        let r := s.readWide fn (a / 4 * 4) (ceilDiv (a % 4 + n) 4) (n + 2)
        r.2.emit (.bus fn ((r.1.drop (a % 4)).take n)))

end Sys2Proof.Machine
end

