-- ==== Sys2Proof/Machine/Pins.lean ====
section
/-! DEFINITION. EXTINT lines, event outputs, pin configuration, wake, PERST_N (spec/04_pins.md; spec/06_power_to_ready.md
R212, R213). -/

namespace Sys2Proof.Machine

/-- The timestamp `c` cycles before the present one, in this tick or in the one before it (R133). -/
def State.back (s : State) (c : Nat) : Nat :=
  if c ≤ s.clk.cycle then mkTs s.clk.tick (b2n s.econ) (s.clk.cycle - c)
  else mkTs s.clk.prevTick (b2n s.clk.prevEcon) ((if s.clk.prevEcon then 4000 else 5000) + s.clk.cycle - c)

/-- The stability filter of line `n` in cycles (Table PIN-8). -/
def State.extFilter (s : State) (n : Nat) : Nat :=
  let f := s.gki PIN_EXTCFG_FILT 0 n
  if f = 0 then 0 else 4 * 2 ^ f

/-- Line `n` listens: its pin has function 1 and the pin configuration is in force, in a state other than reset or Vigil (R131,
R137). -/
def State.extOn (s : State) (n : Nat) : Bool :=
  s.running && s.pin.applied && s.gki PIN_FUNC 0 (16 * s.gki PIN_EXTSEL_PORT 0 n + n) == 1

/-- The pin of line `n` that the chart selects. -/
def State.extPin (s : State) (n : Nat) : Nat := 16 * s.gki PIN_EXTSEL_PORT 0 n + n

/-- The cycles for which a new level of line `n` must have stood: its filter's, or one (R132, R133). -/
def State.extLen (s : State) (n : Nat) : Nat := max 1 (s.extFilter n)

/-- The filter of line `n` accepts a change of its input to `high` that has stood for `held` cycles: it must have stood for the filter's length, be a
change of the accepted level, and lie a filter's length after the last one (R132). A line that has accepted nothing yet takes its first change as one
(assumption log 151). -/
def State.extAccepts (s : State) (n : Nat) (high : Bool) (held : Nat) : Bool :=
  s.extOn n && decide (s.extLen n ≤ held) &&
    match Tbl.find s.pin.accepted n with
    | none => true
    | some a => a.1 != high && decide (a.2 + s.extLen n ≤ s.cyc)

/-- The board drives the pad of line `n` to a level; its filter has accepted it. -/
def State.extTake (s : State) (n : Nat) (high : Bool) : State :=
  let p := s.extPin n
  { s with pin := { s.pin with
      accepted := Tbl.put s.pin.accepted n (high, s.cyc), drv := setBit s.pin.drv p, lvl := if high then setBit s.pin.lvl p else clrBit s.pin.lvl p } }

/-- PIN_EXTTSn takes the cycle in which the change of the input stood first (R133, R136). -/
def State.extStamp (s : State) (n : Nat) : State := s.pki PIN_EXTTS 0 n (s.back (s.extLen n))

/-- EXTINT_EDGE (R132, R133, R135): the input of line `n` has stood at its new level for `held` cycles. The change
stood first at cycle s; PEND is set at s + F, or at s + 1 without a filter, which is the present cycle. -/
def execExtintEdge (n : Fin 16) (rising : Bool) (s : State) (held : Nat := 512) : Out :=
  let m := s.gki PIN_EXTCFG_MODE 0 n
  if s.extAccepts n rising held && decide (m < 4) then
    let s := s.extTake n rising
    if m = 3 ∨ (m = 1 ∧ rising) ∨ (m = 2 ∧ !rising) then
      let was := bitAt (s.g PIN_EXTPEND_PEND) n
      let s := s.extStamp n
      let s := if was then s.hwSet PIN_EXTPEND_OVF 0 0 n else s.hwSet PIN_EXTPEND_PEND 0 0 n
      .next (s.raise (48 + n))
    else .next s
  else .next s

/-- EXTINT_LEVEL (R132, R136): the input of line `n` in level mode has stood at a new level for `held` cycles. PEND follows it; entry into the active
level stamps the line and raises the event. -/
def execExtintLevel (n : Fin 16) (high : Bool) (s : State) (held : Nat := 512) : Out :=
  let m := s.gki PIN_EXTCFG_MODE 0 n
  if s.extAccepts n high held && (m == 4 || m == 5) then
    let act := (m == 4) == high
    let was := bitAt s.pin.active n
    let s := s.extTake n high
    if act && !was then
      let s := (s.hwSet PIN_EXTPEND_PEND 0 0 n).extStamp n
      .next (({ s with pin := { s.pin with active := setBit s.pin.active n } } : State).raise (48 + n))
    else if !act && was then
      let s := s.hwClr PIN_EXTPEND_PEND 0 0 n
      .next { s with pin := { s.pin with active := clrBit s.pin.active n } }
    else .next s
  else .next s

/-- EVO_PULSE_END (R139): the pulse of line `n` ends once its 8 × (PW + 1) cycles have passed. -/
def execEvoPulseEnd (n : Fin 16) (s : State) : Out :=
  match Tbl.find s.pin.pulse n with
  | none => .next s
  | some e => .next (if s.running && decide (e ≤ s.cyc) then { s with pin := { s.pin with pulse := Tbl.del s.pin.pulse n } } else s)

/-- PIN_CONFIG_APPLY (R143): at a tick edge after the chart is applied all 64 pins take its configuration: OUT first, one cycle later the directions,
the functions and the rest; sleep states end (R145). -/
def execPinConfigApply (s : State) : Out :=
  if s.running && s.chart.applied && !s.pin.applied && s.clk.cycle == 0 && decide (Tbl.getD s.boot.began 0 0 < s.clk.edges) then
    let s := (List.range 4).foldl (fun (s : State) q => s.pki PIN_OUT_OUT 0 q (s.outInForce q)) s
    let s := ((s.atCycle 1).clearImage imagePins).applyImage imagePins ((s.sec 0x1 0).getD [])
    .next { s with pin := { s.pin with applied := true, asleep := [] } }
  else .next s

/-! ### Wake -/

/-- The tick's samples of port A: `low` and `high` are the pins that were low, or high, at every reference sample of the ended tick (R148). -/
def State.wakeEdge (s : State) (low high : Nat) : State :=
  if !s.pin.armed then s
  else
    let run := fun (t : Tbl Nat) (m : Nat) => (List.range 16).map fun i => (i, if bitAt m i then Tbl.getD t i 0 + 1 else 0)
    { s with pin := { s.pin with
        loRun := run s.pin.loRun low, hiRun := run s.pin.hiRun high
        sawLo := maskOf 16 fun i => bitAt s.pin.sawLo i || !bitAt high i, sawHi := maskOf 16 fun i => bitAt s.pin.sawHi i || !bitAt low i } }

/-- The wake condition of pin `i` qualifies: with FILT at 0 at a reference sample that shows `level`, else by whole ticks; an edge needs the other level
seen since the sources were armed (R148; assumption log 148). -/
def State.qualifies (s : State) (i : Nat) (level : Bool) : Bool :=
  let m := s.gki PIN_WAKECFG_MODE 0 i
  let high := m == 0 || m == 3
  let seen := decide (2 ≤ m) || bitAt (if high then s.pin.sawLo else s.pin.sawHi) i
  let f := s.g PIN_WAKEFILT_FILT
  let stood := if f = 0 then level == high else decide (f ≤ Tbl.getD (if high then s.pin.hiRun else s.pin.loRun) i 0)
  s.gki PIN_WAKECFG_EN 0 i == 1 && seen && stood

/-- WAKE_QUALIFY (R147 to R150): a reference sample of port A with the levels `levels`, or the tick edge after it, and whether PERST_N is deasserted in
the tick. In Vigil a qualified condition starts the exit; while an entry runs it is latched. -/
def execWakeQualify (levels : BitVec 16) (perst : Bool) (s : State) : Out :=
  let a := maskOf 16 fun i => s.qualifies i (bitAt levels.toNat i)
  if !s.pin.armed || (a == 0 && !perst) then .next s
  else if s.pwr.vigil && s.pwr.inReset.isNone then
    let s : State := if perst then { s with boot := { s.boot with perst := false } } else s
    .next (s.wake a perst)
  else if s.running && s.pwr.entering == some 3 then
    .next { s with pin := { s.pin with latched := some (a, perst) } }
  else .next s

/-- The PCIe endpoint is held in reset: no link (R212). -/
def State.linkDown (s : State) : State :=
  [MQP_PCIE_UP, MQP_PCIE_SPEED, MQP_PCIE_WIDTH, MQP_PCIE_DOWN, MQP_PCIE_RETRAIN].foldl (fun s F => s.p F 0) s

/-- PERST_N_ASSERT (R212, R213): the endpoint and every queue are held in reset; fully fetched writes go on without a
completion, everything else is discarded. -/
def execPerstNAssert (s : State) : Out :=
  .next (if s.boot.perst then s else (({ s with boot := { s.boot with perst := true } } : State).perstQueues).linkDown)

/-- PERST_N_DEASSERT (R151): the LTSSM may start, no earlier than the end of BIST. -/
def execPerstNDeassert (s : State) : Out := .next { s with boot := { s.boot with perst := false } }

end Sys2Proof.Machine
end

