-- ==== Sys2Proof/Machine/Endpoint.lean ====
section
/-! DEFINITION. The PCIe endpoint's link and configuration requests, the I²C target, uncorrectable words of the benches (spec/13_queues.md R409;
spec/22_address_map.md R691; spec/21_electrical.md R680; spec/12_benches_dram.md R405). -/

namespace Sys2Proof.Machine

/-! ### The PCIe link (R409, Table SYS-13) -/

/-- The widest width that PIN_STRAP.PCIEW allows (Table PIN-14). -/
def State.pcieMax (s : State) : Nat :=
  match s.g PIN_STRAP_PCIEW with
  | 1 => 4
  | 2 => 1
  | _ => 8

/-- A link of `n` lanes at speed code `speed` is up; two lanes are a failed training, tried again at one (R409). -/
def State.linkTrained (s : State) (speed n : Nat) : State :=
  let w := min n s.pcieMax
  let again := s.on MQP_PCIE_UP
  let s := if w = 2 then s.bump MQP_PCIE_RETRAIN 1 else s
  let s := if again then s.bump MQP_PCIE_RETRAIN 1 else s
  let down := decide (min w 8 < s.pcieMax) || decide (speed < 5)
  let width := if w = 2 then 1 else w
  let s := (((s.p MQP_PCIE_UP 1).p MQP_PCIE_SPEED speed).p MQP_PCIE_WIDTH width).p MQP_PCIE_DOWN (b2n down)
  if down || again then s.raise 147 else s

/-- PCIE_LINK_UP (R409): the link trains, or trains again, with 2^`lanes` lanes of the link partner and the speed of Table MQP-9. -/
def execPcieLinkUp (speed : Fin 5) (lanes : Fin 4) (s : State) : Out :=
  .next (if s.running && !s.boot.perst && decide (2 ≤ s.g SYS_BOOT_STAGE) then s.linkTrained (speed + 1) (2 ^ lanes.val) else s)

/-- PCIE_CONFIG_REQUEST (R691, Table SYS-13): a request of function `fn` is retried until the chart stage has ended, or chart-absent or fault mode is
entered, and completed normally from then on, with what the chart's section 0x0060 advertises (R410, Table MQP-1); a write may set Device Control
(R411). The rest of the configuration space the spec leaves to PCIe. -/
def execPcieConfigRequest (fn : Fin 16) (s : State) (dc : Option DevCtl := none) : Out :=
  .next (if s.running && !s.boot.perst && s.on MQP_PCIE_UP then
    let retry := decide (s.g SYS_BOOT_STAGE < 3)
    let s : State := match dc with
      | some d => if retry || !s.fnOn fn then s else { s with devctl := Tbl.put s.devctl fn d }
      | none => s
    s.emit (.config fn retry (s.secLe 0x60 0 0 1 0) (s.secLe 0x60 0 2 2 0) (s.secLe 0x60 0 4 2 0) (128 * 2 ^ s.secLe 0x60 0 6 1 0) (s.gk MQP_CAP_VECN fn - 1))
  else s)

/-! ### The I²C target -/

/-- I2C_TARGET_TRANSACTION (R680, Table PIN-4, Table SVY-8): the target acknowledges TADDR while GPA0 and GPA1 have their alternate function. The
spec gives the target no register and no data of its own, so nothing else changes. -/
def execI2cTargetTransaction (addr : BitVec 7) (s : State) : Out :=
  .next (if s.running && s.gki PIN_FUNC 0 0 == 3 && s.gki PIN_FUNC 0 1 == 3 && s.g SVY_I2CCFG_TADDR == addr.toNat then s.emit (.i2cAck addr.toNat) else s)

/-! ### The benches (R405) -/

/-- The owner of a word that cannot be read (R405): a command fails, a payload in receive is asked for again from its sender, a copy from its owner;
a solid bench's owner decides. -/
def State.benchLost (s : State) : BenchOwner → State
  | .command slot => s.endIo slot 0x0240
  | .parcel p => s.askAgain p
  | .copy p => s.askAgain p
  | .solid => s

/-- BENCH_UNCORRECTABLE (R405, R407): a class B error in a bench word that master `m` transfers: counted, event 137; in a word that a later grant has
already overwritten it is counted, and no more. -/
def execBenchUncorrectable (m : Fin 26) (o : BenchOwner) (s : State) : Out :=
  .next (if !s.running then s
    else
      let s := s.bump BEN_ECC_UNCORR 1
      if (Tbl.find s.bench.last m).any (·.2) then s else ((s.p BEN_ERR_MASTER m).raise 137).benchLost o)

end Sys2Proof.Machine
end

