-- ==== Sys2Proof/Machine/GazSlots.lean ====
section
/-! DEFINITION. The Gazetteer's periodic work: the statistics slot, statistics pages, operating seconds, and the writing of the persistent area
(spec/18_gazetteer.md R614 to R624; spec/19_event_map.md R638; spec/20_selftest_debug.md R647). -/

namespace Sys2Proof.Machine

/-! ### The statistics slot -/

/-- The Event records of ended ticks are written, each with its first raising's timestamp (R638). -/
def State.eventRecords (s : State) : State :=
  let l := s.evt.due.filter fun d => d.2.2 != s.clk.edges
  let s : State := { s with evt := { s.evt with due := s.evt.due.filter fun d => d.2.2 == s.clk.edges } }
  l.foldl (fun (s : State) d => s.record (mkRec 0x24 32 [(16, 8, d.2.1), (24, 1, d.1)])) s

/-- STATISTICS_SLOT (R620, R638): the samples of the previous tick, then the event records that are due. -/
def execStatisticsSlot (s : State) : Out :=
  .next (if s.slotOpen 7 then ((s.atCycle 600).tickSamples.eventRecords).slotDone 7 else s)

/-! ### Pages (R624) -/

/-- A histogram page record of the page just ended (Table GAZ-2). -/
def State.histRecord (s : State) (i : Nat) : State :=
  let c := s.histCfg i
  let h : Hist := Tbl.getD s.gaz.histPrev i {}
  s.record (mkRec 0x22 176 ([(16, 8, s.gaz.prevEnd), (24, 1, i), (25, 1, c.1), (26, 2, c.2.2.1), (28, 4, s.gaz.prevIncomp)] ++
    (h.counts.zipIdx).map fun v => (32 + 4 * v.2, 4, v.1)))

/-- An extremes page record of the page just ended; the values of a page without a sample are free (assumption log 3). -/
def State.extRecord (s : State) (i : Nat) : State :=
  let c := s.extCfg i
  let b := s.extBytes 0 (Tbl.find s.gaz.extPrev i)
  s.fresh.record (mkRec 0x23 64 [(16, 8, s.gaz.prevEnd), (24, 1, i), (25, 1, c.1), (26, 2, c.2.2), (28, 4, leAt b 0 4), (32, 4, leAt b 4 4),
    (40, 8, leAt b 8 8), (48, 8, leAt b 16 8)])

/-- The current page becomes the previous one, a new page starts empty, and the persistent records of the ended page are made. -/
def State.pageEdge (s : State) : State :=
  let g := s.gaz
  let inc := s.g GAZ_INCOMP
  let s : State := { s with
    gaz := { g with
      histPrev := g.hist, extPrev := g.ext, hist := [], ext := [], prevStart := g.pageStart, prevEnd := s.now, pageStart := s.now, pageEdges := 0,
      prevIncomp := inc } }
  let s := (s.p GAZ_PAGE (s.g GAZ_PAGE + 1)).p GAZ_INCOMP 0
  let s := ((List.range s.nHist).filter fun i => (s.histCfg i).2.1).foldl State.histRecord s
  ((List.range s.nExt).filter fun i => (s.extCfg i).2.1).foldl State.extRecord s

/-- STATISTICS_PAGE_EDGE (R624): PAGE_TICKS edges of the page have passed. -/
def execStatisticsPageEdge (s : State) : Out :=
  .next (if s.running && s.gaz.paged && decide (s.pageTicks ≤ s.gaz.pageEdges) then s.pageEdge else s)

/-! ### Operating seconds (R614 to R616) -/

/-- A calibration period in operating seconds has passed since `last`; a period of 0 hours never does (R647). -/
def periodOver (hours last now : Nat) : Bool := decide (0 < hours) && decide (last + 3600 * hours ≤ now)

/-- Calibrations of the heads fall due by operating seconds (R647). -/
def State.calPeriods (s : State) : State :=
  let now := s.g GAZ_STAMP_OPSEC
  let td := s.secLe 0xA0 0 0 2 168
  let sep := s.secLe 0xA0 0 2 2 168
  (List.range s.nHead).foldl (fun (s : State) h => s.setHd h fun y => { y with
    tdDue := if y.tdDue.isNone && periodOver td y.tdLast now then some s.clk.edges else y.tdDue
    sepDue := if y.sepDue.isNone && periodOver sep y.sepLast now then some s.clk.edges else y.sepDue }) s

/-- One more operating second: a new window of PRATE, a clock mark at each hour (R614 to R616). -/
def State.opsecTick (s : State) : State :=
  let s : State := { s with gaz := { s.gaz with edges := s.gaz.edges - 250000, accepted := 0 } }
  let n := s.g GAZ_STAMP_OPSEC + 1
  let s := s.p GAZ_STAMP_OPSEC n
  let s := if s.g SYS_BOOT_STAGE = 4 then s.calPeriods else s
  let s := s.dropPersist
  if n % 3600 = 0 then s.record (mkRec 0x21 32 [(16, 8, s.now), (24, 5, n)]) else s

/-- OPSEC_TICK (R614): 250 000 edges since the scan, or since the last operating second. -/
def execOpsecTick (s : State) : Out := .next (if s.running && s.on GAZ_STAT_PREADY && decide (250000 ≤ s.gaz.edges) then s.opsecTick else s)

/-! ### The persistent area (R616 to R619) -/

/-- A program operation of the persistent area waits or runs. -/
def State.gazWriting (s : State) : Bool :=
  let w := fun (j : FlashJob) => j.why == .gazHead || (j.why == .gaz && !j.erase)
  s.chart.jobs.any w || s.chart.busy.any w

/-- The queue that may still be programmed: after sealing, the seal record alone (R619). -/
def State.pqueue (s : State) : List PRec := if s.on GAZ_STAT_SEALED then s.gaz.pq.filter fun e => e.r.typ == 0x09 else s.gaz.pq

/-- The record at the head of the queue is programmed at the append point. -/
def State.programRecord (s : State) (e : PRec) (rest : List PRec) : State :=
  let a := gazSector (s.g GAZ_PSECT) * 65536 + s.gaz.append
  let s : State := { s with gaz := { s.gaz with pq := rest, append := s.gaz.append + e.r.len } }
  let s := s.p GAZ_STAT_PQUEUE rest.length
  (s.flashAsk { prio := 5, erase := false, addr := a, bytes := flashBytes e, valid := some (a, [0]), why := .gaz }).dropPersist

/-- The write sector has room for a record of `n` bytes. -/
def State.sectorRoom (s : State) (n : Nat) : Bool := s.gaz.inUse && decide (s.gaz.append + n ≤ 65536)

/-- PERSISTENT_WRITE (R616, R617): the first record of the queue goes to the flash; where the write sector has no room for it, the next sector is taken
into use, once its erase has ended. -/
def execPersistentWrite (s : State) : Out :=
  match s.pqueue with
  | [] => .next s
  | e :: rest =>
    if s.running && s.on GAZ_STAT_PREADY && !s.on GAZ_STAT_PDIS && s.pwr.loss.isNone && !s.gazWriting then
      .next (if s.sectorRoom e.r.len then s.programRecord e rest
        else if s.on GAZ_STAT_SEALED then { s with gaz := { s.gaz with pq := [] } }
        else if s.gaz.nextReady then s.gazTakeNext
        else s)
    else .next s

end Sys2Proof.Machine
end

