-- ==== Sys2Proof/Machine/Spindle.lean ====
section
/-! DEFINITION. The spindle machine: start, listen, brake, regulation, observer, rotor loss (spec/07_spindle.md). -/

namespace Sys2Proof.Machine

/-! ### Bands and speeds -/

/-- TARGET in rpm, pole pairs, KE in µV per rpm (Table SPN-1). -/
def State.target (s : State) : Nat := s.spnLe 0 2
def State.poles (s : State) : Nat := s.spnLe 2 1
def State.ke (s : State) : Nat := s.spnLe 4 2

/-- The observer speed in 0.1 rpm, signed. -/
def State.speed (s : State) : Int := toSigned 21 (s.g SPN_SPEED_SPEED)

/-- A speed lies inside TARGET ± a half-width in 0.001 %; the band is closed (R238). -/
def inBand (target half : Nat) (speed : Int) : Bool := decide ((speed - 10 * target).natAbs * 10000 ≤ target * half)

/-- The speed is inside the regulation band; inside the write band. -/
def State.inR (s : State) (v : Int) : Bool := inBand s.target (s.spnLe 6 2) v
def State.inW (s : State) (v : Int) : Bool := inBand s.target (s.spnLe 8 2) v

/-- Edges since the spindle machine entered its state. -/
def State.spnFor (s : State) : Nat := s.clk.edges - s.spn.stateEdge

/-- Change the spindle's record. -/
def State.setSpn (s : State) (f : Spn → Spn) : State := { s with spn := f s.spn }

/-! ### Start -/

/-- A start attempt begins in state `st`: it counts in ATTEMPT. -/
def State.attempt (s : State) (st : Nat) : State :=
  ((s.p SPN_STAT_ATTEMPT (min 3 (s.g SPN_STAT_ATTEMPT + 1))).enterSpn st).setSpn fun p => { p with confRun := 0, overruns := 0 }

/-- Start attempts are exhausted or the spin-up limit has passed: FAILED, event 86 (R234, R236). -/
def State.startFailed (s : State) : State := s.spindleFail.raise 86

/-- An attempt has failed: BRAKE, or FAILED at the third (R234). -/
def State.attemptFail (s : State) : State :=
  if s.g SPN_STAT_ATTEMPT ≥ 3 then s.startFailed else s.spindleBrakeFor 0

/-- SPINDLE_START_ORDER (R228): the order begins the listen with the bridge off; from BRAKE and COAST at the next tick edge (Table
SPN-5, rank 4), and not before the bridge has ended its rectification (R254). A Standby brake stops. -/
def execSpindleStartOrder (s : State) : Out :=
  let st := s.g SPN_STAT_STATE
  match s.spn.order with
  | none => .next s
  | some src =>
    if s.running && !s.on SPN_STAT_RECT && st != 10 && ((st != 2 && st != 9) || decide (s.spn.orderEdge < s.clk.edges)) then
      let s := (s.p SPN_STAT_ATTEMPT 0).enterSpn 1
      .next (s.setSpn fun p => { p with
        order := none, source := some src, brakeTicks := 0, confRun := 0, spin := none, listen := { start := s.instant } })
    else .next s

/-- The step from angle `a` to angle `b`, in (−½, ½] of a turn of 150 000 000 units. -/
def turnStep (a b : Int) : Int :=
  let d := (b - a) % 150000000
  if 75000000 < d then d - 150000000 else d

/-- An update of the listen: its step, its amplitude, and the determination once the advance is 60° with A ≥ A30 at every update and no step over 5°
against it (Table SPN-3). -/
def Listen.update (l : Listen) (a30 now : Nat) (x : ObsIn) : Listen :=
  let d := match l.last with
    | some a => turnStep a x.angle
    | none => 0
  let l := { l with
    last := some x.angle, adv := l.adv + d, back := l.back || decide (72 * d < -150000000), fwd := l.fwd || decide (150000000 < 72 * d)
    low := some (min x.emf (l.low.getD x.emf)), high := max l.high x.emf }
  let steady := if 0 ≤ l.adv then !l.back else !l.fwd
  if l.hit.isNone ∧ 25000000 ≤ l.adv.natAbs ∧ steady ∧ a30 ≤ l.low.getD 0 ∧ now < l.start + 100000000 then { l with hit := some (now, l.adv, x.emf) } else l

/-- The listen speed in 0.1 rpm: the advance over the time it took (R229), by its magnitude. -/
def State.listenSpeed (s : State) (h : Nat × Int × Nat) : Nat :=
  roundFree (h.2.1.natAbs * 20000) (max 1 (s.poles * (h.1 - s.spn.listen.start))) (s.freeAt 0)

/-- The listen case, its length in units of 0.2 ns and its signed speed; none while undetermined (Table SPN-3, R228, R229). -/
def State.listenCase (s : State) : Option (Nat × Nat × Int) :=
  let l := s.spn.listen
  match l.hit with
  | some h =>
    let v := s.listenSpeed h
    let sv : Int := if h.2.1 < 0 then -(v : Int) else v
    let c := if 4 * distN (10 * h.2.2) (v * s.ke) ≤ v * s.ke then (if h.2.1 < 0 then 3 else if 3000 < v then 1 else 2) else 4
    some (c, h.1 - l.start, sv)
  | none =>
    if s.instant < l.start + 100000000 then none
    else some (if l.high < 30 * s.ke then 0 else 4, 100000000, 0)

/-- The fields of a spin-start record (Table GAZ-2, type 0x0A). -/
def spinFields (r : SpinRec) (attempts brake toSpeed : Nat) : List (Nat × Nat × Nat) :=
  [(16, 8, r.ts), (24, 1, r.case), (25, 1, r.source), (26, 1, attempts), (28, 4, r.ticks), (32, 4, ofSigned 32 r.speed),
    (36, 4, brake), (40, 4, toSpeed)]

/-- The PWM period in units of 0.2 ns (Table SPN-1), and the instant at which the next one begins. -/
def State.pwmPeriod (s : State) : Nat := 20000 * 2 ^ (3 - s.spnLe 3 1)
def State.nextPwm (s : State) : Nat := (s.instant / s.pwmPeriod + 1) * s.pwmPeriod

/-- CATCH begins: the observer takes the listen's angle and speed, and the bridge goes on in the next PWM period with a voltage vector equal to the
measured back-EMF (R233). -/
def State.catchRotor (s : State) (v : Int) : State :=
  let l := s.spn.listen
  let a := l.last.getD 0
  let s := (s.p SPN_SPEED_SPEED (ofSigned 21 v)).attempt 5
  s.setSpn fun p => { p with
    obsAngle := a, angle := a, rate := v * (s.poles : Int), volt := some ((l.hit.map (·.2.2)).getD 0), bridgeAt := s.nextPwm }

/-- The listen state has found case `c` after `len` with speed `v`: its registers and record, then where the case leads (R230, R233). DESIGN CHOICE
(log 155): the duration in ticks is rounded down. -/
def State.listened (s : State) (c len : Nat) (v : Int) : State :=
  let t := len / 20000
  let r : SpinRec := { ts := s.now, case := c, source := s.spn.source.getD 0, ticks := t, speed := v }
  let s := ((s.p SPN_STAT_CASE c).p SPN_LISTEN_DUR t).p SPN_LISTEN_RPM (v.natAbs / 10)
  let s := s.setSpn fun p => { p with spin := some r }
  let s := ((s.raise 81).record (mkRec 0x0A 48 (spinFields r 0xFF 0xFFFFFFFF 0xFFFFFFFF))).fresh
  if c = 1 then s.catchRotor v else if c = 0 then s.attempt 3 else s.spindleBrakeFor 0

/-- LISTEN_END (R230): the listen ends at its first determined case or after 20 ms; event 81 and the opening spin-start record; CATCH
takes the listen speed (R233), Rest goes to ALIGN with no brake, the others to BRAKE. `c` is the cycle of the tick in which it ends: the 20 ms end in
the middle of a tick. -/
def execListenEnd (c : Nat) (s : State) : Out :=
  let s := s.atCycle (min c (s.tickLen - 1))
  match s.listenCase with
  | none => .next s
  | some (c, n, v) => .next (if s.running && s.g SPN_STAT_STATE == 1 then s.listened c n v else s)

/-- The Standby entry is complete: CUR becomes Standby (R253); a Vigil order goes on from there. -/
def State.standbyReached (s : State) : State :=
  let s : State := { s with pwr := { s.pwr with entering := none } }
  s.powerState 2

/-- The brake is in the last 0.5 ms of its cycle of 2 ms: a listen window (R231). -/
def State.brakeListens (s : State) : Bool := decide (375 ≤ s.spnFor % 500)

/-- BRAKE_END (R231): the back-EMF stayed below A30 in two listen windows in a row, `a` and `b` being its amplitude at the last update of each. What the
brake served decides: ALIGN, OFF with Standby reached (R253), or FAILED (R250). -/
def execBrakeEnd (a b : Nat) (s : State) : Out :=
  if s.running && s.g SPN_STAT_STATE == 2 && decide (2 ≤ s.spn.winRun) && decide (a < 30 * s.ke) && decide (b < 30 * s.ke) then
    let n := s.spnFor
    match s.spn.brakeWhy with
    | 0 => .next ((s.setSpn fun p => { p with brakeTicks := p.brakeTicks + n }).attempt 3)
    | 1 => .next ((s.enterSpn 0).standbyReached)
    | _ => .next ((s.lossRecord 2).spindleFail)
  else .next s

/-- ALIGN_END (R232): after ALIGN_T, in ms, the vector begins to rotate. -/
def execAlignEnd (s : State) : Out :=
  .next (if s.running && s.g SPN_STAT_STATE == 3 && decide (250 * s.spnLe 16 2 ≤ s.spnFor) then s.enterSpn 4 else s)

/-- Ticks of the ramp to HANDOFF (R232). -/
def State.handoffTicks (s : State) : Nat := ceilDiv (s.spnLe 20 2 * 250000) (max 1 (s.spnLe 18 2))

/-- The attempt has come where confidence decides: CATCH, or RAMP at HANDOFF (R232, R233). -/
def State.atHandoff (s : State) : Bool :=
  s.g SPN_STAT_STATE == 5 || (s.g SPN_STAT_STATE == 4 && decide (s.handoffTicks ≤ s.spnFor))

/-- ATTEMPT_SUCCESS (R232, R233): 64 consecutive ticks of confidence at or above CONF_TH. -/
def execAttemptSuccess (s : State) : Out :=
  .next (if s.running && s.atHandoff && decide (64 ≤ s.spn.confRun) then s.enterSpn 6 else s)

/-- ATTEMPT_FAIL (R234): 250 ms past HANDOFF, or 250 ticks in CATCH, without success. -/
def execAttemptFail (s : State) : Out :=
  let lim := if s.g SPN_STAT_STATE = 5 then 250 else s.handoffTicks + 62500
  .next (if s.running && s.atHandoff && decide (s.spn.confRun < 64) && decide (lim ≤ s.spnFor) then s.attemptFail else s)

/-- ACCEL_IN_BAND (R235): the speed has entered the regulation band. -/
def execAccelInBand (s : State) : Out :=
  .next (if s.running && s.g SPN_STAT_STATE == 6 && s.inR s.speed then s.enterSpn 7 else s)

/-- What a start order's AT_SPEED lets go on, by its source: the heads stage, the loads of Standby to Run, of a hold's end, of a
restart (R90, R204, R248, Table PWR-8). -/
def State.startDone (s : State) (src : Nat) : State :=
  match src with
  | 0 => s.spindleStageEnd
  | 1 => s.loadAll 2
  | n =>
    let l := s.spn.restart.getD []
    l.foldl (fun s k => s.loadAct k (if n = 2 then 1 else 4)) (s.setSpn fun p => { p with restart := none })

/-- A start order of source `src` is done: its closing record, and what the source waited for (Table SPN-5). -/
def State.orderDone (s : State) (src : Nat) : State :=
  let n := s.clk.edges - s.spn.orderEdge
  let s := match s.spn.spin with
    | some r => s.record (mkClose 0x0A 48 (spinFields r (s.g SPN_STAT_ATTEMPT) s.spn.brakeTicks n))
    | none => s
  (s.setSpn fun p => { p with source := none, spin := none }).startDone src

/-- AT_SPEED (R238): 250 consecutive ticks inside the regulation band; event 80, the closing spin-start record with attempts, brake time
and time to AT_SPEED (R230), and what waited for the speed. -/
def execAtSpeed (s : State) : Out :=
  if s.running && s.g SPN_STAT_STATE == 7 && !s.on SPN_STAT_AT_SPEED && decide (250 ≤ s.spn.bandRun) then
    let s := (s.p SPN_STAT_AT_SPEED 1).raise 80
    match s.spn.source with
    | none => .next s
    | some src => .next (s.orderDone src)
  else .next s

/-- SPINUP_LIMIT (R236): SPINUP_MAX, in units of 0.1 s, has passed since the start order without AT_SPEED. -/
def execSpinupLimit (s : State) : Out :=
  .next (if s.running && s.spn.source.isSome && decide (25000 * s.spnLe 24 2 ≤ s.clk.edges - s.spn.orderEdge) then
    s.startFailed else s)

/-- BRAKE_MAX_EXPIRY (R236, R253): a brake that passes BRAKE_MAX raises event 90; for Standby the spindle coasts and Standby is reached,
else it is FAILED. -/
def execBrakeMaxExpiry (s : State) : Out :=
  if s.running && s.g SPN_STAT_STATE == 2 && decide (25000 * s.spnLe 26 2 ≤ s.spnFor) then
    if s.spn.brakeWhy = 1 then .next (((s.enterSpn 9).raise 90).standbyReached)
    else .next (((s.lossRecord 2).spindleFail).raise 90)
  else .next s

/-! ### Regulation -/

/-- The speed leaves the write band (R239): gates drop, event 87. -/
def State.bandExit (s : State) : State :=
  let s := (s.p SPN_STAT_WB_OK 0).setSpn fun p => { p with wbOut := true, wbRun := 0 }
  s.gateDropAll.raise 87

/-- The current command of the PI controller and its integrator, in mA / 2560, limited to I_RUN_MAX; the integrator stops in a tick in
which the command is at the limit and the error would drive it further (R237). -/
def piStep (kp ki lim : Nat) (integ err : Int) : Int × Int :=
  let lim : Int := 2560 * lim
  let u := kp * err + integ
  let integ := if (lim ≤ u ∧ 0 < err) ∨ (u ≤ -lim ∧ err < 0) then integ else integ + ki * err
  (clampI (-lim) lim (kp * err + integ), integ)

/-- The electrical rate of the open-loop ramp, in 0.1 rpm × pole pairs: RAMP_ACC over the time in RAMP, held at HANDOFF (R232). -/
def State.rampRate (s : State) : Int :=
  ((roundFree (min (s.spnLe 18 2 * s.spnFor) (s.spnLe 20 2 * 250000) * 10 * s.poles) 250000 (s.freeAt 1) : Nat) : Int)

/-- The schedule that the commutator loads: rate, angle at its start, and the back-EMF that its voltage vector equals, if so (R232, R233, R246). -/
def State.schedule (s : State) (v : Int) : Int × Int × Option Nat :=
  let p := s.spn
  match s.g SPN_STAT_STATE with
  | 3 => (0, 0, none)
  | 4 => (s.rampRate, p.angle + p.rate, none)
  | 5 => (v * (s.poles : Int), p.obsAngle, some p.emf)
  | 6 | 7 => (v * (s.poles : Int), p.obsAngle, none)
  | 8 => (p.rate, p.angle + p.rate, p.volt)
  | _ => (0, 0, none)

/-- The commutator's work in its slot: the current command of the state it is in, and the next schedule (R232, R233, R237, R239, R246). -/
def State.commutate (s : State) : State :=
  let s := (s.atCycle 119).slotDone 4
  let st := s.g SPN_STAT_STATE
  let v := toSigned 21 (s.latch.get SPN_SPEED_SPEED 0 0)
  let r := if st = 7 then piStep (s.spnLe 28 2) (s.spnLe 30 2) (s.spnLe 10 2) s.spn.integ (10 * (s.target : Int) - v)
    else ((if st = 6 then 2560 * (s.spnLe 10 2 : Int) else if st = 3 ∨ st = 4 then 2560 * (s.spnLe 14 2 : Int) else 0), s.spn.integ)
  let c := s.schedule v
  (s.setSpn fun p => { p with cmd := r.1, integ := r.2, rate := c.1, angle := c.2.1 % 150000000, volt := c.2.2 }).fresh

/-- COMMUTATOR_SLOT (R239): the next schedule from the latched observer speed, loaded at cycle 119, and the check against the write
band. -/
def execCommutatorSlot (s : State) : Out :=
  if s.slotOpen 4 then
    let v := toSigned 21 (s.latch.get SPN_SPEED_SPEED 0 0)
    .next (if s.commutate.on SPN_STAT_WB_OK && !s.commutate.inW v then s.commutate.bandExit else s.commutate)
  else .next s

/-- WRITE_BAND_RESUME (R240): 25 consecutive ticks inside the write band; event 88 where writes had stopped. -/
def execWriteBandResume (s : State) : Out :=
  if s.running && s.g SPN_STAT_STATE == 7 && !s.on SPN_STAT_WB_OK && decide (25 ≤ s.spn.wbRun) then
    let was := s.spn.wbOut
    let s := (s.p SPN_STAT_WB_OK 1).setSpn fun p => { p with wbOut := false }
    .next (if was then s.reissue.raise 88 else s)
  else .next s

/-! ### The observer and rotor loss -/

/-- The raw confidence as a fraction (R242): back-EMF in µV, speed in 0.1 rpm, residual in mA; the denominator is 0 at rest. -/
def rawConf (ke imax emf speed resid : Nat) : Nat × Nat :=
  let d := ke * speed
  (255 * min (10 * emf) d * (imax - 4 * resid), d * imax)

/-- Rotor loss is declared (R243 to R245, R250): gates drop, calibration slices end (R652), RECOVER, event 83, the relock count; above RELOCK_MAX the actuators park and
the spindle brakes to FAILED, with event 89. -/
def State.rotorLoss (s : State) (cause : Nat) : State :=
  let v := s.speed.natAbs
  let s := s.gateDropAll.abandonSlices
  let s := s.bump SPN_RELOCK_COUNT 1
  let s := s.enterSpn 8
  let s := s.p SPN_STAT_WB_OK 0
  let l : Loss := { cause := cause, ts := s.now, at_ := s.instant, speed := v, fc := v * s.poles / 6 }
  let s := s.setSpn fun p => { p with
    loss := some l, wbOut := true, wbRun := 0, overruns := 0, angle := p.obsAngle, rate := 6 * (l.fc : Int), volt := some p.emf, bridgeAt := s.nextPwm }
  let s := s.raise 83
  if s.spnLe 44 1 < s.g SPN_RELOCK_COUNT then ((s.raise 89).eparkAll 20).spindleBrakeFor 2 else s

/-- The new confidence: C + (c − C) / 8, rounded once; without speed the raw confidence has no stated value (R242). -/
def State.newConf (s : State) (x : ObsIn) : Nat :=
  let c := s.g SPN_OBS_CONF
  let f := rawConf s.ke (s.spnLe 10 2) x.emf x.speed.natAbs x.resid
  if f.2 = 0 then (7 * c + s.freeAt 0 % 256) / 8 else min 255 (roundFree (7 * c * f.2 + f.1) (8 * f.2) (s.freeAt 0))

/-- An update in a brake: the current at I_BRAKE turns the low-side gates off for the rest of the PWM period; in a listen window the back-EMF is
watched (R231). -/
def State.brakeUpdate (s : State) (x : ObsIn) : State :=
  if s.brakeListens then s.setSpn fun p => { p with winMax := some (max x.emf (p.winMax.getD 0)) }
  else if s.spnLe 12 2 ≤ x.iamp then s.setSpn fun p => { p with chop := s.nextPwm }
  else s

/-- The observer's new confidence, speed, angle and current, whether its tick saw the confidence low or the speed outside a band; AT_SPEED outside the
write band goes, and counts its 250 ticks anew (R242, R238). -/
def State.observed (s : State) (x : ObsIn) : State :=
  let c := s.newConf x
  let s := ((s.p SPN_OBS_CONF c).p SPN_SPEED_SPEED (ofSigned 21 x.speed)).p SPN_OBS_IAMP x.iamp
  let s := s.fresh
  let st := s.g SPN_STAT_STATE
  let r := s.inR x.speed
  let w := s.inW x.speed
  let s := s.setSpn fun p => { p with
    confLow := p.confLow || decide (c < s.spnLe 22 1), obsAngle := x.angle, emf := x.emf, rOut := p.rOut || !r, wOut := p.wOut || !w
    bandRun := if r then p.bandRun else 0
    wbRun := if w then p.wbRun else 0 }
  let s := if st = 1 then s.setSpn fun p => { p with listen := p.listen.update (30 * s.ke) s.instant x } else if st = 2 then s.brakeUpdate x else s
  if (st == 7 || st == 8) && !w then s.p SPN_STAT_AT_SPEED 0 else s

/-- OBSERVER_UPDATE (R242): the corrected speed, the current and the confidence; below CONF_TH in ACCEL or REGULATE it declares rotor loss
with cause 1 (R243). Outside the write band AT_SPEED goes (R238). -/
def execObserverUpdate (x : ObsIn) (s : State) : Out :=
  if s.running then
    let st := s.g SPN_STAT_STATE
    .next (if decide (s.newConf x < s.spnLe 22 1) && (st == 6 || st == 7) then (s.observed x).rotorLoss 1 else s.observed x)
  else .next s

/-- OVERCURRENT_TRIP (R226): a shunt current, in mA, above 1.5 times the largest limit turns the bridge and the write gates off; in a start
state the attempt fails (R234), in ACCEL or REGULATE rotor loss is declared with cause 3 (R244). -/
def execOvercurrentTrip (i : Nat) (s : State) : Out :=
  if s.running && decide (3 * max (s.spnLe 10 2) (max (s.spnLe 12 2) (s.spnLe 14 2)) < 2 * i) then
    let s := s.gateDropAll.setSpn fun p => { p with bridge := .off }
    let st := s.g SPN_STAT_STATE
    .next (if st = 3 ∨ st = 4 ∨ st = 5 then s.attemptFail else if st = 6 ∨ st = 7 then s.rotorLoss 3 else s)
  else .next s

/-- The speed lies within 5 % of 60 × f_c / POLES (R247). -/
def nearFc (speed poles fc : Nat) : Bool := decide (20 * distN (speed * poles) (6 * fc) ≤ 6 * fc)

/-- A coast period of a rotor loss in units of 0.2 ns, times f_c in 0.01 Hz. -/
def coastPeriod : Nat := 500000000000

/-- The rotor-loss sequence is in the listen window at the end of a coast period: its last LISTEN_W × 15° (R246). -/
def State.coastListens (s : State) (l : Loss) : Bool :=
  decide (coastPeriod * (24 - s.spnLe 45 1) ≤ 24 * ((s.instant - l.at_) * l.fc % coastPeriod))

/-- RECOVER_LISTEN_WINDOW (R247): the window at the end of a coast period, of length 1 / f_c from the declaration (R246); the second in a row that
qualifies, with the speed near f_c, re-acquires at the next edge. -/
def execRecoverListenWindow (s : State) : Out :=
  match s.spn.loss with
  | none => .next s
  | some l =>
    if s.running && s.g SPN_STAT_STATE == 8 && decide ((l.periods + 1) * coastPeriod ≤ (s.instant - l.at_) * l.fc) then
      let ok := decide (s.spnLe 22 1 + s.spnLe 23 1 ≤ s.g SPN_OBS_CONF)
      let run := if ok then l.okRun + 1 else 0
      let back := decide (2 ≤ run) && nearFc s.speed.natAbs s.poles l.fc
      .next (s.setSpn fun p => { p with loss := some { l with periods := l.periods + 1, okRun := run, back := back } })
    else .next s

/-- REACQUISITION_FAIL (R248): 16 coast periods have ended without re-acquisition: event 85, emergency park of every loaded actuator, COAST
with the bridge off, and a restart when all are parked, but not for a waiting Standby entry (Table SPN-5, rank 3). -/
def execReacquisitionFail (s : State) : Out :=
  match s.spn.loss with
  | none => .next s
  | some l =>
    if s.running && s.g SPN_STAT_STATE == 8 && decide (16 ≤ l.periods) && !l.back then
      let list := s.actList.filter s.loaded
      let s := ((s.raise 85).eparkAll 19).lossRecord 1
      let s := s.enterSpn 9
      .next (s.setSpn fun p => { p with restart := if s.pwr.entering.isSome then none else some list })
    else .next s

/-- ROTOR_RESTART_ORDER (R248): every actuator is parked after the failed re-acquisition. -/
def execRotorRestartOrder (s : State) : Out :=
  .next (if s.running && s.g SPN_STAT_STATE == 9 && s.spn.restart.isSome && s.allParked && s.spn.order.isNone then
    s.spindleStart 3 else s)

/-- RELOCK_COUNT_RESET (R250): 250 000 consecutive ticks at speed. -/
def execRelockCountReset (s : State) : Out :=
  .next (if s.running && decide (250000 ≤ s.spn.atRun) then s.p SPN_RELOCK_COUNT 0 else s)

/-! ### Standby and retract -/

/-- STANDBY_BRAKE_START (R253): the heads are unloaded for a Standby entry; the spindle brakes from REGULATE, or from COAST after a failed
rotor-loss sequence (Table SPN-5, rank 3). A spindle at rest or FAILED has nothing to brake. -/
def execStandbyBrakeStart (s : State) : Out :=
  let st := s.g SPN_STAT_STATE
  if s.running && s.pwr.entering.isSome && s.allParked then
    .next (if st = 7 ∨ st = 9 then s.spindleBrakeFor 1 else if st = 0 ∨ st = 10 then s.standbyReached else s)
  else .next s

/-- RETRACT_COMPLETE (R254): every retract is complete: the bridge stops rectifying; the machine is in COAST since the crossing (R252), and a start
order that has come since goes on. DEDUCED (log 153). -/
def execRetractComplete (s : State) : Out :=
  .next (if s.on SPN_STAT_RECT && s.retr.isEmpty then s.p SPN_STAT_RECT 0 else s)

/-! ### The gates of the bridge (R224, R225) -/

/-- What the bridge does at the present instant: rectification goes before all; else off before its begin, in every listen window and while a brake is
chopped (R225, R231, R233, R246, R254). -/
def State.bridgeNow (s : State) : Bridge :=
  let p := s.spn
  if s.on SPN_STAT_RECT then (if s.spnLe 22 1 ≤ s.g SPN_OBS_CONF then .rect else .off)
  else if s.instant < p.bridgeAt then .off
  else match p.bridge with
    | .short => if s.brakeListens || decide (s.instant < p.chop) then .off else .short
    | .drive => (match p.loss with
      | some l => if s.g SPN_STAT_STATE = 8 ∧ s.coastListens l then .off else .drive
      | none => .drive)
    | b => b

/-- The gates of a phase at offset `t` of a centre-aligned PWM period in which the high side is asked for `on`: between the two sides both stay off for
the dead time (R224). -/
def legAt (period dead on t : Nat) : Leg :=
  let rise := (period - on) / 2
  let fall := rise + on
  if t < rise then .low
  else if t < rise + dead then .off
  else if t < fall then .high
  else if t < fall + dead then .off
  else .low

/-- The gates of phase `ph` (R224, R225, R231, R254): DEADTIME is in units of 10 ns. The on-time that a voltage vector asks of a phase and the phases
that a synchronous rectifier turns on at an angle are free values (assumption log 156). -/
def State.leg (s : State) (ph : Nat) : Leg :=
  match s.bridgeNow with
  | .off => .off
  | .short => .low
  | .rect => if s.freeAt (16 + ph) % 2 = 0 then .low else .off
  | .drive => legAt s.pwmPeriod (50 * s.spnLe 46 1) (s.freeAt (16 + ph) % (s.pwmPeriod + 1)) (s.instant % s.pwmPeriod)

/-! ### The edge -/

/-- A commutator overrun (R234, R244): the previous schedule repeats at the first; the second in a row fails a start attempt, or declares
rotor loss with cause 2. -/
def State.commOverrun (s : State) (ovr : Bool) : State :=
  if !ovr then s.setSpn fun p => { p with overruns := 0 }
  else
    let n := s.spn.overruns + 1
    let s := s.setSpn fun p => { p with overruns := n }
    let st := s.g SPN_STAT_STATE
    if n < 2 then s
    else if st = 3 ∨ st = 4 ∨ st = 5 then s.attemptFail
    else if st = 6 ∨ st = 7 then s.rotorLoss 2
    else s

/-- What the spindle counts at a tick edge, and a re-acquisition that waits for it (R231, R232, R238, R240, R247, R250). -/
def State.spindleEdge (s : State) : State :=
  let st := s.g SPN_STAT_STATE
  let v := s.speed
  let conf := (st == 4 || st == 5) && s.atHandoff && !s.spn.confLow && decide (s.spnLe 22 1 ≤ s.g SPN_OBS_CONF)
  let up := fun (b : Bool) (n : Nat) => if b then n + 1 else 0
  let a30 := 30 * s.ke
  let win := st == 2 && decide (0 < s.spnFor) && s.spnFor % 500 == 0
  let s := s.setSpn fun p => { p with
    winRun := if win then up (p.winMax.any fun a => decide (a < a30)) p.winRun else p.winRun
    winMax := if win then none else p.winMax
    confRun := up conf p.confRun
    confLow := false
    rOut := false
    wOut := false
    bandRun := up (st == 7 && s.inR v && !p.rOut) p.bandRun
    wbRun := up (st == 7 && s.inW v && !p.wOut) p.wbRun
    atRun := up (s.on SPN_STAT_AT_SPEED) p.atRun }
  match s.spn.loss with
  | some l => if st = 8 ∧ l.back then ((s.lossRecord 0).enterSpn 7).raise 84 else s
  | none => s

end Sys2Proof.Machine
end

