-- ==== Sys2Proof/Machine/Tick.lean ====
section
/-! DEFINITION. The tick edge: the counter, its load, overruns, frequency changes, the edge latch, what the tick's counts and pin flags become,
covering messages and event parcels (spec/02_graticule.md R53 to R76, R701; spec/01_capture_model.md R45 to R49, R702; spec/19_event_map.md R636, R639),
and the snapshot slot, which an edge may cut short (spec/18_gazetteer.md R625 to R627). -/

namespace Sys2Proof.Machine

/-! ### Snapshots (R625 to R627) -/

/-- The lists that the slot captures: up to four armed ones, in list order, none armed too late for this tick (R625, R626). -/
def State.dueLists (s : State) : List (Nat × Nat × Nat × List Nat) :=
  (s.snapLists.filter fun l => match Tbl.find s.gaz.armed l.1 with
    | some a => !a.next
    | none => false).take 4

/-- A snapshot record of list `l` with its first `n` values captured, the list disarmed, event 9 (Table GAZ-2, R626, R627). -/
def State.snapRecord (s : State) (l : Nat × Nat × Nat × List Nat) (a : Arm) (n : Nat) : State :=
  let k := l.2.2.2.length
  let c := min n k
  let head := [(16, 8, a.ts), (24, 8, s.now), (32, 1, l.1), (33, 1, a.event), (34, 1, k), (35, 1, c), (36, 1, b2n (decide (c < k)) + 2 * b2n a.merged)]
  let vals := ((l.2.2.2.take c).zipIdx).map fun v => (40 + 4 * v.2, 4, s.peek v.1)
  let r := { mkRec 0x1F (16 * ceilDiv (44 + 4 * k) 16) (head ++ vals) with persist := bitAt l.2.2.1 0 }
  let s : State := { s with gaz := { s.gaz with armed := Tbl.del s.gaz.armed l.1 } }
  (s.record r).raise 9

/-- The due lists are captured; `left` values are captured in all before the edge cuts the slot short, none meaning every value. -/
def State.snapshot (s : State) (left : Option Nat) : State :=
  (s.dueLists.foldl (fun (x : State × Option Nat) l =>
    match Tbl.find x.1.gaz.armed l.1 with
    | none => x
    | some a =>
      let k := l.2.2.2.length
      (x.1.snapRecord l a (x.2.getD k), x.2.map fun n => n - k)) (s, left)).1

/-- SNAPSHOT_SLOT (R626): the due lists are captured; `captured` gives the values captured where the edge finds the capture unfinished (R627). -/
def execSnapshotSlot (captured : Option Nat) (s : State) : Out :=
  if s.slotOpen 13 && s.chart.applied && !bitAt s.clk.slots 15 then
    let s := s.atCycle 3400
    .next ((s.snapshot captured).slotDone (if captured.isNone then 13 else 15))
  else .next s

/-! ### Pin flags (R702) -/

/-- Loops `kind`·100 + i, for the instances given: some step of the ended tick was pinned; some was held. -/
def State.anyPinned (s : State) (kind : Nat) (l : List Nat) : Bool := l.any fun i => (s.loopAt (loopId kind i)).pinned
def State.anyHeld (s : State) (kind : Nat) (l : List Nat) : Bool := l.any fun i => (s.loopAt (loopId kind i)).held

/-- A loop at the edge: the flags of the ended tick have passed into the registers; the run and the episode stay. -/
def Loop.edge (l : Loop) : Loop := { l with pinned := false, last := l.which, which := 0, held := false }

/-- The registers of the pin flags follow the steps of the ended tick (R702). -/
def State.pinEdge (s : State) : State :=
  let pin := fun k i => b2n (s.loopAt (loopId k i)).pinned
  let which := fun k i b => b2n (bitAt (s.loopAt (loopId k i)).which b)
  let all : List (Nat × List Nat) := [(0, [0]), (1, List.range 20), (2, List.range 4), (3, List.range 24), (4, [0])]
  let t := ([SYS_LOOPPIN_AVS_PIN, SYS_LOOPPIN_FH_PIN, SYS_LOOPPIN_CHN_PIN, SYS_LOOPPIN_SD_PIN, SYS_LOOPPIN_PLC_PIN].zip all).foldl (fun (t : State) e =>
    t.p e.1 (b2n (s.anyPinned e.2.1 e.2.2))) s
  let t := t.p SYS_LOOPPIN_HELD (maskOf 5 fun k => match all[k]? with
    | some e => s.anyHeld e.1 e.2
    | none => false)
  let t := (t.p SVY_AVS_PIN (pin 0 0)).p MED_PLC_PIN (pin 4 0)
  let t := (List.range 20).foldl (fun (t : State) h => (t.pk CHN_FH_PIN h (pin 1 h)).pk CHN_FH_HELD h (b2n (s.loopAt (loopId 1 h)).held)) t
  let t := (List.range 4).foldl (fun (t : State) k => (t.pk CHN_STAT_FIR_PIN k (which 2 k 0)).pk CHN_STAT_THR_PIN k (which 2 k 1)) t
  let t := (List.range 24).foldl (fun (t : State) n => t.pki FAB_LANE_PIN 0 n (pin 3 n)) t
  { t with loops := t.loops.map fun e => (e.1, e.2.edge) }

/-! ### The counter, the clock, the latch -/

/-- Slots that this edge finds unfinished (R65): of those reported, the ones whose work has not ended; a capture cut short is one, and a run that an
engine stopped (R305). Before the first tick there are none. -/
def State.overrunAt (s : State) (x : TickIn) : Nat :=
  if s.clk.started then
    maskOf 15 fun b => (bitAt x.overran b && !bitAt s.clk.slots b) || (b == 13 && bitAt s.clk.slots 15) ||
      (decide (b < 4) && (Tbl.getD s.eng b {}).stop.isSome)
  else 0

/-- The number of the tick that begins at this edge: the loaded one, or the next; the first tick is 0, or goes on with the count kept through Vigil
(R58, R74, R200). -/
def State.nextTick (s : State) : Nat :=
  match s.clk.load with
  | some n => n % 2 ^ 48
  | none => if !s.clk.started && s.g SVY_RSTCAUSE_CAUSE != 6 then 0 else (s.clk.tick + 1) % 2 ^ 48

/-- The edge itself (R58, R701): the number of the new tick, its first cycle, the latch of the ended tick's values. -/
def State.edgeStart (s : State) : State :=
  { s with
    clk := { s.clk with
      tick := s.nextTick, cycle := 0, slots := 0, edges := s.clk.edges + 1, started := true, reqLate := false
      base := s.clk.base + (if s.clk.started then s.tickLen else 0), prevTick := s.clk.tick, prevEcon := s.econ }
    svy := { s.svy with hotL := s.svy.hot, mthrL := s.on SVY_AVS_MTHROT }
    latchPrev := s.latch
    ctxPrev := s.ctxL
    ctxL := (List.range 4).map s.ctxNow
    spansPrev := s.spansL
    spansL := (List.range 16).map s.spanNow
    latch := s.live
    setNow := [] }

/-- The Surveyor's decisions of a tick whose post slot did not run (R109); a request that it makes is as early as one of the slot (R112). -/
def State.missedPost (s : State) (x : TickIn) : State :=
  match x.survey with
  | some y => if bitAt s.clk.slots 5 then s else
      let t := s.survey y
      if bitAt s.clk.slots 14 && s.clk.req.isNone then t.commitReq else t
  | none => s

/-- A committed frequency takes effect, with event 19 where the clock changes (R53); a request of the ended tick that is not committed waits on. -/
def State.freqEdge (s : State) : State :=
  match s.clk.commit with
  | none => s
  | some e =>
    let old := s.econ
    let s : State := { s with clk := { s.clk with commit := none } }
    let s := (s.p CLK_STAT_ECON (b2n e)).p CLK_STAT_ECON_PEND (b2n s.clk.req.isSome)
    if old = e then s else s.raise 19

/-- A tick-number load (R74): event 20, a record of both counts; `old` is the number of the ended tick. -/
def State.loadEdge (s : State) (old : Nat) : State :=
  match s.clk.load with
  | none => s
  | some n =>
    let s : State := { s with clk := { s.clk with load := none }, fab := { s.fab with loadEdge := some s.clk.edges } }
    let s := (s.p CLK_STAT_TICK_LOADED 1).raise 20
    s.record (mkRec 0x04 48 [(16, 8, s.now), (24, 6, old), (32, 6, n % 2 ^ 48), (38, 2, 0)])

/-! ### Overruns (R65 to R68, Table CLK-4) -/

/-- The CLK_OVR bits of overrunning slots are set (Table CLK-5). -/
def State.ovrBits (s : State) (ov : Nat) : State :=
  let s := (List.range 4).foldl (fun (s : State) k => if bitAt ov k then s.hwSet CLK_OVR_CTL 0 0 k else s) s
  ([CLK_OVR_COMM, CLK_OVR_SVYP, CLK_OVR_CRED, CLK_OVR_STAT, CLK_OVR_AVS, CLK_OVR_PLC, CLK_OVR_CHN, CLK_OVR_FH, CLK_OVR_SD, CLK_OVR_SNAP,
    CLK_OVR_CMT].zipIdx).foldl (fun (s : State) e => if bitAt ov (4 + e.2) then s.hwSet e.1 0 0 0 else s) s

/-- An edge with overruns (R66, R68): the registers, event 16 and the record, which names the tick that overran by its own count. -/
def State.overrunReport (s : State) (ov old : Nat) : State :=
  if ov = 0 then s
  else
    let s := ((s.ovrBits ov).bump CLK_OVRCNT 1).p CLK_OVRTS s.now
    (s.raise 16).record (mkRec 0x03 48 [(16, 8, s.now), (24, 6, old), (32, 4, ov)])

/-- The statistics slot overran: the samples are gone; the page of the tick they came from counts an incomplete tick (R620). That tick lies in the
page before where the ended tick was the first of its page. -/
def State.statOverrun (s : State) : State :=
  if s.gaz.pageEdges ≠ 0 then s.bump GAZ_INCOMP 1
  else if s.g GAZ_PAGE = 0 then s
  else { s with gaz := { s.gaz with prevIncomp := satAdd 32 s.gaz.prevIncomp 1 } }

/-- What the slots answer to an overrun (Table CLK-4) other than the engines, the commutator and the capture. A loop that overran took no step. -/
def State.slotOverruns (s : State) (ov : Nat) : State :=
  let s : State := if bitAt ov 6 then { s with credMissed := true } else s
  if bitAt ov 7 && s.gaz.paged then s.statOverrun else s

/-! ### Counts of the ended tick -/

/-- A recovery count of a hold cause (R86). -/
def Cause.edge (c : Cause) (high : Bool) : Cause := if c.active then { c with count := if high then min 25 (c.count + 1) else 0 } else c

/-- The recovery comparators that were high in every cycle of the ended tick: VIN warning, VIN over, VM warning, VM loss (R82, Table PWR-1). -/
def State.vinHigh (s : State) (x : TickIn) : Bool := decide (s.vinWarnMv + 50 < x.vinMin)
def vinOverOk (x : TickIn) : Bool := decide (x.vinMax < 5700)
def State.vmHigh (s : State) (x : TickIn) : Bool := decide (s.vmWarnMv + 200 < x.vmMin)
def vmLossHigh (x : TickIn) : Bool := decide (8200 < x.vmMin)

/-- Neither shock axis exceeded THR in any cycle (R111). -/
def State.quiet (s : State) (x : TickIn) : Bool := decide (x.shock0 ≤ 500 * s.g SVY_SHKCFG_THR) && decide (x.shock1 ≤ 500 * s.g SVY_SHKCFG_THR)

/-- The supplies' counts: the hold's, those of VM and of PWRFAIL_N while it is read, the quiet ticks of write inhibit (R82, R86, R91, R92, R111, R153,
R203). -/
def State.supplyEdge (s : State) (x : TickIn) : State :=
  let s : State := { s with
    pwr := { s.pwr with
      vinLo := s.pwr.vinLo.edge (s.vinHigh x), vinHi := s.pwr.vinHi.edge (vinOverOk x), vmLo := s.pwr.vmLo.edge (s.vmHigh x),
      riseTs := (match x.rise with | some c => mkTs s.clk.prevTick (b2n s.clk.prevEcon) c | none => s.pwr.riseTs),
      vmLoss := s.pwr.vmLoss && !vmLossHigh x,
      pfLow := (if x.pwrfailLow && s.on PWR_CFG_PF_EN then s.pwr.pfLow + 1 else 0) }
    svy := { s.svy with quietRun := if s.quiet x then s.svy.quietRun + 1 else 0 }
    boot := { s.boot with vmRun := if s.vmHigh x then s.boot.vmRun + 1 else 0 } }
  if s.holding then (s.bump PWR_HOLD_ELAPSED 1).p PWR_HOLD_RCVCNT s.rcvCount else s

/-- The pads from this edge on, the keepers' levels of the ended tick, the wake samples, the sensors' alerts seen low (R116, R128, R148). -/
def State.pinTick (s : State) (x : TickIn) : State :=
  let kept := maskOf 64 s.padLevel
  let s : State := { s with
    pin := { s.pin with kept := kept, drv := x.padDrv, lvl := x.padLvl }
    svy := { s.svy with alert := (List.range 4).filter fun k => s.gki PIN_FUNC 0 (4 + k) == 3 && !bitAt x.highA (4 + k) } }
  s.wakeEdge x.lowA x.highA

/-- A transition that waits shows what it waits for (R105). -/
def State.deferEdge (s : State) : State := if s.g PWR_STATE_PEND = 0 then s else s.p PWR_STATE_DEFER_WHY s.deferWhy

/-- Media operations are under way or wait. -/
def State.mediaBusy (s : State) : Bool := !s.med.reads.isEmpty || !s.wr.isEmpty

/-- The idle timers count ticks without a media operation; one moves the node from Idle to Run (Table PWR-8). -/
def State.idleEdge (s : State) : State :=
  if s.mediaBusy then s.mediaDispatch
  else { s with pwr := { s.pwr with idleTicks := s.pwr.idleTicks + 1, stbyTicks := s.pwr.stbyTicks + 1 } }

/-- The Surveyor's counts: the utilization reaches the AVS step, the sensors' periods run (R62, R116). -/
def State.surveyEdge (s : State) : State :=
  { s with svy := { s.svy with
    util := (s.svy.utilNew ++ s.svy.util).take 1024
    utilNew := []
    boardTicks := (List.range 4).map fun k => (k, Tbl.getD s.svy.boardTicks k 0 + 1) } }

/-- The trim at its limit, tick by tick (R76); a trim that goes from one limit to the other goes on with its episode (assumption log 132). -/
def State.trimEdge (s : State) : State :=
  let at' := s.on CLK_TRIM_AT_LIMIT
  { s with clk := { s.clk with trimRun := if at' then s.clk.trimRun + 1 else 0, trimRaised := at' && s.clk.trimRaised } }

/-- The fabric's counts: ticks without TIME, in which the trim is F (R568, R569); the flags of events raised once a tick (R543, R580). -/
def State.fabEdge (s : State) : State :=
  let seen := s.timeNow
  let s : State := { s with
    timeSeen := seen, timeNow := false
    fab := { s.fab with quiet := if seen then 0 else s.fab.quiet + 1, dropped := false, badRun := if seen then s.fab.badRun else 0 }
    twn := { s.twn with late := false } }
  if !seen && s.on CLK_STAT_TICK_LOADED && !s.on FAB_TIME_ISROOT then s.setTrim s.fab.fterm else s

/-- Counts of benches and of windows of 25 000 ticks (R389, R400, R540). -/
def State.windowEdge (s : State) : State :=
  let s : State := { s with promoDue := s.promo ++ s.promoDue, promo := [] }
  if s.clk.tick % 25000 = 0 then
    { s with ceWin := [], ueWin := [], fab := { s.fab with ports := s.fab.ports.map fun e => (e.1, { e.2 with replays := 0 }) } }
  else s

/-- The Gazetteer's counts: edges since the scan (R614), edges of the page, which begins at the first edge after the chart is applied (Statistics). -/
def State.gazEdge (s : State) : State :=
  let g := s.gaz
  let g := if s.on GAZ_STAT_PREADY then { g with edges := g.edges + 1 } else g
  let g := if !s.chart.applied then g
    else if g.paged then { g with pageEdges := g.pageEdges + 1 }
    else { g with paged := true, pageEdges := 0, pageStart := s.now }
  { s with gaz := { g with armed := g.armed.map fun e => (e.1, { e.2 with next := false }) } }

/-! ### Events -/

/-- Covering messages: the one event message of their vectors for the new tick (R636); parcels that carry later raisings are queued (R639). -/
def State.coverEdge (s : State) : State :=
  let l := s.evt.cover
  let q := s.evt.fabCover
  let s : State := { s with evt := { s.evt with sent := l, cover := [], fabSent := [], fabCover := [] } }
  let s := l.foldl (fun (s : State) v => s.sendMsix 0 v) s
  q.foldl (fun (s : State) e => s.evtQueue e.2) s

/-- The payload of an event parcel (Table EVT-3). -/
def State.evtBody (s : State) (p : EvtParcel) : List Byte := leBytes p.event 1 ++ [0] ++ leBytes s.node 2 ++ leBytes p.ts 8 ++ leBytes p.count 4

/-- Once discovery has ended, at most FAB_MAX event parcels leave in a tick; one to an unreachable node or to this one is lost (R639). -/
def State.evtSend (s : State) : State :=
  if s.g FAB_DISC_STATE ≠ 5 then s
  else
    let n := s.g EVT_FABCFG_MAX
    let d := s.g EVT_FABCFG_DST
    let l := s.evt.sendQ.take n
    let s : State := { s with evt := { s.evt with sendQ := s.evt.sendQ.drop n } }
    l.foldl (fun (s : State) p =>
      if d = s.node ∨ !s.reachable d then s.bump EVT_FABCTL_LOST 1
      else s.send { kind := 0x09, dst := d, body := s.evtBody p }) s

/-! ### Media, pieces, start-up -/

/-- Sectors whose writing has ended, ladders that may go on, pieces that complete, blocks to report (R272, R344, R579). -/
def State.mediaEdge (s : State) : State :=
  let s := s.actList.foldl (fun (s : State) k => match (s.act k).gate with
    | some (_, e) => if e ≤ s.clk.edges then s.gateEnd k else s
    | none => s) s
  let s := s.actList.foldl (fun (s : State) k => s.rcvGo k) s
  let s := s.setMed fun m => { m with eligNow := m.elig }
  let s := (s.pieces.filter fun e => !e.2.unrep.isEmpty).foldl (fun (s : State) e => s.sendAccept e.1) s.pieceSweep
  s.takeEnd

/-- The alignment stage ends when ALIGNED rises, 2450 ticks after the load, or at the load where the PLL is not trimmed (R569); without a twin the
branch ends, with one out of reach the node starts in Solo, else the reclaim stage follows (R206). Nothing goes on in fault mode (R211). -/
def State.alignEnd (s : State) : State :=
  let late := match s.fab.loadEdge with
    | some e => decide (e + 2450 ≤ s.clk.edges)
    | none => false
  if s.g SYS_BOOT_STAGE = 3 ∧ s.g SYS_BOOT_FAB = 3 ∧ !Tbl.has s.boot.ends 9 ∧
      (s.on CLK_STAT_ALIGNED || late || (s.on CLK_STAT_TICK_LOADED && !s.on CLK_CFG_TRIM_EN)) then
    let s := s.stageEndAt 9
    if !s.hasTwin then s.p SYS_BOOT_FAB 5
    else if !s.reachable s.twin then (s.enterSolo 3).p SYS_BOOT_FAB 5
    else s.reclaimGo
  else s

/-- A node that ends its fabric branch alone with a twin declared begins in Solo (R206). -/
def State.aloneEdge (s : State) : State :=
  if s.hasTwin ∧ s.g TWN_STAT_STATE = 1 ∧ s.g SYS_BOOT_FAB = 6 then s.enterSolo 3 else s

/-! ### The commands -/

/-- One tick edge of a running core. -/
def State.tickEdge (s : State) (x : TickIn) : State :=
  let s := (s.missedPost x).benchEdge x.bench
  let ov := s.overrunAt x
  let old := s.clk.tick
  let s := if bitAt ov 13 ∧ !bitAt s.clk.slots 15 then s.snapshot (some 0) else s
  let s := s.edgeStart.gather.coverEdge.traceEdge
  let s := (s.freqEdge.pinEdge).tunEdge
  let s := s.loadEdge old
  let s := (s.overrunReport ov old).slotOverruns ov
  let s := [0, 1, 2, 3].foldl (fun (s : State) k => s.engineEdge k (bitAt ov k)) s
  let s := s.commOverrun (bitAt ov 4)
  let s := (s.servoEdge.spindleEdge).supplyEdge x
  let s := ((s.pinTick x).deadlineFlush.idleEdge).surveyEdge
  let s := (s.trimEdge.fabEdge).windowEdge
  let s := (s.gazEdge.mediaEdge).timeSend
  let s := (s.evtSend.alignEnd).aloneEdge.deferEdge.engineLatch.inOrder
  if s.chart.applied then s.actList.foldl State.linkEdge s else s

/-- The always-on domain keeps the count: in Vigil, and until the core takes over after its exit (R58, R60). -/
def State.keptCount (s : State) : Bool := s.pwr.vigil || (!s.clk.core && s.g SVY_RSTCAUSE_CAUSE == 6)

/-- An edge: of the core's tick divider where the core runs, of the always-on domain's where that keeps the count, whose wake logic it serves. -/
def State.anyEdge (s : State) (x : TickIn) : State :=
  if s.running then s.tickEdge x
  else if s.keptCount then
    ({ s with
      clk := { s.clk with tick := (s.clk.tick + 1) % 2 ^ 48 }, pin := { s.pin with drv := x.padDrv, lvl := x.padLvl } } : State).wakeEdge x.lowA x.highA
  else s

/-- TICK_EDGE (R58). -/
def execTickEdge (x : TickIn) (s : State) : Out := .next (s.anyEdge x)

/-- TICK_NUMBER_LOAD (R74, R567): the edge at which a tick number that waits is loaded. -/
def execTickNumberLoad (x : TickIn) (s : State) : Out := .next (if s.running && s.clk.load.isSome then s.tickEdge x else s)

end Sys2Proof.Machine
end

