-- ==== Sys2Proof/Machine/Dispatch.lean ====
section
/-! DEFINITION. The dispatch: one arm per command, each one direct call of its meaning. -/

namespace Sys2Proof.Machine

def exec (i : Instr) (s : State) : Host.Outcome State Fault Refusal :=
  match i with
  | .regWrite fn a len v => Sys2Proof.Machine.execRegWrite fn a len v s
  | .readLowDword fn a => Sys2Proof.Machine.execReadLowDword fn a s
  | .writeHighDword fn a v => Sys2Proof.Machine.execWriteHighDword fn a v s
  | .writeLowDword fn a v => Sys2Proof.Machine.execWriteLowDword fn a v s
  | .wideAccess fn a n w => Sys2Proof.Machine.execWideAccess fn a n w s
  | .tickEdge x => Sys2Proof.Machine.execTickEdge x s
  | .controlRun k x => Sys2Proof.Machine.execControlRun k x s
  | .surveyorPost x => Sys2Proof.Machine.execSurveyorPost x s
  | .creditRefresh corrA corrB => Sys2Proof.Machine.execCreditRefresh corrA corrB s
  | .avsStep m => Sys2Proof.Machine.execAvsStep m s
  | .channelStep x => Sys2Proof.Machine.execChannelStep x s
  | .flyHeightStep x => Sys2Proof.Machine.execFlyHeightStep x s
  | .serdesStep x => Sys2Proof.Machine.execSerdesStep x s
  | .snapshotSlot captured => Sys2Proof.Machine.execSnapshotSlot captured s
  | .pinnedEpisodeEvent kind place => Sys2Proof.Machine.execPinnedEpisodeEvent kind place s
  | .referenceLoss ns => Sys2Proof.Machine.execReferenceLoss s ns
  | .pllUnlock periods => Sys2Proof.Machine.execPllUnlock s periods
  | .tickNumberLoad x => Sys2Proof.Machine.execTickNumberLoad x s
  | .powerGoodFailure rail v ns => Sys2Proof.Machine.execPowerGoodFailure s rail v ns
  | .alwaysOnReset mv => Sys2Proof.Machine.execAlwaysOnReset s mv
  | .vinWarningCrossing mv ns => Sys2Proof.Machine.execVinWarningCrossing s mv ns
  | .vinOverCrossing mv ns => Sys2Proof.Machine.execVinOverCrossing s mv ns
  | .vmWarningCrossing mv ns => Sys2Proof.Machine.execVmWarningCrossing s mv ns
  | .vinResetCrossing mv ns => Sys2Proof.Machine.execVinResetCrossing s mv ns
  | .vmLossCrossing mv ns => Sys2Proof.Machine.execVmLossCrossing s mv ns
  | .holdCauseClear cause => Sys2Proof.Machine.execHoldCauseClear cause s
  | .resetRelease x => Sys2Proof.Machine.execResetRelease x s
  | .powerLossDeclared byPin => Sys2Proof.Machine.execPowerLossDeclared byPin s
  | .shockCrossing mg => Sys2Proof.Machine.execShockCrossing s mg
  | .boardSensorRead k b => Sys2Proof.Machine.execBoardSensorRead k b s
  | .sensorAlertRead k b => Sys2Proof.Machine.execSensorAlertRead k b s
  | .wakeQualify levels perst => Sys2Proof.Machine.execWakeQualify levels perst s
  | .extintEdge n rising held => Sys2Proof.Machine.execExtintEdge n rising s held
  | .extintLevel n high held => Sys2Proof.Machine.execExtintLevel n high s held
  | .evoPulseEnd n => Sys2Proof.Machine.execEvoPulseEnd n s
  | .resetNAssert ns => Sys2Proof.Machine.execResetNAssert s ns
  | .bistEnd fail => Sys2Proof.Machine.execBistEnd fail s
  | .chartStage differs => Sys2Proof.Machine.execChartStage differs s
  | .flashEraseComplete t blank => Sys2Proof.Machine.execFlashEraseComplete t blank s
  | .flashProgramComplete same us => Sys2Proof.Machine.execFlashProgramComplete same s us
  | .dramInitComplete ok gib0 gib1 => Sys2Proof.Machine.execDramInitComplete ok s gib0 gib1
  | .stageBoundExpiry st us => Sys2Proof.Machine.execStageBoundExpiry st s us
  | .headCalibration head x => Sys2Proof.Machine.execHeadCalibration head x s
  | .sysRstctlGo key => Sys2Proof.Machine.execSysRstctlGo key s
  | .pcieLinkUp speed lanes => Sys2Proof.Machine.execPcieLinkUp speed lanes s
  | .listenEnd c => Sys2Proof.Machine.execListenEnd c s
  | .brakeEnd a b => Sys2Proof.Machine.execBrakeEnd a b s
  | .observerUpdate x => Sys2Proof.Machine.execObserverUpdate x s
  | .overcurrentTrip gate => Sys2Proof.Machine.execOvercurrentTrip gate s
  | .demodEstimate k j x => Sys2Proof.Machine.execDemodEstimate k j x s
  | .guardReenable k => Sys2Proof.Machine.execGuardReenable k s
  | .servoLoss k => Sys2Proof.Machine.execServoLoss k s
  | .seekDispatch k head track write => Sys2Proof.Machine.execSeekDispatch k head track write s
  | .seekSettleEntry k => Sys2Proof.Machine.execSeekSettleEntry k s
  | .readReady k => Sys2Proof.Machine.execReadReady k s
  | .writeReady k => Sys2Proof.Machine.execWriteReady k s
  | .seekTimeout k => Sys2Proof.Machine.execSeekTimeout k s
  | .headSwitch k head track write => Sys2Proof.Machine.execHeadSwitch k head track write s
  | .headSwitchAcquire k => Sys2Proof.Machine.execHeadSwitchAcquire k s
  | .headSwitchAcquireFail k => Sys2Proof.Machine.execHeadSwitchAcquireFail k s
  | .loadStart k rcoil moved => Sys2Proof.Machine.execLoadStart k rcoil moved s
  | .loadTimeout k => Sys2Proof.Machine.execLoadTimeout k s
  | .parkComplete k a b => Sys2Proof.Machine.execParkComplete k a b s
  | .eparkTimeout k => Sys2Proof.Machine.execEparkTimeout k s
  | .retractEnd k speed => Sys2Proof.Machine.execRetractEnd k speed s
  | .safeHoldEnd k => Sys2Proof.Machine.execSafeHoldEnd k s
  | .ctlTraceArm k => Sys2Proof.Machine.execCtlTraceArm k s
  | .ctlTraceStop k => Sys2Proof.Machine.execCtlTraceStop k s
  | .ctlTraceTrig k => Sys2Proof.Machine.execCtlTraceTrig k s
  | .traceCaptureStop k => Sys2Proof.Machine.execTraceCaptureStop k s
  | .linkFrame k word data crc hit => Sys2Proof.Machine.execLinkFrame k word data crc hit s
  | .contactHoldEnd head => Sys2Proof.Machine.execContactHoldEnd head s
  | .preampFault k cycles => Sys2Proof.Machine.execPreampFault k s cycles
  | .sidebandRead k id temp => Sys2Proof.Machine.execSidebandRead k id temp s
  | .touchdownStep k contact => Sys2Proof.Machine.execTouchdownStep k contact s
  | .sectorDecode k head track pos x => Sys2Proof.Machine.execSectorDecode k head track pos x s
  | .recoveryStepEnd k x => Sys2Proof.Machine.execRecoveryStepEnd k x s
  | .recoveryAbortEnd k => Sys2Proof.Machine.execRecoveryAbortEnd k s
  | .sectorWrite k head track pos bad => Sys2Proof.Machine.execSectorWrite k head track pos bad s
  | .sectorRewrite k head track pos bad => Sys2Proof.Machine.execSectorRewrite k head track pos bad s
  | .verifyResult k head track pos x unsat => Sys2Proof.Machine.execVerifyResult k head track pos x unsat s
  | .mapLoad bad => Sys2Proof.Machine.execMapLoad bad s
  | .pieceLanded id failA failB => Sys2Proof.Machine.execPieceLanded id failA s failB
  | .marginalRefresh k => Sys2Proof.Machine.execMarginalRefresh k s
  | .stallPromotion cycles => Sys2Proof.Machine.execStallPromotion cycles s
  | .dramReadComplete reader lba line c late => Sys2Proof.Machine.execDramReadComplete reader lba line c s late
  | .benchUncorrectable m o => Sys2Proof.Machine.execBenchUncorrectable m o s
  | .scrubRead c t late => Sys2Proof.Machine.execScrubRead c t s late
  | .adminEnable fn => Sys2Proof.Machine.execAdminEnable fn s
  | .adminReady fn => Sys2Proof.Machine.execAdminReady fn s
  | .functionDisable fn => Sys2Proof.Machine.execFunctionDisable fn s
  | .functionLevelReset fn => Sys2Proof.Machine.execFunctionLevelReset fn s
  | .sqTailDoorbell fn q t => Sys2Proof.Machine.execSqTailDoorbell fn q t s
  | .cqHeadDoorbell fn q h => Sys2Proof.Machine.execCqHeadDoorbell fn q h s
  | .pushWrite fn q b aligned => Sys2Proof.Machine.execPushWrite fn q b aligned s
  | .sqEntryFetch r => Sys2Proof.Machine.execSqEntryFetch r s
  | .hostDataBlock slot r => Sys2Proof.Machine.execHostDataBlock slot r s
  | .deadlineExpiry slot => Sys2Proof.Machine.execDeadlineExpiry slot s
  | .cqEntryPost fn q => Sys2Proof.Machine.execCqEntryPost fn q s
  | .coalesceTimer fn q => Sys2Proof.Machine.execCoalesceTimer fn q s
  | .msixUnmask fn vec => Sys2Proof.Machine.execMsixUnmask fn vec s
  | .unknownOpcode slot => Sys2Proof.Machine.execUnknownOpcode slot s
  | .deleteIoSq slot => Sys2Proof.Machine.execDeleteIoSq slot s
  | .sqDrained fn q => Sys2Proof.Machine.execSqDrained fn q s
  | .createIoSq slot => Sys2Proof.Machine.execCreateIoSq slot s
  | .deleteIoCq slot => Sys2Proof.Machine.execDeleteIoCq slot s
  | .createIoCq slot => Sys2Proof.Machine.execCreateIoCq slot s
  | .identifyNode slot d => Sys2Proof.Machine.execIdentifyNode slot d s
  | .identifyFunction slot d => Sys2Proof.Machine.execIdentifyFunction slot d s
  | .identifyVolume slot d => Sys2Proof.Machine.execIdentifyVolume slot d s
  | .queueErrorLog slot d => Sys2Proof.Machine.execQueueErrorLog slot d s
  | .lostRanges slot d => Sys2Proof.Machine.execLostRanges slot d s
  | .selfTestResults slot d => Sys2Proof.Machine.execSelfTestResults slot d s
  | .volumeStatistics slot d => Sys2Proof.Machine.execVolumeStatistics slot d s
  | .gazetteerRingPage slot d => Sys2Proof.Machine.execGazetteerRingPage slot d s
  | .gazetteerSectorPage slot d => Sys2Proof.Machine.execGazetteerSectorPage slot d s
  | .histogramPage slot d => Sys2Proof.Machine.execHistogramPage slot d s
  | .extremesPage slot d => Sys2Proof.Machine.execExtremesPage slot d s
  | .abort slot => Sys2Proof.Machine.execAbort slot s
  | .thawResume slot => Sys2Proof.Machine.execThawResume slot s
  | .thawDiscard slot => Sys2Proof.Machine.execThawDiscard slot s
  | .adminThawResume fn => Sys2Proof.Machine.execAdminThawResume fn s
  | .adminThawDiscard fn => Sys2Proof.Machine.execAdminThawDiscard fn s
  | .setTunable slot => Sys2Proof.Machine.execSetTunable slot s
  | .getTunable slot => Sys2Proof.Machine.execGetTunable slot s
  | .volumeCreate slot => Sys2Proof.Machine.execVolumeCreate slot s
  | .volumeDelete slot => Sys2Proof.Machine.execVolumeDelete slot s
  | .volumeGrow slot => Sys2Proof.Machine.execVolumeGrow slot s
  | .volumeSetModes slot => Sys2Proof.Machine.execVolumeSetModes slot s
  | .spanAttach slot => Sys2Proof.Machine.execSpanAttach slot s
  | .spanDetach slot => Sys2Proof.Machine.execSpanDetach slot s
  | .spanSetModes slot => Sys2Proof.Machine.execSpanSetModes slot s
  | .keyLoad slot r => Sys2Proof.Machine.execKeyLoad slot r s
  | .keyClear slot => Sys2Proof.Machine.execKeyClear slot s
  | .powerStateRun slot => Sys2Proof.Machine.execPowerStateRun slot s
  | .powerStateStandby slot => Sys2Proof.Machine.execPowerStateStandby slot s
  | .powerStateVigil slot => Sys2Proof.Machine.execPowerStateVigil slot s
  | .reset slot => Sys2Proof.Machine.execReset slot s
  | .touchdownNow slot => Sys2Proof.Machine.execTouchdownNow slot s
  | .separationNow slot => Sys2Proof.Machine.execSeparationNow slot s
  | .seekSweep slot => Sys2Proof.Machine.execSeekSweep slot s
  | .surfaceScan slot => Sys2Proof.Machine.execSurfaceScan slot s
  | .recalibrate slot => Sys2Proof.Machine.execRecalibrate slot s
  | .freeSlabTest slot => Sys2Proof.Machine.execFreeSlabTest slot s
  | .selfTestComplete slabs => Sys2Proof.Machine.execSelfTestComplete slabs s
  | .chartWrite slot d r => Sys2Proof.Machine.execChartWrite slot d r s
  | .chartCommit slot => Sys2Proof.Machine.execChartCommit slot s
  | .write slot d => Sys2Proof.Machine.execWrite slot d s
  | .read slot d => Sys2Proof.Machine.execRead slot d s
  | .flush slot => Sys2Proof.Machine.execFlush slot s
  | .flushComplete slot remoteLanded => Sys2Proof.Machine.execFlushComplete slot remoteLanded s
  | .keyRamParity code => Sys2Proof.Machine.execKeyRamParity code s
  | .flitReceive p f => Sys2Proof.Machine.execFlitReceive p f s
  | .linkFailure p cause => Sys2Proof.Machine.execLinkFailure p cause s
  | .portTraining p => Sys2Proof.Machine.execPortTraining p s
  | .portUp p half lanes => Sys2Proof.Machine.execPortUp p half lanes s
  | .portTrainingTimeout p => Sys2Proof.Machine.execPortTrainingTimeout p s
  | .portHoldExpiry p => Sys2Proof.Machine.execPortHoldExpiry p s
  | .hello p serial port id mode => Sys2Proof.Machine.execHello p serial port id mode s
  | .delay p t1 t2 t3 t4 => Sys2Proof.Machine.execDelay p t1 t2 t3 t4 s
  | .delayMeasure p => Sys2Proof.Machine.execDelayMeasure p s
  | .time p tx es rx => Sys2Proof.Machine.execTime p tx es rx s
  | .elect p serial => Sys2Proof.Machine.execElect p serial s
  | .ring p dim count => Sys2Proof.Machine.execRing p dim count s
  | .assign p w h x y => Sys2Proof.Machine.execAssign p w h x y s
  | .lsr p id x => Sys2Proof.Machine.execLsr p id x s
  | .parcelForward p => Sys2Proof.Machine.execParcelForward p s
  | .heartbeat p => Sys2Proof.Machine.execHeartbeat p s
  | .piece p => Sys2Proof.Machine.execPiece p s
  | .pieceSend slot k => Sys2Proof.Machine.execPieceSend slot k s
  | .pieceRetry slot k => Sys2Proof.Machine.execPieceRetry slot k s
  | .readParcel p => Sys2Proof.Machine.execReadParcel p s
  | .query p => Sys2Proof.Machine.execQuery p s
  | .restore p => Sys2Proof.Machine.execRestore p s
  | .remap p => Sys2Proof.Machine.execRemap p s
  | .remapr p => Sys2Proof.Machine.execRemapr p s
  | .landed p => Sys2Proof.Machine.execLanded p s
  | .accept p => Sys2Proof.Machine.execAccept p s
  | .done p => Sys2Proof.Machine.execDone p s
  | .rdata p => Sys2Proof.Machine.execRdata p s
  | .confirm p => Sys2Proof.Machine.execConfirm p s
  | .notready p => Sys2Proof.Machine.execNotready p s
  | .resendq p => Sys2Proof.Machine.execResendq p s
  | .ack p => Sys2Proof.Machine.execAck p s
  | .copy p => Sys2Proof.Machine.execCopy p s
  | .resync p => Sys2Proof.Machine.execResync p s
  | .reclaim p => Sys2Proof.Machine.execReclaim p s
  | .event payload => Sys2Proof.Machine.execEvent payload s
  | .evtMaskWrite r v => Sys2Proof.Machine.execEvtMaskWrite r v s
  | .ringHoldRelease upTo => Sys2Proof.Machine.execRingHoldRelease upTo s
  | .calSliceStart head sep => Sys2Proof.Machine.execCalSliceStart head sep s
  | .calSliceEnd k sep => Sys2Proof.Machine.execCalSliceEnd k sep s
  | .tstDbgctlOpen key => Sys2Proof.Machine.execTstDbgctlOpen key s
  | .tstDbgwinWrite index v => Sys2Proof.Machine.execTstDbgwinWrite index v s
  | .tstDbgwinRead index => Sys2Proof.Machine.execTstDbgwinRead index s
  | .tstSnaparm m => Sys2Proof.Machine.execTstSnaparm m s
  | .extest cells pins => Sys2Proof.Machine.execExtest cells pins s
  | .samplePreload cells pins => Sys2Proof.Machine.execSamplePreload cells pins s
  | .extestPulse cells pins => Sys2Proof.Machine.execExtestPulse cells pins s
  | .extestTrain cells pins => Sys2Proof.Machine.execExtestTrain cells pins s
  | .bypass op => Sys2Proof.Machine.execBypass op s
  | .dramWriteComplete id => Sys2Proof.Machine.execDramWriteComplete id s
  | .dramPeriodicTraining m ok => Sys2Proof.Machine.execDramPeriodicTraining m ok s
  | .preampFaultClear k => Sys2Proof.Machine.execPreampFaultClear k s
  | .completionTimeout slot aer => Sys2Proof.Machine.execCompletionTimeout slot aer s
  | .pcieConfigRequest fn dc => Sys2Proof.Machine.execPcieConfigRequest fn s dc
  | .i2cTargetTransaction addr => Sys2Proof.Machine.execI2cTargetTransaction addr s
  | .commutatorSlot => Sys2Proof.Machine.execCommutatorSlot s
  | .statisticsSlot => Sys2Proof.Machine.execStatisticsSlot s
  | .marginThrottleEnd => Sys2Proof.Machine.execMarginThrottleEnd s
  | .placementStep => Sys2Proof.Machine.execPlacementStep s
  | .commitSlot => Sys2Proof.Machine.execCommitSlot s
  | .clockFaultReset => Sys2Proof.Machine.execClockFaultReset s
  | .pllLock => Sys2Proof.Machine.execPllLock s
  | .trimLimitEpisode => Sys2Proof.Machine.execTrimLimitEpisode s
  | .holdUnload => Sys2Proof.Machine.execHoldUnload s
  | .journalComplete => Sys2Proof.Machine.execJournalComplete s
  | .writeInhibitEnd => Sys2Proof.Machine.execWriteInhibitEnd s
  | .thermalThrottleEnd => Sys2Proof.Machine.execThermalThrottleEnd s
  | .criticalTempReset => Sys2Proof.Machine.execCriticalTempReset s
  | .idleTimer => Sys2Proof.Machine.execIdleTimer s
  | .standbyTimer => Sys2Proof.Machine.execStandbyTimer s
  | .pendingTransitionProceed => Sys2Proof.Machine.execPendingTransitionProceed s
  | .pinConfigApply => Sys2Proof.Machine.execPinConfigApply s
  | .flashBackgroundErase => Sys2Proof.Machine.execFlashBackgroundErase s
  | .handoverEnd => Sys2Proof.Machine.execHandoverEnd s
  | .ready => Sys2Proof.Machine.execReady s
  | .hostResetEnter => Sys2Proof.Machine.execHostResetEnter s
  | .perstNAssert => Sys2Proof.Machine.execPerstNAssert s
  | .perstNDeassert => Sys2Proof.Machine.execPerstNDeassert s
  | .spindleStartOrder => Sys2Proof.Machine.execSpindleStartOrder s
  | .alignEnd => Sys2Proof.Machine.execAlignEnd s
  | .attemptSuccess => Sys2Proof.Machine.execAttemptSuccess s
  | .attemptFail => Sys2Proof.Machine.execAttemptFail s
  | .accelInBand => Sys2Proof.Machine.execAccelInBand s
  | .atSpeed => Sys2Proof.Machine.execAtSpeed s
  | .spinupLimit => Sys2Proof.Machine.execSpinupLimit s
  | .brakeMaxExpiry => Sys2Proof.Machine.execBrakeMaxExpiry s
  | .writeBandResume => Sys2Proof.Machine.execWriteBandResume s
  | .recoverListenWindow => Sys2Proof.Machine.execRecoverListenWindow s
  | .reacquisitionFail => Sys2Proof.Machine.execReacquisitionFail s
  | .rotorRestartOrder => Sys2Proof.Machine.execRotorRestartOrder s
  | .relockCountReset => Sys2Proof.Machine.execRelockCountReset s
  | .standbyBrakeStart => Sys2Proof.Machine.execStandbyBrakeStart s
  | .retractComplete => Sys2Proof.Machine.execRetractComplete s
  | .slabGrant => Sys2Proof.Machine.execSlabGrant s
  | .lockRequest => Sys2Proof.Machine.execLockRequest s
  | .lockGrant => Sys2Proof.Machine.execLockGrant s
  | .alignedTimeout => Sys2Proof.Machine.execAlignedTimeout s
  | .electionEnd => Sys2Proof.Machine.execElectionEnd s
  | .ringWalkTimeout => Sys2Proof.Machine.execRingWalkTimeout s
  | .discoveryEnd => Sys2Proof.Machine.execDiscoveryEnd s
  | .discoveryTimeout => Sys2Proof.Machine.execDiscoveryTimeout s
  | .routeEpochSwitch => Sys2Proof.Machine.execRouteEpochSwitch s
  | .heartbeatSend => Sys2Proof.Machine.execHeartbeatSend s
  | .twinLoss => Sys2Proof.Machine.execTwinLoss s
  | .resyncComplete => Sys2Proof.Machine.execResyncComplete s
  | .settleRelease => Sys2Proof.Machine.execSettleRelease s
  | .evtFabctlPop => Sys2Proof.Machine.execEvtFabctlPop s
  | .statisticsPageEdge => Sys2Proof.Machine.execStatisticsPageEdge s
  | .opsecTick => Sys2Proof.Machine.execOpsecTick s
  | .persistentWrite => Sys2Proof.Machine.execPersistentWrite s
  | .tstDbgctlClose => Sys2Proof.Machine.execTstDbgctlClose s
  | .tapReset => Sys2Proof.Machine.execTapReset s
  | .idcode => Sys2Proof.Machine.execIdcode s
  | .highz => Sys2Proof.Machine.execHighz s
  | .clamp => Sys2Proof.Machine.execClamp s

end Sys2Proof.Machine
end

