-- ==== Sys2Proof/Safety.lean ====
section
/-! DEFINITION. What claims about the block are stated in terms of: the canonical form of its two byte memories, and the answers of a command. -/

namespace Sys2Proof.Machine

/-- Both byte memories, the bench buffer (an unlisted byte reads 0) and the configuration flash (an unlisted byte reads FFH), are in their canonical form
(assumption log 7). -/
def State.memOk (s : State) : Prop := Memory.wf 0 s.buf = true ∧ Memory.wf 0xFF s.flash = true

/-- A next state that differs from `s` in its registers alone. -/
def State.onlyRegs (s t : State) : Prop := t = { s with regs := t.regs }

/-- Every register field but those stored under a key of `ks` holds in `t` what it holds in `s`. -/
def State.regsBut (ks : List Nat) (s t : State) : Prop := ∀ (F : Fld) (k i : Nat), F.key k i ∉ ks → t.gki F k i = s.gki F k i

/-- The register fields that the raising of an event may change beside its pending bit: the count of dropped event parcels (R639) and the trace registers of
the control engines, which the event may trigger (Table CTL-9). -/
def raiseSides : List Nat :=
  EVT_FABCTL_LOST.key 0 0 ::
    [0, 1, 2, 3].flatMap fun k => [CTL_TRCSTAT_STATE.key k 0, CTL_TRCSTAT_IGNORED.key k 0, CTL_TRCTS.key k 0, CTL_TRCTRIGW.key k 0]

/-- The register fields that the raising of event `e` may change (R632). -/
def raiseKeys (e : Nat) : List Nat := EVT_PEND.key 0 (e / 32) :: raiseSides

/-- The register fields that the making of a record may change: the pointers of the ring and the counts of the Gazetteer (R602, R608 to R610, R616). -/
def recordKeys : List Nat :=
  [GAZ_NEWEST_SEQ.key 0 0, GAZ_NEWEST_WPTR.key 0 0, GAZ_OLDEST_SEQ.key 0 0, GAZ_OLDEST_OPTR.key 0 0, GAZ_DROP_HOLD.key 0 0, GAZ_DROP_PQUEUE.key 0 0,
    GAZ_DROP_PRATE.key 0 0, GAZ_DROP_PRECHART.key 0 0, GAZ_STAT_PQUEUE.key 0 0]

/-- `t` differs from `s` at most in what raising events, making records and sending messages touch: registers, the Gazetteer and its ring, the event unit,
MSI-X, the traces, the event-output pulses and the record of what is sent. -/
def State.reported (s t : State) : Prop :=
  t = { s with
    regs := t.regs, setNow := t.setNow, gaz := t.gaz, evt := t.evt, msix := t.msix, out := t.out, buf := t.buf, trace := t.trace,
    traceLost := t.traceLost, trcLeft := t.trcLeft, pin := { s.pin with pulse := t.pin.pulse } }

/-- The admin command `c` of opcode `opc` in slot `i` starts and passes the checks that come before its own: the columns of Table MQP-11 and its
reserved fields, those outside the fields `used` (R452). -/
def State.adminRuns (s : State) (i opc : Nat) (c : Cmd) (used : List (Nat × Nat)) : Bool :=
  s.cmd i == some c && s.starts i c && c.sq == 0 && c.opc == opc && (s.adminGate c).isNone && !c.reserved used

/-- `s` with the command in slot `i` running (R452). -/
def State.begun (s : State) (i : Nat) (c : Cmd) : State := s.setCmd i { c with phase := 2 }

/-- This node consumes the parcel `p` of kind `kind`: it takes it, its header check matches and its epoch is not stale (R543, R571). -/
def State.consumes (s : State) (p : Parcel) (kind : Nat) : Bool := s.takes p && p.kind == kind && p.good && !s.stale p

/-- The state in which the work of a parcel that this node consumes begins: the parcel has left its receive buffer (R545) and its payload is in the
benches (R548). -/
def State.received (s : State) (p : Parcel) : State := (s.leaveBuffer p).landPayload p

/-- The commands that may enter a reset (R57, R80, R81, R84, R94, R105, R114, R149, R152, R199, R220). -/
def entersReset : Instr → Bool
  | .criticalTempReset .. | .stageBoundExpiry .. | .hostResetEnter | .clockFaultReset | .wakeQualify .. | .powerGoodFailure .. | .vinResetCrossing ..
  | .alwaysOnReset .. | .resetNAssert .. | .journalComplete | .pendingTransitionProceed => true
  | _ => false

/-- The commands that may change the key RAM without a reset: Delete of a volume, Key Load, Key Clear and the loss of a key to a parity error (R467,
R473, R475, R512). -/
def writesKeys : Instr → Bool
  | .volumeDelete .. | .keyLoad .. | .keyClear .. | .keyRamParity .. => true
  | _ => false

/-- The commands that are edges of the tick, or that load its number (R58, R74, R701). -/
def passesEdge : Instr → Bool
  | .tickEdge .. | .tickNumberLoad .. => true
  | _ => false

/-- The commands that may take an entry from an SQ (R429). -/
def takesEntry : Instr → Bool
  | .sqEntryFetch .. | .completionTimeout .. => true
  | _ => false

/-- The registers whose writes act beyond their fields: SYS_RSTCTL, EVT_MASK, EVT_FABCTL, TST_DBGCTL, TST_SNAPARM, MQP_CTL, MQP_ADMTHAW, the
debug window and CTL_TRCCTL. -/
def actsOnWrite (a : Nat) : Bool :=
  a == 0x84 || (decide (0xE020 ≤ a) && decide (a < 0xE038)) || a == 0xE070 || a == 0x28020 || a == 0x28048 || a == 0x10004 || a == 0x10048 ||
    (decide (0x29000 ≤ a) && decide (a < 0x2A000)) || (decide (0x20000 ≤ a) && decide (a < 0x28000) && a % 0x2000 == 0x48)

/-- The keys of the register fields that a reset may keep: fuses, straps, the key hash, the retained registers, port A and its wake configuration (R117,
R142, R149, R154, R165). -/
def retainedKeys : List Nat :=
  (retainedAll ++ retainedWarm ++ [PIN_OUT_OUT, PIN_OUT_OE, PIN_WAKEFILT_FILT]).map (fun F => F.key 0 0) ++
    (List.range 8).map (fun i => CHT_KEYHASH.key 0 i) ++
    (List.range 16).flatMap fun i =>
      [PIN_FUNC.key 0 i, PIN_PAD.key 0 i, PIN_EVOCFG_POL.key 0 i, PIN_WAKECFG_EN.key 0 i, PIN_WAKECFG_MODE.key 0 i]

/-- The BAR0 address stands in the doorbell region or in the push region (Table SYS-28). -/
def inDoorbells (a : Nat) : Prop := (0x1000000 ≤ a ∧ a < 0x1008000) ∨ (0x1800000 ≤ a ∧ a < 0x1840000)

end Sys2Proof.Machine
end

