-- ==== Sys2Proof/Certificates/Slice0/Obligations.lean ====
section
/-! DEFINITION. The statements about the block that the provers prove or refute. -/

open Sys2Proof Sys2Proof.Machine

/-- With the BAR0 of the function open: an aligned dword write takes effect by the register it names; a narrow or unaligned one changes nothing outside
the doorbell and push regions and is an ignored access in them; an aligned dword read answers the four bytes, an unaligned one does nothing. A
high-dword write of a 64-bit register of the function changes the staging dword of that function and register alone, and changes nothing where the
register is an admin queue register that is locked; a low-dword write of it commits the dword written with the staged high dword; where the function
has no 64-bit register at the address, either changes nothing. A wide read answers the bytes asked; a wide write goes to the push buffers in the push
region, else is an ignored access where it is not of whole dwords, else writes its dwords in rising order. With the BAR0 of the function closed none
of the five does anything. Rules R13, R18, R696. -/
def Obligations.RegisterAccessCompletes : Prop :=
  (∀ (s : State) (fn : Fin 16) (a : BitVec 26) (len : Fin 5) (v : BitVec 32), s.fnOpen fn → (len : Nat) = 4 → a.toNat % 4 = 0 → exec (.regWrite fn a len v) s = .next (s.writeDword fn a.toNat v.toNat)) ∧
  (∀ (s : State) (fn : Fin 16) (a : BitVec 26) (len : Fin 5) (v : BitVec 32), s.fnOpen fn → (len : Nat) ≠ 4 ∨ a.toNat % 4 ≠ 0 → inDoorbells a.toNat → exec (.regWrite fn a len v) s = .next (s.writeBad fn a.toNat)) ∧
  (∀ (s : State) (fn : Fin 16) (a : BitVec 26) (len : Fin 5) (v : BitVec 32), s.fnOpen fn → (len : Nat) ≠ 4 ∨ a.toNat % 4 ≠ 0 → ¬ inDoorbells a.toNat → exec (.regWrite fn a len v) s = .next (s)) ∧
  (∀ (s : State) (fn : Fin 16) (a : BitVec 26) (len : Fin 5) (v : BitVec 32), s.fnOpen fn = false → exec (.regWrite fn a len v) s = .next (s)) ∧
  (∀ (s : State) (fn : Fin 16) (a : BitVec 26), s.fnOpen fn → a.toNat % 4 = 0 → exec (.readLowDword fn a) s = .next ((s.readDword fn a.toNat).2.emit (.bus fn (leBytes (s.readDword fn a.toNat).1 4)))) ∧
  (∀ (s : State) (fn : Fin 16) (a : BitVec 26), s.fnOpen fn = false ∨ a.toNat % 4 ≠ 0 → exec (.readLowDword fn a) s = .next (s)) ∧
  (∀ (s : State) (fn : Fin 16) (a : BitVec 26) (v : BitVec 32) (b : Nat), s.fnOpen fn → wideReg fn a.toNat = some b → s.aqLocked b = false → exec (.writeHighDword fn a v) s = .next ({ s with staging := Tbl.put s.staging (wideKey fn b) v.toNat })) ∧
  (∀ (s : State) (fn : Fin 16) (a : BitVec 26) (v : BitVec 32) (b : Nat), s.fnOpen fn → wideReg fn a.toNat = some b → s.aqLocked b → exec (.writeHighDword fn a v) s = .next (s)) ∧
  (∀ (s : State) (fn : Fin 16) (a : BitVec 26) (v : BitVec 32), s.fnOpen fn = false ∨ wideReg fn a.toNat = none → exec (.writeHighDword fn a v) s = .next (s)) ∧
  (∀ (s : State) (fn : Fin 16) (a : BitVec 26) (v : BitVec 32) (b : Nat), s.fnOpen fn → wideReg fn a.toNat = some b → exec (.writeLowDword fn a v) s = .next (s.commitWide fn b (v.toNat + s.stagedHigh fn b * 2 ^ 32))) ∧
  (∀ (s : State) (fn : Fin 16) (a : BitVec 26) (v : BitVec 32), s.fnOpen fn = false ∨ wideReg fn a.toNat = none → exec (.writeLowDword fn a v) s = .next (s)) ∧
  (∀ (s : State) (fn : Fin 16) (a : BitVec 26) (n : Nat), s.fnOpen fn → exec (.wideAccess fn a n none) s = .next ((s.readWide fn (a.toNat / 4 * 4) (ceilDiv (a.toNat % 4 + n) 4) (n + 2)).2.emit (.bus fn (((s.readWide fn (a.toNat / 4 * 4) (ceilDiv (a.toNat % 4 + n) 4) (n + 2)).1.drop (a.toNat % 4)).take n)))) ∧
  (∀ (s : State) (fn : Fin 16) (a : BitVec 26) (n : Nat) (b : List Byte), s.fnOpen fn → 0x1800000 ≤ a.toNat → a.toNat < 0x1840000 → exec (.wideAccess fn a n (some b)) s = .next (s.pushWrite fn ((a.toNat - 0x1800000) / 64) b (a.toNat % 64 == 0))) ∧
  (∀ (s : State) (fn : Fin 16) (a : BitVec 26) (n : Nat) (b : List Byte), s.fnOpen fn → a.toNat < 0x1800000 ∨ 0x1840000 ≤ a.toNat → a.toNat % 4 ≠ 0 ∨ b.length % 4 ≠ 0 → exec (.wideAccess fn a n (some b)) s = .next (s.writeBad fn a.toNat)) ∧
  (∀ (s : State) (fn : Fin 16) (a : BitVec 26) (n : Nat) (b : List Byte), s.fnOpen fn → a.toNat < 0x1800000 ∨ 0x1840000 ≤ a.toNat → a.toNat % 4 = 0 → b.length % 4 = 0 → exec (.wideAccess fn a n (some b)) s = .next (s.writeWide fn a.toNat b b.length)) ∧
  (∀ (s : State) (fn : Fin 16) (a : BitVec 26) (n : Nat) (w : Option (List Byte)), s.fnOpen fn = false → exec (.wideAccess fn a n w) s = .next (s))

/-- With the core running: the commit slot takes up a frequency request latched before cycle 3900 and leaves one latched later; a reference missing for a
microsecond, or a phase error of 64 periods, is a clock fault, and the reset follows it when every actuator is parked or 5 ms have passed; event 21 is
raised in the 64th pinned tick of a trim episode and a pinned-episode event in that of a loop; a number load and an edge pass the tick. Before the
core runs, the PLL lock starts it and begins the second stage; in Vigil a tick passes in the count alone. Rules R48, R52, R53, R56, R57, R58, R74,
R76. -/
def Obligations.ClockCommandsComplete : Prop :=
  (∀ (s : State) (r : Bool), s.slotOpen 14 → s.clk.req = some r → s.clk.reqLate = false → ∃ t : State, exec .commitSlot s = .next t ∧ t = ({ (s.atCycle 3900).slotDone 14 with clk := { ((s.atCycle 3900).slotDone 14).clk with commit := some r, req := none } }) ∧ t.clk.commit = some r ∧ t.clk.req = none ∧ t.regs = s.regs) ∧
  (∀ (s : State), s.slotOpen 14 → s.clk.req = none ∨ s.clk.reqLate → ∃ t : State, exec .commitSlot s = .next t ∧ t = ((s.atCycle 3900).slotDone 14) ∧ t.clk.commit = s.clk.commit ∧ t.clk.req = s.clk.req ∧ t.regs = s.regs) ∧
  (∀ (s : State) (ns : Nat), s.running → 1000 ≤ ns → ∃ t : State, exec (.referenceLoss ns) s = .next t ∧ t = ((s.p CLK_STAT_REF_OK 0).clockFault 18) ∧ t.clk.fault.isSome) ∧
  (∀ (s : State) (n : Nat), s.running → 64 ≤ n → ∃ t : State, exec (.pllUnlock n) s = .next t ∧ t = ((s.p CLK_STAT_LOCK 0).clockFault 17) ∧ t.clk.fault.isSome) ∧
  (∀ (s : State) (e : Nat), s.running → s.clk.fault = some e → s.allParked ∨ e + fiveMs ≤ s.instant → ∃ t : State, exec .clockFaultReset s = .next t ∧ t = (s.enterReset 2) ∧ t.pwr.inReset = some 2 ∧ t.clk = {}) ∧
  (∀ (s : State), s.pwr.inReset = none → s.pwr.vigil = false → s.g SYS_BOOT_STAGE = 0 → s.clk.core = false → ∃ t : State, exec .pllLock s = .next t ∧ t = ((({ (s.p CLK_STAT_LOCK 1).p CLK_STAT_REF_OK 1 with clk := { s.clk with core := true } } : State).p SYS_BOOT_STAGE 1).stageEndAt 0) ∧ t.g CLK_STAT_LOCK = 1 ∧ t.g SYS_BOOT_STAGE = 1 ∧ t.clk = { s.clk with core := true }) ∧
  (∀ (s : State), s.running → s.on CLK_TRIM_AT_LIMIT → 63 ≤ s.clk.trimRun → s.clk.trimRaised = false → ∃ t : State, exec .trimLimitEpisode s = .next t ∧ t = (({ s with clk := { s.clk with trimRaised := true } } : State).raise 21) ∧ t.clk.trimRaised = true ∧ t.evtPend 21) ∧
  (∀ (s : State) (k : Fin 5) (i : Nat), s.running → 64 ≤ (s.loopAt (loopId k i)).run → (s.loopAt (loopId k i)).raised = false → ∃ t : State, exec (.pinnedEpisodeEvent k i) s = .next t ∧ t = ((({ s with loops := Tbl.put s.loops (loopId k i) { s.loopAt (loopId k i) with raised := true } } : State).hwSet SYS_LOOPPIN_EPI_SEEN 0 0 k).raise (160 + k)) ∧ t.evtPend (160 + k) ∧ (t.loopAt (loopId k i)).raised = true) ∧
  (∀ (s : State) (x : TickIn), s.running → s.clk.load.isSome → exec (.tickNumberLoad x) s = .next (s.tickEdge x)) ∧
  (∀ (s : State) (x : TickIn), s.running → exec (.tickEdge x) s = .next (s.tickEdge x)) ∧
  (∀ (s : State) (x : TickIn), s.running = false → s.pwr.vigil → ∃ t : State, exec (.tickEdge x) s = .next t ∧ t = (({ s with clk := { s.clk with tick := (s.clk.tick + 1) % 2 ^ 48 }, pin := { s.pin with drv := x.padDrv, lvl := x.padLvl } } : State).wakeEdge x.lowA x.highA) ∧ t.clk.tick = (s.clk.tick + 1) % 2 ^ 48 ∧ t.regs = s.regs)

/-- A supply level judged for 20 ns: at or below its warning level, or at or above the over-voltage level, it begins or continues a hold with its cause
active and raises its event; VM at or below 8 V raises event 36 with the heads retracting. VIN at or below 2450 mV for 20 ns asserts the reset of
cause 1, in another warm reset also the cause alone, and in a cold reset nothing. A rail more than 5 % from its set value for 2 µs asserts the reset
of cause 5, a falling always-on supply and RESET_N low for a microsecond the cold reset. Rules R80, R81, R83, R84, R90, R152. -/
def Obligations.SupplyCrossingsComplete : Prop :=
  (∀ (s : State) (mv ns : Nat), s.running → mv ≤ s.vinWarnMv → 20 ≤ ns → ∃ t : State, exec (.vinWarningCrossing mv ns) s = .next t ∧ t = (s.holdCross 0) ∧ t.evtPend 32) ∧
  (∀ (s : State) (mv ns : Nat), s.running → 5750 ≤ mv → 20 ≤ ns → ∃ t : State, exec (.vinOverCrossing mv ns) s = .next t ∧ t = (s.holdCross 1) ∧ t.evtPend 32) ∧
  (∀ (s : State) (mv ns : Nat), s.running → mv ≤ s.vmWarnMv → 20 ≤ ns → ∃ t : State, exec (.vmWarningCrossing mv ns) s = .next t ∧ t = (s.holdCross 2) ∧ t.evtPend 34) ∧
  (∀ (s : State) (mv ns : Nat), s.running → mv ≤ 8000 → 20 ≤ ns → ∃ t : State, exec (.vmLossCrossing mv ns) s = .next t ∧ t.evtPend 36 ∧ t.pwr.vmLoss = true) ∧
  (∀ (s : State) (mv ns : Nat), mv ≤ 2450 → 20 ≤ ns → s.pwr.inReset = none → ∃ t : State, exec (.vinResetCrossing mv ns) s = .next t ∧ t = (s.enterReset 1) ∧ t.pwr.inReset = some 1) ∧
  (∀ (s : State) (mv ns : Nat) (c : Nat), mv ≤ 2450 → 20 ≤ ns → s.pwr.inReset = some (c + 1) → ∃ t : State, exec (.vinResetCrossing mv ns) s = .next t ∧ t = ({ (s.p SVY_RSTCAUSE_PREV (s.g SVY_RSTCAUSE_CAUSE)).p SVY_RSTCAUSE_CAUSE 1 with pwr := { s.pwr with inReset := some 1 } }) ∧ t.pwr.inReset = some 1 ∧ t.g SVY_RSTCAUSE_CAUSE = 1) ∧
  (∀ (s : State) (mv ns : Nat), s.pwr.inReset = some 0 → exec (.vinResetCrossing mv ns) s = .next (s)) ∧
  (∀ (s : State) (rail : Fin 3) (v ns : Nat), s.pwr.inReset = none → s.pwr.vigil = false → s.railSet rail < 20 * distN v (s.railSet rail) → 2000 ≤ ns → ∃ t : State, exec (.powerGoodFailure rail v ns) s = .next t ∧ t = (s.enterReset 5) ∧ t.pwr.inReset = some 5) ∧
  (∀ (s : State) (mv : Nat), mv < 1800 → ∃ t : State, exec (.alwaysOnReset mv) s = .next t ∧ t = (s.enterReset 0) ∧ t.pwr.inReset = some 0) ∧
  (∀ (s : State) (ns : Nat), 1000 ≤ ns → ∃ t : State, exec (.resetNAssert ns) s = .next t ∧ t = (s.enterReset 0) ∧ t.pwr.inReset = some 0) ∧
  (∀ (s : State) (ns : Nat), ns < 100 → exec (.resetNAssert ns) s = .next (s))

/-- With the core running in a hold, a cause that is active and whose recovery count has reached 25 clears; with no other cause active the hold ends, else
it goes on with the count of the causes that remain. Rules R86. -/
def Obligations.HoldCausesClear : Prop :=
  (∀ (s : State), s.running → s.holding → s.pwr.vinLo.active → 25 ≤ s.pwr.vinLo.count → s.pwr.vinHi.active = false → s.pwr.vmLo.active = false → exec (.holdCauseClear 0) s = .next ((({ s with pwr := { s.pwr with vinLo := {} } } : State).p PWR_HOLD_VIN_LO 0).holdEnd)) ∧
  (∀ (s : State), s.running → s.holding → s.pwr.vinLo.active → 25 ≤ s.pwr.vinLo.count → s.pwr.vinHi.active ∨ s.pwr.vmLo.active → ∃ t : State, exec (.holdCauseClear 0) s = .next t ∧ t = ((({ s with pwr := { s.pwr with vinLo := {} } } : State).p PWR_HOLD_VIN_LO 0).p PWR_HOLD_RCVCNT (({ s with pwr := { s.pwr with vinLo := {} } } : State).p PWR_HOLD_VIN_LO 0).rcvCount) ∧ t.pwr.vinLo = {}) ∧
  (∀ (s : State), s.running → s.holding → s.pwr.vinHi.active → 25 ≤ s.pwr.vinHi.count → s.pwr.vinLo.active = false → s.pwr.vmLo.active = false → exec (.holdCauseClear 1) s = .next ((({ s with pwr := { s.pwr with vinHi := {} } } : State).p PWR_HOLD_VIN_HI 0).holdEnd)) ∧
  (∀ (s : State), s.running → s.holding → s.pwr.vinHi.active → 25 ≤ s.pwr.vinHi.count → s.pwr.vinLo.active ∨ s.pwr.vmLo.active → ∃ t : State, exec (.holdCauseClear 1) s = .next t ∧ t = ((({ s with pwr := { s.pwr with vinHi := {} } } : State).p PWR_HOLD_VIN_HI 0).p PWR_HOLD_RCVCNT (({ s with pwr := { s.pwr with vinHi := {} } } : State).p PWR_HOLD_VIN_HI 0).rcvCount) ∧ t.pwr.vinHi = {}) ∧
  (∀ (s : State), s.running → s.holding → s.pwr.vmLo.active → 25 ≤ s.pwr.vmLo.count → s.pwr.vinLo.active = false → s.pwr.vinHi.active = false → exec (.holdCauseClear 2) s = .next (((({ s with pwr := { s.pwr with vmLo := {} } } : State).p PWR_HOLD_VM_LO 0).raise 35).holdEnd)) ∧
  (∀ (s : State), s.running → s.holding → s.pwr.vmLo.active → 25 ≤ s.pwr.vmLo.count → s.pwr.vinLo.active ∨ s.pwr.vinHi.active → ∃ t : State, exec (.holdCauseClear 2) s = .next t ∧ t = (((({ s with pwr := { s.pwr with vmLo := {} } } : State).p PWR_HOLD_VM_LO 0).raise 35).p PWR_HOLD_RCVCNT ((({ s with pwr := { s.pwr with vmLo := {} } } : State).p PWR_HOLD_VM_LO 0).raise 35).rcvCount) ∧ t.pwr.vmLo = {})

/-- Each command takes its effect where its conditions hold: loaded heads are unloaded in a long hold, the reset is released with the straps as sampled
where the release conditions of its cause hold and otherwise goes on, a power loss is declared by its pin or by the supplies, a complete journal ends
in the reset of cause 3, and the power state moves; a pending Vigil begins and then is entered. Rules R89, R94, R104, R105, R198, R705. -/
def Obligations.PowerSequencesComplete : Prop :=
  (∀ (s : State), s.running → s.holding → 1250 ≤ s.g PWR_HOLD_ELAPSED → s.rcvCount = 0 → s.on PWR_HOLD_UNLOADED = false → s.anyLoaded → ∃ t : State, exec .holdUnload s = .next t ∧ t = (((s.deadlineStop.holdDown.unloadAll 1).p PWR_HOLD_UNLOADED 1).raise 37) ∧ t.evtPend 37 ∧ t.g PWR_HOLD_UNLOADED = 1) ∧
  (∀ (s : State) (x : ReleaseIn) (cause : Nat), s.pwr.inReset = some cause → (x.die.foldl State.filterDie s).releaseOk x cause → x.straps / 8 % 2 = 0 → ∃ t : State, exec (.resetRelease x) s = .next t ∧ t.pwr.inReset = none ∧ t.g SYS_BOOT_WARM = b2n (cause != 0) ∧ t.g PIN_STRAP_PCIEW = x.straps / 2 % 4) ∧
  (∀ (s : State) (x : ReleaseIn) (cause : Nat), s.pwr.inReset = some cause → (x.die.foldl State.filterDie s).releaseOk x cause = false → exec (.resetRelease x) s = .next (x.die.foldl State.filterDie s)) ∧
  (∀ (s : State), s.running → s.on PWR_CFG_PF_EN → 2 ≤ s.pwr.pfLow → s.pwr.loss = none → exec (.powerLossDeclared true) s = .next (s.powerLoss 0)) ∧
  (∀ (s : State), s.running → s.pwr.vinLo.active → s.pwr.vmLoss → s.pwr.loss = none → exec (.powerLossDeclared false) s = .next (s.powerLoss 1)) ∧
  (∀ (s : State), s.pwr.loss.isSome → s.journalBusy = false → s.pwr.inReset = none → ∃ t : State, exec .journalComplete s = .next t ∧ t = (s.enterReset 3) ∧ t.pwr.inReset = some 3) ∧
  (∀ (s : State), s.running → s.g SYS_BOOT_STAGE = 4 → s.g PWR_STATE_CUR = 0 → s.g PWR_TMR_IDLE ≤ s.pwr.idleTicks → ∃ t : State, exec .idleTimer s = .next t ∧ t = (s.powerState 1) ∧ t.g PWR_STATE_CUR = 1 ∧ t.evtPend 43) ∧
  (∀ (s : State), s.running → s.g SYS_BOOT_STAGE = 4 → s.g PWR_STATE_CUR < 2 → s.g PWR_TMR_STBY ≠ 0 → 25000 * s.g PWR_TMR_STBY ≤ s.pwr.stbyTicks → s.g PWR_STATE_PEND = 0 → s.pwr.entering = none → exec .standbyTimer s = .next ((({ s with pwr := { s.pwr with stbyTicks := 0 } } : State).orderPower 2).2)) ∧
  (∀ (s : State), s.running → s.g PWR_STATE_PEND = 2 → s.mayEnter 2 → s.pwr.entering = none → exec .pendingTransitionProceed s = .next ((s.orderPower 2).2)) ∧
  (∀ (s : State), s.running → s.g PWR_STATE_PEND = 3 → s.g PWR_STATE_CUR = 2 → s.mayEnter 3 → (s.cmds.any fun e => e.2.sq == 0 && e.2.opc == 0x18) = false → s.pwr.entering = none → exec .pendingTransitionProceed s = .next (s.vigilBegin)) ∧
  (∀ (s : State) (n : Nat), s.running → s.g PWR_STATE_PEND = 3 → s.g PWR_STATE_CUR = 2 → s.mayEnter 3 → (s.cmds.any fun e => e.2.sq == 0 && e.2.opc == 0x18) = false → s.pwr.entering = some n → exec .pendingTransitionProceed s = .next (s.vigilEnter))

/-- Each command of the Surveyor takes its effect where its conditions hold: the post slot takes, posts and judges the samples; the throttle ends after
2500 cool ticks; the reset of cause 4 follows a critical temperature when every actuator is parked or 5 ms have passed; an acceleration above THR
drops the gates and inhibits writes until QUIET ticks were quiet; board sensors are read in their period and on their alert; the AVS step throttles
below 12 mV of margin and otherwise moves the core voltage. Rules R109, R110, R111, R113, R114, R116, R118, R120. -/
def Obligations.SurveyorCommandsComplete : Prop :=
  (∀ (s : State) (x : SurveyIn), s.slotOpen 5 → exec (.surveyorPost x) s = .next (((((s.atCycle 420).slotDone 5).surveyTake x).postSurvey x).thermalStep (dieMax (((s.atCycle 420).slotDone 5).surveyTake x).svy.die))) ∧
  (∀ (s : State) (x : SurveyIn), s.slotOpen 5 = false → exec (.surveyorPost x) s = .next (s)) ∧
  (∀ (s : State), s.running → s.svy.hot → 2500 ≤ s.svy.coolRun → ∃ t : State, exec .thermalThrottleEnd s = .next t ∧ t = ((({ s with svy := { s.svy with hot := false } } : State).p SVY_TEMP_THROT (s.g SVY_AVS_MTHROT)).raise 41) ∧ t.svy.hot = false ∧ t.evtPend 41) ∧
  (∀ (s : State) (e : Nat), s.running → s.svy.critical = some e → s.allParked ∨ e + fiveMs ≤ s.instant → ∃ t : State, exec .criticalTempReset s = .next t ∧ t = (s.enterReset 4) ∧ t.pwr.inReset = some 4) ∧
  (∀ (s : State) (mg : Nat), s.running → 500 * s.g SVY_SHKCFG_THR < mg → ∃ t : State, exec (.shockCrossing mg) s = .next t ∧ t.evtPend 39 ∧ t.svy.quietRun = 0 ∧ t.g SVY_SHOCK_INH = 1) ∧
  (∀ (s : State), s.running → s.on SVY_SHOCK_INH → s.g SVY_SHKCFG_QUIET ≤ s.svy.quietRun → exec .writeInhibitEnd s = .next (((s.p SVY_SHOCK_INH 0).reissue).shockRestart)) ∧
  (∀ (s : State) (k : Fin 4) (b : List Byte), s.running → s.chart.applied → s.gki SVY_BSENS_EN 0 k = 1 → 25000 ≤ Tbl.getD s.svy.boardTicks k 0 → ∃ t : State, exec (.boardSensorRead k (some b)) s = .next t ∧ Tbl.getD t.svy.board k 0 = sensorValue (s.gki SVY_BSENS_FORMAT 0 k) b ∧ Tbl.getD t.svy.boardTicks k 0 = 0 ∧ t.regs = s.regs) ∧
  (∀ (s : State) (k : Fin 4), s.running → s.chart.applied → s.gki SVY_BSENS_EN 0 k = 1 → 25000 ≤ Tbl.getD s.svy.boardTicks k 0 → exec (.boardSensorRead k none) s = .next (({ s with svy := { s.svy with boardTicks := Tbl.put s.svy.boardTicks k 0 } } : State).sensorRead k none)) ∧
  (∀ (s : State) (k : Fin 4) (b : Option (List Byte)), s.running → s.chart.applied → s.gki SVY_BSENS_EN 0 k = 1 → k.val ∈ s.svy.alert → exec (.sensorAlertRead k b) s = .next (({ s with svy := { s.svy with alert := s.svy.alert.filter (· != k.val) } } : State).sensorRead k b)) ∧
  (∀ (s : State) (m : Nat), s.slotOpen 8 → s.chart.applied → 12 ≤ m → s.svy.hotL = false → s.on SVY_AVS_MTHROT = false → ∃ t : State, exec (.avsStep m) s = .next t ∧ t = ((s.avsMargin m).avsFree m) ∧ (s.avsMargin m).g SVY_AVS_MARGIN = min m 255) ∧
  (∀ (s : State) (m : Nat), s.slotOpen 8 → s.chart.applied → m < 12 → s.on SVY_AVS_MTHROT = false → exec (.avsStep m) s = .next (((s.avsMargin m).marginThrottle).loopHold 0)) ∧
  (∀ (s : State) (m : Nat), s.slotOpen 8 → s.chart.applied → 12 ≤ m → s.svy.hotL ∨ (s.avsMargin m).on SVY_AVS_MTHROT → exec (.avsStep m) s = .next ((s.avsMargin m).loopHold 0)) ∧
  (∀ (s : State), s.running → s.on SVY_AVS_MTHROT → 256 ≤ s.svy.okRun → ∃ t : State, exec .marginThrottleEnd s = .next t ∧ t = (((s.p SVY_AVS_MTHROT 0).p SVY_TEMP_THROT (b2n s.svy.hot)).raise 41) ∧ t.evtPend 41 ∧ t.svy = s.svy)

/-- A change that stood long enough and is not the level accepted last is accepted: an edge of the mode sets PEND, or OVF where it finds PEND set, stamps
its time and raises event 48 + n; a level of the mode sets PEND with the stamp and event until the level ends; a change that is not accepted does
nothing. Pulses end at their cycle, the pin configuration applies at the first edge after the chart, wake conditions that qualify wake the device from
Vigil or latch while it enters, PERST_N is taken and released. Rules R133, R136, R139, R143, R149, R151, R213. -/
def Obligations.PinCommandsComplete : Prop :=
  (∀ (s : State) (n : Fin 16) (r : Bool) (held : Nat), s.extAccepts n r held → s.gki PIN_EXTCFG_MODE 0 n = 3 ∨ (s.gki PIN_EXTCFG_MODE 0 n = 1 ∧ r = true) ∨ (s.gki PIN_EXTCFG_MODE 0 n = 2 ∧ r = false) → bitAt (s.g PIN_EXTPEND_PEND) n = false → ∃ t : State, exec (.extintEdge n r held) s = .next t ∧ t = ((((s.extTake n r).extStamp n).hwSet PIN_EXTPEND_PEND 0 0 n).raise (48 + n)) ∧ t.evtPend (48 + n)) ∧
  (∀ (s : State) (n : Fin 16) (r : Bool) (held : Nat), s.extAccepts n r held → s.gki PIN_EXTCFG_MODE 0 n = 3 ∨ (s.gki PIN_EXTCFG_MODE 0 n = 1 ∧ r = true) ∨ (s.gki PIN_EXTCFG_MODE 0 n = 2 ∧ r = false) → bitAt (s.g PIN_EXTPEND_PEND) n → ∃ t : State, exec (.extintEdge n r held) s = .next t ∧ t = ((((s.extTake n r).extStamp n).hwSet PIN_EXTPEND_OVF 0 0 n).raise (48 + n)) ∧ t.evtPend (48 + n)) ∧
  (∀ (s : State) (n : Fin 16) (r : Bool) (held : Nat), s.extAccepts n r held = false → exec (.extintEdge n r held) s = .next (s)) ∧
  (∀ (s : State) (n : Fin 16) (v : Bool) (held : Nat), s.extAccepts n v held → (s.gki PIN_EXTCFG_MODE 0 n = 4 ∧ v = true) ∨ (s.gki PIN_EXTCFG_MODE 0 n = 5 ∧ v = false) → bitAt s.pin.active n = false → ∃ t : State, exec (.extintLevel n v held) s = .next t ∧ t = (({ (((s.extTake n v).hwSet PIN_EXTPEND_PEND 0 0 n).extStamp n) with pin := { (s.extTake n v).pin with active := setBit s.pin.active n } } : State).raise (48 + n)) ∧ t.evtPend (48 + n)) ∧
  (∀ (s : State) (n : Fin 16) (v : Bool) (held : Nat), s.extAccepts n v held → (s.gki PIN_EXTCFG_MODE 0 n = 4 ∧ v = false) ∨ (s.gki PIN_EXTCFG_MODE 0 n = 5 ∧ v = true) → bitAt s.pin.active n → exec (.extintLevel n v held) s = .next ({ (s.extTake n v).hwClr PIN_EXTPEND_PEND 0 0 n with pin := { (s.extTake n v).pin with active := clrBit s.pin.active n } })) ∧
  (∀ (s : State) (n : Fin 16) (v : Bool) (held : Nat), s.extAccepts n v held = false → exec (.extintLevel n v held) s = .next (s)) ∧
  (∀ (s : State) (n : Fin 16) (e : Nat), s.running → Tbl.find s.pin.pulse n = some e → e ≤ s.cyc → exec (.evoPulseEnd n) s = .next ({ s with pin := { s.pin with pulse := Tbl.del s.pin.pulse n } })) ∧
  (∀ (s : State), s.running → s.chart.applied → s.pin.applied = false → s.clk.cycle = 0 → Tbl.getD s.boot.began 0 0 < s.clk.edges → ∃ t : State, exec .pinConfigApply s = .next t ∧ t.pin.applied = true ∧ t.pin.asleep = []) ∧
  (∀ (s : State) (l : BitVec 16) (perst : Bool), s.pin.armed → s.pwr.vigil → s.pwr.inReset = none → (maskOf 16 fun i => s.qualifies i (bitAt l.toNat i)) ≠ 0 ∨ perst = true → ∃ t : State, exec (.wakeQualify l perst) s = .next t ∧ t = (({ s with boot := { s.boot with perst := s.boot.perst && !perst } } : State).wake (maskOf 16 fun i => s.qualifies i (bitAt l.toNat i)) perst) ∧ t.pwr.inReset = some 6 ∧ t.clk.tick = s.clk.tick) ∧
  (∀ (s : State) (l : BitVec 16) (perst : Bool), s.pin.armed → s.running → s.pwr.vigil = false → s.pwr.entering = some 3 → (maskOf 16 fun i => s.qualifies i (bitAt l.toNat i)) ≠ 0 ∨ perst = true → exec (.wakeQualify l perst) s = .next ({ s with pin := { s.pin with latched := some (maskOf 16 fun i => s.qualifies i (bitAt l.toNat i), perst) } })) ∧
  (∀ (s : State) (l : BitVec 16) (perst : Bool), s.pin.armed = false → exec (.wakeQualify l perst) s = .next (s)) ∧
  (∀ (s : State), s.boot.perst = false → exec .perstNAssert s = .next ((({ s with boot := { s.boot with perst := true } } : State).perstQueues).linkDown)) ∧
  (∀ (s : State), s.boot.perst → exec .perstNAssert s = .next (s)) ∧
  (∀ (s : State), exec .perstNDeassert s = .next ({ s with boot := { s.boot with perst := false } }))

/-- A mask write stores the mask and touches no other register; POP drops the oldest received payload; a received event parcel enters the receive queue
with event 187, or is dropped and counted where the queue is full. Rules R636, R640. -/
def Obligations.EventRegisterCommandsComplete : Prop :=
  (∀ (s : State) (r : Fin 6) (v : BitVec 32), s.barOpen → ∃ t : State, exec (.evtMaskWrite r v) s = .next t ∧ t = (s.evtMaskWrite r v.toNat) ∧ t.regs = (s.pki EVT_MASK 0 r v.toNat).regs) ∧
  (∀ (s : State), s.barOpen → exec .evtFabctlPop s = .next (({ s with evt := { s.evt with recvQ := s.evt.recvQ.drop 1, fullEpi := false } } : State).p EVT_FABCTL_N (s.evt.recvQ.drop 1).length)) ∧
  (∀ (s : State) (b : List Byte), s.running → s.evt.recvQ.length < 16 → ∃ t : State, exec (.event b) s = .next t ∧ t = ((({ s with evt := { s.evt with recvQ := s.evt.recvQ ++ [b] } } : State).p EVT_FABCTL_N (s.evt.recvQ ++ [b]).length).raise 187) ∧ t.evtPend 187) ∧
  (∀ (s : State) (b : List Byte), s.running → 16 ≤ s.evt.recvQ.length → s.evt.fullEpi = false → ∃ t : State, exec (.event b) s = .next t ∧ t = (({ s.bump EVT_FABCTL_DROPIN 1 with evt := { s.evt with fullEpi := true } } : State).raise 188) ∧ t.evtPend 188)

/-- The self-test ends in the chart stage or in fault mode, the chart stage ends in chart-absent mode or with the chart applied, the DRAM branch trains,
fails or becomes ready, the hand-over ends, a stage past its bound takes its exit, Ready is entered, and a host-ordered reset begins and is entered.
Rules R199, R201, R203, R207, R220, R391, R644. -/
def Obligations.StartUpCommandsComplete : Prop :=
  (∀ (s : State), s.running → s.g SYS_BOOT_STAGE = 1 → s.on PIN_STRAP_SCANHOLD = false → ∃ t : State, exec (.bistEnd none) s = .next t ∧ t.g SYS_BOOT_STAGE = 2) ∧
  (∀ (s : State) (b : BitVec 8) (d : BitVec 16), s.running → s.g SYS_BOOT_STAGE = 1 → s.on PIN_STRAP_SCANHOLD = false → ∃ t : State, exec (.bistEnd (some (b, d))) s = .next t ∧ t.g SYS_BOOT_STAGE = 0xE ∧ t.g SYS_BOOT_FCODE = 1 ∧ t.evtPend 2) ∧
  (∀ (s : State) (d : List Bool), s.g SYS_BOOT_STAGE = 2 → s.pwr.inReset = none → ∃ t : State, exec (.chartStage d) s = .next t ∧ t = (if (s.chartScan d).g CHT_STAT_ACTIVE = 3 then (s.chartScan d).chartAbsent else (s.chartScan d).applyChart) ∧ ((s.chartScan d).g CHT_STAT_ACTIVE = 3 → t.g SYS_BOOT_STAGE = 0xF ∧ t.g CHT_STAT_ABSENT = 1 ∧ t.evtPend 66)) ∧
  (∀ (s : State) (ok : Bool) (g h : Nat), s.running → s.g SYS_BOOT_STAGE = 3 → s.g SYS_BOOT_DRAM = 1 → ok = true → g = s.secLe 0x51 0 0 1 0 → h = s.secLe 0x51 0 0 1 0 → ∃ t : State, exec (.dramInitComplete ok g h) s = .next t ∧ t.g SYS_BOOT_DRAM = 2 ∧ t.g DRM_STAT_STATE = 2) ∧
  (∀ (s : State) (ok : Bool) (g h : Nat), s.running → s.g SYS_BOOT_STAGE = 3 → s.g SYS_BOOT_DRAM = 1 → ok = false ∨ g ≠ s.secLe 0x51 0 0 1 0 ∨ h ≠ s.secLe 0x51 0 0 1 0 → ∃ t : State, exec (.dramInitComplete ok g h) s = .next t ∧ t = (s.dramFail) ∧ t.g SYS_BOOT_STAGE = 0xE ∧ t.g SYS_BOOT_FCODE = 0x10 ∧ t.evtPend 2) ∧
  (∀ (s : State) (ok : Bool) (g h : Nat), s.running → s.g SYS_BOOT_STAGE = 3 → s.g SYS_BOOT_DRAM = 2 → s.dramEdge + s.dramInitTicks ≤ s.clk.edges → exec (.dramInitComplete ok g h) s = .next (s.dramReady)) ∧
  (∀ (s : State), s.running → s.g SYS_BOOT_STAGE = 3 → s.g SYS_BOOT_MEDIA = 1 → 25 ≤ s.boot.vmRun → s.handoverPower → toSigned 12 (s.g SVY_TEMP_TMAX) < 8 * (s.g SVY_THERM_THROT : Int) → exec .handoverEnd s = .next (((((s.stageEndAt 4).p SYS_BOOT_MEDIA 2).stageBegin 1).spindleStart 0))) ∧
  (∀ (s : State) (st : Stage) (us : Nat), s.pwr.inReset = none → s.pwr.vigil = false → s.stageRuns st → s.stageLate us st → exec (.stageBoundExpiry st us) s = .next (s.stageExit st)) ∧
  (∀ (s : State), s.running → s.g SYS_BOOT_STAGE = 3 → s.g SYS_BOOT_DRAM = 3 → s.g SYS_BOOT_MEDIA = 4 → s.g SYS_BOOT_FAB = 5 ∨ s.g SYS_BOOT_FAB = 6 → exec .ready s = .next (s.enterReady)) ∧
  (∀ (s : State), s.barOpen → s.pwr.hostReset = none → s.pwr.loss = none → ∃ t : State, exec (.sysRstctlGo 0x9440) s = .next t ∧ t = (s.hostReset) ∧ t.pwr.hostReset.isSome) ∧
  (∀ (s : State), s.pwr.hostReset.isSome → s.anyLoaded = false → s.journalBusy = false → ∃ t : State, exec .hostResetEnter s = .next t ∧ t = (s.enterReset 7) ∧ t.pwr.inReset = some 7)

/-- A sector erase that ends, blank and within ten times its longest time or not, has its consequences, as has a page program, of a bracket mark or of
data, that reads back as written within its longest time or not; the background erase asks for a half-erased sector that waits for none, else for a
used journal sector. Rules R159, R175, R185. -/
def Obligations.FlashCommandsComplete : Prop :=
  (∀ (s : State) (n : Nat) (ok : Bool) (j : FlashJob), s.chart.busy = some j → j.erase → j.phase = 2 → s.pwr.inReset = none → exec (.flashEraseComplete n ok) s = .next (s.eraseEnd j n (ok && decide (n ≤ 10 * s.seMax)))) ∧
  (∀ (s : State) (ok : Bool) (us : Nat) (j : FlashJob), s.chart.busy = some j → j.erase = false → s.pwr.inReset = none → exec (.flashProgramComplete ok us) s = .next (s.pageEnd j (ok && decide (us ≤ s.ppMax)))) ∧
  (∀ (s : State) (ok : Bool) (us : Nat) (j : FlashJob), s.chart.busy = some j → j.erase → j.phase ≠ 2 → s.pwr.inReset = none → exec (.flashProgramComplete ok us) s = .next (s.markEnd j (ok && decide (us ≤ s.ppMax)))) ∧
  (∀ (s : State) (n : Nat), 3 ≤ s.g SYS_BOOT_STAGE → s.pwr.inReset = none → s.pwr.loss = none → s.chart.half = [n] → (s.wearOf n).state ≠ 2 → isChartSector (s.logicalSector n) = false → s.chart.jobs = [] → s.chart.busy = none → exec .flashBackgroundErase s = .next (s.flashAsk { prio := 6, erase := true, addr := s.logicalSector n * 65536, why := .half })) ∧
  (∀ (s : State), 3 ≤ s.g SYS_BOOT_STAGE → s.pwr.inReset = none → s.pwr.loss = none → s.chart.half = [] → s.journalUsed 0 → s.chart.jobs = [] → s.chart.busy = none → exec .flashBackgroundErase s = .next (s.flashAsk { prio := 6, erase := true, addr := 516 * 65536, why := .journal }))

/-- The snapshot slot and the statistics slot do their work once a tick, the page edge and the operating second pass when they are due, a persistent
record goes to the flash where the sector has room and its next sector is begun where it has none, and held records follow into the ring as far as the
host has read. Rules R610, R614, R616, R620, R624, R626. -/
def Obligations.GazetteerCommandsComplete : Prop :=
  (∀ (s : State) (c : Option Nat), s.slotOpen 13 → s.chart.applied → bitAt s.clk.slots 15 = false → exec (.snapshotSlot c) s = .next (((s.atCycle 3400).snapshot c).slotDone (if c.isNone then 13 else 15))) ∧
  (∀ (s : State), s.slotOpen 7 → ∃ t : State, exec .statisticsSlot s = .next t ∧ t = (((s.atCycle 600).tickSamples.eventRecords).slotDone 7) ∧ bitAt t.clk.slots 7) ∧
  (∀ (s : State), s.running → s.gaz.paged → s.pageTicks ≤ s.gaz.pageEdges → exec .statisticsPageEdge s = .next (s.pageEdge)) ∧
  (∀ (s : State), s.running → s.on GAZ_STAT_PREADY → 250000 ≤ s.gaz.edges → exec .opsecTick s = .next (s.opsecTick)) ∧
  (∀ (s : State) (e : PRec) (rest : List PRec), s.pqueue = e :: rest → s.running → s.on GAZ_STAT_PREADY → s.on GAZ_STAT_PDIS = false → s.pwr.loss = none → s.gazWriting = false → s.sectorRoom e.r.len → exec .persistentWrite s = .next (s.programRecord e rest)) ∧
  (∀ (s : State) (e : PRec) (rest : List PRec), s.pqueue = e :: rest → s.running → s.on GAZ_STAT_PREADY → s.on GAZ_STAT_PDIS = false → s.pwr.loss = none → s.gazWriting = false → s.sectorRoom e.r.len = false → s.on GAZ_STAT_SEALED = false → s.gaz.nextReady → exec .persistentWrite s = .next (s.gazTakeNext)) ∧
  (∀ (s : State) (n x e : Nat), s.gaz.xfer = some (x, e) → s.running → x ≤ n → n < e → exec (.ringHoldRelease n) s = .next (({ s with gaz := { s.gaz with xfer := some (n, e) } } : State).holdDrain 64))

/-- An engine of a present actuator does its work of the tick; a safe hold ends after its clean ticks; the trace is armed where it has a bench, stopped
and triggered while armed, and its capture ends with event 111. Rules R287, R308, R314, R315, R316. -/
def Obligations.EngineCommandsComplete : Prop :=
  (∀ (s : State) (k : Fin 4) (x : CtlIn), s.slotOpen k.val → k.val < s.nAct → (Tbl.getD s.eng k {}).stop = none → exec (.controlRun k x) s = .next (s.engineRun k x)) ∧
  (∀ (s : State) (k : Fin 4) (h : Safe), (Tbl.getD s.eng k {}).safe = some h → s.running → s.secLe 0x12 k 2 2 25 ≤ h.clean → (Tbl.getD s.eng k {}).endHold = false → exec (.safeHoldEnd k) s = .next ((s.holdExit k h).latchRun k)) ∧
  (∀ (s : State) (k : Fin 4), s.barOpen → (s.trcBench k).isSome → exec (.ctlTraceArm k) s = .next ({ (((((s.pk CTL_TRCSTAT_STATE k 1).pk CTL_TRCSTAT_WPTR k 0).pk CTL_TRCSTAT_WRAPPED k 0).pk CTL_TRCSTAT_IGNORED k 0).pk CTL_TRCTS k 0).pk CTL_TRCTRIGW k 0 with trcTick := Tbl.del s.trcTick k, trcLeft := Tbl.del s.trcLeft k })) ∧
  (∀ (s : State) (k : Fin 4), s.barOpen → s.gk CTL_TRCSTAT_STATE k = 1 → ∃ t : State, exec (.ctlTraceStop k) s = .next t ∧ t = (s.trcTrigger k 0) ∧ Tbl.getD t.trcLeft k 0 = if Tbl.find s.trcTick k = some s.clk.tick then 0 else 1) ∧
  (∀ (s : State) (k : Fin 4), s.barOpen → s.gk CTL_TRCSTAT_STATE k = 1 → ∃ t : State, exec (.ctlTraceTrig k) s = .next t ∧ t = (s.trcTrigger k (s.gk CTL_TRCCTL_POST k)) ∧ Tbl.getD t.trcLeft k 0 = s.gk CTL_TRCCTL_POST k + if Tbl.find s.trcTick k = some s.clk.tick then 0 else 1) ∧
  (∀ (s : State) (k : Fin 4), s.running → s.gk CTL_TRCSTAT_STATE k = 2 → Tbl.getD s.trcLeft k 0 = 0 → ∃ t : State, exec (.traceCaptureStop k) s = .next t ∧ t = ((s.pk CTL_TRCSTAT_STATE k 3).raise 111) ∧ t.evtPend 111)

/-- A TAP instruction changes the test port alone: its instruction register, the data register selected, the cells, the captured value and what the pins
drive. The instructions that drive pins act with the compliance enable alone, and select bypass without it; the driving instructions of the cells
leave the gate drivers observe-only; a code that no instruction has selects bypass. Rules R659. -/
def Obligations.TestPortCommandsComplete : Prop :=
  (∀ (s : State), exec .tapReset s = .next ({ s with tst := { s.tst with tap := { s.tst.tap with ir := 1, sel := 1, drive := 0, driven := 0 } } })) ∧
  (∀ (s : State) (cells pins : BitVec 968), s.on PIN_STRAP_SCANHOLD → exec (.extest cells pins) s = .next ({ s with tst := { s.tst with tap := { s.tst.tap with ir := 0, sel := 2, cells := cells.toNat, capture := pins.toNat, drive := 1, driven := drivingCells } } })) ∧
  (∀ (s : State) (cells pins : BitVec 968), s.on PIN_STRAP_SCANHOLD → exec (.extestPulse cells pins) s = .next ({ s with tst := { s.tst with tap := { s.tst.tap with ir := 6, sel := 2, cells := cells.toNat, capture := pins.toNat, drive := 1, driven := drivingCells } } })) ∧
  (∀ (s : State) (cells pins : BitVec 968), s.on PIN_STRAP_SCANHOLD → exec (.extestTrain cells pins) s = .next ({ s with tst := { s.tst with tap := { s.tst.tap with ir := 7, sel := 2, cells := cells.toNat, capture := pins.toNat, drive := 1, driven := drivingCells } } })) ∧
  (∀ (s : State) (cells pins : BitVec 968), s.on PIN_STRAP_SCANHOLD = false → exec (.extest cells pins) s = .next ({ s with tst := { s.tst with tap := { s.tst.tap with ir := 0, sel := 0, capture := 0, drive := 0, driven := 0 } } })) ∧
  (∀ (s : State) (cells pins : BitVec 968), s.on PIN_STRAP_SCANHOLD = false → exec (.extestPulse cells pins) s = .next ({ s with tst := { s.tst with tap := { s.tst.tap with ir := 6, sel := 0, capture := 0, drive := 0, driven := 0 } } })) ∧
  (∀ (s : State) (cells pins : BitVec 968), s.on PIN_STRAP_SCANHOLD = false → exec (.extestTrain cells pins) s = .next ({ s with tst := { s.tst with tap := { s.tst.tap with ir := 7, sel := 0, capture := 0, drive := 0, driven := 0 } } })) ∧
  (∀ (s : State), exec .idcode s = .next ({ s with tst := { s.tst with tap := { s.tst.tap with ir := 1, sel := 1, capture := idcode, drive := 0, driven := 0 } } })) ∧
  (∀ (s : State) (cells pins : BitVec 968), exec (.samplePreload cells pins) s = .next ({ s with tst := { s.tst with tap := { ir := 2, sel := 2, cells := cells.toNat, capture := pins.toNat, drive := 0 } } })) ∧
  (∀ (s : State), s.on PIN_STRAP_SCANHOLD → exec .highz s = .next ({ s with tst := { s.tst with tap := { s.tst.tap with ir := 4, sel := 0, capture := 0, drive := 2, driven := 0 } } })) ∧
  (∀ (s : State), s.on PIN_STRAP_SCANHOLD = false → exec .highz s = .next ({ s with tst := { s.tst with tap := { s.tst.tap with ir := 4, sel := 0, capture := 0, drive := 0, driven := 0 } } })) ∧
  (∀ (s : State), s.on PIN_STRAP_SCANHOLD → exec .clamp s = .next ({ s with tst := { s.tst with tap := { s.tst.tap with ir := 5, sel := 0, capture := 0, drive := 1, driven := drivingCells } } })) ∧
  (∀ (s : State), s.on PIN_STRAP_SCANHOLD = false → exec .clamp s = .next ({ s with tst := { s.tst with tap := { s.tst.tap with ir := 5, sel := 0, capture := 0, drive := 0, driven := 0 } } })) ∧
  (∀ (s : State) (op : BitVec 8), op.toNat = 3 ∨ 8 ≤ op.toNat → exec (.bypass op) s = .next ({ s with tst := { s.tst with tap := { s.tst.tap with ir := op.toNat, sel := 0, capture := 0, drive := 0, driven := 0 } } }))

/-- With the key, and where the chart and the fuses allow it, the debug port opens with event 27; it closes; a write of its window stores a dword in the
bench buffer in development mode; a read answers it. Rules R662, R663, R666. -/
def Obligations.DebugCommandsComplete : Prop :=
  (∀ (s : State), s.barOpen → bitAt (s.secLe 0xA0 0 6 1 0) 0 → s.on TST_FUSE_LOCK = false → s.on TST_DBGCTL_OPEN = false → ∃ t : State, exec (.tstDbgctlOpen 0x0DB6) s = .next t ∧ t = ((s.p TST_DBGCTL_OPEN 1).raise 27) ∧ t.on TST_DBGCTL_OPEN ∧ t.evtPend 27) ∧
  (∀ (s : State), s.barOpen → ∃ t : State, exec .tstDbgctlClose s = .next t ∧ t = (s.p TST_DBGCTL_OPEN 0) ∧ t.on TST_DBGCTL_OPEN = false) ∧
  (∀ (s : State) (i : Fin 1024) (v : BitVec 32), s.barOpen → s.on TST_DBGCTL_OPEN → s.on TST_FUSE_DEVMODE → s.solidAt (s.dbgAddr i) = none → exec (.tstDbgwinWrite i v) s = .next (s.bufWrite (s.dbgAddr i) (leBytes v.toNat 4))) ∧
  (∀ (s : State) (i : Fin 1024), s.barOpen → s.on TST_DBGCTL_OPEN → s.solidAt (s.dbgAddr i) = none → exec (.tstDbgwinRead i) s = .next (s.emit (.bus 0 (Memory.read 0 s.buf (s.dbgAddr i) 4)))) ∧
  (∀ (s : State) (m : BitVec 16), s.barOpen → exec (.tstSnaparm m) s = .next (s.snapLists.foldl (fun s l => if bitAt m.toNat l.1 then s.snapArm l.1 0xFF else s) s))

/-- A trained link sets the link registers; a configuration request is answered, with retry status before the chart stage has ended, and afterwards a
write of the Device Control of a present function is taken; the I²C target acknowledges its address. Rules R409, R680, R691. -/
def Obligations.EndpointCommandsComplete : Prop :=
  (∀ (s : State) (sp : Fin 5) (l : Fin 4), s.running → s.boot.perst = false → 2 ≤ s.g SYS_BOOT_STAGE → exec (.pcieLinkUp sp l) s = .next (s.linkTrained (sp + 1) (2 ^ l.val))) ∧
  (∀ (s : State) (fn : Fin 16) (dc : Option DevCtl), s.running → s.boot.perst = false → s.on MQP_PCIE_UP → s.g SYS_BOOT_STAGE < 3 ∨ s.fnOn fn = false ∨ dc = none → exec (.pcieConfigRequest fn dc) s = .next (s.emit (.config fn (decide (s.g SYS_BOOT_STAGE < 3)) (s.secLe 0x60 0 0 1 0) (s.secLe 0x60 0 2 2 0) (s.secLe 0x60 0 4 2 0) (128 * 2 ^ s.secLe 0x60 0 6 1 0) (s.gk MQP_CAP_VECN fn - 1)))) ∧
  (∀ (s : State) (fn : Fin 16) (d : DevCtl), s.running → s.boot.perst = false → s.on MQP_PCIE_UP → 3 ≤ s.g SYS_BOOT_STAGE → s.fnOn fn → ∃ t : State, exec (.pcieConfigRequest fn (some d)) s = .next t ∧ t = (({ s with devctl := Tbl.put s.devctl fn d } : State).emit (.config fn false (s.secLe 0x60 0 0 1 0) (s.secLe 0x60 0 2 2 0) (s.secLe 0x60 0 4 2 0) (128 * 2 ^ s.secLe 0x60 0 6 1 0) (s.gk MQP_CAP_VECN fn - 1))) ∧ Tbl.find t.devctl fn = some d) ∧
  (∀ (s : State) (a : BitVec 7), s.running → s.gki PIN_FUNC 0 0 = 3 → s.gki PIN_FUNC 0 1 = 3 → s.g SVY_I2CCFG_TADDR = a.toNat → exec (.i2cTargetTransaction a) s = .next (s.emit (.i2cAck a.toNat)))

/-- An uncorrectable bench error is counted, and where the word was last read by the same master it is no more than counted, else it raises event 137 and
its owner loses the data; a DRAM read fetches its block and serves it; a write of a waiting piece with a slab is committed; a scrub read is counted
and the patrol goes on; a training that fails marks its channel with event 142; the masters run the cycles presented; the credits are published and
refreshed. Rules R384, R396, R401, R405, R406, R430, R582. -/
def Obligations.MemorySystemCommandsComplete : Prop :=
  (∀ (s : State) (m : Fin 26) (o : BenchOwner), s.running → ((Tbl.find s.bench.last m).any (·.2)) = false → exec (.benchUncorrectable m o) s = .next ((((s.bump BEN_ECC_UNCORR 1).p BEN_ERR_MASTER m).raise 137).benchLost o)) ∧
  (∀ (s : State) (m : Fin 26) (o : BenchOwner), s.running → (Tbl.find s.bench.last m).any (·.2) → exec (.benchUncorrectable m o) s = .next (s.bump BEN_ECC_UNCORR 1)) ∧
  (∀ (s : State) (r l v : Nat) (n : Fin 64) (o : Bool), s.readerVol r = some v → s.running → 3 ≤ s.g DRM_STAT_STATE → s.dreads.contains (r, l) → s.slabBad v l = false → s.slabOf false v (l / 256) = none → exec (.dramReadComplete r l n .ok o) s = .next (({ s with dreads := s.dreads.erase (r, l) } : State).dramServed r v l)) ∧
  (∀ (s : State) (r l v : Nat) (n : Fin 64) (o : Bool) (e : Nat × Slab), s.readerVol r = some v → s.running → 3 ≤ s.g DRM_STAT_STATE → s.dreads.contains (r, l) → s.slabBad v l = false → s.slabOf false v (l / 256) = some e → exec (.dramReadComplete r l n .ok o) s = .next (({ s.dramFetch e.1 (l % 256) with dreads := s.dreads.erase (r, l) } : State).dramServed r v l)) ∧
  (∀ (s : State) (i : Nat) (p : OPiece) (e : Nat × Slab), Tbl.find s.pieces i = some p → s.running → p.phase = 2 → p.read = false → p.staged ≠ [] → 3 ≤ s.g DRM_STAT_STATE → s.slabOf false p.vol p.ext = some e → exec (.dramWriteComplete i) s = .next (s.commit i e.1)) ∧
  (∀ (s : State) (u : TableUse) (o : Bool), s.scrubMay → s.scrubLine ≠ 0 → exec (.scrubRead .ok u o) s = .next ((s.dramCount (dramCh (512 * s.g DRM_SCRUB + 64 * s.scrubLine)) false 1).scrubNext)) ∧
  (∀ (s : State) (c : DramCls) (u : TableUse) (o : Bool), s.scrubMay → s.scrubLine ≠ 0 → c ≠ .corrected ∨ o = true → exec (.scrubRead c u o) s = .next (((s.dramCount (dramCh (512 * s.g DRM_SCRUB + 64 * s.scrubLine)) false 1).lineCheck (512 * s.g DRM_SCRUB + 64 * s.scrubLine) u c o).scrubNext)) ∧
  (∀ (s : State) (m : Fin 2), s.running → 3 ≤ s.g DRM_STAT_STATE → bitAt (s.g DRM_STAT_FAULT) m = false → ∃ t : State, exec (.dramPeriodicTraining m false) s = .next t ∧ t = ((s.p DRM_STAT_FAULT (setBit (s.g DRM_STAT_FAULT) m)).raise 142) ∧ t.evtPend 142) ∧
  (∀ (s : State) (m : Fin 2), exec (.dramPeriodicTraining m true) s = .next (s)) ∧
  (∀ (s : State) (c : List (List BReq)), s.running → exec (.stallPromotion c) s = .next (s.benchRun c)) ∧
  (∀ (s : State) (a b : Nat), s.slotOpen 6 → s.chart.applied → ∃ t : State, exec (.creditRefresh a b) s = .next t ∧ t.credit = (List.range 16).map fun fn => (fn, (((s.atCycle 520).benchPublish (a + b)).slotDone 6).creditOf fn))

/-- Start order, listen, brake, align, attempts, acceleration, speed and the limits of a start move the spindle to the state that each rule names. Rules
R228, R230, R231, R232, R234, R235, R236, R238. -/
def Obligations.SpindleStartCommandsComplete : Prop :=
  (∀ (s : State) (src : Nat), s.spn.order = some src → s.running → s.on SPN_STAT_RECT = false → s.g SPN_STAT_STATE ≠ 10 → (s.g SPN_STAT_STATE ≠ 2 ∧ s.g SPN_STAT_STATE ≠ 9) ∨ s.spn.orderEdge < s.clk.edges → ∃ t : State, exec .spindleStartOrder s = .next t ∧ t = (((s.p SPN_STAT_ATTEMPT 0).enterSpn 1).setSpn fun p => { p with order := none, source := some src, brakeTicks := 0, confRun := 0, spin := none, listen := { start := ((s.p SPN_STAT_ATTEMPT 0).enterSpn 1).instant } }) ∧ t.g SPN_STAT_STATE = 1 ∧ t.spn.source = some src ∧ t.spn.order = none) ∧
  (∀ (s : State) (i c n : Nat) (v : Int), (s.atCycle (min i (s.tickLen - 1))).listenCase = some (c, n, v) → (s.atCycle (min i (s.tickLen - 1))).running → (s.atCycle (min i (s.tickLen - 1))).g SPN_STAT_STATE = 1 → exec (.listenEnd i) s = .next ((s.atCycle (min i (s.tickLen - 1))).listened c n v)) ∧
  (∀ (s : State) (i : Nat), (s.atCycle (min i (s.tickLen - 1))).listenCase = none → exec (.listenEnd i) s = .next ((s.atCycle (min i (s.tickLen - 1))))) ∧
  (∀ (s : State) (a b : Nat), s.running → s.g SPN_STAT_STATE = 2 → 2 ≤ s.spn.winRun → a < 30 * s.ke → b < 30 * s.ke → s.spn.brakeWhy = 0 → ∃ t : State, exec (.brakeEnd a b) s = .next t ∧ t = ((s.setSpn fun p => { p with brakeTicks := p.brakeTicks + s.spnFor }).attempt 3) ∧ t.g SPN_STAT_STATE = 3) ∧
  (∀ (s : State) (a b : Nat), s.running → s.g SPN_STAT_STATE = 2 → 2 ≤ s.spn.winRun → a < 30 * s.ke → b < 30 * s.ke → s.spn.brakeWhy = 1 → exec (.brakeEnd a b) s = .next ((s.enterSpn 0).standbyReached)) ∧
  (∀ (s : State) (a b : Nat), s.running → s.g SPN_STAT_STATE = 2 → 2 ≤ s.spn.winRun → a < 30 * s.ke → b < 30 * s.ke → s.spn.brakeWhy = 2 → exec (.brakeEnd a b) s = .next ((s.lossRecord 2).spindleFail)) ∧
  (∀ (s : State), s.running → s.g SPN_STAT_STATE = 3 → 250 * s.spnLe 16 2 ≤ s.spnFor → ∃ t : State, exec .alignEnd s = .next t ∧ t = (s.enterSpn 4) ∧ t.g SPN_STAT_STATE = 4) ∧
  (∀ (s : State), s.running → s.atHandoff → 64 ≤ s.spn.confRun → ∃ t : State, exec .attemptSuccess s = .next t ∧ t = (s.enterSpn 6) ∧ t.g SPN_STAT_STATE = 6) ∧
  (∀ (s : State), s.running → s.atHandoff → s.spn.confRun < 64 → (if s.g SPN_STAT_STATE = 5 then 250 else s.handoffTicks + 62500) ≤ s.spnFor → exec .attemptFail s = .next (s.attemptFail)) ∧
  (∀ (s : State), s.running → s.g SPN_STAT_STATE = 6 → s.inR s.speed → ∃ t : State, exec .accelInBand s = .next t ∧ t = (s.enterSpn 7) ∧ t.g SPN_STAT_STATE = 7) ∧
  (∀ (s : State), s.running → s.g SPN_STAT_STATE = 7 → s.on SPN_STAT_AT_SPEED = false → 250 ≤ s.spn.bandRun → s.spn.source = none → ∃ t : State, exec .atSpeed s = .next t ∧ t = ((s.p SPN_STAT_AT_SPEED 1).raise 80) ∧ t.on SPN_STAT_AT_SPEED ∧ t.evtPend 80) ∧
  (∀ (s : State) (src : Nat), s.running → s.g SPN_STAT_STATE = 7 → s.on SPN_STAT_AT_SPEED = false → 250 ≤ s.spn.bandRun → s.spn.source = some src → exec .atSpeed s = .next (((s.p SPN_STAT_AT_SPEED 1).raise 80).orderDone src)) ∧
  (∀ (s : State), s.running → s.spn.source.isSome → 25000 * s.spnLe 24 2 ≤ s.clk.edges - s.spn.orderEdge → ∃ t : State, exec .spinupLimit s = .next t ∧ t = (s.startFailed) ∧ t.evtPend 86)

/-- Commutator slot, observer update, write band, over-current, rotor loss with its listen windows and restart, the relock count, the brakes of Standby
and the end of a retract take their effects where their conditions hold. Rules R226, R239, R240, R242, R247, R248, R250, R253, R254. -/
def Obligations.SpindleRunCommandsComplete : Prop :=
  (∀ (s : State), s.slotOpen 4 → exec .commutatorSlot s = .next (if s.commutate.on SPN_STAT_WB_OK && !s.commutate.inW (toSigned 21 (s.latch.get SPN_SPEED_SPEED 0 0)) then s.commutate.bandExit else s.commutate)) ∧
  (∀ (s : State) (x : ObsIn), s.running → s.g SPN_STAT_STATE ≠ 6 → s.g SPN_STAT_STATE ≠ 7 → ∃ t : State, exec (.observerUpdate x) s = .next t ∧ t = (s.observed x) ∧ (s.observed x).g SPN_OBS_CONF = s.newConf x % 256) ∧
  (∀ (s : State) (x : ObsIn), s.running → s.g SPN_STAT_STATE = 6 ∨ s.g SPN_STAT_STATE = 7 → exec (.observerUpdate x) s = .next (if s.newConf x < s.spnLe 22 1 then (s.observed x).rotorLoss 1 else s.observed x)) ∧
  (∀ (s : State), s.running → s.g SPN_STAT_STATE = 7 → s.on SPN_STAT_WB_OK = false → 25 ≤ s.spn.wbRun → s.spn.wbOut = false → ∃ t : State, exec .writeBandResume s = .next t ∧ t = ((s.p SPN_STAT_WB_OK 1).setSpn fun p => { p with wbOut := false }) ∧ t.on SPN_STAT_WB_OK) ∧
  (∀ (s : State), s.running → s.g SPN_STAT_STATE = 7 → s.on SPN_STAT_WB_OK = false → 25 ≤ s.spn.wbRun → s.spn.wbOut → ∃ t : State, exec .writeBandResume s = .next t ∧ t = (((s.p SPN_STAT_WB_OK 1).setSpn fun p => { p with wbOut := false }).reissue.raise 88) ∧ t.evtPend 88 ∧ t.spn.wbOut = false) ∧
  (∀ (s : State) (i : Nat), s.running → 3 * max (s.spnLe 10 2) (max (s.spnLe 12 2) (s.spnLe 14 2)) < 2 * i → (s.gateDropAll.setSpn fun p => { p with bridge := .off }).g SPN_STAT_STATE = 6 ∨ (s.gateDropAll.setSpn fun p => { p with bridge := .off }).g SPN_STAT_STATE = 7 → exec (.overcurrentTrip i) s = .next ((s.gateDropAll.setSpn fun p => { p with bridge := .off }).rotorLoss 3)) ∧
  (∀ (s : State) (l : Loss), s.spn.loss = some l → s.running → s.g SPN_STAT_STATE = 8 → (l.periods + 1) * coastPeriod ≤ (s.instant - l.at_) * l.fc → s.g SPN_OBS_CONF < s.spnLe 22 1 + s.spnLe 23 1 → exec .recoverListenWindow s = .next (s.setSpn fun p => { p with loss := some { l with periods := l.periods + 1, okRun := 0, back := false } })) ∧
  (∀ (s : State) (l : Loss), s.spn.loss = some l → s.running → s.g SPN_STAT_STATE = 8 → (l.periods + 1) * coastPeriod ≤ (s.instant - l.at_) * l.fc → s.spnLe 22 1 + s.spnLe 23 1 ≤ s.g SPN_OBS_CONF → exec .recoverListenWindow s = .next (s.setSpn fun p => { p with loss := some { l with periods := l.periods + 1, okRun := l.okRun + 1, back := decide (2 ≤ l.okRun + 1) && nearFc s.speed.natAbs s.poles l.fc } })) ∧
  (∀ (s : State) (l : Loss), s.spn.loss = some l → s.running → s.g SPN_STAT_STATE = 8 → 16 ≤ l.periods → l.back = false → ∃ t : State, exec .reacquisitionFail s = .next t ∧ t.g SPN_STAT_STATE = 9 ∧ t.spn.bridge = .off) ∧
  (∀ (s : State), s.running → s.g SPN_STAT_STATE = 9 → s.spn.restart.isSome → s.allParked → s.spn.order = none → ∃ t : State, exec .rotorRestartOrder s = .next t ∧ t = (s.spindleStart 3) ∧ t.spn.order = some 3) ∧
  (∀ (s : State), s.running → 250000 ≤ s.spn.atRun → exec .relockCountReset s = .next (s.p SPN_RELOCK_COUNT 0)) ∧
  (∀ (s : State), s.running → s.pwr.entering.isSome → s.allParked → s.g SPN_STAT_STATE = 7 ∨ s.g SPN_STAT_STATE = 9 → ∃ t : State, exec .standbyBrakeStart s = .next t ∧ t = (s.spindleBrakeFor 1) ∧ t.spn.brakeWhy = 1 ∧ t.g SPN_STAT_STATE = 2) ∧
  (∀ (s : State), s.running → s.pwr.entering.isSome → s.allParked → s.g SPN_STAT_STATE = 0 ∨ s.g SPN_STAT_STATE = 10 → exec .standbyBrakeStart s = .next (s.standbyReached)) ∧
  (∀ (s : State), s.running → s.g SPN_STAT_STATE = 2 → 25000 * s.spnLe 26 2 ≤ s.spnFor → s.spn.brakeWhy = 1 → exec .brakeMaxExpiry s = .next (((s.enterSpn 9).raise 90).standbyReached)) ∧
  (∀ (s : State), s.running → s.g SPN_STAT_STATE = 2 → 25000 * s.spnLe 26 2 ≤ s.spnFor → s.spn.brakeWhy ≠ 1 → ∃ t : State, exec .brakeMaxExpiry s = .next t ∧ t = (((s.lossRecord 2).spindleFail).raise 90) ∧ t.evtPend 90) ∧
  (∀ (s : State), s.on SPN_STAT_RECT → s.retr = [] → exec .retractComplete s = .next (s.p SPN_STAT_RECT 0))

/-- Each command of the servo takes its effect where its conditions hold: estimates are taken, the guard re-enables, seeks and head switches are ordered,
reach settle and the ready flags, time out or fail. Rules R259, R265, R266, R267, R270, R271, R274, R279. -/
def Obligations.ServoCommandsComplete : Prop :=
  (∀ (s : State) (k : Fin 4) (j : Fin 16) (x : DemodIn), s.running → k.val < s.nAct → exec (.demodEstimate k j x) s = .next ((s.setAct k fun a => a.counted x).estimate k j ((s.setAct k fun a => a.counted x).demodWord k x))) ∧
  (∀ (s : State) (k : Fin 4) (g : Guard), (s.act k).guard = some g → s.running → s.wgN k ≤ g.run → ∃ t : State, exec (.guardReenable k) s = .next t ∧ t = ((((s.setAct k fun a => { a with guard := none }).pk SRV_STAT_GUARD k 0).fresh).record (mkRec 0x0D 48 [(16, 8, g.ts), (24, 8, ((s.setAct k fun a => { a with guard := none }).pk SRV_STAT_GUARD k 0).fresh.now), (32, 1, k), (33, 1, g.cause), (34, 2, min (roundFree g.peak 64 (((s.setAct k fun a => { a with guard := none }).pk SRV_STAT_GUARD k 0).freeAt 0)) 65535), (36, 2, g.abandoned)])) ∧ (t.act k).guard = none) ∧
  (∀ (s : State) (k : Fin 4), s.running → 2 ≤ s.actSt k → s.actSt k ≤ 5 → 64 ≤ (s.act k).inv → exec (.servoLoss k) s = .next (s.servoLoss k)) ∧
  (∀ (s : State) (k : Fin 4) (h : Fin 20) (tr : BitVec 24) (w : Bool), s.maySeek k h tr.toNat w → ∃ t : State, exec (.seekDispatch k h tr w) s = .next t ∧ t = (s.orderSeek k { head := h, track := tr.toNat, write := w }) ∧ (t.act k).seek = some { head := h, track := tr.toNat, write := w } ∧ (t.act k).go) ∧
  (∀ (s : State) (k : Fin 4) (h : Fin 20) (tr : BitVec 24) (w : Bool), s.maySeek k h tr.toNat w → h.val ≠ s.gk SRV_TGT_HEAD k → ∃ t : State, exec (.headSwitch k h tr w) s = .next t ∧ t = ((s.gateDrop k).orderSeek k { head := h, track := tr.toNat, write := w }) ∧ (t.act k).go) ∧
  (∀ (s : State) (k : Fin 4), s.running → s.actSt k = 3 ∨ (s.actSt k = 1 ∧ (s.act k).arriving) → (s.prof k (s.act k).row).reached (s.act k).len (s.clk.edges - (s.act k).seekEdge) → exec (.seekSettleEntry k) s = .next (s.setActSt k 4)) ∧
  (∀ (s : State) (k : Fin 4) (m : Motion), s.running → s.actSt k = 6 → (s.act k).motion = some m → (s.prof k (s.profRow k m.track)).reached m.track (s.clk.edges - m.edge) → exec (.seekSettleEntry k) s = .next (s.setAct k fun a => { a with motion := some { m with under := true } })) ∧
  (∀ (s : State) (k : Fin 4), s.running → s.actSt k = 4 ∨ (s.actSt k = 2 ∧ (s.act k).chg = false) → s.onk SRV_STAT_RREADY k = false → (s.prof k (s.act k).row).n ≤ (s.act k).rd → (Tbl.getD s.eng k.val {}).safe = none → exec (.readReady k) s = .next (s.readReadyNow k)) ∧
  (∀ (s : State) (k : Fin 4), s.running → s.actSt k = 2 → s.onk SRV_STAT_RREADY k → (s.act k).chg = false → s.wsettleN k ≤ (s.act k).wr → exec (.writeReady k) s = .next (s.pk SRV_STAT_WREADY k 1)) ∧
  (∀ (s : State) (k : Fin 4) (q : Seek), (s.act k).seek = some q → s.running → (s.act k).arriving = false → s.actSt k = 3 ∨ s.actSt k = 4 ∨ (s.actSt k = 2 ∧ s.onk SRV_STAT_RREADY k = false) → (s.prof k (s.act k).row).tmax ≤ s.clk.edges - (s.act k).seekEdge → (s.act k).again → (Tbl.getD s.eng k.val {}).safe = none → (s.act k).go = false → exec (.seekTimeout k) s = .next (s.seekFail k q)) ∧
  (∀ (s : State) (k : Fin 4) (q : Seek), (s.act k).seek = some q → s.running → (s.act k).arriving = false → s.actSt k = 3 ∨ s.actSt k = 4 ∨ (s.actSt k = 2 ∧ s.onk SRV_STAT_RREADY k = false) → (s.prof k (s.act k).row).tmax ≤ s.clk.edges - (s.act k).seekEdge → (s.act k).again = false → (Tbl.getD s.eng k.val {}).safe = none → (s.act k).go = false → ∃ t : State, exec (.seekTimeout k) s = .next t ∧ (t.act k).go ∧ (t.act k).again ∧ (t.act k).cur = none) ∧
  (∀ (s : State) (k : Fin 4) (q : Seek), s.running → 16 ≤ (s.act k).acq → s.actSt k = 5 → (s.act k).seek = some q → exec (.headSwitchAcquire k) s = .next (s.startSeek k q)) ∧
  (∀ (s : State) (k : Fin 4), s.running → 16 ≤ (s.act k).acq → s.actSt k = 1 → (s.act k).arriving = false → exec (.headSwitchAcquire k) s = .next ((s.setAct k fun a => { a with cur := none, seek := some { head := s.gk SRV_TGT_HEAD k, track := s.freeAt 5 % max 1 s.tracks, write := false }, again := false, arriving := true }).startSeek k { head := s.gk SRV_TGT_HEAD k, track := s.freeAt 5 % max 1 s.tracks, write := false })) ∧
  (∀ (s : State) (k : Fin 4), s.running → s.actSt k = 5 → 64 ≤ (s.act k).seen → (s.act k).acq < 16 → exec (.headSwitchAcquireFail k) s = .next (s.servoLoss k))

/-- A load leaves the latch or is unloaded again where its coil has moved; a load that takes too long is unloaded or fails; a park ends with event 106; an
emergency park that takes too long ends with event 105; a retract ends. Rules R281, R282, R283, R284, R285. -/
def Obligations.RampCommandsComplete : Prop :=
  (∀ (s : State) (k : Fin 4) (r : BitVec 16) (m : Motion), (s.act k).motion = some m → s.mediaOk → m.kind = 0 → s.actSt k = 0 → s.on SVY_SHOCK_INH = false → Tbl.has s.retr k = false → exec (.loadStart k r true) s = .next (((s.pk SRV_RCOIL k r.toNat).setAct k fun a => { a with later := a.later ++ [(0, 1)] }).beginMotion k 1 6)) ∧
  (∀ (s : State) (k : Fin 4) (r : BitVec 16) (m : Motion), (s.act k).motion = some m → s.mediaOk → m.kind = 0 → s.actSt k = 0 → s.on SVY_SHOCK_INH = false → Tbl.has s.retr k = false → ∃ t : State, exec (.loadStart k r false) s = .next t ∧ (t.act k).motion.map (·.under) = some true ∧ (t.act k).acq = 0 ∧ (t.act k).seen = 0) ∧
  (∀ (s : State) (k : Fin 4) (m : Motion), (s.act k).motion = some m → s.running → s.actSt k = 1 ∨ (s.act k).arriving → 250 * s.actLe k 16 2 ≤ s.clk.edges - m.edge → (s.act k).tries < 2 → exec (.loadTimeout k) s = .next ((s.setAct k fun a => { a with later := a.later ++ [(0, 1)] }).orderMotion k 1 4)) ∧
  (∀ (s : State) (k : Fin 4) (m : Motion), (s.act k).motion = some m → s.running → s.actSt k = 1 ∨ (s.act k).arriving → 250 * s.actLe k 16 2 ≤ s.clk.edges - m.edge → 2 ≤ (s.act k).tries → exec (.loadTimeout k) s = .next (s.loadFail k)) ∧
  (∀ (s : State) (k : Fin 4) (a b : Nat) (m : Motion), (s.act k).motion = some m → s.running → (s.actSt k = 6 ∧ m.under) ∨ s.actSt k = 7 → 20 * a < s.actLe k 10 2 → 20 * b < s.actLe k 10 2 → m.kind ≠ 2 → exec (.parkComplete k a b) s = .next (((s.parkRecord k m 0).raise 106).endMotion k 0)) ∧
  (∀ (s : State) (k : Fin 4) (a b : Nat) (m : Motion), (s.act k).motion = some m → s.running → s.actSt k = 7 → 20 * a < s.actLe k 10 2 → 20 * b < s.actLe k 10 2 → m.kind = 2 → m.trig = 21 ∨ m.trig = 22 → (((s.parkRecord k m 0).raise 106).endMotion k 0).on SPN_STAT_AT_SPEED → ((((s.parkRecord k m 0).raise 106).endMotion k 0).act k).motion = none → exec (.parkComplete k a b) s = .next ((((s.parkRecord k m 0).raise 106).endMotion k 0).loadAct k 3)) ∧
  (∀ (s : State) (k : Fin 4) (m : Motion), (s.act k).motion = some m → s.running → s.actSt k = 7 → 250 * s.actLe k 20 1 ≤ s.clk.edges - m.edge → ∃ t : State, exec (.eparkTimeout k) s = .next t ∧ k.val ∈ t.left) ∧
  (∀ (s : State) (k : Fin 4) (v : Nat) (r : Retract), Tbl.find s.retr k = some r → s.actSt k ≠ 8 → r.rect = false → (r.due.all fun e => decide (e ≤ s.clk.edges)) = true → exec (.retractEnd k v) s = .next ({ s with retr := Tbl.del s.retr k })) ∧
  (∀ (s : State) (k : Fin 4) (v : Nat) (r : Retract), Tbl.find s.retr k = some r → s.actSt k = 8 → r.rect = false → (r.due.all fun e => decide (e ≤ s.clk.edges)) = true → exec (.retractEnd k v) s = .next (((({ s with retr := Tbl.del s.retr k } : State).endMotion k 0).escReload k)))

/-- Frames go out on the preamp link, faults are taken and cleared, contacts end, sidebands are read, the loops step, and touchdown and calibration
proceed where their conditions hold. Rules R318, R319, R325, R331, R333, R334, R337, R351. -/
def Obligations.ChannelCommandsComplete : Prop :=
  (∀ (s : State) (k : Fin 4) (w : BitVec 32) (d crc : BitVec 16) (hit : Bool) (f : LFrame), s.running → k.val < s.nAct → s.onk CHN_PLINK_FAIL k = false → nextFrame (s.chn k).link = some f → w.toNat = f.word → f.rd = false → f.back = false → exec (.linkFrame k w d crc hit) s = .next ((s.setChn k fun c => { c with link := c.link.erase f }).linkWrite k f)) ∧
  (∀ (s : State) (k : Fin 4) (w : BitVec 32) (d crc : BitVec 16) (hit : Bool) (f : LFrame), s.running → k.val < s.nAct → s.onk CHN_PLINK_FAIL k = false → nextFrame (s.chn k).link = some f → w.toNat = f.word → f.rd ∨ f.back → crc.toNat ≠ responseCrc f.word d.toNat ∨ (f.back ∧ d.toNat ≠ f.data) → exec (.linkFrame k w d crc hit) s = .next (((s.setChn k fun c => { c with link := c.link.erase f }).linkEmit k f).linkError k f)) ∧
  (∀ (s : State) (k : Fin 4) (w : BitVec 32) (d crc : BitVec 16) (hit : Bool) (f : LFrame), s.running → k.val < s.nAct → s.onk CHN_PLINK_FAIL k = false → nextFrame (s.chn k).link = some f → w.toNat = f.word → f.rd → f.back = false → crc.toNat = responseCrc f.word d.toNat → exec (.linkFrame k w d crc hit) s = .next (((s.setChn k fun c => { c with link := c.link.erase f }).linkEmit k f).statusRead k f d.toNat hit)) ∧
  (∀ (s : State) (k : Fin 4) (w : BitVec 32) (d crc : BitVec 16) (hit : Bool), nextFrame (s.chn k).link = none → exec (.linkFrame k w d crc hit) s = .next (s)) ∧
  (∀ (s : State) (k : Fin 4) (w : BitVec 32) (d crc : BitVec 16) (hit : Bool) (f : LFrame), nextFrame (s.chn k).link = some f → w.toNat ≠ f.word → exec (.linkFrame k w d crc hit) s = .next (s)) ∧
  (∀ (s : State) (h : Fin 20) (n : Nat), (s.hd h).contact = some n → s.running → n + 250 ≤ s.clk.edges → ∃ t : State, exec (.contactHoldEnd h) s = .next t ∧ t = (s.setHd h fun x => { x with contact := none }) ∧ (t.hd h).contact = none) ∧
  (∀ (s : State) (k : Fin 4) (n : Nat), s.running → k.val < s.nAct → (s.chn k).fault = none → 16 ≤ n → ∃ t : State, exec (.preampFault k n) s = .next t ∧ (∃ u : State, u.evtPend 119 ∧ t = (if 3 ≤ (u.hd (s.selHead k)).faults.length then u.disableHead (s.selHead k) else u))) ∧
  (∀ (s : State) (k : Fin 4) (n : Nat), (s.chn k).fault = some n → s.instant ≤ n + 20000 → ∃ t : State, exec (.preampFaultClear k) s = .next t ∧ t = (s.setChn k fun c => { c with fault := none }) ∧ (t.chn k).fault = none) ∧
  (∀ (s : State) (k : Fin 4) (n : Nat), (s.chn k).fault = some n → n + 20000 < s.instant → exec (.preampFaultClear k) s = .next ({ s.setChn k fun c => { c with fault := none } with wr := s.wr.map fun w => if (s.setChn k fun c => { c with fault := none }).locAct w.1 = k.val ∧ w.2.phase = 2 then (w.1, { w.2 with phase := 0 }) else w })) ∧
  (∀ (s : State) (k : Fin 4) (a : Option (BitVec 16)) (b : Option (BitVec 8)), s.running → k.val < s.nAct → (s.chn k).sbEdge + 25000 ≤ s.clk.edges → exec (.sidebandRead k a b) s = .next (((s.setChn k fun c => { c with sbEdge := s.clk.edges }).sidebandGo k).sidebandGot k a b)) ∧
  (∀ (s : State) (x : List (Option ChanSums)), s.slotOpen 10 → s.chart.applied → exec (.channelStep x) s = .next ((((s.atCycle 1900).slotDone 10).actList.foldl (fun s k => s.chanLoop k (x.getD k none)) ((s.atCycle 1900).slotDone 10)).fresh)) ∧
  (∀ (s : State) (x : List (Option ClearIn)), s.slotOpen 11 → s.chart.applied → exec (.flyHeightStep x) s = .next (((((List.range ((s.atCycle 2300).slotDone 11).nHead).foldl State.flyHead ((s.atCycle 2300).slotDone 11)).actList).foldl (fun s k => s.clearance k (x.getD k none)) ((List.range ((s.atCycle 2300).slotDone 11).nHead).foldl State.flyHead ((s.atCycle 2300).slotDone 11))).fresh)) ∧
  (∀ (s : State) (k : Fin 4) (c : Bool) (x : Touch), (s.chn k).touch = some x → s.running → x.ended = none → x.edge + 25 ≤ s.clk.edges → s.actSt k = 2 → s.selHead k = x.head → (s.chn k).slice = none → exec (.touchdownStep k c) s = .next ((s.setChn k fun y => { y with touch := some (s.touchNext false { x with hit := x.hit || c }) }).pk CHN_FH_HTR (s.touchNext false { x with hit := x.hit || c }).head (if (s.touchNext false { x with hit := x.hit || c }).ended.isSome then 0 else (s.touchNext false { x with hit := x.hit || c }).htr))) ∧
  (∀ (s : State) (k : Fin 4) (c : Bool), (s.chn k).touch = none → exec (.touchdownStep k c) s = .next (s)) ∧
  (∀ (s : State) (h : Fin 20) (x : CalIn), s.calWanted h → s.selHead (s.headAct h) ≠ h → exec (.headCalibration h x) s = .next (s.orderSeek (s.headAct h) { head := h, track := s.gk SRV_TGT_TRACK (s.headAct h), write := false })) ∧
  (∀ (s : State) (h : Fin 20) (x : CalIn), s.calWanted h → s.selHead (s.headAct h) = h → (s.chn (s.headAct h)).calAt.filter (fun b => b.1 == h.val) = none → exec (.headCalibration h x) s = .next (((s.setChn (s.headAct h) fun c => { c with calAt := some (h, s.clk.edges) }).sidebandGo (s.headAct h)).configFrames (s.headAct h) h)) ∧
  (∀ (s : State) (h : Fin 20) (x : CalIn) (b : Nat × Nat), s.calWanted h → s.selHead (s.headAct h) = h → (s.chn (s.headAct h)).calAt.filter (fun b => b.1 == h.val) = some b → b.2 + 70000 ≤ s.clk.edges → exec (.headCalibration h x) s = .next (s.calFail (s.headAct h) h)) ∧
  (∀ (s : State) (h : Fin 20) (x : CalIn) (b : Nat × Nat), s.calWanted h → s.selHead (s.headAct h) = h → (s.chn (s.headAct h)).calAt.filter (fun b => b.1 == h.val) = some b → s.clk.edges < b.2 + 70000 → (s.chn (s.headAct h)).touch = none → exec (.headCalibration h x) s = .next (s.calTouch (s.headAct h) h x)) ∧
  (∀ (s : State) (h : Fin 20) (x : CalIn) (b : Nat × Nat) (u : Touch) (p : Nat), s.calWanted h → s.selHead (s.headAct h) = h → (s.chn (s.headAct h)).calAt.filter (fun b => b.1 == h.val) = some b → s.clk.edges < b.2 + 70000 → (s.chn (s.headAct h)).touch = some u → u.ended = some (some p) → exec (.headCalibration h x) s = .next (if x.track && decide ((s.sepDiff (s.headAct h) h x.sep).natAbs ≤ 8) then s.calPass (s.headAct h) h p x else s.calFail (s.headAct h) h))

/-- A decode classes its sector, a recovery step and an abort end, a job writes and verifies its sector, a placed piece lands, marginal data is refreshed,
the placement loop runs and the map is loaded, where their conditions hold. Rules R272, R329, R338, R339, R344, R349, R358, R359, R363, R364. -/
def Obligations.MediaCommandsComplete : Prop :=
  (∀ (s : State) (k : Fin 4) (h : Fin 20) (tr : BitVec 24) (p : BitVec 12) (x : ReadIn) (j : RJob), (s.jobsAt (mkLoc h tr.toNat p.toNat)).head? = some j → s.readable k (mkLoc h tr.toNat p.toNat) → ((s.chn k).recov.any fun v => v.loc == mkLoc h tr.toNat p.toNat) = false → exec (.sectorDecode k h tr p x) s = .next (s.firstDecode k h (mkLoc h tr.toNat p.toNat) x j)) ∧
  (∀ (s : State) (k : Fin 4) (x : ReadIn) (v : Recov) (j : RJob), s.rcvHead k = some (v, j) → s.running → v.going → (!s.reRead v.step || (s.on SPN_STAT_AT_SPEED && s.g SPN_STAT_STATE != 8 && (s.chn k).slice.isNone && s.onHead k v.loc false && !(s.act k).go && !(s.act k).chg)) → ((s.rcvCmd j).any fun c => !c.2.aborter.isEmpty) = false → exec (.recoveryStepEnd k x) s = .next (s.rcvStepDone k x v j)) ∧
  (∀ (s : State) (k : Fin 4) (v : Recov) (j : RJob) (i : Nat) (c : Cmd), s.rcvHead k = some (v, j) → s.rcvCmd j = some (i, c) → s.running → c.aborter ≠ [] → s.abortDue v c.abortAt → exec (.recoveryAbortEnd k) s = .next ((((((((s.bumpk CHN_RCVSTOP_ABORT k 1).raise 116).stepClear k).rcvRecord k v j 0xFF 3).rcvDrop k v.loc).endIo i 0x0600).rcvGo k))) ∧
  (∀ (s : State) (k : Fin 4) (h : Fin 20) (tr : BitVec 24) (p : BitVec 12) (b : Bool) (j : WJob), Tbl.find s.wr (mkLoc h tr.toNat p.toNat) = some j → j.phase = 0 → s.mayWrite k (mkLoc h tr.toNat p.toNat) j → exec (.sectorWrite k h tr p b) s = .next (s.sectorWrite k (mkLoc h tr.toNat p.toNat) j b)) ∧
  (∀ (s : State) (k : Fin 4) (h : Fin 20) (tr : BitVec 24) (p : BitVec 12) (b : Bool) (j : WJob), Tbl.find s.wr (mkLoc h tr.toNat p.toNat) = some j → j.phase = 2 ∨ j.phase = 3 → s.mayWrite k (mkLoc h tr.toNat p.toNat) j → exec (.sectorRewrite k h tr p b) s = .next (s.sectorWrite k (mkLoc h tr.toNat p.toNat) j b)) ∧
  (∀ (s : State) (k : Fin 4) (h : Fin 20) (tr : BitVec 24) (p : BitVec 12) (x : ReadIn) (n : Nat) (j : WJob), Tbl.find s.wr (mkLoc h tr.toNat p.toNat) = some j → s.running → s.locAct (mkLoc h tr.toNat p.toNat) = k → s.locVerified (mkLoc h tr.toNat p.toNat) → j.phase = 1 → (s.act k).gate = none → exec (.verifyResult k h tr p x n) s = .next (if s.verifyGood h x n then s.jobDone (mkLoc h tr.toNat p.toNat) j else (s.verifyFail k (mkLoc h tr.toNat p.toNat) j).landCuts j.vol j.lba)) ∧
  (∀ (s : State) (i a b : Nat) (p : OPiece) (pe : Nat) (e : Ent), Tbl.find s.pieces i = some p → s.writePe p.vol p.ext = some pe → Tbl.find s.med.map pe = some e → s.running → s.onMedia p → exec (.pieceLanded i a b) s = .next (if e.stored then (s.pieceLand i).strictGo else s.landMap i pe e a b)) ∧
  (∀ (s : State) (k : Fin 4) (v l : Nat) (r : List (Nat × Nat)), (s.chn k).refresh = (v, l) :: r → s.mediaOk → s.refreshOn → s.hostWaits k = false → ((s.locks.table ++ s.locks.reqs ++ s.locks.queue).any fun l => decide (l.who = .refresh k.val)) = false → (s.chn k).slice = none → exec (.marginalRefresh k) s = .next ((s.setChn k fun c => { c with refresh := r }).present { vol := v, lba := l, n := 1, excl := true, req := 20, who := .refresh k })) ∧
  (∀ (s : State), s.slotOpen 9 → s.chart.applied → exec .placementStep s = .next (s.placementRun)) ∧
  (∀ (s : State) (l : List (Nat × Nat × Nat)), s.running → s.g SYS_BOOT_STAGE = 3 → s.g SYS_BOOT_MEDIA = 3 → s.med.loaded = false → ∃ t : State, exec (.mapLoad l) s = .next t ∧ t = (((l.filter fun e => decide (e.1 < s.nHead) && decide (e.2.1 < s.mapOrder1) && !s.mapYields e.1 e.2.1 e.2.2).foldl (fun s e => s.mapLost e.1 e.2.1) s).setMed fun m => { m with loaded := true }) ∧ t.med.loaded)

/-- EN enables a function and its queues 0 become ready two edges later; a disable and a function reset clear it with event 148; a doorbell in range moves
its queue; a push write stores its entry; an unmask and a coalescing timer send the messages that waited. Rules R416, R425, R428, R434, R435, R449. -/
def Obligations.QueueRegisterCommandsComplete : Prop :=
  (∀ (s : State) (fn : Fin 16), s.fnOpen fn → s.gk MQP_CTL_EN fn = 0 → ∃ t : State, exec (.adminEnable fn) s = .next t ∧ t = ({ s.pk MQP_CTL_EN fn 1 with enEdge := Tbl.put s.enEdge fn s.clk.edges }) ∧ Tbl.find t.enEdge fn = some s.clk.edges) ∧
  (∀ (s : State) (fn : Fin 16) (e : Nat), Tbl.find s.enEdge fn = some e → s.fnOpen fn → e + 2 ≤ s.clk.edges → s.stopped = false → exec (.adminReady fn) s = .next (((({ s with enEdge := Tbl.del s.enEdge fn } : State).setSq fn 0 { depth := s.gk MQP_AQSZ_ASQS fn + 1, base := 4096 * s.gk MQP_ASQB_BASE fn }).setCq fn 0 { depth := s.gk MQP_AQSZ_ACQS fn + 1, base := 4096 * s.gk MQP_ACQB_BASE fn }).pk MQP_STS_RDY fn 1)) ∧
  (∀ (s : State) (fn : Fin 16), s.fnOpen fn → s.gk MQP_CTL_EN fn = 1 → ∃ t : State, exec (.functionDisable fn) s = .next t ∧ t = ((s.clearFn fn).raise 148) ∧ t.evtPend 148) ∧
  (∀ (s : State) (fn : Fin 16), s.fnOpen fn → fn ≠ 0 → ∃ t : State, exec (.functionLevelReset fn) s = .next t ∧ t = ((s.clearFn fn).raise 148) ∧ t.evtPend 148) ∧
  (∀ (s : State), s.barOpen → ∃ t : State, exec (.functionLevelReset 0) s = .next t ∧ t = (((List.range 16).foldl State.clearFn s).raise 148) ∧ t.evtPend 148) ∧
  (∀ (s : State) (fn : Fin 16) (q : Fin 4096) (t : BitVec 32) (x : Sq), s.fnOpen fn → s.sq fn q = some x → t.toNat < x.depth → ¬ (t.toNat + x.depth - x.head) % x.depth < (x.tail + x.depth - x.head) % x.depth → exec (.sqTailDoorbell fn q t) s = .next (s.setSq fn q { x with tail := t.toNat })) ∧
  (∀ (s : State) (fn : Fin 16) (q : Fin 4096) (h : BitVec 32) (x : Cq), s.fnOpen fn → s.cq fn q = some x → h.toNat < x.depth → ¬ (x.tail + x.depth - x.head) % x.depth < (h.toNat + x.depth - x.head) % x.depth → exec (.cqHeadDoorbell fn q h) s = .next (s.setCq fn q { x with head := h.toNat })) ∧
  (∀ (s : State) (fn : Fin 16) (q : Fin 4096) (b : List Byte) (x : Sq), s.fnOpen fn → s.sq fn q = some x → x.push → b.length = 64 → ¬ ((x.tail + 1) % x.depth + x.depth - x.head) % x.depth < (x.tail + x.depth - x.head) % x.depth → exec (.pushWrite fn q b true) s = .next (s.setSq fn q { x with tail := (x.tail + 1) % x.depth, buf := if x.buf.length < 8 then Tbl.put x.buf x.tail b else x.buf })) ∧
  (∀ (s : State) (fn : Fin 16) (v : Fin 256), s.fnOpen fn → (s.msixAt fn v).pend → s.msixFnMask.contains fn.val = false → exec (.msixUnmask fn (some v)) s = .next (({ s with msix := Tbl.put (Tbl.put s.msix (fn * 256 + v) { s.msixAt fn v with masked := false }) (fn * 256 + v) { s.msixAt fn v with masked := false, pend := false } } : State).sendMsix fn v)) ∧
  (∀ (s : State) (fn : Fin 16), s.fnOpen fn → exec (.msixUnmask fn none) s = .next (s.unmaskFn fn)) ∧
  (∀ (s : State) (fn : Fin 16) (q : Fin 4096) (x : Cq), s.cq fn q = some x → s.running → 0 < x.unsig → 0 < x.ctime → x.oldest + x.ctime ≤ s.clk.tick → x.vec ≠ 0xFFFF → exec (.coalesceTimer fn q) s = .next ((s.setCq fn q { x with unsig := 0 }).sendMsix fn x.vec))

/-- An entry is fetched into the next slot; a completed entry is posted with its sample; an unknown opcode, a deadline, a completion timeout and a drained
queue complete their commands. Rules R421, R422, R429, R450, R454, R458. -/
def Obligations.QueueFlowCommandsComplete : Prop :=
  (∀ (s : State) (b : List Byte) (fn : Nat) (q : Nat) (v : List Nat) (burst slot : Nat) (x : Sq), s.fetchNext = some (fn, q :: v, burst) → s.running → s.barOpen → s.hostStopped = false → s.sq fn q = some x → s.freeSlot q = some slot → q = 0 → Tbl.find x.buf x.head = none → exec (.sqEntryFetch (.ok b)) s = .next (({ s with lastFn := fn, visit := q :: v, burst := burst - 1, lastSq := s.lastSq } : State).takeEntry fn q slot x (b.take 64 ++ zeros (64 - b.length)) false)) ∧
  (∀ (s : State) (fn : Fin 16) (q : Fin 4096) (x : Cq), s.running → s.barOpen → s.hostStopped = false → s.cq fn q = some x → x.isFull = false → exec (.cqEntryPost fn q) s = .next (((s.postEntry fn q).latencySample (((x.wait.head?).bind (·.slot)).bind s.cmd)).aborterDone (((((x.wait.head?).bind (·.slot)).bind s.cmd).map (·.aborter)).getD []))) ∧
  (∀ (s : State) (i : Nat) (c : Cmd), s.cmd i = some c → s.starts i c → c.sq ≠ 0 → 2 < c.opc → exec (.unknownOpcode i) s = .next (s.complete i 0x0100)) ∧
  (∀ (s : State) (i : Nat) (c : Cmd), s.cmd i = some c → s.starts i c → c.sq = 0 → (adminTable.any fun r => r.1 == c.opc) = false → exec (.unknownOpcode i) s = .next (s.complete i 0x0100)) ∧
  (∀ (s : State) (fn : Fin 16) (q : Fin 4096) (x : Sq) (i : Nat), s.sq fn q = some x → s.running → x.st = 3 → (s.inFlight fn q).isEmpty → x.deleter = some i → exec (.sqDrained fn q) s = .next (({ s with sqs := Tbl.del s.sqs (qKey fn q) } : State).complete i 0)) ∧
  (∀ (s : State) (i : Nat) (a : Bool) (c : Cmd), s.cmd i = some c → s.running → c.phase = 0 → exec (.completionTimeout (some i) a) s = .next (((if a then s.raise 150 else s).discardSlot i).complete i 0x0110)) ∧
  (∀ (s : State) (a : Bool) (fn : Nat) (q : Nat) (v : List Nat) (burst slot : Nat) (x : Sq), s.fetchNext = some (fn, q :: v, burst) → s.running → s.barOpen → s.hostStopped = false → s.sq fn q = some x → s.freeSlot q = some slot → q = 0 → Tbl.find x.buf x.head = none → exec (.completionTimeout none a) s = .next (({ s with lastFn := fn, visit := q :: v, burst := burst - 1, lastSq := s.lastSq } : State).entryError fn q x a)) ∧
  (∀ (s : State) (i : Nat) (c : Cmd), s.cmd i = some c → s.running → c.sq ≠ 0 → c.phase ≠ 3 → s.overdue i → exec (.deadlineExpiry i) s = .next ((s.modCmd i fun c => { c with err := { c.err with detail := (s.instant - (s.deadlineOf i).getD 0) / 20000 } }).endIo i (if s.recovering i then 0x0602 else 0x0601)))

/-- A checked read or write presents its lock request; a flush waits for the writes before it and completes; a data block is ingested; a request enters
the lock table and is granted; a waiting piece takes a slab; a parity error of a key slot discards the key. Rules R399, R433, R441, R442, R447, R460,
R463, R464, R512. -/
def Obligations.IoCommandsComplete : Prop :=
  (∀ (s : State) (i : Nat) (d : DescIn) (c : Cmd) (v : Nat) (l : List (Nat × Nat)), s.cmd i = some c → s.starts i c → c.sq ≠ 0 → c.opc = 1 → s.testBlocks c = false → s.rwCheck c true = none → volCode c.vol = some v → v < 64 → c.dptr d = .segs l → segSum l = 4112 * c.nlb → exec (.write i d) s = .next ((s.setCmd i { c with phase := 1, segs := l }).present { vol := v, lba := c.slba, n := c.nlb, excl := true, req := c.fn, who := .slot i })) ∧
  (∀ (s : State) (i : Nat) (d : DescIn) (c : Cmd) (v : Nat) (l : List (Nat × Nat)), s.cmd i = some c → s.starts i c → c.sq ≠ 0 → c.opc = 2 → s.testBlocks c = false → s.rwCheck c false = none → volCode c.vol = some v → v < 64 → c.dptr d = .segs l → segSum l = 4112 * c.nlb → exec (.read i d) s = .next ((s.setCmd i { c with phase := 1, segs := l }).present { vol := v, lba := c.slba, n := c.nlb, excl := false, req := c.fn, who := .slot i })) ∧
  (∀ (s : State) (i : Nat) (c : Cmd), s.cmd i = some c → s.starts i c → c.sq ≠ 0 → c.opc = 0 → s.testBlocks c = false → c.reserved [] = false → c.badDeadline = false → c.vol = 0xFFFF → c.noData → exec (.flush i) s = .next (s.setCmd i { c with phase := 2 })) ∧
  (∀ (s : State) (i : Nat) (c : Cmd), s.cmd i = some c → s.running → c.sq ≠ 0 → c.opc = 0 → c.phase = 2 → s.flushed c → exec (.flushComplete i true) s = .next (({ s with remote := s.remote.filter fun r => !(decide (r.1 < c.seq) && c.covers r.2) } : State).complete i (if s.lostSeq.any fun r => decide (r.1 < c.seq) && c.covers r.2 then 0x0232 else 0))) ∧
  (∀ (s : State) (i : Nat) (b : List Byte) (c : Cmd) (v : Nat), s.cmd i = some c → volCode c.vol = some v → s.running → s.hostStopped = false → c.sq ≠ 0 → c.opc = 1 → c.phase = 2 → c.cut = false → c.moved < c.nlb → s.stagingRoom → c.chainShort c.moved = none → exec (.hostDataBlock i (.ok b)) s = .next (s.ingest i c v b)) ∧
  (∀ (s : State) (l : Lock), lowestReq s.locks.reqs = some l → s.running → s.locks.room l → s.locks.queue.isEmpty → (s.locks.table.any fun b => b.conflicts l) = false → ({ s with locks := { s.locks with reqs := s.locks.reqs.erase l, table := s.locks.table ++ [l] } } : State).lockLate l = false → exec .lockRequest s = .next ((({ s with locks := { s.locks with reqs := s.locks.reqs.erase l, table := s.locks.table ++ [l] } } : State).headWord l).granted l)) ∧
  (∀ (s : State) (l : Lock), lowestReq s.locks.reqs = some l → s.running → s.locks.room l → s.locks.queue.isEmpty → (s.locks.table.any fun b => b.conflicts l) = true → exec .lockRequest s = .next ({ s with locks := { s.locks with reqs := s.locks.reqs.erase l, table := s.locks.table ++ [l] } })) ∧
  (∀ (s : State) (l : Lock), grantable [] s.locks.table = some l → s.running → s.lockLate l = false → exec .lockGrant s = .next (s.granted l)) ∧
  (∀ (s : State) (w k : Nat) (r : List Nat) (p : OPiece), s.slabWait = w :: r → s.freeSlab = some k → w < 2 ^ 32 → Tbl.find s.pieces w = some p → (({ s with slabWait := r, poolFull := !r.isEmpty } : State).modPiece w fun p => { p with wantSlab := false }).slabOf false p.vol p.ext = none → exec .slabGrant s = .next ((({ s with slabWait := r, poolFull := !r.isEmpty } : State).modPiece w fun p => { p with wantSlab := false }).newSlab k false p.vol p.ext)) ∧
  (∀ (s : State) (v : Fin 80), s.running → s.hasKey v → exec (.keyRamParity v) s = .next (((s.needKey v).foldl (fun s e => s.keyFail e.1) (s.gather.keyLost v)).inOrder))

/-- Create and delete of I/O queues, Abort, Thaw and the admin thaw answer the next state that their rules give when every check passes. Rules R457, R458,
R459, R484, R522, R523, R525. -/
def Obligations.AdminQueueCommandsComplete : Prop :=
  (∀ (s : State) (i : Nat) (c : Cmd) (x : Sq), s.adminRuns i 0 c [(32, 2)] → s.sq c.fn (c.le 32 2) = some x → (s.badQid c (c.le 32 2)) = false → c.noData → exec (.deleteIoSq i) s = .next ((s.begun i c).setSq c.fn (c.le 32 2) { x with st := 3, tail := x.head, buf := [], deleter := some i })) ∧
  (∀ (s : State) (i : Nat) (c : Cmd), s.adminRuns i 1 c [(32, 7), (40, 12)] → (decide (2 ≤ c.le 38 1)) = false → (s.badQid c (c.le 32 2)) = false → ((s.sq c.fn (c.le 32 2)).isSome) = false → (c.le 34 2 == 0) = false → (c.le 40 8 % 4096 != 0 || (decide (1 ≤ c.le 48 4) && decide (c.le 48 4 < 250))) = false → (c.le 36 2 == 0 || (s.cq c.fn (c.le 36 2)).isNone) = false → c.noData → exec (.createIoSq i) s = .next (((s.begun i c).setSq c.fn (c.le 32 2) { depth := c.le 34 2 + 1, base := c.le 40 8, cq := c.le 36 2, push := bitAt (c.le 38 1) 0, defdl := if c.le 48 4 = 0 then 7500000 else c.le 48 4 }).complete i 0)) ∧
  (∀ (s : State) (i : Nat) (c : Cmd), s.adminRuns i 4 c [(32, 2)] → (s.badQid c (c.le 32 2) || (s.cq c.fn (c.le 32 2)).isNone) = false → (s.sqs.any fun e => e.1 / 65536 == c.fn && e.1 % 65536 != 0 && e.2.cq == c.le 32 2) = false → c.noData → exec (.deleteIoCq i) s = .next (({ (s.begun i c) with cqs := Tbl.del s.cqs (qKey c.fn (c.le 32 2)) } : State).complete i 0)) ∧
  (∀ (s : State) (i : Nat) (c : Cmd), s.adminRuns i 5 c [(32, 16)] → (s.badQid c (c.le 32 2)) = false → ((s.cq c.fn (c.le 32 2)).isSome) = false → (c.le 34 2 == 0) = false → (c.le 40 8 % 4096 != 0) = false → (c.le 36 2 != 0xFFFF && decide (s.gk MQP_CAP_VECN c.fn ≤ c.le 36 2)) = false → c.noData → exec (.createIoCq i) s = .next (((s.begun i c).setCq c.fn (c.le 32 2) { depth := c.le 34 2 + 1, base := c.le 40 8, vec := c.le 36 2, cthr := c.le 38 1, ctime := c.le 39 1 }).complete i 0)) ∧
  (∀ (s : State) (i : Nat) (c : Cmd), s.adminRuns i 8 c [(32, 4)] → ((s.begun i c).inFlight c.fn (c.le 32 2)).find? (fun e => e.2.cid == c.le 34 2 && e.1 != i) = none → (decide (s.gk MQP_CAP_QMAX c.fn < c.le 32 2) || (s.sq c.fn (c.le 32 2)).isNone) = false → c.noData → exec (.abort i) s = .next ((s.begun i c).completeWith i 0 1)) ∧
  (∀ (s : State) (i : Nat) (c : Cmd) (j : Nat) (u : Cmd), s.adminRuns i 8 c [(32, 4)] → ((s.begun i c).inFlight c.fn (c.le 32 2)).find? (fun e => e.2.cid == c.le 34 2 && e.1 != i) = some (j, u) → abortOutcome u = 0 → (decide (s.gk MQP_CAP_QMAX c.fn < c.le 32 2) || (s.sq c.fn (c.le 32 2)).isNone) = false → c.noData → exec (.abort i) s = .next ((((s.begun i c).modCmd i fun c => { c with result := 0 }).modCmd j fun t => { t with aborter := t.aborter ++ [i], abortAt := ((s.begun i c).modCmd i fun c => { c with result := 0 }).instant }).abortTarget j u)) ∧
  (∀ (s : State) (i : Nat) (c : Cmd), s.adminRuns i 9 c [(32, 3)] → c.le 34 1 = 0 → (s.badQid c (c.le 32 2)) = false → (!s.sqFrozen c.fn (c.le 32 2)) = false → (s.unsettled c.fn (c.le 32 2)) = false → c.noData → exec (.thawResume i) s = .next (((s.begun i c).thaw c.fn (c.le 32 2) 0).2.completeWith i 0 ((s.begun i c).thaw c.fn (c.le 32 2) 0).1)) ∧
  (∀ (s : State) (i : Nat) (c : Cmd), s.adminRuns i 9 c [(32, 3)] → c.le 34 1 = 1 → (s.badQid c (c.le 32 2)) = false → (!s.sqFrozen c.fn (c.le 32 2)) = false → (s.unsettled c.fn (c.le 32 2)) = false → c.noData → exec (.thawDiscard i) s = .next (((s.begun i c).thaw c.fn (c.le 32 2) 1).2.completeWith i 0 ((s.begun i c).thaw c.fn (c.le 32 2) 1).1)) ∧
  (∀ (s : State) (fn : Fin 16), s.fnOpen fn → s.sqFrozen fn 0 → s.unsettled fn 0 = false → exec (.adminThawResume fn) s = .next ((((s.pk MQP_ADMTHAW_ACTION fn 0).thaw fn 0 0).2.pk MQP_ADMTHAW_RES fn 1).pk MQP_STS_AFRZ fn 0)) ∧
  (∀ (s : State) (fn : Fin 16), s.fnOpen fn → s.sqFrozen fn 0 → s.unsettled fn 0 = false → exec (.adminThawDiscard fn) s = .next (((((s.pk MQP_ADMTHAW_ACTION fn 1).thaw fn 0 1).2.pk MQP_ADMTHAW_RES fn 1).pk MQP_STS_AFRZ fn 0).pk MQP_ADMTHAW_DISC fn ((s.pk MQP_ADMTHAW_ACTION fn 1).thaw fn 0 1).1))

/-- Each Identify and each log page writes its page to the host segments and completes with status 0 when every check passes; the ring page waits for its
transfer, and a clearing read of the lost ranges empties them. Rules R480, R482, R483, R527, R611, R612, R622, R623, R657. -/
def Obligations.IdentifyAndLogCommandsComplete : Prop :=
  (∀ (s : State) (i : Nat) (c : Cmd) (d : DescIn) (l : List (Nat × Nat)), s.adminRuns i 6 c [(32, 1)] → c.le 32 1 = 0 → c.dkind = 1 → c.dptr d = .segs l → segSum l = 4096 → exec (.identifyNode i d) s = .next ((((s.begun i c).toHost { c with segs := l } 0 (pageBytes (s.nodeData) 0 4096)).modCmd i fun c => { c with segs := l }).complete i 0)) ∧
  (∀ (s : State) (i : Nat) (c : Cmd) (d : DescIn) (l : List (Nat × Nat)), s.adminRuns i 6 c [(32, 1)] → c.le 32 1 = 1 → c.dkind = 1 → c.dptr d = .segs l → segSum l = 4096 → exec (.identifyFunction i d) s = .next ((((s.begun i c).toHost { c with segs := l } 0 (pageBytes (s.fnData c.fn) 0 4096)).modCmd i fun c => { c with segs := l }).complete i 0)) ∧
  (∀ (s : State) (i : Nat) (c : Cmd) (d : DescIn) (l : List (Nat × Nat)), s.adminRuns i 6 c [(32, 1)] → c.le 32 1 = 2 → (s.volUnknown c.vol) = false → c.dkind = 1 → c.dptr d = .segs l → segSum l = 4096 → exec (.identifyVolume i d) s = .next ((((s.begun i c).toHost { c with segs := l } 0 (pageBytes (s.volData ((volCode c.vol).getD 0)) 0 4096)).modCmd i fun c => { c with segs := l }).complete i 0)) ∧
  (∀ (s : State) (i : Nat) (c : Cmd) (d : DescIn) (l : List (Nat × Nat)), s.adminRuns i 2 c [(32, 8)] → c.le 32 1 = 1 → ((s.sq c.fn c.lsp).isNone) = false → c.le 33 1 < 2 → c.off % 4 = 0 → c.clear = false → c.dptr d = .segs l → segSum l % 4 = 0 → segSum l ≤ 2 ^ 20 → exec (.queueErrorLog i d) s = .next (((s.begun i c).toHost { c with segs := l } 0 (pageBytes (((s.sq c.fn c.lsp).getD {}).errorLog) c.off (segSum l))).complete i 0)) ∧
  (∀ (s : State) (i : Nat) (c : Cmd) (d : DescIn) (l : List (Nat × Nat)), s.adminRuns i 2 c [(32, 8)] → c.le 32 1 = 2 → (c.lsp != 0) = false → c.le 33 1 < 2 → c.off % 4 = 0 → c.clear = false → c.dptr d = .segs l → segSum l % 4 = 0 → segSum l ≤ 2 ^ 20 → exec (.lostRanges i d) s = .next (((s.begun i c).toHost { c with segs := l } 0 (pageBytes (s.lostPage) c.off (segSum l))).complete i 0)) ∧
  (∀ (s : State) (i : Nat) (c : Cmd) (d : DescIn) (l : List (Nat × Nat)), s.adminRuns i 2 c [(32, 8)] → c.le 32 1 = 2 → (c.lsp != 0) = false → c.le 33 1 < 2 → c.off % 4 = 0 → c.clear = true → c.dptr d = .segs l → segSum l % 4 = 0 → segSum l ≤ 2 ^ 20 → c.fn = 0 → c.off = 0 → s.lostPage.length ≤ c.asked d → exec (.lostRanges i d) s = .next (((s.begun i c).toHost { c with segs := l } 0 (pageBytes (s.lostPage) c.off (segSum l))).clearLost.complete i 0)) ∧
  (∀ (s : State) (i : Nat) (c : Cmd) (d : DescIn) (l : List (Nat × Nat)), s.adminRuns i 2 c [(32, 8)] → c.le 32 1 = 3 → (c.lsp != 0) = false → c.le 33 1 < 2 → c.off % 4 = 0 → c.clear = false → c.dptr d = .segs l → segSum l % 4 = 0 → segSum l ≤ 2 ^ 20 → exec (.selfTestResults i d) s = .next (((s.begun i c).toHost { c with segs := l } 0 (pageBytes (s.resultsPage) c.off (segSum l))).complete i 0)) ∧
  (∀ (s : State) (i : Nat) (c : Cmd) (d : DescIn) (l : List (Nat × Nat)), s.adminRuns i 2 c [(32, 8)] → c.le 32 1 = 4 → (s.volUnknown c.lsp) = false → (s.volHidden c.fn ((volCode c.lsp).getD 0)) = false → c.le 33 1 < 2 → c.off % 4 = 0 → c.clear = false → c.dptr d = .segs l → segSum l % 4 = 0 → segSum l ≤ 2 ^ 20 → exec (.volumeStatistics i d) s = .next (((s.begun i c).toHost { c with segs := l } 0 (pageBytes (s.volStats ((volCode c.lsp).getD 0)) c.off (segSum l))).complete i 0)) ∧
  (∀ (s : State) (i : Nat) (c : Cmd) (d : DescIn) (l : List (Nat × Nat)), s.adminRuns i 2 c [(32, 8)] → c.le 32 1 = 16 → (c.lsp != 0) = false → c.le 33 1 < 2 → c.off % 4 = 0 → c.clear = false → c.dptr d = .segs l → segSum l % 4 = 0 → segSum l ≤ 2 ^ 20 → exec (.gazetteerRingPage i d) s = .next (let u := ((s.begun i c).toHost { c with segs := l } 0 (pageBytes (s.ringPage) c.off (segSum l))); if c.off - 64 < min ringSize (c.off + segSum l - 64) then { u with gaz := { u.gaz with xfer := some (c.off - 64, min ringSize (c.off + segSum l - 64)) } } else u.complete i 0)) ∧
  (∀ (s : State) (i : Nat) (c : Cmd) (d : DescIn) (l : List (Nat × Nat)), s.adminRuns i 2 c [(32, 8)] → c.le 32 1 = 17 → (decide (496 ≤ c.lsp)) = false → c.le 33 1 < 2 → c.off % 4 = 0 → c.clear = false → c.dptr d = .segs l → segSum l % 4 = 0 → segSum l ≤ 2 ^ 20 → exec (.gazetteerSectorPage i d) s = .next ((((s.begun i c).toHost { c with segs := l } 0 (pageBytes (s.sectorPage c.lsp) c.off (segSum l))).complete i 0).fresh)) ∧
  (∀ (s : State) (i : Nat) (c : Cmd) (d : DescIn) (l : List (Nat × Nat)), s.adminRuns i 2 c [(32, 8)] → c.le 32 1 = 18 → (decide (s.nHist ≤ c.lsp % 128) || c.lsp / 128 % 256 != 0) = false → c.le 33 1 < 2 → c.off % 4 = 0 → c.clear = false → c.dptr d = .segs l → segSum l % 4 = 0 → segSum l ≤ 2 ^ 20 → exec (.histogramPage i d) s = .next (((s.begun i c).toHost { c with segs := l } 0 (pageBytes (s.histPage (c.lsp % 128) (bitAt c.lsp 15)) c.off (segSum l))).complete i 0)) ∧
  (∀ (s : State) (i : Nat) (c : Cmd) (d : DescIn) (l : List (Nat × Nat)), s.adminRuns i 2 c [(32, 8)] → c.le 32 1 = 19 → (decide (s.nExt ≤ c.lsp % 128) || c.lsp / 128 != 0) = false → c.le 33 1 < 2 → c.off % 4 = 0 → c.clear = false → c.dptr d = .segs l → segSum l % 4 = 0 → segSum l ≤ 2 ^ 20 → exec (.extremesPage i d) s = .next ((((s.begun i c).toHost { c with segs := l } 0 (pageBytes (s.extPage (c.lsp % 128)) c.off (segSum l))).complete i 0).fresh))

/-- A chart write stages its pages, a commit is judged by its check, and a tunable is set or returned, when every check passes. Rules R184, R187, R471,
R472. -/
def Obligations.ChartAndTunableCommandsComplete : Prop :=
  (∀ (s : State) (i : Nat) (c : Cmd) (d : DescIn) (b : List Byte) (l : List (Nat × Nat)), s.adminRuns i 0x20 c [(32, 4)] → (c.le 32 4 != 0 && (s.g CHT_UPD_STATE != 1 || c.le 32 4 != s.g CHT_UPDOFF)) = false → c.dptr d = .segs l → 256 ≤ segSum l → segSum l ≤ 1048576 → segSum l % 256 = 0 → c.le 32 4 + segSum l ≤ 0x1000000 → exec (.chartWrite i d (.ok b)) s = .next ((s.begun i c).chartData i (c.le 32 4) (pageBytes b 0 (segSum l)))) ∧
  (∀ (s : State) (i : Nat) (c : Cmd), s.adminRuns i 0x21 c [] → (s.g CHT_UPD_STATE != 1) = false → c.noData → exec (.chartCommit i) s = .next (if (s.begun i c).commitCheck = 0 then (({ (s.begun i c) with chart := { (s.begun i c).chart with cmd := some i } } : State).p CHT_UPD_STATE 2).flashAsk { prio := 3, erase := false, addr := 0x1000000 * (s.begun i c).inactiveSlot, bytes := (s.begun i c).chart.staging, why := .commit } else ((((s.begun i c).p CHT_UPD_STATE 0).p CHT_UPD_REJ (s.begun i c).commitCheck).raise 69).completeWith i 0x0120 (s.begun i c).commitCheck)) ∧
  (∀ (s : State) (i : Nat) (c : Cmd), s.adminRuns i 0x0A c [(32, 5), (40, 8)] → (decide (2 ≤ c.le 36 1) || badSubset c) = false → (s.tunUnknown c true) = false → (c.tunIns != 0xFFFF && s.tunNoVol c.tunId c.tunIns) = false → c.noData → exec (.setTunable i) s = .next ((s.begun i c).setTunable i c)) ∧
  (∀ (s : State) (i : Nat) (c : Cmd) (l : List (Nat × Nat)), s.adminRuns i 0x0B c [(32, 5), (40, 8)] → (c.le 36 1 != 0 || s.tunUnknown c false) = false → (s.tunNoVol c.tunId c.tunIns) = false → (c.dkind != 1) = false → c.dptr {} = .segs l → segSum l = 32 → exec (.getTunable i) s = .next ((((s.begun i c).toHost { c with segs := l } 0 (s.begun i c |>.tunBytes c.tunId c.tunIns)).complete i 0).fresh))

/-- Create, delete, grow and set-modes of a volume, attach, detach and set-modes of a span, and key load and clear change the tables as their rules say
when every check passes. Rules R466, R467, R468, R469, R470, R473, R475. -/
def Obligations.VolumeAndKeyCommandsComplete : Prop :=
  (∀ (s : State) (i : Nat) (c : Cmd), s.adminRuns i 0x10 c ([(32, 4)] ++ [(40, 8)]) → c.action = 0 → (decide (64 ≤ c.vol)) = false → (badModes c.vmodes || c.badCap) = false → ((s.volAt c.vol).isSome) = false → (decide (s.forReserve < c.capExt)) = false → c.noData → firstFail (s.modeChecks c.vmodes s.hasTwin) = none → exec (.volumeCreate i) s = .next (((s.begun i c).setMed fun m => { m with vols := Tbl.put m.vols c.vol { modes := c.vmodes, fmask := c.vmask, cap := c.capExt, resv := c.capExt } }).complete i 0)) ∧
  (∀ (s : State) (i : Nat) (c : Cmd), s.adminRuns i 0x10 c ([(32, 4)] ++ []) → c.action = 1 → (decide (64 ≤ c.vol)) = false → ((s.volAt c.vol).isNone) = false → (s.volBusy c.vol i) = false → c.noData → exec (.volumeDelete i) s = .next (((s.begun i c).volRemove c.vol).complete i 0)) ∧
  (∀ (s : State) (i : Nat) (c : Cmd), s.adminRuns i 0x10 c ([(32, 4)] ++ [(40, 8)]) → c.action = 2 → (decide (64 ≤ c.vol)) = false → ((s.volAt c.vol).isNone) = false → (c.badCap || decide (c.capExt ≤ s.capOf c.vol)) = false → (decide (s.forReserve < c.capExt - s.capOf c.vol)) = false → c.noData → exec (.volumeGrow i) s = .next (((s.begun i c).modVol c.vol fun v => { v with cap := c.capExt, resv := c.capExt }).complete i 0)) ∧
  (∀ (s : State) (i : Nat) (c : Cmd), s.adminRuns i 0x10 c ([(32, 4)] ++ []) → c.action = 3 → (decide (64 ≤ c.vol)) = false → ((s.volAt c.vol).isNone) = false → (badModes c.vmodes || encOf c.vmodes != encOf (s.modesOf c.vol)) = false → c.noData → firstFail (s.modeChecks c.vmodes s.hasTwin) = none → exec (.volumeSetModes i) s = .next (((s.begun i c).modVol c.vol fun v => { v with modes := c.vmodes, fmask := c.vmask }).complete i 0)) ∧
  (∀ (s : State) (i : Nat) (c : Cmd), s.adminRuns i 0x11 c [(32, 4)] → c.action = 0 → (decide (c.vol < 64)) = false → (s.volUnknown c.vol) = false → (badModes c.vmodes || (s.attachedOn c.spanCode && encOf c.vmodes != encOf (s.modesOf c.spanCode))) = false → (!s.spanMember (c.spanCode - 64) || s.g SYS_BOOT_FAB == 6) = false → c.noData → firstFail (s.modeChecks c.vmodes (s.spanTwinned (c.spanCode - 64))) = none → exec (.spanAttach i) s = .next (((s.begun i c).setMed fun m => { m with vols := Tbl.put m.vols c.spanCode { Tbl.getD m.vols c.spanCode {} with modes := c.vmodes, fmask := c.vmask, attached := true } }).complete i 0)) ∧
  (∀ (s : State) (i : Nat) (c : Cmd), s.adminRuns i 0x11 c [(32, 4)] → c.action = 1 → (decide (c.vol < 64)) = false → (s.volUnknown c.vol) = false → (!s.attachedOn c.spanCode) = false → (s.cmds.any fun e => e.2.sq != 0 && volCode e.2.vol == some c.spanCode) = false → c.noData → exec (.spanDetach i) s = .next (((s.begun i c).modVol c.spanCode fun v => { v with attached := false }).complete i 0)) ∧
  (∀ (s : State) (i : Nat) (c : Cmd), s.adminRuns i 0x11 c [(32, 4)] → c.action = 2 → (decide (c.vol < 64)) = false → (s.volUnknown c.vol) = false → (!s.attachedOn c.spanCode) = false → (badModes c.vmodes || encOf c.vmodes != encOf (s.modesOf c.spanCode)) = false → c.noData → firstFail (s.modeChecks c.vmodes (s.spanTwinned (c.spanCode - 64))) = none → exec (.spanSetModes i) s = .next (((s.begun i c).modVol c.spanCode fun v => { v with modes := c.vmodes, fmask := c.vmask }).complete i 0)) ∧
  (∀ (s : State) (i : Nat) (c : Cmd) (b : List Byte) (l : List (Nat × Nat)), s.adminRuns i 0x14 c [(32, 4)] → (s.volUnknown c.vol) = false → (!s.hasEnc ((volCode c.vol).getD 0)) = false → (c.dkind != 1) = false → c.dptr {} = .segs l → segSum l = 64 → exec (.keyLoad i (.ok b)) s = .next ((if (s.begun i c).keyStatus ((volCode c.vol).getD 0) (c.le 32 4) (pageBytes b 0 64) = 0 then (s.begun i c).putKey ((volCode c.vol).getD 0) (pageBytes b 0 64) else (s.begun i c)).complete i ((s.begun i c).keyStatus ((volCode c.vol).getD 0) (c.le 32 4) (pageBytes b 0 64)))) ∧
  (∀ (s : State) (i : Nat) (c : Cmd), s.adminRuns i 0x15 c [] → (s.volUnknown c.vol) = false → (s.cmds.any fun e => e.2.sq != 0 && (volCode e.2.vol).isSome && volCode e.2.vol == volCode c.vol) = false → c.noData → exec (.keyClear i) s = .next (({ (s.begun i c) with keys := Tbl.del s.keys ((volCode c.vol).getD 0) } : State).complete i 0))

/-- A power state command orders the state, Reset begins the host reset, a self-test starts and ends, and a calibration slice begins and ends, when their
conditions hold. Rules R476, R477, R648, R649, R654, R656, R657. -/
def Obligations.PowerAndTestCommandsComplete : Prop :=
  (∀ (s : State) (i : Nat) (c : Cmd), s.adminRuns i 0x18 c [(32, 1)] → c.le 32 1 = 0 → c.noData → exec (.powerStateRun i) s = .next ((s.begun i c).leaveStandby.complete i 0)) ∧
  (∀ (s : State) (i : Nat) (c : Cmd), s.adminRuns i 0x18 c [(32, 1)] → c.le 32 1 = 2 → c.noData → exec (.powerStateStandby i) s = .next (((s.begun i c).orderPower 2).2.complete i (if ((s.begun i c).orderPower 2).1 then 2 else 0))) ∧
  (∀ (s : State) (i : Nat) (c : Cmd), s.adminRuns i 0x18 c [(32, 1)] → c.le 32 1 = 3 → c.noData → exec (.powerStateVigil i) s = .next (((s.begun i c).orderPower 3).2.complete i (if ((s.begun i c).orderPower 3).1 then 2 else 0))) ∧
  (∀ (s : State) (i : Nat) (c : Cmd), s.adminRuns i 0x19 c [] → c.noData → exec (.reset i) s = .next ((s.begun i c).hostReset)) ∧
  (∀ (s : State) (i : Nat) (c : Cmd), s.adminRuns i 0x1C c [(32, 2)] → c.test = 0x01 → c.actmask ≠ 0 → (decide (2 ^ s.nAct ≤ c.actmask)) = false → (s.testMasked c.test) = false → c.noData → exec (.touchdownNow i) s = .next (((s.begun i c).testStart i c).testDue c.actmask fun x => { x with tdDue := some (x.tdDue.getD ((s.begun i c).testStart i c).clk.edges) })) ∧
  (∀ (s : State) (i : Nat) (c : Cmd), s.adminRuns i 0x1C c [(32, 2)] → c.test = 0x02 → c.actmask ≠ 0 → (decide (2 ^ s.nAct ≤ c.actmask)) = false → (s.testMasked c.test) = false → c.noData → exec (.separationNow i) s = .next (((s.begun i c).testStart i c).testDue c.actmask fun x => { x with sepDue := some (x.sepDue.getD ((s.begun i c).testStart i c).clk.edges) })) ∧
  (∀ (s : State) (i : Nat) (c : Cmd), s.adminRuns i 0x1C c [(32, 2)] → c.test = 0x10 → c.actmask ≠ 0 → (decide (2 ^ s.nAct ≤ c.actmask)) = false → (s.testMasked c.test) = false → (!s.quiesced c.actmask) = false → c.noData → exec (.seekSweep i) s = .next (((s.begun i c).testStart i c).modRun fun r => { r with sweep := ((s.begun i c).testStart i c).sweepOf c.actmask })) ∧
  (∀ (s : State) (i : Nat) (c : Cmd), s.adminRuns i 0x1C c [(32, 2)] → c.test = 0x11 → c.actmask ≠ 0 → (decide (2 ^ s.nAct ≤ c.actmask)) = false → (s.testMasked c.test) = false → (!s.quiesced c.actmask) = false → c.noData → exec (.surfaceScan i) s = .next (((s.begun i c).testStart i c).setMed fun m => { m with reads := m.reads ++ ((s.begun i c).testStart i c).scanReads c.actmask })) ∧
  (∀ (s : State) (i : Nat) (c : Cmd), s.adminRuns i 0x1C c [(32, 2)] → c.test = 0x12 → c.actmask ≠ 0 → (decide (2 ^ s.nAct ≤ c.actmask)) = false → (s.testMasked c.test) = false → (!s.quiesced c.actmask) = false → c.noData → exec (.recalibrate i) s = .next (((s.begun i c).testStart i c).modRun fun r => { r with heads := ((s.begun i c).testStart i c).testHeads c.actmask })) ∧
  (∀ (s : State) (i : Nat) (c : Cmd), s.adminRuns i 0x1C c [(32, 2)] → c.test = 0x20 → c.actmask = 0 → (decide (2 ^ s.nAct ≤ c.actmask)) = false → (s.testMasked c.test) = false → c.noData → exec (.freeSlabTest i) s = .next (((s.begun i c).testStart i c).modRun fun r => { r with need := ((s.begun i c).testStart i c).freeSlabCount })) ∧
  (∀ (s : State) (n : Nat) (r : TestRun), s.tst.run = some r → s.running → s.sliceOn r.mask = false → r.abort ∨ s.testDone r → exec (.selfTestComplete n) s = .next (s.testFinish r n)) ∧
  (∀ (s : State) (h : Fin 20) (b : Bool), s.sliceMay h b → exec (.calSliceStart h b) s = .next (s.sliceBegin h b)) ∧
  (∀ (s : State) (k : Fin 4) (d : Int) (x : Slice), (s.chn k).slice = some x → s.running → x.kind = 2 → exec (.calSliceEnd k (some d)) s = .next ((s.sliceRelease k).sepEnd k x d)) ∧
  (∀ (s : State) (k : Fin 4) (x : Slice) (t : Touch) (r : Option Nat), (s.chn k).slice = some x → s.running → x.kind = 1 → (s.chn k).touch = some t → t.ended = some r → t.again = false → exec (.calSliceEnd k none) s = .next ((s.sliceRelease k).touchEnd k x r)) ∧
  (∀ (s : State) (k : Fin 4) (x : Slice), (s.chn k).slice = some x → s.running → x.kind = 3 → x.start + 500 ≤ s.clk.edges → exec (.calSliceEnd k none) s = .next (s.sliceRelease k))

/-- A flit is counted and taken, a link fails, a port trains, rises, times out, is held and released, greets its peer, measures its delay and steers its
lanes where the conditions hold. Rules R532, R534, R536, R538, R539, R541, R566. -/
def Obligations.FabricPortCommandsComplete : Prop :=
  (∀ (s : State) (p : Fin 4) (f : FlitIn), s.running → s.portUp p → f.decoded → f.fcrc → exec (.flitReceive p f) s = .next ((((s.bumpk FAB_PCORR_COUNT p f.corrected).flitControl p f).flitData p f).flitAnswer p f)) ∧
  (∀ (s : State) (p : Fin 4) (f : FlitIn), s.running → s.portUp p → f.decoded = false → f.idle = false → exec (.flitReceive p f) s = .next (((s.bumpk FAB_PERR_UNCORR p 1).setPort p fun x => { x with waitReplay := true }).flitAnswer p f)) ∧
  (∀ (s : State) (p : Fin 4) (c : Fin 5), s.running → s.linkDead p c → exec (.linkFailure p c) s = .next (s.linkFail p c)) ∧
  (∀ (s : State) (p : Fin 4), s.running → s.pwr.loss.isNone → s.g SYS_BOOT_STAGE = 3 ∨ s.g SYS_BOOT_STAGE = 4 → 1 ≤ s.g SYS_BOOT_FAB → s.portOn p → s.gk FAB_PSTAT_STATE p = 0 ∨ s.gk FAB_PSTAT_STATE p = 4 → (s.port p).again ≤ s.clk.edges → exec (.portTraining p) s = .next ((s.pk FAB_PSTAT_STATE p 1).setPort p fun x => { x with trainEdge := s.clk.edges, peerSerial := none, delays := [] })) ∧
  (∀ (s : State) (p : Fin 4) (b : Bool) (l : List (Int × Int)), s.running → s.pwr.loss.isNone → s.gk FAB_PSTAT_STATE p = 1 → (s.port p).peerSerial.isSome → (s.port p).delays.length = 16 → s.clk.edges < (s.port p).trainEdge + 7500 → exec (.portUp p b l) s = .next (s.portRise p b l)) ∧
  (∀ (s : State) (p : Fin 4), s.running → s.gk FAB_PSTAT_STATE p = 1 → (s.port p).trainEdge + 7500 ≤ s.clk.edges → exec (.portTrainingTimeout p) s = .next (((s.pk FAB_PSTAT_STATE p 4).setPort p fun x => { x with again := s.clk.edges + 250 }).trainingCheck)) ∧
  (∀ (s : State) (p : Fin 4) (e : Nat), s.running → s.gk FAB_PSTAT_STATE p = 5 → (s.port p).heldGood = false → (s.port p).heldUntil = some e → e ≤ s.clk.edges → exec (.portHoldExpiry p) s = .next ((s.pk FAB_PSTAT_STATE p 4).setPort p fun x => { x with heldUntil := none })) ∧
  (∀ (s : State) (p : Fin 4) (b : List Byte) (q id m : Nat), s.running → s.gk FAB_PSTAT_STATE p ≠ 1 → s.portUp p → (s.port p).peerSerial = some b → s.gk FAB_PSTAT_NPORT p = q → exec (.hello p b q id m) s = .next (s.pk FAB_PSTAT_NBR p id)) ∧
  (∀ (s : State) (p : Fin 4) (b : List Byte) (q id m : Nat), s.running → s.gk FAB_PSTAT_STATE p = 1 → q = farPort p → m = s.g FAB_CFG_MODE → m ≠ 0 → (s.port p).peerSerial.isSome → exec (.hello p b q id m) s = .next ((((s.setPort p fun x => { x with peerSerial := some b }).pk FAB_PSTAT_NBR p id).pk FAB_PSTAT_NPORT p q))) ∧
  (∀ (s : State) (p : Fin 4) (a b c d : Int), s.running → s.portUp p → (s.port p).delays.length < 15 → exec (.delay p a b c d) s = .next ((s.setPort p fun x => { x with delays := (s.port p).delays ++ [d - a - (c - b)] }).parcelOut p { kind := 2, inPort := 4 })) ∧
  (∀ (s : State) (p : Fin 4), s.running → s.portUp p → (s.port p).delays.length = 16 → (s.port p).dlyEdge + 25000 ≤ s.clk.edges → exec (.delayMeasure p) s = .next ((s.setPort p fun x => { x with delays := [] }).linkSend p 2 [])) ∧
  (∀ (s : State) (x : List (Option EyeIn)), s.slotOpen 12 → exec (.serdesStep x) s = .next (((List.range 24).foldl (fun s lane => s.laneStep lane (x.getD lane none)) (s.atCycle 2900)).slotDone 12))

/-- TIME steers the follower or loads the tick, the aligned timeout ends alignment, and election, ring walk, assignment, views and their timeouts take
effect where the conditions hold. Rules R549, R554, R557, R559, R561, R568, R569. -/
def Obligations.FabricTimeCommandsComplete : Prop :=
  (∀ (s : State) (p : Fin 4) (a b r : Int), s.running → s.portUp p → s.g FAB_TIME_UP = p → s.g FAB_DISC_ROOT ≠ 0x3FF → s.on FAB_TIME_ISROOT = false → 4 ≤ s.g FAB_DISC_STATE → s.on CLK_STAT_TICK_LOADED → exec (.time p a b r) s = .next (((({ s with timeNow := true, fab := { s.fab with quiet := 0, err := r - (a - b + s.gk FAB_PDLY_DELAY p) } } : State).p FAB_TIME_ERR (ofSigned 16 (clampI (-32768) 32767 (r - (a - b + s.gk FAB_PDLY_DELAY p))))).timeStep (r - (a - b + s.gk FAB_PDLY_DELAY p))))) ∧
  (∀ (s : State), s.running → s.on FAB_TIME_ISROOT = false → 16 ≤ s.fab.quiet → exec .alignedTimeout s = .next (s.alignFall.setTrim s.fab.fterm)) ∧
  (∀ (s : State) (p : Fin 4) (b : List Byte), s.running → s.portUp p → s.g FAB_DISC_STATE = 2 → serialLt b s.lowest → exec (.elect p b) s = .next (({ s with fab := { s.fab with low := b, lowEdge := s.clk.edges } } : State).elect)) ∧
  (∀ (s : State), s.running → s.g FAB_DISC_STATE = 2 → s.fab.lowEdge + 250 ≤ s.clk.edges → exec .electionEnd s = .next (let u : State := { s.p FAB_DISC_STATE 3 with fab := { s.fab with elected := true } }; if u.lowest ≠ Config.serial then u else if [0, 2].any fun p => u.portOn p && !u.portUp p then u.discFail 3 else u.ringStart 0 3)) ∧
  (∀ (s : State) (p : Fin 4) (d : Fin 2) (n : Nat) (e : Nat), s.running → s.portUp p → s.fab.walk = some (d.val, e) → p.val = 2 * d.val + 1 → exec (.ring p d n) s = .next (({ s with fab := { s.fab with walk := none, walked := s.fab.walked ++ [(d.val, n)] } } : State).ringStart (d + 1) 2)) ∧
  (∀ (s : State) (p : Fin 4) (d : Fin 2) (n : Nat), s.running → s.portUp p → s.fab.walk = none → s.g FAB_DISC_STATE = 3 → exec (.ring p d n) s = .next (s.linkSend (2 * d) 0x05 (ringBody d (n + 1)))) ∧
  (∀ (s : State) (d e : Nat), s.fab.walk = some (d, e) → s.running → s.g FAB_DISC_STATE = 3 → e + 250 ≤ s.clk.edges → exec .ringWalkTimeout s = .next (({ s with fab := { s.fab with walk := none } } : State).discFail 3)) ∧
  (∀ (s : State) (p : Fin 4) (w h x y : Nat), s.running → s.portUp p → s.g FAB_CFG_MODE = 1 → s.node = 0x3FF → s.g FAB_DISC_STATE = 3 → exec (.assign p w h x y) s = .next ((((((s.nodeKnown (nodeId x y) w h).p FAB_DISC_STATE 4).upPorts p).foldl State.assign ((s.nodeKnown (nodeId x y) w h).p FAB_DISC_STATE 4))).originate)) ∧
  (∀ (s : State) (p : Fin 4) (id : Nat) (x : Lsr), s.running → s.portUp p → s.g FAB_DISC_STATE = 4 → id ≠ s.node → Tbl.find s.fab.view id = none → exec (.lsr p id x) s = .next ((s.viewPut id x).flood id x p)) ∧
  (∀ (s : State), s.running → s.g FAB_DISC_STATE = 4 → s.node ≠ 0x3FF → s.fab.viewEdge + 250 ≤ s.clk.edges → s.fab.switch = none → s.fab.tabled → s.on CLK_STAT_TICK_LOADED → exec .discoveryEnd s = .next (s.discEnd)) ∧
  (∀ (s : State), s.running → s.g FAB_DISC_STATE = 2 → s.fab.began + 250 * s.secLe 0x70 0 8 2 100 ≤ s.clk.edges → exec .discoveryTimeout s = .next (s.discFail 1)) ∧
  (∀ (s : State) (n : Nat), s.fab.switch = some n → s.running → n ≤ s.clk.tick → s.node ≠ 0x3FF → s.g FAB_DISC_STATE = 5 → exec .routeEpochSwitch s = .next (s.gather.epochSwitch.inOrder)) ∧
  (∀ (s : State) (p : Parcel), s.running → p.dst ≠ s.node → 8 ≤ p.kind → p.hops < 63 → s.fab.tabled → exec (.parcelForward p) s = .next ((s.leaveBuffer p).routeOut { p.passing with hops := p.hops + 1 }))

/-- Heartbeats are sent and consumed, a lost twin begins Solo, resync completes, and each twin parcel that a node consumes from its twin takes its effect.
Rules R404, R582, R583, R584, R586, R587, R588, R593, R594, R596. -/
def Obligations.TwinCommandsComplete : Prop :=
  (∀ (s : State), s.running → s.hasTwin → s.g SYS_BOOT_DRAM = 3 → s.dramFaulted = false → s.clk.tick % 8 = 0 → s.twn.hbSent ≠ some s.clk.tick → exec .heartbeatSend s = .next (({ s with twn := { s.twn with hbSent := some s.clk.tick } } : State).send { kind := 8, dst := s.twin, body := leBytes (b2n s.solo + 2 * s.g TWN_STAT_FRESH + 4 * b2n s.twn.rcDone + 8 * b2n s.twn.rsDone) 4 ++ leBytes (countP (fun e => e.2.twin) s.slabs) 4 ++ zeros 8 })) ∧
  (∀ (s : State) (p : Parcel), s.consumes p 0x08 → exec (.heartbeat p) s = .next (((s.received p).gather.parcelHeartbeat p).inOrder)) ∧
  (∀ (s : State) (c : Nat), s.twinLost = some c → s.running → exec .twinLoss s = .next ((s.gather.enterSolo c).inOrder)) ∧
  (∀ (s : State), s.running → s.g TWN_STAT_STATE = 3 → s.twn.dirty.isEmpty → (s.twn.await.any fun t => t.2.kind == 0x20 || t.2.kind == 0x21) = false → s.twn.solo = none → exec .resyncComplete s = .next ({ (s.p TWN_STAT_STATE 1).raise 166 with twn := { ((s.p TWN_STAT_STATE 1).raise 166).twn with solo := none, rsDone := true } })) ∧
  (∀ (s : State) (p : Parcel), s.consumes p 0x15 → (s.received p).twin = p.src → p.src ≠ 0x3FF → (s.received p).known p = false → exec (.landed p) s = .next ((match (s.received p).slabOf true p.volc (p.lba / 256) with | some e => (((s.received p).remember p).p TWN_STAT_FRESH 0).dropSlab e.1 | none => ((s.received p).remember p).p TWN_STAT_FRESH 0).send { kind := 0x1E, dst := p.src, lba := p.lba, volc := p.volc, xid := p.xid })) ∧
  (∀ (s : State) (p : Parcel) (u : TwinSent), s.consumes p 0x1B → Tbl.find (s.received p).twn.await p.xid = some u → (s.received p).twin = p.src → u.kind = 0x20 → exec (.confirm p) s = .next (((s.received p).twinAnswered p.xid).copyConfirmed u.vol u.ext u.blk)) ∧
  (∀ (s : State) (p : Parcel) (u : TwinSent), s.consumes p 0x1E → Tbl.find (s.received p).twn.await p.xid = some u → (s.received p).twin = p.src → u.kind = 0x15 → Tbl.find (s.received p).twn.dirty (dirtyKey u.vol u.ext) = none → exec (.ack p) s = .next ((s.received p).twinAnswered p.xid)) ∧
  (∀ (s : State) (p : Parcel), s.consumes p 0x20 → exec (.copy p) s = .next ((s.received p).copyIn p)) ∧
  (∀ (s : State) (p : Parcel), s.consumes p 0x21 → exec (.resync p) s = .next ((s.received p).copyIn p)) ∧
  (∀ (s : State) (p : Parcel), s.consumes p 0x22 → exec (.reclaim p) s = .next ((s.received p).copyIn p)) ∧
  (∀ (s : State) (p : Parcel) (e : Nat × Slab) (u : Unit4k), s.consumes p 0x13 → (s.received p).twin = p.src → p.src ≠ 0x3FF → (s.received p).known p = false → (s.received p).slabOf true p.volc (p.lba / 256) = some e → Tbl.find e.2.blocks (p.lba % 256) = some u → exec (.restore p) s = .next (((s.received p).remember p).send { kind := 0x1A, dst := p.src, lba := p.lba, modes := e.2.modes, volc := p.volc, keyTick := p.keyTick, body := dataBody (encOf e.2.modes) u (((s.received p).remember p).kverOf p.volc) }))

/-- A piece is sent and sent again, the settle queue releases its lowest piece, and each span parcel that a node consumes takes its effect. Rules R502,
R543, R570, R576, R578, R579, R597, R598. -/
def Obligations.SpanCommandsComplete : Prop :=
  (∀ (s : State) (i : Nat) (j : Nat) (c : Cmd) (q : IPiece), s.cmd i = some c → c.pieces[j]? = some q → s.running → s.hostStopped = false → c.phase = 2 → c.sq ≠ 0 → q.phase = 0 → s.keyClash i c q = false → exec (.pieceSend i j) s = .next (s.pieceGo i j c q)) ∧
  (∀ (s : State) (i : Nat) (j : Nat) (c : Cmd) (q : IPiece), s.cmd i = some c → c.pieces[j]? = some q → s.running → s.hostStopped = false → c.phase = 2 → c.sq ≠ 0 → q.phase = 1 → c.opc = 1 → exec (.pieceSend i j) s = .next (s.sendBlocks i j)) ∧
  (∀ (s : State) (i : Nat) (j : Nat) (c : Cmd) (q : IPiece), s.cmd i = some c → c.pieces[j]? = some q → s.running → s.hostStopped = false → c.phase = 2 → q.phase = 3 → q.retry ≤ s.clk.edges → exec (.pieceRetry i j) s = .next (s.pieceGo i j c q)) ∧
  (∀ (s : State) (e : Nat × OPiece), lowestKey (s.pieces.filter fun e => e.2.phase == 0 && decide (e.2.keyTick + 2 ≤ s.clk.tick)) = some e → s.running → exec .settleRelease s = .next (s.presentPiece e.1)) ∧
  (∀ (s : State) (p : Parcel) (e : Nat × OPiece), s.consumes p 0x10 → s.stagingRoom → (s.received p).known p = false → (s.received p).pieceFor p false = some e → exec (.piece p) s = .next ((s.received p).asOwner p fun u => (u.transit p (p.span + 64) (encOf p.modes) (fun b n v => v.blockIn e.1 p b n) (fun st v => v.blockBad e.1 p st)))) ∧
  (∀ (s : State) (p : Parcel), s.consumes p 0x10 → s.stagingRoom → exec (.piece p) s = .next ((s.received p).parcelPiece p)) ∧
  (∀ (s : State) (p : Parcel), s.consumes p 0x11 → exec (.readParcel p) s = .next ((s.received p).parcelReadParcel p)) ∧
  (∀ (s : State) (p : Parcel) (st : Nat), s.consumes p 0x12 → (s.received p).redirOf p.span (p.lba / 256) = none → (s.received p).statusOf p = some st → exec (.query p) s = .next (((s.received p).remember p).respond p 0x19 p.lba (leBytes st 2 ++ zeros 14))) ∧
  (∀ (s : State) (p : Parcel), s.consumes p 0x12 → (s.received p).redirOf p.span (p.lba / 256) = none → (s.received p).statusOf p = none → exec (.query p) s = .next ((s.received p).remember p)) ∧
  (∀ (s : State) (p : Parcel), s.consumes p 0x14 → exec (.remap p) s = .next ((s.received p).parcelRemap p)) ∧
  (∀ (s : State) (p : Parcel) (r : Remap), s.consumes p 0x1F → Tbl.find (s.received p).twn.remaps (stripeKey p.span (p.lba / 256)) = some r → r.peer = p.src → r.step = 2 → leAt p.body 0 1 = 0 → exec (.remapr p) s = .next (let u := (s.received p).answered fun q => q.kind == 0x14 && q.dst == p.src && q.lba == p.lba && q.span == p.span; { u with twn := { u.twn with remaps := Tbl.put u.twn.remaps (stripeKey p.span (p.lba / 256)) { r with step := 3 } } })) ∧
  (∀ (s : State) (p : Parcel), s.consumes p 0x18 → (s.received p).hasPiece p → exec (.accept p) s = .next ((s.received p).parcelAccept p)) ∧
  (∀ (s : State) (p : Parcel), s.consumes p 0x19 → exec (.done p) s = .next (((s.received p).gather.parcelDone p).inOrder)) ∧
  (∀ (s : State) (p : Parcel), s.consumes p 0x1A → exec (.rdata p) s = .next ((s.received p).parcelRdata p)) ∧
  (∀ (s : State) (p : Parcel), s.consumes p 0x1C → (s.received p).hasPiece p → exec (.notready p) s = .next (((s.received p).answered fun q => (q.kind == 0x10 || q.kind == 0x11) && q.xid == p.xid && q.keyTick == p.keyTick && q.span == p.span && q.lba / 256 == p.lba / 256).onPiece p fun q => { q with phase := 3, retry := (s.received p).clk.edges + 250, sent := 0 })) ∧
  (∀ (s : State) (p : Parcel) (x : Sent), s.consumes p 0x1D → ((s.received p).fab.await.find? fun x => x.p.dst == p.src && x.p.xid == p.xid && x.p.keyTick == p.keyTick && x.p.lba == p.lba && x.p.volc == p.volc && x.p.span == p.span && (x.p.kind == 0x10 || decide (0x20 ≤ x.p.kind))) = some x → exec (.resendq p) s = .next ((s.received p).send { x.p with resend := true })) ∧
  (∀ (s : State) (p : Parcel), s.consumes p 0x1D → exec (.resendq p) s = .next ((s.received p).parcelResendq p))

/-- With a command at the front of the queue, a step is that command on the state with the rest of the queue. -/
def Obligations.StepRunsFrontCommand : Prop :=
  ∀ (s : State) (c : Instr) (rest : List Instr), s.pending = c :: rest → step s = exec c { s with pending := rest }

/-- With an empty queue a step of a running block passes one cycle of the tick and does not pass its end; a block that does not run stays as it is. This
is the choice of the model in assumption log 12, not a rule of the spec. -/
def Obligations.IdleStepPassesACycle : Prop :=
  ∀ s : State, s.pending = [] →
    (s.running = false → step s = .next s) ∧
    (s.running → s.clk.cycle + 1 < s.tickLen → step s = .next { s with clk := { s.clk with cycle := s.clk.cycle + 1 }, setNow := [] }) ∧
    (s.running → s.tickLen ≤ s.clk.cycle + 1 → step s = .next s)

/-- In every state, every command answers a next state: none stops the block. -/
def Obligations.EveryCommandAnswers : Prop :=
  ∀ (c : Instr) (s : State), ∃ t : State, exec c s = .next t

/-- CRC-16, CRC-32C and CRC-64 of the nine ASCII bytes 123456789 are the check values that the spec gives. -/
def Obligations.CrcsGiveTheirCheckValues : Prop :=
  crc16 ((List.range 9).map fun i => byte (0x31 + i)) = 0x29B1 ∧ crc32c ((List.range 9).map fun i => byte (0x31 + i)) = 0xE3069283 ∧
  crc64 ((List.range 9).map fun i => byte (0x31 + i)) = 0x6C40DF5F0B497347

/-- A bit of a W1C field that the hardware sets reads 1 after a host write of its register in the same cycle, whichever of the two comes first and
whatever is written (R14). spec/00_scope.md. -/
def Obligations.WriteOneToClearYieldsToTheHardware : Prop :=
  ∀ (s : State) (F : Fld) (k i v b : Nat), F.acc = .w1c → b < F.w →
    bitAt (((s.hwSet F k i b).writeFld F k i v).gki F k i) b = true ∧ bitAt (((s.writeFld F k i v).hwSet F k i b).gki F k i) b = true

/-- A read of the low dword of a 64-bit register answers it and loads the latch of that function and register with the high dword; a read of the high
dword answers that latch, or the reset value; a write of the high dword goes to the staging dword alone, where the register is not one of the admin
queue registers locked while the queue is enabled (R416); a write of the low dword commits both and drops the staging dword; no two functions and no
two registers share a latch or a staging dword (R18). spec/00_scope.md. -/
def Obligations.WideRegistersHaveALatchAndAStagingDwordPerFunction : Prop :=
  ∀ (s : State) (fn : Fin 16) (a : BitVec 26) (b : Nat), s.fnOpen fn → a.toNat % 4 = 0 → blockAddr fn a.toNat = some b →
    blockAddr fn (a + 4).toNat = some (b + 4) → isWide b →
    exec (.readLowDword fn a) s = .next ({ s with rdLatch := Tbl.put s.rdLatch (wideKey fn b) (s.regValue b / 2 ^ 32 % 2 ^ 32) }.emit (.bus fn (leBytes (s.regValue b % 2 ^ 32) 4))) ∧
    exec (.readLowDword fn (a + 4)) s = .next (s.emit (.bus fn (leBytes (Tbl.getD s.rdLatch (wideKey fn b) (resetHigh b)) 4))) ∧
    (fn = 0 ∨ b / 0x1000 ≠ 1 → ∀ v : BitVec 32,
      (s.aqLocked b = false → exec (.regWrite fn (a + 4) 4 v) s = .next { s with staging := Tbl.put s.staging (wideKey fn b) v.toNat }) ∧
      exec (.regWrite fn a 4 v) s = .next { s.writeFlds b (v.toNat + Tbl.getD s.staging (wideKey fn b) (s.regValue b / 2 ^ 32 % 2 ^ 32) * 2 ^ 32) with staging := Tbl.del s.staging (wideKey fn b) }) ∧
    ∀ (fn' : Fin 16) (b' : Nat), b < 2 ^ 32 → b' < 2 ^ 32 → (fn' ≠ fn ∨ b' ≠ b) → wideKey fn' b' ≠ wideKey fn b

/-- For a span whose record stands at an offset of the span section with a stripe table of L entries, the owner of the stripe of a block is entry k mod L
of that table, k being the byte offset of the block divided by 1048576 (R27). spec/01_capture_model.md. -/
def Obligations.StripeOwnerComesFromTheStripeTable : Prop :=
  ∀ (s : State) (n o : Nat) (b : List Byte), s.spanRec n = some (b, o) → 0 < leAt b (o + 2) 2 →
    ∀ lba : Nat, s.stripeOwner n (lba / 256) = leAt b (o + 16 + 2 * ((lba * 4096 / 1048576) % leAt b (o + 2) 2)) 2

/-- A read of the low dword of CLK_NOW by any function answers the low half of the timestamp of the present cycle and latches its high half, which a read
of the high dword answers; writes change nothing but the staging dword; the timestamp is laid out as Table CLK-8 has it (R72). spec/02_graticule.md. -/
def Obligations.ClkNowReturnsTheTimestamp : Prop :=
  ∀ s : State,
    (∀ fn : Fin 16, s.fnOpen fn →
      exec (.readLowDword fn 0x1008#26) s = .next ({ s with rdLatch := Tbl.put s.rdLatch (wideKey fn 0x1008) (s.now / 2 ^ 32 % 2 ^ 32) }.emit (.bus fn (leBytes (s.now % 2 ^ 32) 4))) ∧
      (∀ h : Nat, Tbl.find s.rdLatch (wideKey fn 0x1008) = some h → exec (.readLowDword fn 0x100C#26) s = .next (s.emit (.bus fn (leBytes h 4)))) ∧
      (∀ v : BitVec 32, (∃ t, exec (.regWrite fn 0x1008#26 4 v) s = .next t ∧ t = { s with staging := t.staging }) ∧
        (∃ t, exec (.regWrite fn 0x100C#26 4 v) s = .next t ∧ t = { s with staging := t.staging }))) ∧
    bitsOf s.now 0 13 = s.clk.cycle % 2 ^ 13 ∧ bitsOf s.now 13 1 = b2n s.econ ∧ bitsOf s.now 14 2 = 0 ∧ bitsOf s.now 16 48 = s.clk.tick % 2 ^ 48

/-- A VIN warning, VIN over or VM warning crossing, at its trip level and lasting 20 ns, leaves no actuator with a write gate and a supply hold active, in
the cycle of the crossing: no cycle passes (R83). spec/03_supplies_surveyor.md. -/
def Obligations.SupplyWarningDropsTheGatesAndHolds : Prop :=
  ∀ (s : State) (mv ns : Nat), s.running → lasting ns →
    let drops := fun c : Instr => ∃ t, exec c s = .next t ∧ (∀ k < 4, (t.act k).gate = none) ∧ t.holding = true ∧ t.clk = s.clk
    (mv ≤ s.vinWarnMv → drops (.vinWarningCrossing mv ns)) ∧ (5750 ≤ mv → drops (.vinOverCrossing mv ns)) ∧ (mv ≤ s.vmWarnMv → drops (.vmWarningCrossing mv ns))

/-- A tail, head or push write of a queue that does not exist, one that R425 or R428 does not accept, and a narrow or unaligned write in the doorbell
region answer a state with the same queues, the queue and the kind in MQP_DBERR, and event 144 pending (R426). spec/13_queues.md. -/
def Obligations.IgnoredDoorbellsAreRecorded : Prop :=
  ∀ (s : State) (fn : Fin 16) (q : Fin 4096), s.fnOpen fn →
    let ignored := fun (c : Instr) (kind : Nat) => ∃ t, exec c s = .next t ∧ t.sqs = s.sqs ∧ t.cqs = s.cqs ∧ t.gk MQP_DBERR_QID fn = q ∧
      t.gk MQP_DBERR_KIND fn = kind ∧ t.evtPend 144 = true
    (s.sq fn q = none → (∀ v, ignored (.sqTailDoorbell fn q v) 1) ∧ ∀ b al, ignored (.pushWrite fn q b al) 1) ∧
    (s.cq fn q = none → ∀ v, ignored (.cqHeadDoorbell fn q v) 1) ∧
    (∀ x, s.sq fn q = some x → ∀ v : BitVec 32, x.depth ≤ v.toNat → ignored (.sqTailDoorbell fn q v) 2) ∧
    (∀ x, s.sq fn q = some x → ∀ v : BitVec 32, v.toNat < x.depth → (v.toNat + x.depth - x.head) % x.depth < (x.tail + x.depth - x.head) % x.depth →
      ignored (.sqTailDoorbell fn q v) 3) ∧
    (∀ x, s.cq fn q = some x → ∀ v : BitVec 32, x.depth ≤ v.toNat ∨ (x.tail + x.depth - x.head) % x.depth < (v.toNat + x.depth - x.head) % x.depth →
      ignored (.cqHeadDoorbell fn q v) 4) ∧
    (∀ x, s.sq fn q = some x → ∀ b al, x.push = false ∨ al = false ∨ b.length ≠ 64 → ignored (.pushWrite fn q b al) 5) ∧
    (∀ x, s.sq fn q = some x → x.push = true → ∀ b : List Byte, b.length = 64 →
      ((x.tail + 1) % x.depth + x.depth - x.head) % x.depth < (x.tail + x.depth - x.head) % x.depth → ignored (.pushWrite fn q b true) 3) ∧
    (∀ (len : Fin 5) (v : BitVec 32) (o : Nat), o < 8 → (len : Nat) ≠ 4 ∨ o % 4 ≠ 0 → ignored (.regWrite fn (0x1000000 + BitVec.ofNat 26 (8 * q + o)) len v) 6)

/-- A Delete I/O CQ command that passes the checks before its own completes with status 0x0109 and keeps the CQ while an I/O SQ of the function names it;
otherwise it completes with success and the CQ is ABSENT at once (R459). spec/14_commands.md. -/
def Obligations.DeleteIoCqNeedsNoSqOnIt : Prop :=
  ∀ (s : State) (i : Nat) (c : Cmd), s.adminRuns i 4 c [(32, 2)] → c.noData → c.silent = false → s.badQid c (c.le 32 2) = false →
    (s.cq c.fn (c.le 32 2)).isSome →
    ((∃ e ∈ s.sqs, e.1 / 65536 = c.fn ∧ e.1 % 65536 ≠ 0 ∧ e.2.cq = c.le 32 2) →
      ∃ t, exec (.deleteIoCq i) s = .next t ∧ (t.cmd i).map (·.status) = some 0x0109 ∧ (t.cmd i).map (·.phase) = some 3 ∧ (t.cq c.fn (c.le 32 2)).isSome) ∧
    ((¬ ∃ e ∈ s.sqs, e.1 / 65536 = c.fn ∧ e.1 % 65536 ≠ 0 ∧ e.2.cq = c.le 32 2) →
      ∃ t, exec (.deleteIoCq i) s = .next t ∧ (t.cmd i).map (·.status) = some 0 ∧ (t.cmd i).map (·.phase) = some 3 ∧ t.cq c.fn (c.le 32 2) = none)

/-- A read of EVT_GRP answers a value whose bit g is 1 exactly while one of the events 16 g to 16 g + 15 is both pending and unmasked, and changes nothing
else (R635). spec/19_event_map.md. -/
def Obligations.EventGroupBitsFollowPendingAndMask : Prop :=
  ∀ s : State, s.fnOpen 0 →
    ∃ v : Nat, exec (.readLowDword 0 0xE040#26) s = .next (s.emit (.bus 0 (leBytes v 4))) ∧
      ∀ g < 12, (bitAt v g = true ↔ ∃ j < 16, s.evtPend (16 * g + j) = true ∧ s.evtMasked (16 * g + j) = false)

/-- A consumed EVENT parcel enters the receive queue with event 187 while it holds fewer than 16; where it is full it is discarded and counted, with event
188 once per episode; a POP removes the oldest and ends the episode; EVT_FABIN reads the oldest, and 0 where the queue is empty (R640).
spec/19_event_map.md. -/
def Obligations.FabricEventsQueueForTheHost : Prop :=
  ∀ s : State,
    (∀ b : List Byte, s.running → s.evt.recvQ.length < 16 → ∃ t, exec (.event b) s = .next t ∧ t.evt.recvQ = s.evt.recvQ ++ [b] ∧ t.evtPend 187 = true) ∧
    (∀ b : List Byte, s.running → 16 ≤ s.evt.recvQ.length → ∃ t, exec (.event b) s = .next t ∧ t.evt.recvQ = s.evt.recvQ ∧
      t.g EVT_FABCTL_DROPIN = satAdd 8 (s.g EVT_FABCTL_DROPIN) 1 ∧ t.evt.fullEpi = true ∧ (s.evt.fullEpi = false → t.evtPend 188 = true) ∧
      (s.evt.fullEpi = true → t.evt = s.evt)) ∧
    (s.barOpen → ∃ t, exec .evtFabctlPop s = .next t ∧ t.evt.recvQ = s.evt.recvQ.drop 1 ∧ t.evt.fullEpi = false) ∧
    (s.fnOpen 0 → exec (.regWrite 0 0xE070 4 1) s = exec .evtFabctlPop s ∧
      ∀ k < 4, exec (.readLowDword 0 (0xE060 + BitVec.ofNat 26 (4 * k))) s = .next (s.emit (.bus 0 (leBytes ((match s.evt.recvQ with | p :: _ => leAt p (4 * k) 4 | [] => 0) % 2 ^ 32) 4))))

/-- A release with strap 3 at 1 sets PIN_STRAP.SCANHOLD and leaves the device in reset; SAMPLE/PRELOAD, IDCODE and the bypass opcodes always act; with
SCANHOLD at 1 EXTEST, EXTEST_PULSE, EXTEST_TRAIN, HIGHZ and CLAMP act, and with it at 0 each of them selects the bypass register and leaves the pins
alone (R659). spec/20_selftest_debug.md. -/
def Obligations.ComplianceEnableGatesTheTestInstructions : Prop :=
  ∀ s : State,
    (∀ (x : ReleaseIn) (cause : Nat), s.pwr.inReset = some cause → (x.die.foldl State.filterDie s).releaseOk x cause → x.straps / 8 % 2 = 1 →
      ∃ t, exec (.resetRelease x) s = .next t ∧ t.on PIN_STRAP_SCANHOLD ∧ t.pwr.inReset = some cause) ∧
    (∀ cells pins : BitVec 968, exec (.samplePreload cells pins) s = .next (s.setTap { ir := 2, sel := 2, cells := cells.toNat, capture := pins.toNat, drive := 0 }) ∧
      exec .idcode s = .next (s.setTap { s.tst.tap with ir := 1, sel := 1, capture := idcode, drive := 0, driven := 0 }) ∧
      (∀ op : BitVec 8, op.toNat ∉ [0, 1, 2, 4, 5, 6, 7] → exec (.bypass op) s = .next (s.setTap { s.tst.tap with ir := op.toNat, sel := 0, capture := 0, drive := 0, driven := 0 })) ∧
      (s.on PIN_STRAP_SCANHOLD →
        (∀ e ∈ [(0, Instr.extest cells pins), (6, .extestPulse cells pins), (7, .extestTrain cells pins)],
          exec e.2 s = .next (s.setTap { s.tst.tap with ir := e.1, sel := 2, cells := cells.toNat, capture := pins.toNat, drive := 1, driven := drivingCells })) ∧
        exec .highz s = .next (s.setTap { s.tst.tap with ir := 4, sel := 0, capture := 0, drive := 2, driven := 0 }) ∧
        exec .clamp s = .next (s.setTap { s.tst.tap with ir := 5, sel := 0, capture := 0, drive := 1, driven := drivingCells })) ∧
      (s.on PIN_STRAP_SCANHOLD = false → ∀ e ∈ [(0, Instr.extest cells pins), (6, .extestPulse cells pins), (7, .extestTrain cells pins), (4, .highz), (5, .clamp)],
        exec e.2 s = .next (s.setTap { s.tst.tap with ir := e.1, sel := 0, capture := 0, drive := 0, driven := 0 })))

/-- A write of TST_DBGCTL opens the window exactly where OPEN is 1, KEY is 0x0DB6, the chart sets DBG_EN and the lock fuse is not burned, with event 27; a
write with OPEN at 0 and every reset close it; while it is closed its reads answer 0 and its writes change nothing (R662). spec/20_selftest_debug.md. -/
def Obligations.DebugWindowOpensByChartFuseAndKey : Prop :=
  ∀ s : State,
    (∀ (v : BitVec 32), s.fnOpen 0 → ∃ t, exec (.regWrite 0 0x28020#26 4 v) s = .next t ∧
      (bitAt v.toNat 0 = true → v.toNat / 65536 = 0x0DB6 → bitAt (s.secLe 0xA0 0 6 1 0) 0 = true → s.on TST_FUSE_LOCK = false → s.on TST_DBGCTL_OPEN = false →
        t.on TST_DBGCTL_OPEN = true ∧ t.evtPend 27 = true) ∧
      (s.on TST_DBGCTL_OPEN = false → ¬ (bitAt v.toNat 0 = true ∧ v.toNat / 65536 = 0x0DB6 ∧ bitAt (s.secLe 0xA0 0 6 1 0) 0 = true ∧ s.on TST_FUSE_LOCK = false) → t.on TST_DBGCTL_OPEN = false) ∧
      (bitAt v.toNat 0 = false → t.on TST_DBGCTL_OPEN = false)) ∧
    (∀ cause : Nat, (s.enterReset cause).on TST_DBGCTL_OPEN = false) ∧
    (s.on TST_DBGCTL_OPEN = false → s.fnOpen 0 → ∀ (i : Fin 1024) (v : BitVec 32),
      exec (.readLowDword 0 (BitVec.ofNat 26 (0x29000 + 4 * i))) s = .next (s.emit (.bus 0 (zeros 4))) ∧
      exec (.regWrite 0 (BitVec.ofNat 26 (0x29000 + 4 * i)) 4 v) s = .next s ∧
      exec (.tstDbgwinRead i) s = .next (s.emit (.bus 0 (zeros 4))) ∧ exec (.tstDbgwinWrite i v) s = .next s)

/-- At a BAR0 address of the PF outside the windows where no register of any table stands, an aligned dword read answers 0 and changes nothing else, and
an aligned dword write changes nothing. -/
def Obligations.ReservedRegistersReadZeroAndIgnoreWrites : Prop :=
  ∀ (s : State) (a : BitVec 26) (v : BitVec 32), s.fnOpen 0 → a.toNat % 4 = 0 → a.toNat < 0xC0000 → a.toNat / 0x1000 ∉ [0x21, 0x23, 0x25, 0x27, 0x29] →
    isRegister a.toNat = false →
    exec (.readLowDword 0 a) s = .next (s.emit (.bus 0 (zeros 4))) ∧ exec (.regWrite 0 a 4 v) s = .next s

/-- An aligned dword write of a 32-bit register of the PF whose writes act on nothing beyond its fields changes register fields of that address alone, and
nothing else of the state; an RW field takes the written bits, and a field that is neither RW nor W1C keeps its value. -/
def Obligations.RegisterWritesReachTheirFieldsAlone : Prop :=
  (∀ (s : State) (a : BitVec 26) (v : BitVec 32), s.fnOpen 0 → a.toNat % 4 = 0 → a.toNat < 0x100000 → isWide a.toNat = false → isWide (a.toNat - 4) = false →
      actsOnWrite a.toNat = false →
      ∃ t, exec (.regWrite 0 a 4 v) s = .next t ∧ t = { s with regs := t.regs } ∧ s.regsBut ((fldsAt a.toNat).map fun e => e.1.key e.2.1 e.2.2) t) ∧
    ∀ (s : State) (F : Fld) (k i v : Nat), (F.acc = .rw → (s.writeFld F k i v).gki F k i = bitsOf v (F.bit i) F.w) ∧
      (F.acc ≠ .rw → F.acc ≠ .w1c → s.writeFld F k i v = s)

/-- With the window open, a write outside development mode is discarded and counted; in development mode a write outside the solid benches stores four
bytes at the page of TST_DBGADDR plus the offset and changes no other byte of the buffer and nothing else; a read there answers the four bytes. -/
def Obligations.DebugWindowWritesReachFourBytes : Prop :=
  ∀ (s : State) (i : Fin 1024) (v : BitVec 32), s.barOpen → s.on TST_DBGCTL_OPEN →
    (s.on TST_FUSE_DEVMODE = false → exec (.tstDbgwinWrite i v) s = .next (s.bump TST_DBGCTL_WDROP 1)) ∧
    (s.on TST_FUSE_DEVMODE → s.solidAt (s.dbgAddr i) = none → ∃ t, exec (.tstDbgwinWrite i v) s = .next t ∧ t = { s with buf := t.buf } ∧
      (∀ a, a < s.dbgAddr i ∨ s.dbgAddr i + 4 ≤ a → Memory.get 0 t.buf a = Memory.get 0 s.buf a) ∧
      (s.memOk → Memory.read 0 t.buf (s.dbgAddr i) 4 = leBytes v.toNat 4)) ∧
    (s.solidAt (s.dbgAddr i) = none → exec (.tstDbgwinRead i) s = .next (s.emit (.bus 0 (Memory.read 0 s.buf (s.dbgAddr i) 4))))

/-- A message of a masked vector, or of a masked function, sets the pending bit of the vector and nothing else; the unmask of a vector with its pending
bit set sends one message and clears the bit, without it sends nothing, and leaves every other entry of the table alone. -/
def Obligations.MsixPendingBitsCollectWhileMasked : Prop :=
  ∀ (s : State) (fn : Fin 16) (v : Fin 256), s.fnOpen fn →
      (((s.msixAt fn v).masked = true ∨ (fn : Nat) ∈ s.msixFnMask) →
        s.sendMsix fn v = { s with msix := Tbl.put s.msix (fn * 256 + v) { s.msixAt fn v with pend := true } }) ∧
      ((fn : Nat) ∉ s.msixFnMask → ∃ t, exec (.msixUnmask fn (some v)) s = .next t ∧ t = { s with msix := t.msix, out := t.out } ∧
        t.out = (if (s.msixAt fn v).pend then .msix fn v :: s.out else s.out) ∧ t.msixAt fn v = { s.msixAt fn v with masked := false, pend := false } ∧
        ∀ k, k ≠ (fn : Nat) * 256 + v → Tbl.find t.msix k = Tbl.find s.msix k)

/-- For strictly rising edges the bin of a sample is the number of edges at or below it; a sample adds one, saturating, to the count of its bin and leaves
every other count alone; an extreme keeps the smaller and the larger value, each with the timestamp of the first sample that reached it. -/
def Obligations.StatisticsBinSamplesByTheirEdges : Prop :=
  (∀ (edges : List Int) (v : Int), edges.Pairwise (· < ·) →
      binOf edges v ≤ edges.length ∧ (∀ (i : Nat) (h : i < edges.length), i < binOf edges v ↔ edges[i] ≤ v)) ∧
    (∀ (edges : List Int) (h : Hist) (v : Int) (tick : Bool), h.counts = [] ∨ h.counts.length = edges.length + 1 →
      (histAdd edges h v tick).counts.length = edges.length + 1 ∧
      ∀ i ≤ edges.length, (histAdd edges h v tick).counts.getD i 0 = if i = binOf edges v then satAdd 32 (h.counts.getD i 0) 1 else h.counts.getD i 0) ∧
    (∀ (e : Ext) (v : Int) (ts : Nat), e.min ≤ e.max →
      (extAdd (some e) v ts).min = min e.min v ∧ (extAdd (some e) v ts).max = max e.max v ∧
      (extAdd (some e) v ts).minTs = (if v < e.min then ts else e.minTs) ∧ (extAdd (some e) v ts).maxTs = (if e.max < v then ts else e.maxTs))

/-- In the state after power-on every register field holds the reset value of its table; entering a reset of any cause leaves the block in that reset and
not running, with the key RAM cleared, the waiting commands as they were, the chart flash as it was unless a chart update was open, and every register
field at its reset value outside the retained ones and those of a record that the reset makes (R91). A reset value that no table gives is the choice
of the model in assumption log 1. -/
def Obligations.ResetsRestoreTheRegisters : Prop :=
  (∀ (F : Fld) (k i : Nat), State.reset.gki F k i = F.dflt) ∧
    ∀ (s : State) (cause : Nat), ((s.enterReset cause).pwr.inReset = some cause ∧ (s.enterReset cause).running = false ∧ (s.enterReset cause).keys = [] ∧
      (s.g CHT_UPD_STATE ≠ 1 → s.g CHT_UPD_STATE ≠ 2 → (s.enterReset cause).flash = s.flash) ∧ (s.enterReset cause).pending = s.pending) ∧
      ∀ (F : Fld) (k i : Nat), F.key k i ∉ retainedKeys → F.key k i ∉ recordKeys → (s.enterReset cause).gki F k i = F.dflt

/-- A command that enters no reset and is none of Delete of a volume, Key Load, Key Clear and the key RAM parity error leaves every key as it was. -/
def Obligations.KeyRamChangesByItsCommandsAlone : Prop :=
  ∀ (c : Instr) (s t : State), exec c s = .next t → entersReset c = false → writesKeys c = false → t.keys = s.keys

/-- An edge without an overrun of the snapshot slot latches the values that stand at it, those of the tick whose samples and bench requests it completes,
and keeps those of the edge before; any other command that enters no reset leaves both latches alone; and a command that neither fetches nor enters a
reset leaves the place of the fetch engine alone. -/
def Obligations.EdgeLatchAndFetchOrderHaveTheirCommands : Prop :=
  (∀ (s : State) (x : TickIn), s.running → bitAt (((s.missedPost x).benchEdge x.bench).overrunAt x) 13 = false →
      ∃ t, exec (.tickEdge x) s = .next t ∧ t.latch = ((s.missedPost x).benchEdge x.bench).live ∧ t.latchPrev = s.latch) ∧
    (∀ (c : Instr) (s t : State), exec c s = .next t → entersReset c = false → passesEdge c = false → t.latch = s.latch ∧ t.latchPrev = s.latchPrev) ∧
    ∀ (c : Instr) (s t : State), exec c s = .next t → entersReset c = false → takesEntry c = false →
      t.fetchSeq = s.fetchSeq ∧ t.lastFn = s.lastFn ∧ t.lastSq = s.lastSq ∧ t.visit = s.visit ∧ t.burst = s.burst

/-- From every state whose bench buffer and chart flash are in canonical form, a step answers a state in which they are: addresses strictly rising and no
entry equal to what an unlisted byte reads as (assumption log 7). That the state after reset has the form is checked in the tests. -/
def Obligations.MemoriesStayCanonical : Prop :=
  ∀ s t : State, s.memOk → step s = .next t → t.memOk

/-- With a command at the front of the queue a step answers a next state whose queue is the rest, in the same order: no command adds, drops or reorders
waiting commands, a reset among them. The queue is the model’s own (assumption log 2). -/
def Obligations.QueueIsFirstInFirstOut : Prop :=
  ∀ (s : State) (c : Instr) (rest : List Instr), s.pending = c :: rest → ∃ t : State, step s = .next t ∧ t.pending = rest

/-- From every state, as many steps as commands wait answer a next state with none waiting: no command stops the block or stays behind. The queue is the
model’s own (assumption log 2). -/
def Obligations.WaitingCommandsDrain : Prop :=
  ∀ s : State, ∃ t : State, Host.Core.run Sys2Proof.core s.pending.length s = .next t ∧ t.pending = []
end

