-- ==== Sys2Proof/Laws/Admin.lean ====
section
/-! SUPPORT. What the shared operation of the admin commands does when every check passes. -/

namespace Sys2Proof.Machine

theorem firstFail_none_iff (l : List (Bool × Nat)) : firstFail l = none ↔ ∀ x ∈ l, x.1 = false := by
  induction l with
  | nil => simp [firstFail]
  | cons a t ih => obtain ⟨b, n⟩ := a; cases b <;> simp [firstFail, ih]

/-- An admin command that starts and passes every check does its work. -/
theorem State.admin_runs {s : State} {i opc : Nat} {c : Cmd} {sel : Cmd → Bool} {used : List (Nat × Nat)} {checks : Cmd → List (Bool × Nat)}
    (f : Cmd → State → State) (h : s.adminRuns i opc c used = true) (hs : sel c = true) (hc : firstFail (checks c) = none) :
    s.admin i opc sel used checks f = f c (s.begun i c) := by
  simp only [State.adminRuns, Bool.and_eq_true, beq_iff_eq, Option.isNone_iff_eq_none, Bool.not_eq_true'] at h
  obtain ⟨⟨⟨⟨⟨h0, h1⟩, h2⟩, h3⟩, h4⟩, h5⟩ := h
  simp [State.admin, h0, h1, h2, h3, h4, h5, hs, firstFail, hc, State.begun]

/-- The same of a command without data. -/
theorem State.adminPlain_runs {s : State} {i opc : Nat} {c : Cmd} {sel : Cmd → Bool} {used : List (Nat × Nat)} {checks : Cmd → List (Bool × Nat)}
    (f : Cmd → State → State) (h : s.adminRuns i opc c used = true) (hs : sel c = true) (hc : firstFail (checks c) = none) (hd : c.noData = true) :
    s.adminPlain i opc sel used checks f = f c (s.begun i c) := by
  refine State.admin_runs f h hs ?_
  rw [firstFail_none_iff] at hc ⊢
  intro x hx
  rcases List.mem_append.mp hx with h' | h'
  · exact hc x h'
  · rw [List.mem_singleton.mp h']; simp [hd]

/-- A transfer whose pointer gives segments of a length that passes its test goes on with them. -/
theorem State.withSegs_ok {s : State} {i : Nat} {c : Cmd} {d : DescIn} {ok : Nat → Bool} {l : List (Nat × Nat)} (f : List (Nat × Nat) → State → State)
    (h : c.dptr d = .segs l) (hk : ok (segSum l) = true) : s.withSegs i c d ok f = f l s := by simp [State.withSegs, h, hk]

end Sys2Proof.Machine
end

