-- ==== Sys2Proof/Laws/Memory.lean ====
section
/-! SUPPORT. The laws of a byte memory: what a write does to a read, and that every operation keeps the canonical form. -/

namespace Sys2Proof.Machine

theorem Memory.wfFrom_le {d : Byte} {lo lo' : Nat} {m : Memory} (h : lo' ≤ lo) (w : Memory.wfFrom d lo m = true) :
    Memory.wfFrom d lo' m = true := by
  cases m with
  | nil => rfl
  | cons c t =>
    simp only [Memory.wfFrom, Bool.and_eq_true, decide_eq_true_eq] at w ⊢
    exact ⟨⟨by omega, w.1.2⟩, w.2⟩

/-- Below its first address a canonical memory reads as unlisted. -/
theorem Memory.get_below {d : Byte} {lo a : Nat} {m : Memory} (h : a < lo) (w : Memory.wfFrom d lo m = true) : Memory.get d m a = d := by
  induction m generalizing lo with
  | nil => rfl
  | cons c t ih =>
    simp only [Memory.wfFrom, Bool.and_eq_true, decide_eq_true_eq] at w
    rw [Memory.get, if_neg (by omega)]
    exact ih (by omega) w.2

/-- A store keeps the canonical form. -/
theorem Memory.put_wfFrom {d : Byte} {lo a : Nat} {m : Memory} (b : Byte) (h : lo ≤ a) (w : Memory.wfFrom d lo m = true) :
    Memory.wfFrom d lo (Memory.put d m a b) = true := by
  induction m generalizing lo with
  | nil => by_cases hb : b = d <;> simp [Memory.put, hb, Memory.wfFrom, h]
  | cons c t ih =>
    have w' := w
    simp only [Memory.wfFrom, Bool.and_eq_true, decide_eq_true_eq] at w
    simp only [Memory.put]
    split
    · by_cases hb : b = d
      · simp [hb, w']
      · simp only [hb, if_false, Memory.wfFrom, Bool.and_eq_true, decide_eq_true_eq]
        exact ⟨⟨h, hb⟩, ⟨by omega, w.1.2⟩, w.2⟩
    · split
      · by_cases hb : b = d
        · simp only [hb, if_true]; exact Memory.wfFrom_le (by omega) w.2
        · simp only [hb, if_false, Memory.wfFrom, Bool.and_eq_true, decide_eq_true_eq]
          exact ⟨⟨h, hb⟩, by subst_vars; exact w.2⟩
      · simp only [Memory.wfFrom, Bool.and_eq_true, decide_eq_true_eq]
        exact ⟨w.1, ih (by omega) w.2⟩

theorem Memory.put_wf {d : Byte} {m : Memory} (a : Nat) (b : Byte) (w : Memory.wf d m = true) : Memory.wf d (Memory.put d m a b) = true :=
  Memory.put_wfFrom b (Nat.zero_le a) w

/-- Storing a byte string keeps the canonical form. -/
theorem Memory.write_wf {d : Byte} {m : Memory} (a : Nat) (l : List Byte) (w : Memory.wf d m = true) : Memory.wf d (Memory.write d m a l) = true := by
  induction l generalizing m a with
  | nil => exact w
  | cons b t ih => exact ih (a + 1) (Memory.put_wf a b w)

/-- Clearing a range keeps the canonical form. -/
theorem Memory.filter_wf {d : Byte} {lo : Nat} {m : Memory} (p : Host.Cell → Bool) (w : Memory.wfFrom d lo m = true) :
    Memory.wfFrom d lo (m.filter p) = true := by
  induction m generalizing lo with
  | nil => rfl
  | cons c t ih =>
    simp only [Memory.wfFrom, Bool.and_eq_true, decide_eq_true_eq] at w
    cases hp : p c
    · rw [List.filter_cons_of_neg (by simp [hp])]
      exact Memory.wfFrom_le (by omega) (ih w.2)
    · rw [List.filter_cons_of_pos hp]
      simp only [Memory.wfFrom, Bool.and_eq_true, decide_eq_true_eq]
      exact ⟨w.1, ih w.2⟩

theorem Memory.clear_wf {d : Byte} {m : Memory} (a n : Nat) (w : Memory.wf d m = true) : Memory.wf d (Memory.clear m a n) = true :=
  Memory.filter_wf _ w

/-- A store leaves every other address alone. -/
theorem Memory.get_put_ne {d : Byte} (m : Memory) {a a' : Nat} (b : Byte) (h : a' ≠ a) : Memory.get d (Memory.put d m a b) a' = Memory.get d m a' := by
  induction m with
  | nil => by_cases hb : b = d <;> simp [Memory.put, hb, Memory.get, Ne.symm h]
  | cons c t ih =>
    simp only [Memory.put]
    split
    · by_cases hb : b = d <;> simp [hb, Memory.get, Ne.symm h]
    · split
      · next hc => by_cases hb : b = d <;> simp [hb, Memory.get, Ne.symm h, hc]
      · simp only [Memory.get, ih]

/-- A read after a store gives the byte stored. -/
theorem Memory.get_put_same {d : Byte} {m : Memory} (a : Nat) (b : Byte) (w : Memory.wf d m = true) : Memory.get d (Memory.put d m a b) a = b := by
  have key : ∀ (lo : Nat) (m : Memory), Memory.wfFrom d lo m = true → Memory.get d (Memory.put d m a b) a = b := by
    intro lo m
    induction m generalizing lo with
    | nil => intro _; by_cases hb : b = d <;> simp [Memory.put, hb, Memory.get]
    | cons c t ih =>
      intro w
      have w' := w
      simp only [Memory.wfFrom, Bool.and_eq_true, decide_eq_true_eq] at w
      simp only [Memory.put]
      split
      · next hlt =>
        by_cases hb : b = d
        · simp only [hb, if_true]
          have : Memory.wfFrom d c.1 (c :: t) = true := by
            simp only [Memory.wfFrom, Bool.and_eq_true, decide_eq_true_eq]; exact ⟨⟨Nat.le_refl _, w.1.2⟩, w.2⟩
          exact Memory.get_below hlt this
        · simp [hb, Memory.get]
      · split
        · next hc =>
          by_cases hb : b = d
          · simp only [hb, if_true]
            exact Memory.get_below (by omega) w.2
          · simp [hb, Memory.get]
        · next hlt hc =>
          simp only [Memory.get, hc, if_false]
          exact ih _ w.2
  exact key 0 m w

end Sys2Proof.Machine
end

