-- ==== Sys2Proof/Laws/Canonical.lean ====
section
/-! SUPPORT. Every operation of the machine keeps the canonical form of the two byte memories. -/

namespace Sys2Proof.Machine

@[simp] theorem memOk_mk (u : State) (x_pending : List Instr) (x_regs : RegFile) (x_latch : RegFile) (x_latchPrev : RegFile) (x_ctxL : List HeadCtx) (x_ctxPrev : List HeadCtx) (x_spansL : List Nat) (x_spansPrev : List Nat) (x_setNow : List (Nat × Nat)) (x_rdLatch : Tbl Nat) (x_staging : Tbl Nat) (x_freeCount : Nat) (x_out : List Output) (x_loops : Tbl Loop) (x_clk : Clk) (x_pwr : Pwr) (x_svy : Svy) (x_pin : Pin) (x_chart : Chart) (x_boot : Boot) (x_gaz : Gaz) (x_evt : Evt) (x_msix : Tbl Msix) (x_msixFnMask : List Nat) (x_trace : List (List Byte)) (x_traceLost : Nat) (x_traceAt : Nat) (x_trcTick : Tbl Nat) (x_trcLeft : Tbl Nat) (x_pesMax : Tbl Nat) (x_pesPrev : Tbl Nat) (x_timeSeen : Bool) (x_timeNow : Bool) (x_spn : Spn) (x_acts : Tbl Act) (x_retr : Tbl Retract) (x_left : List Nat) (x_eng : Tbl Eng) (x_wr : Tbl WJob) (x_chan : Tbl Chan) (x_heads : Tbl HeadCtx) (x_cmds : Tbl Cmd) (x_sqs : Tbl Sq) (x_cqs : Tbl Cq) (x_fetchSeq : Nat) (x_lastFn : Nat) (x_lastSq : Tbl Nat) (x_visit : List Nat) (x_burst : Nat) (x_credit : Tbl Nat) (x_enEdge : Tbl Nat) (x_locks : Locks) (x_wbuf : List (Nat × Nat)) (x_devctl : Tbl DevCtl) (x_pieces : Tbl OPiece) (x_slabs : Tbl Slab) (x_slabWait : List Nat) (x_poolFull : Bool) (x_med : Med) (x_keys : Tbl (List Byte)) (x_ceWin : Tbl Nat) (x_ueWin : Tbl Nat) (x_fab : Fab) (x_twn : Twn) (x_dreads : List (Nat × Nat)) (x_copyWait : Tbl Parcel) (x_remote : List (Nat × Nat)) (x_lostSeq : List (Nat × Nat)) (x_scrubLine : Nat) (x_scrubEdge : Option Nat) (x_dram : Tbl (List Byte)) (x_dramAcc : Tbl Nat) (x_dramEdge : Nat) (x_tst : Tst) (x_bench : Bench) (x_promo : List Nat) (x_promoDue : List Nat) (x_credMissed : Bool) : State.memOk { pending := x_pending, regs := x_regs, latch := x_latch, latchPrev := x_latchPrev, ctxL := x_ctxL, ctxPrev := x_ctxPrev, spansL := x_spansL, spansPrev := x_spansPrev, setNow := x_setNow, rdLatch := x_rdLatch, staging := x_staging, freeCount := x_freeCount, out := x_out, buf := u.buf, flash := u.flash, loops := x_loops, clk := x_clk, pwr := x_pwr, svy := x_svy, pin := x_pin, chart := x_chart, boot := x_boot, gaz := x_gaz, evt := x_evt, msix := x_msix, msixFnMask := x_msixFnMask, trace := x_trace, traceLost := x_traceLost, traceAt := x_traceAt, trcTick := x_trcTick, trcLeft := x_trcLeft, pesMax := x_pesMax, pesPrev := x_pesPrev, timeSeen := x_timeSeen, timeNow := x_timeNow, spn := x_spn, acts := x_acts, retr := x_retr, left := x_left, eng := x_eng, wr := x_wr, chan := x_chan, heads := x_heads, cmds := x_cmds, sqs := x_sqs, cqs := x_cqs, fetchSeq := x_fetchSeq, lastFn := x_lastFn, lastSq := x_lastSq, visit := x_visit, burst := x_burst, credit := x_credit, enEdge := x_enEdge, locks := x_locks, wbuf := x_wbuf, devctl := x_devctl, pieces := x_pieces, slabs := x_slabs, slabWait := x_slabWait, poolFull := x_poolFull, med := x_med, keys := x_keys, ceWin := x_ceWin, ueWin := x_ueWin, fab := x_fab, twn := x_twn, dreads := x_dreads, copyWait := x_copyWait, remote := x_remote, lostSeq := x_lostSeq, scrubLine := x_scrubLine, scrubEdge := x_scrubEdge, dram := x_dram, dramAcc := x_dramAcc, dramEdge := x_dramEdge, tst := x_tst, bench := x_bench, promo := x_promo, promoDue := x_promoDue, credMissed := x_credMissed } ↔ u.memOk := Iff.rfl
theorem foldl_memOk {α : Type} (f : State → α → State) (l : List α) (s : State) (h : ∀ s a, s.memOk → (f s a).memOk) (hs : s.memOk) : (l.foldl f s).memOk := by
  induction l generalizing s with
  | nil => exact hs
  | cons a t ih => exact ih _ (h _ _ hs)
@[simp] theorem foldl_memOk_simp {α : Type} (f : State → α → State) (l : List α) (s : State) (h : ∀ s a, s.memOk → (f s a).memOk) (hs : s.memOk) : (l.foldl f s).memOk := foldl_memOk f l s h hs
@[simp] theorem ite_memOk (c : Prop) [Decidable c] (a b : State) : (if c then a else b).memOk ↔ (c → a.memOk) ∧ (¬ c → b.memOk) := by split <;> simp [*]
@[simp] theorem ite_fst_memOk {α β : Type} (c : Prop) [Decidable c] (a b : α × β) : (if c then a else b).1 = if c then a.1 else b.1 := by split <;> rfl
@[simp] theorem ite_snd_memOk {α β : Type} (c : Prop) [Decidable c] (a b : α × β) : (if c then a else b).2 = if c then a.2 else b.2 := by split <;> rfl

/-! ### Ops -/

theorem State.pki_memOk (s : State) (F : Fld) (k i v : Nat) (hm : s.memOk) : (State.pki s F k i v).memOk := hm
theorem State.pk_memOk (s : State) (F : Fld) (k v : Nat) (hm : s.memOk) : (State.pk s F k v).memOk := hm
theorem State.p_memOk (s : State) (F : Fld) (v : Nat) (hm : s.memOk) : (State.p s F v).memOk := hm
theorem State.bumpki_memOk (s : State) (F : Fld) (k i d : Nat) (hm : s.memOk) : (State.bumpki s F k i d).memOk := hm
theorem State.bumpk_memOk (s : State) (F : Fld) (k d : Nat) (hm : s.memOk) : (State.bumpk s F k d).memOk := hm
theorem State.bump_memOk (s : State) (F : Fld) (d : Nat) (hm : s.memOk) : (State.bump s F d).memOk := hm
theorem State.hwSet_memOk (s : State) (F : Fld) (k i b : Nat) (hm : s.memOk) : (State.hwSet s F k i b).memOk := hm
theorem State.hwClr_memOk (s : State) (F : Fld) (k i b : Nat) (hm : s.memOk) : (State.hwClr s F k i b).memOk := hm
theorem State.free_memOk (s : State) (hm : s.memOk) : ((State.free s).2).memOk := hm
theorem State.fresh_memOk (s : State) (hm : s.memOk) : (State.fresh s).memOk := hm
theorem State.emit_memOk (s : State) (o : Output) (hm : s.memOk) : (State.emit s o).memOk := hm
theorem State.atCycle_memOk (s : State) (c : Nat) (hm : s.memOk) : (State.atCycle s c).memOk := by unfold State.atCycle; repeat' first | simp only [memOk_mk, ite_memOk, ite_snd_memOk, ite_fst_memOk] | with_reducible assumption | with_reducible refine foldl_memOk _ _ _ (fun _ _ _ => ?_) ?_ | with_reducible refine And.intro ?_ ?_ | intro _ | split
theorem State.slotDone_memOk (s : State) (b : Nat) (hm : s.memOk) : (State.slotDone s b).memOk := hm
theorem State.stageEndAt_memOk (s : State) (i : Nat) (hm : s.memOk) : (State.stageEndAt s i).memOk := hm
theorem State.sendMsix_memOk (s : State) (fn vec : Nat) (hm : s.memOk) : (State.sendMsix s fn vec).memOk := by unfold State.sendMsix; repeat' first | simp only [memOk_mk, ite_memOk, ite_snd_memOk, ite_fst_memOk] | with_reducible assumption | with_reducible apply State.emit_memOk | with_reducible refine foldl_memOk _ _ _ (fun _ _ _ => ?_) ?_ | with_reducible refine And.intro ?_ ?_ | intro _ | split
theorem State.tracePush_memOk (s : State) (m : List Byte) (hm : s.memOk) : (State.tracePush s m).memOk := by unfold State.tracePush; repeat' first | simp only [memOk_mk, ite_memOk, ite_snd_memOk, ite_fst_memOk] | with_reducible assumption | with_reducible refine foldl_memOk _ _ _ (fun _ _ _ => ?_) ?_ | with_reducible refine And.intro ?_ ?_ | intro _ | split
theorem State.traceEdge_memOk (s : State) (hm : s.memOk) : (State.traceEdge s).memOk := by unfold State.traceEdge; repeat' first | simp only [memOk_mk, ite_memOk, ite_snd_memOk, ite_fst_memOk] | with_reducible assumption | with_reducible apply State.emit_memOk | with_reducible refine foldl_memOk _ _ _ (fun _ _ _ => ?_) ?_ | with_reducible refine And.intro ?_ ?_ | intro _ | split
theorem State.trcTrigger_memOk (s : State) (k post : Nat) (hm : s.memOk) : (State.trcTrigger s k post).memOk := by unfold State.trcTrigger; repeat' first | simp only [memOk_mk, ite_memOk, ite_snd_memOk, ite_fst_memOk] | with_reducible assumption | with_reducible apply State.bumpk_memOk | with_reducible apply State.pk_memOk | with_reducible refine foldl_memOk _ _ _ (fun _ _ _ => ?_) ?_ | with_reducible refine And.intro ?_ ?_ | intro _ | split
theorem State.trcSource_memOk (s : State) (k src : Nat) (hm : s.memOk) : (State.trcSource s k src).memOk := by unfold State.trcSource; repeat' first | simp only [memOk_mk, ite_memOk, ite_snd_memOk, ite_fst_memOk] | with_reducible assumption | with_reducible apply State.trcTrigger_memOk | with_reducible refine foldl_memOk _ _ _ (fun _ _ _ => ?_) ?_ | with_reducible refine And.intro ?_ ?_ | intro _ | split
theorem State.trcEvent_memOk (s : State) (e : Nat) (hm : s.memOk) : (State.trcEvent s e).memOk := by unfold State.trcEvent; repeat' first | simp only [memOk_mk, ite_memOk, ite_snd_memOk, ite_fst_memOk] | with_reducible assumption | with_reducible apply State.trcSource_memOk | with_reducible refine foldl_memOk _ _ _ (fun _ _ _ => ?_) ?_ | with_reducible refine And.intro ?_ ?_ | intro _ | split
theorem State.evtMsg_memOk (s : State) (e : Nat) (hm : s.memOk) : (State.evtMsg s e).memOk := by unfold State.evtMsg; repeat' first | simp only [memOk_mk, ite_memOk, ite_snd_memOk, ite_fst_memOk] | with_reducible assumption | with_reducible apply State.sendMsix_memOk | with_reducible refine foldl_memOk _ _ _ (fun _ _ _ => ?_) ?_ | with_reducible refine And.intro ?_ ?_ | intro _ | split
theorem State.evoPulse_memOk (s : State) (e : Nat) (hm : s.memOk) : (State.evoPulse s e).memOk := by unfold State.evoPulse; repeat' first | simp only [memOk_mk, ite_memOk, ite_snd_memOk, ite_fst_memOk] | with_reducible assumption | with_reducible refine foldl_memOk _ _ _ (fun _ _ _ => ?_) ?_ | with_reducible refine And.intro ?_ ?_ | intro _ | split
theorem State.evtQueue_memOk (s : State) (p : EvtParcel) (hm : s.memOk) : (State.evtQueue s p).memOk := by unfold State.evtQueue; repeat' first | simp only [memOk_mk, ite_memOk, ite_snd_memOk, ite_fst_memOk] | with_reducible assumption | with_reducible apply State.bump_memOk | with_reducible apply State.p_memOk | with_reducible refine foldl_memOk _ _ _ (fun _ _ _ => ?_) ?_ | with_reducible refine And.intro ?_ ?_ | intro _ | split
theorem State.evtFab_memOk (s : State) (e : Nat) (hm : s.memOk) : (State.evtFab s e).memOk := by unfold State.evtFab; repeat' first | simp only [memOk_mk, ite_memOk, ite_snd_memOk, ite_fst_memOk] | with_reducible assumption | with_reducible apply State.evtQueue_memOk | with_reducible apply State.p_memOk | with_reducible refine foldl_memOk _ _ _ (fun _ _ _ => ?_) ?_ | with_reducible refine And.intro ?_ ?_ | intro _ | split
theorem State.snapArm_memOk (s : State) (i e : Nat) (hm : s.memOk) : (State.snapArm s i e).memOk := hm
theorem State.snapTrig_memOk (s : State) (e : Nat) (hm : s.memOk) : (State.snapTrig s e).memOk := by unfold State.snapTrig; repeat' first | simp only [memOk_mk, ite_memOk, ite_snd_memOk, ite_fst_memOk] | with_reducible assumption | with_reducible apply State.snapArm_memOk | with_reducible refine foldl_memOk _ _ _ (fun _ _ _ => ?_) ?_ | with_reducible refine And.intro ?_ ?_ | intro _ | split
theorem State.evtDue_memOk (s : State) (e : Nat) (hm : s.memOk) : (State.evtDue s e).memOk := by unfold State.evtDue; repeat' first | simp only [memOk_mk, ite_memOk, ite_snd_memOk, ite_fst_memOk] | with_reducible assumption | with_reducible refine foldl_memOk _ _ _ (fun _ _ _ => ?_) ?_ | with_reducible refine And.intro ?_ ?_ | intro _ | split
theorem State.evtCount_memOk (s : State) (e : Nat) (hm : s.memOk) : (State.evtCount s e).memOk := hm
theorem State.evtTrace_memOk (s : State) (e : Nat) (hm : s.memOk) : (State.evtTrace s e).memOk := by unfold State.evtTrace; repeat' first | simp only [memOk_mk, ite_memOk, ite_snd_memOk, ite_fst_memOk] | with_reducible assumption | with_reducible apply State.tracePush_memOk | with_reducible refine foldl_memOk _ _ _ (fun _ _ _ => ?_) ?_ | with_reducible refine And.intro ?_ ?_ | intro _ | split
theorem State.evtRoutes_memOk (s : State) (e : Nat) (hm : s.memOk) : (State.evtRoutes s e).memOk := by unfold State.evtRoutes; repeat' first | simp only [memOk_mk, ite_memOk, ite_snd_memOk, ite_fst_memOk] | with_reducible assumption | with_reducible apply State.evoPulse_memOk | with_reducible apply State.evtFab_memOk | with_reducible apply State.evtMsg_memOk | with_reducible refine foldl_memOk _ _ _ (fun _ _ _ => ?_) ?_ | with_reducible refine And.intro ?_ ?_ | intro _ | split
theorem State.raise_memOk (s : State) (e : Nat) (hm : s.memOk) : (State.raise s e).memOk := by unfold State.raise; repeat' first | simp only [memOk_mk, ite_memOk, ite_snd_memOk, ite_fst_memOk] | with_reducible assumption | with_reducible apply State.evtCount_memOk | with_reducible apply State.evtDue_memOk | with_reducible apply State.evtRoutes_memOk | with_reducible apply State.evtTrace_memOk | with_reducible apply State.snapTrig_memOk | with_reducible apply State.trcEvent_memOk | with_reducible refine foldl_memOk _ _ _ (fun _ _ _ => ?_) ?_ | with_reducible refine And.intro ?_ ?_ | intro _ | split
theorem State.bufWrite_memOk (s : State) (a : Nat) (b : List Byte) (hm : s.memOk) : (State.bufWrite s a b).memOk := ⟨Memory.write_wf _ _ hm.1, hm.2⟩
theorem State.ringPad_memOk (s : State) (n : Nat) (hm : s.memOk) : (State.ringPad s n).memOk := by unfold State.ringPad; repeat' first | simp only [memOk_mk, ite_memOk, ite_snd_memOk, ite_fst_memOk] | with_reducible assumption | with_reducible apply State.bufWrite_memOk | with_reducible refine foldl_memOk _ _ _ (fun _ _ _ => ?_) ?_ | with_reducible refine And.intro ?_ ?_ | intro _ | split
theorem State.ringPtrs_memOk (s : State) (seq wptr : Nat) (oldest : RingEnt) (hm : s.memOk) : (State.ringPtrs s seq wptr oldest).memOk := hm
theorem State.ringPut_memOk (s : State) (r : Rec) (hm : s.memOk) : (State.ringPut s r).memOk := by unfold State.ringPut; repeat' first | simp only [memOk_mk, ite_memOk, ite_snd_memOk, ite_fst_memOk] | with_reducible assumption | with_reducible apply State.bufWrite_memOk | with_reducible apply State.ringPad_memOk | with_reducible apply State.ringPtrs_memOk | with_reducible refine foldl_memOk _ _ _ (fun _ _ _ => ?_) ?_ | with_reducible refine And.intro ?_ ?_ | intro _ | split
theorem State.ringOrHold_memOk (s : State) (r : Rec) (hm : s.memOk) : (State.ringOrHold s r).memOk := by unfold State.ringOrHold; repeat' first | simp only [memOk_mk, ite_memOk, ite_snd_memOk, ite_fst_memOk] | with_reducible assumption | with_reducible apply State.bump_memOk | with_reducible apply State.ringPut_memOk | with_reducible refine foldl_memOk _ _ _ (fun _ _ _ => ?_) ?_ | with_reducible refine And.intro ?_ ?_ | intro _ | split
theorem State.persistPut_memOk (s : State) (r : Rec) (hm : s.memOk) : (State.persistPut s r).memOk := by unfold State.persistPut; repeat' first | simp only [memOk_mk, ite_memOk, ite_snd_memOk, ite_fst_memOk] | with_reducible assumption | with_reducible apply State.bump_memOk | with_reducible apply State.p_memOk | with_reducible refine foldl_memOk _ _ _ (fun _ _ _ => ?_) ?_ | with_reducible refine And.intro ?_ ?_ | intro _ | split
theorem State.prePut_memOk (s : State) (r : Rec) (hm : s.memOk) : (State.prePut s r).memOk := by unfold State.prePut; repeat' first | simp only [memOk_mk, ite_memOk, ite_snd_memOk, ite_fst_memOk] | with_reducible assumption | with_reducible apply State.bump_memOk | with_reducible refine foldl_memOk _ _ _ (fun _ _ _ => ?_) ?_ | with_reducible refine And.intro ?_ ?_ | intro _ | split
theorem State.recordPut_memOk (s : State) (r : Rec) (hm : s.memOk) : (State.recordPut s r).memOk := by unfold State.recordPut; repeat' first | simp only [memOk_mk, ite_memOk, ite_snd_memOk, ite_fst_memOk] | with_reducible assumption | with_reducible apply State.persistPut_memOk | with_reducible apply State.prePut_memOk | with_reducible apply State.ringOrHold_memOk | with_reducible refine foldl_memOk _ _ _ (fun _ _ _ => ?_) ?_ | with_reducible refine And.intro ?_ ?_ | intro _ | split
theorem State.record_memOk (s : State) (r : Rec) (hm : s.memOk) : (State.record s r).memOk := by unfold State.record; repeat' first | simp only [memOk_mk, ite_memOk, ite_snd_memOk, ite_fst_memOk] | with_reducible assumption | with_reducible apply State.recordPut_memOk | with_reducible refine foldl_memOk _ _ _ (fun _ _ _ => ?_) ?_ | with_reducible refine And.intro ?_ ?_ | intro _ | split
theorem State.gather_memOk (s : State) (hm : s.memOk) : (State.gather s).memOk := hm
theorem State.inOrder_memOk (s : State) (hm : s.memOk) : (State.inOrder s).memOk := by unfold State.inOrder; repeat' first | simp only [memOk_mk, ite_memOk, ite_snd_memOk, ite_fst_memOk] | with_reducible assumption | with_reducible apply State.recordPut_memOk | with_reducible refine foldl_memOk _ _ _ (fun _ _ _ => ?_) ?_ | with_reducible refine And.intro ?_ ?_ | intro _ | split
theorem State.dropRecord_memOk (s : State) (kind count : Nat) (hm : s.memOk) : (State.dropRecord s kind count).memOk := by unfold State.dropRecord; repeat' first | simp only [memOk_mk, ite_memOk, ite_snd_memOk, ite_fst_memOk] | with_reducible assumption | with_reducible apply State.raise_memOk | with_reducible apply State.record_memOk | with_reducible refine foldl_memOk _ _ _ (fun _ _ _ => ?_) ?_ | with_reducible refine And.intro ?_ ?_ | intro _ | split
theorem State.dropPersist_memOk (s : State) (hm : s.memOk) : (State.dropPersist s).memOk := by unfold State.dropPersist; repeat' first | simp only [memOk_mk, ite_memOk, ite_snd_memOk, ite_fst_memOk] | with_reducible assumption | with_reducible apply State.dropRecord_memOk | with_reducible refine foldl_memOk _ _ _ (fun _ _ _ => ?_) ?_ | with_reducible refine And.intro ?_ ?_ | intro _ | split
theorem State.loopStep_memOk (s : State) (l which : Nat) (hm : s.memOk) : (State.loopStep s l which).memOk := hm
theorem State.loopHold_memOk (s : State) (l : Nat) (hm : s.memOk) : (State.loopHold s l).memOk := hm

/-! ### Envelope -/

theorem State.showTunables_memOk (s : State) (hm : s.memOk) : (State.showTunables s).memOk := by unfold State.showTunables; repeat' first | simp only [memOk_mk, ite_memOk, ite_snd_memOk, ite_fst_memOk] | with_reducible assumption | with_reducible apply State.p_memOk | with_reducible apply State.pk_memOk | with_reducible apply State.pki_memOk | with_reducible refine foldl_memOk _ _ _ (fun _ _ _ => ?_) ?_ | with_reducible refine And.intro ?_ ?_ | intro _ | split
theorem State.tunEdge_memOk (s : State) (hm : s.memOk) : (State.tunEdge s).memOk := by unfold State.tunEdge; repeat' first | simp only [memOk_mk, ite_memOk, ite_snd_memOk, ite_fst_memOk] | with_reducible assumption | with_reducible apply State.showTunables_memOk | with_reducible refine foldl_memOk _ _ _ (fun _ _ _ => ?_) ?_ | with_reducible refine And.intro ?_ ?_ | intro _ | split

/-! ### Motion -/

theorem State.setAct_memOk (s : State) (k : Nat) (f : Act → Act) (hm : s.memOk) : (State.setAct s k f).memOk := hm
theorem State.actFalls_memOk (s : State) (k : Nat) (hm : s.memOk) : (State.actFalls s k).memOk := by unfold State.actFalls; repeat' first | simp only [memOk_mk, ite_memOk, ite_snd_memOk, ite_fst_memOk] | with_reducible assumption | with_reducible refine foldl_memOk _ _ _ (fun _ _ _ => ?_) ?_ | with_reducible refine And.intro ?_ ?_ | intro _ | split
theorem State.gateDrop_memOk (s : State) (k : Nat) (hm : s.memOk) : (State.gateDrop s k).memOk := by unfold State.gateDrop; repeat' first | simp only [memOk_mk, ite_memOk, ite_snd_memOk, ite_fst_memOk] | with_reducible assumption | with_reducible apply State.actFalls_memOk | with_reducible apply State.setAct_memOk | with_reducible refine foldl_memOk _ _ _ (fun _ _ _ => ?_) ?_ | with_reducible refine And.intro ?_ ?_ | intro _ | split
theorem State.gateDropAll_memOk (s : State) (hm : s.memOk) : (State.gateDropAll s).memOk := by unfold State.gateDropAll; repeat' first | simp only [memOk_mk, ite_memOk, ite_snd_memOk, ite_fst_memOk] | with_reducible assumption | with_reducible apply State.gateDrop_memOk | with_reducible refine foldl_memOk _ _ _ (fun _ _ _ => ?_) ?_ | with_reducible refine And.intro ?_ ?_ | intro _ | split
theorem State.setActSt_memOk (s : State) (k st : Nat) (hm : s.memOk) : (State.setActSt s k st).memOk := by unfold State.setActSt; repeat' first | simp only [memOk_mk, ite_memOk, ite_snd_memOk, ite_fst_memOk] | with_reducible assumption | with_reducible apply State.gateDrop_memOk | with_reducible apply State.pk_memOk | with_reducible apply State.setAct_memOk | with_reducible refine foldl_memOk _ _ _ (fun _ _ _ => ?_) ?_ | with_reducible refine And.intro ?_ ?_ | intro _ | split
theorem State.zeroHeater_memOk (s : State) (k h : Nat) (hm : s.memOk) : (State.zeroHeater s k h).memOk := by unfold State.zeroHeater; repeat' first | simp only [memOk_mk, ite_memOk, ite_snd_memOk, ite_fst_memOk] | with_reducible assumption | with_reducible apply State.pk_memOk | with_reducible refine foldl_memOk _ _ _ (fun _ _ _ => ?_) ?_ | with_reducible refine And.intro ?_ ?_ | intro _ | split
theorem State.heaterOff_memOk (s : State) (k : Nat) (hm : s.memOk) : (State.heaterOff s k).memOk := by unfold State.heaterOff; repeat' first | simp only [memOk_mk, ite_memOk, ite_snd_memOk, ite_fst_memOk] | with_reducible assumption | with_reducible apply State.loopHold_memOk | with_reducible apply State.zeroHeater_memOk | with_reducible refine foldl_memOk _ _ _ (fun _ _ _ => ?_) ?_ | with_reducible refine And.intro ?_ ?_ | intro _ | split
theorem State.abandonSlice_memOk (s : State) (k : Nat) (hm : s.memOk) : (State.abandonSlice s k).memOk := by unfold State.abandonSlice; repeat' first | simp only [memOk_mk, ite_memOk, ite_snd_memOk, ite_fst_memOk] | with_reducible assumption | with_reducible apply State.p_memOk | with_reducible refine foldl_memOk _ _ _ (fun _ _ _ => ?_) ?_ | with_reducible refine And.intro ?_ ?_ | intro _ | split
theorem State.abandonSlices_memOk (s : State) (hm : s.memOk) : (State.abandonSlices s).memOk := by unfold State.abandonSlices; repeat' first | simp only [memOk_mk, ite_memOk, ite_snd_memOk, ite_fst_memOk] | with_reducible assumption | with_reducible apply State.abandonSlice_memOk | with_reducible refine foldl_memOk _ _ _ (fun _ _ _ => ?_) ?_ | with_reducible refine And.intro ?_ ?_ | intro _ | split
theorem State.beginMotion_memOk (s : State) (k kind trig : Nat) (hm : s.memOk) : (State.beginMotion s k kind trig).memOk := by unfold State.beginMotion; repeat' first | simp only [memOk_mk, ite_memOk, ite_snd_memOk, ite_fst_memOk] | with_reducible assumption | with_reducible apply State.abandonSlice_memOk | with_reducible apply State.heaterOff_memOk | with_reducible apply State.raise_memOk | with_reducible apply State.setAct_memOk | with_reducible apply State.setActSt_memOk | with_reducible refine foldl_memOk _ _ _ (fun _ _ _ => ?_) ?_ | with_reducible refine And.intro ?_ ?_ | intro _ | split
theorem State.orderMotion_memOk (s : State) (k kind trig : Nat) (hm : s.memOk) : (State.orderMotion s k kind trig).memOk := by unfold State.orderMotion; repeat' first | simp only [memOk_mk, ite_memOk, ite_snd_memOk, ite_fst_memOk] | with_reducible assumption | with_reducible apply State.beginMotion_memOk | with_reducible apply State.setAct_memOk | with_reducible refine foldl_memOk _ _ _ (fun _ _ _ => ?_) ?_ | with_reducible refine And.intro ?_ ?_ | intro _ | split
theorem State.endMotion_memOk (s : State) (k st : Nat) (hm : s.memOk) : (State.endMotion s k st).memOk := by unfold State.endMotion; repeat' first | simp only [memOk_mk, ite_memOk, ite_snd_memOk, ite_fst_memOk] | with_reducible assumption | with_reducible apply State.beginMotion_memOk | with_reducible apply State.p_memOk | with_reducible apply State.setAct_memOk | with_reducible apply State.setActSt_memOk | with_reducible refine foldl_memOk _ _ _ (fun _ _ _ => ?_) ?_ | with_reducible refine And.intro ?_ ?_ | intro _ | split
theorem State.parkRecord_memOk (s : State) (k : Nat) (m : Motion) (overrun : Nat) (hm : s.memOk) : (State.parkRecord s k m overrun).memOk := by unfold State.parkRecord; repeat' first | simp only [memOk_mk, ite_memOk, ite_snd_memOk, ite_fst_memOk] | with_reducible assumption | with_reducible apply State.record_memOk | with_reducible refine foldl_memOk _ _ _ (fun _ _ _ => ?_) ?_ | with_reducible refine And.intro ?_ ?_ | intro _ | split
theorem State.escEnd_memOk (s : State) (k outcome : Nat) (hm : s.memOk) : (State.escEnd s k outcome).memOk := by unfold State.escEnd; repeat' first | simp only [memOk_mk, ite_memOk, ite_snd_memOk, ite_fst_memOk] | with_reducible assumption | with_reducible apply State.record_memOk | with_reducible refine foldl_memOk _ _ _ (fun _ _ _ => ?_) ?_ | with_reducible refine And.intro ?_ ?_ | intro _ | split
theorem State.epark_memOk (s : State) (k trig : Nat) (hm : s.memOk) : (State.epark s k trig).memOk := by unfold State.epark; repeat' first | simp only [memOk_mk, ite_memOk, ite_snd_memOk, ite_fst_memOk] | with_reducible assumption | with_reducible apply State.orderMotion_memOk | with_reducible refine foldl_memOk _ _ _ (fun _ _ _ => ?_) ?_ | with_reducible refine And.intro ?_ ?_ | intro _ | split
theorem State.eparkAll_memOk (s : State) (trig : Nat) (hm : s.memOk) : (State.eparkAll s trig).memOk := by unfold State.eparkAll; repeat' first | simp only [memOk_mk, ite_memOk, ite_snd_memOk, ite_fst_memOk] | with_reducible assumption | with_reducible apply State.orderMotion_memOk | with_reducible refine foldl_memOk _ _ _ (fun _ _ _ => ?_) ?_ | with_reducible refine And.intro ?_ ?_ | intro _ | split
theorem State.unloadAll_memOk (s : State) (trig : Nat) (hm : s.memOk) : (State.unloadAll s trig).memOk := by unfold State.unloadAll; repeat' first | simp only [memOk_mk, ite_memOk, ite_snd_memOk, ite_fst_memOk] | with_reducible assumption | with_reducible apply State.orderMotion_memOk | with_reducible refine foldl_memOk _ _ _ (fun _ _ _ => ?_) ?_ | with_reducible refine And.intro ?_ ?_ | intro _ | split
theorem State.retractAll_memOk (s : State) (hm : s.memOk) : (State.retractAll s).memOk := by unfold State.retractAll; repeat' first | simp only [memOk_mk, ite_memOk, ite_snd_memOk, ite_fst_memOk] | with_reducible assumption | with_reducible apply State.orderMotion_memOk | with_reducible refine foldl_memOk _ _ _ (fun _ _ _ => ?_) ?_ | with_reducible refine And.intro ?_ ?_ | intro _ | split
theorem State.shockRestart_memOk (s : State) (hm : s.memOk) : (State.shockRestart s).memOk := by unfold State.shockRestart; repeat' first | simp only [memOk_mk, ite_memOk, ite_snd_memOk, ite_fst_memOk] | with_reducible assumption | with_reducible apply State.orderMotion_memOk | with_reducible apply State.setAct_memOk | with_reducible refine foldl_memOk _ _ _ (fun _ _ _ => ?_) ?_ | with_reducible refine And.intro ?_ ?_ | intro _ | split
theorem State.loadAct_memOk (s : State) (k why : Nat) (hm : s.memOk) : (State.loadAct s k why).memOk := by unfold State.loadAct; repeat' first | simp only [memOk_mk, ite_memOk, ite_snd_memOk, ite_fst_memOk] | with_reducible assumption | with_reducible apply State.orderMotion_memOk | with_reducible apply State.setAct_memOk | with_reducible refine foldl_memOk _ _ _ (fun _ _ _ => ?_) ?_ | with_reducible refine And.intro ?_ ?_ | intro _ | split
theorem State.loadAll_memOk (s : State) (why : Nat) (hm : s.memOk) : (State.loadAll s why).memOk := by unfold State.loadAll; repeat' first | simp only [memOk_mk, ite_memOk, ite_snd_memOk, ite_fst_memOk] | with_reducible assumption | with_reducible apply State.loadAct_memOk | with_reducible refine foldl_memOk _ _ _ (fun _ _ _ => ?_) ?_ | with_reducible refine And.intro ?_ ?_ | intro _ | split
theorem State.shockLoads_memOk (s : State) (hm : s.memOk) : (State.shockLoads s).memOk := by unfold State.shockLoads; repeat' first | simp only [memOk_mk, ite_memOk, ite_snd_memOk, ite_fst_memOk] | with_reducible assumption | with_reducible apply State.orderMotion_memOk | with_reducible apply State.setAct_memOk | with_reducible refine foldl_memOk _ _ _ (fun _ _ _ => ?_) ?_ | with_reducible refine And.intro ?_ ?_ | intro _ | split
theorem State.enterSpn_memOk (s : State) (st : Nat) (hm : s.memOk) : (State.enterSpn s st).memOk := by unfold State.enterSpn; repeat' first | simp only [memOk_mk, ite_memOk, ite_snd_memOk, ite_fst_memOk] | with_reducible assumption | with_reducible apply State.p_memOk | with_reducible refine foldl_memOk _ _ _ (fun _ _ _ => ?_) ?_ | with_reducible refine And.intro ?_ ?_ | intro _ | split
theorem State.lossRecord_memOk (s : State) (outcome : Nat) (hm : s.memOk) : (State.lossRecord s outcome).memOk := by unfold State.lossRecord; repeat' first | simp only [memOk_mk, ite_memOk, ite_snd_memOk, ite_fst_memOk] | with_reducible assumption | with_reducible apply State.record_memOk | with_reducible refine foldl_memOk _ _ _ (fun _ _ _ => ?_) ?_ | with_reducible refine And.intro ?_ ?_ | intro _ | split
theorem State.spindleCoast_memOk (s : State) (hm : s.memOk) : (State.spindleCoast s).memOk := by unfold State.spindleCoast; repeat' first | simp only [memOk_mk, ite_memOk, ite_snd_memOk, ite_fst_memOk] | with_reducible assumption | with_reducible apply State.enterSpn_memOk | with_reducible apply State.lossRecord_memOk | with_reducible refine foldl_memOk _ _ _ (fun _ _ _ => ?_) ?_ | with_reducible refine And.intro ?_ ?_ | intro _ | split
theorem State.spindleStart_memOk (s : State) (src : Nat) (hm : s.memOk) : (State.spindleStart s src).memOk := by unfold State.spindleStart; repeat' first | simp only [memOk_mk, ite_memOk, ite_snd_memOk, ite_fst_memOk] | with_reducible assumption | with_reducible refine foldl_memOk _ _ _ (fun _ _ _ => ?_) ?_ | with_reducible refine And.intro ?_ ?_ | intro _ | split
theorem State.spindleBrakeFor_memOk (s : State) (why : Nat) (hm : s.memOk) : (State.spindleBrakeFor s why).memOk := hm
theorem State.spindleBrake_memOk (s : State) (hm : s.memOk) : (State.spindleBrake s).memOk := hm
theorem State.reissue_memOk (s : State) (hm : s.memOk) : (State.reissue s).memOk := hm

/-! ### Queue -/

theorem State.setCmd_memOk (s : State) (i : Nat) (c : Cmd) (hm : s.memOk) : (State.setCmd s i c).memOk := hm
theorem State.modCmd_memOk (s : State) (i : Nat) (f : Cmd → Cmd) (hm : s.memOk) : (State.modCmd s i f).memOk := by unfold State.modCmd; repeat' first | simp only [memOk_mk, ite_memOk, ite_snd_memOk, ite_fst_memOk] | with_reducible assumption | with_reducible apply State.setCmd_memOk | with_reducible refine foldl_memOk _ _ _ (fun _ _ _ => ?_) ?_ | with_reducible refine And.intro ?_ ?_ | intro _ | split
theorem State.setSq_memOk (s : State) (fn q : Nat) (x : Sq) (hm : s.memOk) : (State.setSq s fn q x).memOk := hm
theorem State.setCq_memOk (s : State) (fn q : Nat) (x : Cq) (hm : s.memOk) : (State.setCq s fn q x).memOk := hm
theorem State.modVol_memOk (s : State) (code : Nat) (f : Vol → Vol) (hm : s.memOk) : (State.modVol s code f).memOk := by unfold State.modVol; repeat' first | simp only [memOk_mk, ite_memOk, ite_snd_memOk, ite_fst_memOk] | with_reducible assumption | with_reducible refine foldl_memOk _ _ _ (fun _ _ _ => ?_) ?_ | with_reducible refine And.intro ?_ ?_ | intro _ | split
theorem State.unlock_memOk (s : State) (w : Who) (hm : s.memOk) : (State.unlock s w).memOk := hm
theorem State.present_memOk (s : State) (l : Lock) (hm : s.memOk) : (State.present s l).memOk := hm
theorem State.cqWait_memOk (s : State) (fn cq : Nat) (w : CqWait) (hm : s.memOk) : (State.cqWait s fn cq w).memOk := by unfold State.cqWait; repeat' first | simp only [memOk_mk, ite_memOk, ite_snd_memOk, ite_fst_memOk] | with_reducible assumption | with_reducible apply State.raise_memOk | with_reducible apply State.setCq_memOk | with_reducible refine foldl_memOk _ _ _ (fun _ _ _ => ?_) ?_ | with_reducible refine And.intro ?_ ?_ | intro _ | split
theorem State.sqError_memOk (s : State) (c : Cmd) (status : Nat) (hm : s.memOk) : (State.sqError s c status).memOk := by unfold State.sqError; repeat' first | simp only [memOk_mk, ite_memOk, ite_snd_memOk, ite_fst_memOk] | with_reducible assumption | with_reducible apply State.pk_memOk | with_reducible apply State.raise_memOk | with_reducible apply State.record_memOk | with_reducible apply State.setSq_memOk | with_reducible refine foldl_memOk _ _ _ (fun _ _ _ => ?_) ?_ | with_reducible refine And.intro ?_ ?_ | intro _ | split
theorem State.unfreezeEntry_memOk (s : State) (fn cq q : Nat) (hm : s.memOk) : (State.unfreezeEntry s fn cq q).memOk := by unfold State.unfreezeEntry; repeat' first | simp only [memOk_mk, ite_memOk, ite_snd_memOk, ite_fst_memOk] | with_reducible assumption | with_reducible apply State.setCq_memOk | with_reducible refine foldl_memOk _ _ _ (fun _ _ _ => ?_) ?_ | with_reducible refine And.intro ?_ ?_ | intro _ | split
theorem State.complete_memOk (s : State) (slot status : Nat) (hm : s.memOk) : (State.complete s slot status).memOk := by unfold State.complete; repeat' first | simp only [memOk_mk, ite_memOk, ite_snd_memOk, ite_fst_memOk] | with_reducible assumption | with_reducible apply State.cqWait_memOk | with_reducible apply State.setCmd_memOk | with_reducible apply State.sqError_memOk | with_reducible apply State.unfreezeEntry_memOk | with_reducible apply State.unlock_memOk | with_reducible refine foldl_memOk _ _ _ (fun _ _ _ => ?_) ?_ | with_reducible refine And.intro ?_ ?_ | intro _ | split
theorem State.completeWith_memOk (s : State) (slot status result : Nat) (hm : s.memOk) : (State.completeWith s slot status result).memOk := by unfold State.completeWith; repeat' first | simp only [memOk_mk, ite_memOk, ite_snd_memOk, ite_fst_memOk] | with_reducible assumption | with_reducible apply State.complete_memOk | with_reducible apply State.modCmd_memOk | with_reducible refine foldl_memOk _ _ _ (fun _ _ _ => ?_) ?_ | with_reducible refine And.intro ?_ ?_ | intro _ | split
theorem State.cqSignal_memOk (s : State) (fn cq : Nat) (hm : s.memOk) : (State.cqSignal s fn cq).memOk := by unfold State.cqSignal; repeat' first | simp only [memOk_mk, ite_memOk, ite_snd_memOk, ite_fst_memOk] | with_reducible assumption | with_reducible apply State.sendMsix_memOk | with_reducible apply State.setCq_memOk | with_reducible refine foldl_memOk _ _ _ (fun _ _ _ => ?_) ?_ | with_reducible refine And.intro ?_ ?_ | intro _ | split
theorem State.releaseSlot_memOk (s : State) (slot : Option Nat) (hm : s.memOk) : (State.releaseSlot s slot).memOk := by unfold State.releaseSlot; repeat' first | simp only [memOk_mk, ite_memOk, ite_snd_memOk, ite_fst_memOk] | with_reducible assumption | with_reducible refine foldl_memOk _ _ _ (fun _ _ _ => ?_) ?_ | with_reducible refine And.intro ?_ ?_ | intro _ | split
theorem State.postEntry_memOk (s : State) (fn cq : Nat) (hm : s.memOk) : (State.postEntry s fn cq).memOk := by unfold State.postEntry; repeat' first | simp only [memOk_mk, ite_memOk, ite_snd_memOk, ite_fst_memOk] | with_reducible assumption | with_reducible apply State.cqSignal_memOk | with_reducible apply State.emit_memOk | with_reducible apply State.raise_memOk | with_reducible apply State.releaseSlot_memOk | with_reducible apply State.setCq_memOk | with_reducible refine foldl_memOk _ _ _ (fun _ _ _ => ?_) ?_ | with_reducible refine And.intro ?_ ?_ | intro _ | split
theorem State.cancelTransition_memOk (s : State) (hm : s.memOk) : (State.cancelTransition s).memOk := by unfold State.cancelTransition; repeat' first | simp only [memOk_mk, ite_memOk, ite_snd_memOk, ite_fst_memOk] | with_reducible assumption | with_reducible apply State.p_memOk | with_reducible apply State.raise_memOk | with_reducible refine foldl_memOk _ _ _ (fun _ _ _ => ?_) ?_ | with_reducible refine And.intro ?_ ?_ | intro _ | split

/-! ### Flash -/

theorem State.wearPut_memOk (s : State) (n : Nat) (w : Wear) (hm : s.memOk) : (State.wearPut s n w).memOk := hm
theorem State.flashWrite_memOk (s : State) (a : Nat) (b : List Byte) (hm : s.memOk) : (State.flashWrite s a b).memOk := ⟨hm.1, Memory.write_wf _ _ hm.2⟩
theorem State.flashClear_memOk (s : State) (n : Nat) (hm : s.memOk) : (State.flashClear s n).memOk := ⟨hm.1, Memory.clear_wf _ _ hm.2⟩
theorem State.mark_memOk (s : State) (kind sector erases etime : Nat) (hm : s.memOk) : (State.mark s kind sector erases etime).memOk := by unfold State.mark; repeat' first | simp only [memOk_mk, ite_memOk, ite_snd_memOk, ite_fst_memOk] | with_reducible assumption | with_reducible apply State.flashWrite_memOk | with_reducible refine foldl_memOk _ _ _ (fun _ _ _ => ?_) ?_ | with_reducible refine And.intro ?_ ?_ | intro _ | split
theorem State.wearErase_memOk (s : State) (n t : Nat) (hm : s.memOk) : (State.wearErase s n t).memOk := by unfold State.wearErase; repeat' first | simp only [memOk_mk, ite_memOk, ite_snd_memOk, ite_fst_memOk] | with_reducible assumption | with_reducible apply State.bump_memOk | with_reducible apply State.raise_memOk | with_reducible apply State.wearPut_memOk | with_reducible refine foldl_memOk _ _ _ (fun _ _ _ => ?_) ?_ | with_reducible refine And.intro ?_ ?_ | intro _ | split
theorem State.seal_memOk (s : State) (n : Nat) (hm : s.memOk) : (State.seal s n).memOk := by unfold State.seal; repeat' first | simp only [memOk_mk, ite_memOk, ite_snd_memOk, ite_fst_memOk] | with_reducible assumption | with_reducible apply State.p_memOk | with_reducible apply State.raise_memOk | with_reducible apply State.record_memOk | with_reducible refine foldl_memOk _ _ _ (fun _ _ _ => ?_) ?_ | with_reducible refine And.intro ?_ ?_ | intro _ | split
theorem State.retireTo_memOk (s : State) (n cause dst sp : Nat) (hm : s.memOk) : (State.retireTo s n cause dst sp).memOk := by
  unfold State.retireTo; dsimp only
  apply State.raise_memOk
  apply State.record_memOk
  apply State.wearPut_memOk
  exact ⟨hm.1, Memory.write_wf _ _ (Memory.clear_wf _ _ hm.2)⟩
theorem State.retire_memOk (s : State) (n cause : Nat) (hm : s.memOk) : ((State.retire s n cause).2).memOk := by unfold State.retire; repeat' first | simp only [memOk_mk, ite_memOk, ite_snd_memOk, ite_fst_memOk] | with_reducible assumption | with_reducible apply State.p_memOk | with_reducible apply State.retireTo_memOk | with_reducible apply State.seal_memOk | with_reducible refine foldl_memOk _ _ _ (fun _ _ _ => ?_) ?_ | with_reducible refine And.intro ?_ ?_ | intro _ | split
theorem State.journalReady_memOk (s : State) (hm : s.memOk) : (State.journalReady s).memOk := by unfold State.journalReady; repeat' first | simp only [memOk_mk, ite_memOk, ite_snd_memOk, ite_fst_memOk] | with_reducible assumption | with_reducible apply State.p_memOk | with_reducible apply State.raise_memOk | with_reducible refine foldl_memOk _ _ _ (fun _ _ _ => ?_) ?_ | with_reducible refine And.intro ?_ ?_ | intro _ | split
theorem State.journalErased_memOk (s : State) (q : Nat) (ok : Bool) (hm : s.memOk) : (State.journalErased s q ok).memOk := by unfold State.journalErased; repeat' first | simp only [memOk_mk, ite_memOk, ite_snd_memOk, ite_fst_memOk] | with_reducible assumption | with_reducible apply State.journalReady_memOk | with_reducible refine foldl_memOk _ _ _ (fun _ _ _ => ?_) ?_ | with_reducible refine And.intro ?_ ?_ | intro _ | split
theorem State.xspi_memOk (s : State) (op addr n : Nat) (hm : s.memOk) : (State.xspi s op addr n).memOk := hm
theorem State.flashBegin_memOk (s : State) (j : FlashJob) (hm : s.memOk) : (State.flashBegin s j).memOk := by unfold State.flashBegin; repeat' first | simp only [memOk_mk, ite_memOk, ite_snd_memOk, ite_fst_memOk] | with_reducible assumption | with_reducible apply State.xspi_memOk | with_reducible refine foldl_memOk _ _ _ (fun _ _ _ => ?_) ?_ | with_reducible refine And.intro ?_ ?_ | intro _ | split
theorem State.flashKick_memOk (s : State) (hm : s.memOk) : (State.flashKick s).memOk := by unfold State.flashKick; repeat' first | simp only [memOk_mk, ite_memOk, ite_snd_memOk, ite_fst_memOk] | with_reducible assumption | with_reducible apply State.flashBegin_memOk | with_reducible refine foldl_memOk _ _ _ (fun _ _ _ => ?_) ?_ | with_reducible refine And.intro ?_ ?_ | intro _ | split
theorem State.flashAsk_memOk (s : State) (j : FlashJob) (hm : s.memOk) : (State.flashAsk s j).memOk := by unfold State.flashAsk; repeat' first | simp only [memOk_mk, ite_memOk, ite_snd_memOk, ite_fst_memOk] | with_reducible assumption | with_reducible apply State.flashKick_memOk | with_reducible refine foldl_memOk _ _ _ (fun _ _ _ => ?_) ?_ | with_reducible refine And.intro ?_ ?_ | intro _ | split
theorem State.markSwitch_memOk (s : State) (hm : s.memOk) : (State.markSwitch s).memOk := by unfold State.markSwitch; repeat' first | simp only [memOk_mk, ite_memOk, ite_snd_memOk, ite_fst_memOk] | with_reducible assumption | with_reducible apply State.flashAsk_memOk | with_reducible refine foldl_memOk _ _ _ (fun _ _ _ => ?_) ?_ | with_reducible refine And.intro ?_ ?_ | intro _ | split
theorem State.gazEraseNext_memOk (s : State) (hm : s.memOk) : (State.gazEraseNext s).memOk := by unfold State.gazEraseNext; repeat' first | simp only [memOk_mk, ite_memOk, ite_snd_memOk, ite_fst_memOk] | with_reducible assumption | with_reducible apply State.flashAsk_memOk | with_reducible refine foldl_memOk _ _ _ (fun _ _ _ => ?_) ?_ | with_reducible refine And.intro ?_ ?_ | intro _ | split
theorem State.gazTakeNext_memOk (s : State) (hm : s.memOk) : (State.gazTakeNext s).memOk := by unfold State.gazTakeNext; repeat' first | simp only [memOk_mk, ite_memOk, ite_snd_memOk, ite_fst_memOk] | with_reducible assumption | with_reducible apply State.flashAsk_memOk | with_reducible refine foldl_memOk _ _ _ (fun _ _ _ => ?_) ?_ | with_reducible refine And.intro ?_ ?_ | intro _ | split
theorem State.gazTaken_memOk (s : State) (hm : s.memOk) : (State.gazTaken s).memOk := by unfold State.gazTaken; repeat' first | simp only [memOk_mk, ite_memOk, ite_snd_memOk, ite_fst_memOk] | with_reducible assumption | with_reducible apply State.gazEraseNext_memOk | with_reducible apply State.p_memOk | with_reducible refine foldl_memOk _ _ _ (fun _ _ _ => ?_) ?_ | with_reducible refine And.intro ?_ ?_ | intro _ | split

/-! ### Integrity -/

theorem State.integrity_memOk (s : State) (cp vol lba : Nat) (u : List Byte) (v : Verdict) (hm : s.memOk) : (State.integrity s cp vol lba u v).memOk := by unfold State.integrity; repeat' first | simp only [memOk_mk, ite_memOk, ite_snd_memOk, ite_fst_memOk] | with_reducible assumption | with_reducible apply State.bump_memOk | with_reducible apply State.modVol_memOk | with_reducible apply State.raise_memOk | with_reducible apply State.record_memOk | with_reducible refine foldl_memOk _ _ _ (fun _ _ _ => ?_) ?_ | with_reducible refine And.intro ?_ ?_ | intro _ | split
theorem State.unitReject_memOk (s : State) (vol lba : Nat) (hm : s.memOk) : (State.unitReject s vol lba).memOk := by unfold State.unitReject; repeat' first | simp only [memOk_mk, ite_memOk, ite_snd_memOk, ite_fst_memOk] | with_reducible assumption | with_reducible apply State.bump_memOk | with_reducible apply State.modVol_memOk | with_reducible apply State.raise_memOk | with_reducible apply State.record_memOk | with_reducible refine foldl_memOk _ _ _ (fun _ _ _ => ?_) ?_ | with_reducible refine And.intro ?_ ?_ | intro _ | split
theorem State.clearKeys_memOk (s : State) (hm : s.memOk) : (State.clearKeys s).memOk := hm
theorem State.keyLost_memOk (s : State) (code : Nat) (hm : s.memOk) : (State.keyLost s code).memOk := by unfold State.keyLost; repeat' first | simp only [memOk_mk, ite_memOk, ite_snd_memOk, ite_fst_memOk] | with_reducible assumption | with_reducible apply State.bump_memOk | with_reducible apply State.raise_memOk | with_reducible apply State.record_memOk | with_reducible refine foldl_memOk _ _ _ (fun _ _ _ => ?_) ?_ | with_reducible refine And.intro ?_ ?_ | intro _ | split

/-! ### Media -/

theorem State.setMed_memOk (s : State) (f : Med → Med) (hm : s.memOk) : (State.setMed s f).memOk := hm
theorem State.makeUnwritable_memOk (s : State) (vol lba n : Nat) (hm : s.memOk) : (State.makeUnwritable s vol lba n).memOk := by unfold State.makeUnwritable; repeat' first | simp only [memOk_mk, ite_memOk, ite_snd_memOk, ite_fst_memOk] | with_reducible assumption | with_reducible apply State.p_memOk | with_reducible apply State.raise_memOk | with_reducible apply State.setMed_memOk | with_reducible refine foldl_memOk _ _ _ (fun _ _ _ => ?_) ?_ | with_reducible refine And.intro ?_ ?_ | intro _ | split
theorem State.loseBlocks_memOk (s : State) (kind vol lba n : Nat) (hm : s.memOk) : (State.loseBlocks s kind vol lba n).memOk := by unfold State.loseBlocks; repeat' first | simp only [memOk_mk, ite_memOk, ite_snd_memOk, ite_fst_memOk] | with_reducible assumption | with_reducible apply State.modVol_memOk | with_reducible apply State.setMed_memOk | with_reducible refine foldl_memOk _ _ _ (fun _ _ _ => ?_) ?_ | with_reducible refine And.intro ?_ ?_ | intro _ | split

/-! ### Bench -/

theorem State.benchBad_memOk (s : State) (m : Nat) (hm : s.memOk) : (State.benchBad s m).memOk := by unfold State.benchBad; repeat' first | simp only [memOk_mk, ite_memOk, ite_snd_memOk, ite_fst_memOk] | with_reducible assumption | with_reducible apply State.hwSet_memOk | with_reducible apply State.p_memOk | with_reducible apply State.raise_memOk | with_reducible refine foldl_memOk _ _ _ (fun _ _ _ => ?_) ?_ | with_reducible refine And.intro ?_ ?_ | intro _ | split
theorem State.setBench_memOk (s : State) (f : Bench → Bench) (hm : s.memOk) : (State.setBench s f).memOk := hm
theorem State.benchCount_memOk (s : State) (m : Nat) (f : BenchCnt → BenchCnt) (hm : s.memOk) : (State.benchCount s m f).memOk := hm
theorem State.benchFetch_memOk (s : State) (m a : Nat) (w : List Byte) (hm : s.memOk) : (State.benchFetch s m a w).memOk := hm
theorem State.benchGrant_memOk (s : State) (r : BReq) (hm : s.memOk) : (State.benchGrant s r).memOk := by unfold State.benchGrant; repeat' first | simp only [memOk_mk, ite_memOk, ite_snd_memOk, ite_fst_memOk] | with_reducible assumption | with_reducible apply State.benchBad_memOk | with_reducible apply State.benchCount_memOk | with_reducible apply State.benchFetch_memOk | with_reducible apply State.bufWrite_memOk | with_reducible apply State.setBench_memOk | with_reducible refine foldl_memOk _ _ _ (fun _ _ _ => ?_) ?_ | with_reducible refine And.intro ?_ ?_ | intro _ | split
theorem State.benchStall_memOk (s : State) (e : BWait) (hm : s.memOk) : (State.benchStall s e).memOk := by unfold State.benchStall; repeat' first | simp only [memOk_mk, ite_memOk, ite_snd_memOk, ite_fst_memOk] | with_reducible assumption | with_reducible apply State.benchCount_memOk | with_reducible apply State.setBench_memOk | with_reducible refine foldl_memOk _ _ _ (fun _ _ _ => ?_) ?_ | with_reducible refine And.intro ?_ ?_ | intro _ | split
theorem State.benchPipe_memOk (s : State) (hm : s.memOk) : (State.benchPipe s).memOk := by unfold State.benchPipe; repeat' first | simp only [memOk_mk, ite_memOk, ite_snd_memOk, ite_fst_memOk] | with_reducible assumption | with_reducible apply State.emit_memOk | with_reducible apply State.setBench_memOk | with_reducible refine foldl_memOk _ _ _ (fun _ _ _ => ?_) ?_ | with_reducible refine And.intro ?_ ?_ | intro _ | split
theorem State.benchPresent_memOk (s : State) (new : List BReq) (hm : s.memOk) : (State.benchPresent s new).memOk := hm
theorem State.benchCycle_memOk (s : State) (new : List BReq) (hm : s.memOk) : (State.benchCycle s new).memOk := by unfold State.benchCycle; repeat' first | simp only [memOk_mk, ite_memOk, ite_snd_memOk, ite_fst_memOk] | with_reducible assumption | with_reducible apply State.benchGrant_memOk | with_reducible apply State.benchPipe_memOk | with_reducible apply State.benchPresent_memOk | with_reducible apply State.benchStall_memOk | with_reducible apply State.setBench_memOk | with_reducible refine foldl_memOk _ _ _ (fun _ _ _ => ?_) ?_ | with_reducible refine And.intro ?_ ?_ | intro _ | split
theorem State.benchRun_memOk (s : State) (x0 : List (List BReq)) (hm : s.memOk) : (State.benchRun s x0).memOk := by
  induction x0 generalizing s with
  | nil => unfold State.benchRun; repeat' first | simp only [memOk_mk, ite_memOk, ite_snd_memOk, ite_fst_memOk] | with_reducible assumption | with_reducible apply State.benchCycle_memOk | with_reducible apply ih | with_reducible refine foldl_memOk _ _ _ (fun _ _ _ => ?_) ?_ | with_reducible refine And.intro ?_ ?_ | intro _ | split
  | cons _ _ ih => unfold State.benchRun; repeat' first | simp only [memOk_mk, ite_memOk, ite_snd_memOk, ite_fst_memOk] | with_reducible assumption | with_reducible apply State.benchCycle_memOk | with_reducible apply ih | with_reducible refine foldl_memOk _ _ _ (fun _ _ _ => ?_) ?_ | with_reducible refine And.intro ?_ ?_ | intro _ | split
theorem State.benchDrain_memOk (s : State) (x0 : Nat) (hm : s.memOk) : (State.benchDrain s x0).memOk := by
  induction x0 generalizing s with
  | zero => unfold State.benchDrain; repeat' first | simp only [memOk_mk, ite_memOk, ite_snd_memOk, ite_fst_memOk] | with_reducible assumption | with_reducible apply State.benchCycle_memOk | with_reducible apply ih | with_reducible refine foldl_memOk _ _ _ (fun _ _ _ => ?_) ?_ | with_reducible refine And.intro ?_ ?_ | intro _ | split
  | succ _ ih => unfold State.benchDrain; repeat' first | simp only [memOk_mk, ite_memOk, ite_snd_memOk, ite_fst_memOk] | with_reducible assumption | with_reducible apply State.benchCycle_memOk | with_reducible apply ih | with_reducible refine foldl_memOk _ _ _ (fun _ _ _ => ?_) ?_ | with_reducible refine And.intro ?_ ?_ | intro _ | split
theorem State.benchEdge_memOk (s : State) (l : List (List BReq)) (hm : s.memOk) : (State.benchEdge s l).memOk := by unfold State.benchEdge; repeat' first | simp only [memOk_mk, ite_memOk, ite_snd_memOk, ite_fst_memOk] | with_reducible assumption | with_reducible apply State.benchDrain_memOk | with_reducible apply State.benchRun_memOk | with_reducible apply State.setBench_memOk | with_reducible refine foldl_memOk _ _ _ (fun _ _ _ => ?_) ?_ | with_reducible refine And.intro ?_ ?_ | intro _ | split
theorem State.benchPayload_memOk (s : State) (a : Nat) (write : Bool) (body : List Byte) (hm : s.memOk) : (State.benchPayload s a write body).memOk := by unfold State.benchPayload; repeat' first | simp only [memOk_mk, ite_memOk, ite_snd_memOk, ite_fst_memOk] | with_reducible assumption | with_reducible apply State.bufWrite_memOk | with_reducible apply State.fresh_memOk | with_reducible apply State.setBench_memOk | with_reducible refine foldl_memOk _ _ _ (fun _ _ _ => ?_) ?_ | with_reducible refine And.intro ?_ ?_ | intro _ | split

/-! ### Flits -/

theorem State.setPort_memOk (s : State) (p : Nat) (f : Port → Port) (hm : s.memOk) : (State.setPort s p f).memOk := hm
theorem State.flitOut_memOk (s : State) (p seq : Nat) (idle nak abort : Bool) (data : List Byte) (hm : s.memOk) : (State.flitOut s p seq idle nak abort data).memOk := hm
theorem State.flitIdle_memOk (s : State) (p : Nat) (nak : Bool) (hm : s.memOk) : (State.flitIdle s p nak).memOk := hm
theorem State.flitSeq_memOk (s : State) (p : Nat) (abort : Bool) (data : List Byte) (hm : s.memOk) : (State.flitSeq s p abort data).memOk := hm
theorem State.flitPump_memOk (s : State) (p : Nat) (x0 : Nat) (hm : s.memOk) : (State.flitPump s p x0).memOk := by
  induction x0 generalizing s with
  | zero => unfold State.flitPump; repeat' first | simp only [memOk_mk, ite_memOk, ite_snd_memOk, ite_fst_memOk] | with_reducible assumption | with_reducible apply State.flitSeq_memOk | with_reducible apply State.p_memOk | with_reducible apply State.setPort_memOk | with_reducible apply ih | with_reducible refine foldl_memOk _ _ _ (fun _ _ _ => ?_) ?_ | with_reducible refine And.intro ?_ ?_ | intro _ | split
  | succ _ ih => unfold State.flitPump; repeat' first | simp only [memOk_mk, ite_memOk, ite_snd_memOk, ite_fst_memOk] | with_reducible assumption | with_reducible apply State.flitSeq_memOk | with_reducible apply State.p_memOk | with_reducible apply State.setPort_memOk | with_reducible apply ih | with_reducible refine foldl_memOk _ _ _ (fun _ _ _ => ?_) ?_ | with_reducible refine And.intro ?_ ?_ | intro _ | split
theorem State.flitWords_memOk (s : State) (p : Nat) (l : List (List Byte)) (hm : s.memOk) : (State.flitWords s p l).memOk := by unfold State.flitWords; repeat' first | simp only [memOk_mk, ite_memOk, ite_snd_memOk, ite_fst_memOk] | with_reducible assumption | with_reducible apply State.flitPump_memOk | with_reducible apply State.p_memOk | with_reducible apply State.setPort_memOk | with_reducible refine foldl_memOk _ _ _ (fun _ _ _ => ?_) ?_ | with_reducible refine And.intro ?_ ?_ | intro _ | split
theorem State.parcelOut_memOk (s : State) (port : Nat) (p : Parcel) (hm : s.memOk) : (State.parcelOut s port p).memOk := by unfold State.parcelOut; repeat' first | simp only [memOk_mk, ite_memOk, ite_snd_memOk, ite_fst_memOk] | with_reducible assumption | with_reducible apply State.benchPayload_memOk | with_reducible apply State.emit_memOk | with_reducible apply State.flitWords_memOk | with_reducible apply State.p_memOk | with_reducible refine foldl_memOk _ _ _ (fun _ _ _ => ?_) ?_ | with_reducible refine And.intro ?_ ?_ | intro _ | split
theorem State.flitReplay_memOk (s : State) (p : Nat) (hm : s.memOk) : (State.flitReplay s p).memOk := by unfold State.flitReplay; repeat' first | simp only [memOk_mk, ite_memOk, ite_snd_memOk, ite_fst_memOk] | with_reducible assumption | with_reducible apply State.flitOut_memOk | with_reducible apply State.p_memOk | with_reducible refine foldl_memOk _ _ _ (fun _ _ _ => ?_) ?_ | with_reducible refine And.intro ?_ ?_ | intro _ | split
theorem State.owe_memOk (s : State) (p i n : Nat) (hm : s.memOk) : (State.owe s p i n).memOk := hm
theorem State.leaveBuffer_memOk (s : State) (p : Parcel) (hm : s.memOk) : (State.leaveBuffer s p).memOk := by unfold State.leaveBuffer; repeat' first | simp only [memOk_mk, ite_memOk, ite_snd_memOk, ite_fst_memOk] | with_reducible assumption | with_reducible apply State.owe_memOk | with_reducible apply State.p_memOk | with_reducible refine foldl_memOk _ _ _ (fun _ _ _ => ?_) ?_ | with_reducible refine And.intro ?_ ?_ | intro _ | split
theorem State.landPayload_memOk (s : State) (p : Parcel) (hm : s.memOk) : (State.landPayload s p).memOk := by unfold State.landPayload; repeat' first | simp only [memOk_mk, ite_memOk, ite_snd_memOk, ite_fst_memOk] | with_reducible assumption | with_reducible apply State.benchPayload_memOk | with_reducible apply State.p_memOk | with_reducible refine foldl_memOk _ _ _ (fun _ _ _ => ?_) ?_ | with_reducible refine And.intro ?_ ?_ | intro _ | split

/-! ### Parcels -/

theorem State.drainPort_memOk (s : State) (port : Nat) (x0 : Nat) (hm : s.memOk) : (State.drainPort s port x0).memOk := by
  induction x0 generalizing s with
  | zero => unfold State.drainPort; repeat' first | simp only [memOk_mk, ite_memOk, ite_snd_memOk, ite_fst_memOk] | with_reducible assumption | with_reducible apply State.p_memOk | with_reducible apply State.parcelOut_memOk | with_reducible apply State.setPort_memOk | with_reducible apply ih | with_reducible refine foldl_memOk _ _ _ (fun _ _ _ => ?_) ?_ | with_reducible refine And.intro ?_ ?_ | intro _ | split
  | succ _ ih => unfold State.drainPort; repeat' first | simp only [memOk_mk, ite_memOk, ite_snd_memOk, ite_fst_memOk] | with_reducible assumption | with_reducible apply State.p_memOk | with_reducible apply State.parcelOut_memOk | with_reducible apply State.setPort_memOk | with_reducible apply ih | with_reducible refine foldl_memOk _ _ _ (fun _ _ _ => ?_) ?_ | with_reducible refine And.intro ?_ ?_ | intro _ | split
theorem State.putOn_memOk (s : State) (port : Nat) (p : Parcel) (hm : s.memOk) : (State.putOn s port p).memOk := by unfold State.putOn; repeat' first | simp only [memOk_mk, ite_memOk, ite_snd_memOk, ite_fst_memOk] | with_reducible assumption | with_reducible apply State.drainPort_memOk | with_reducible apply State.p_memOk | with_reducible apply State.setPort_memOk | with_reducible refine foldl_memOk _ _ _ (fun _ _ _ => ?_) ?_ | with_reducible refine And.intro ?_ ?_ | intro _ | split
theorem State.linkSend_memOk (s : State) (port kind : Nat) (body : List Byte) (hm : s.memOk) : (State.linkSend s port kind body).memOk := by unfold State.linkSend; repeat' first | simp only [memOk_mk, ite_memOk, ite_snd_memOk, ite_fst_memOk] | with_reducible assumption | with_reducible apply State.putOn_memOk | with_reducible refine foldl_memOk _ _ _ (fun _ _ _ => ?_) ?_ | with_reducible refine And.intro ?_ ?_ | intro _ | split
theorem State.routeOut_memOk (s : State) (p : Parcel) (hm : s.memOk) : (State.routeOut s p).memOk := by unfold State.routeOut; repeat' first | simp only [memOk_mk, ite_memOk, ite_snd_memOk, ite_fst_memOk] | with_reducible assumption | with_reducible apply State.bump_memOk | with_reducible apply State.p_memOk | with_reducible apply State.putOn_memOk | with_reducible refine foldl_memOk _ _ _ (fun _ _ _ => ?_) ?_ | with_reducible refine And.intro ?_ ?_ | intro _ | split
theorem State.send_memOk (s : State) (p : Parcel) (hm : s.memOk) : (State.send s p).memOk := by unfold State.send; repeat' first | simp only [memOk_mk, ite_memOk, ite_snd_memOk, ite_fst_memOk] | with_reducible assumption | with_reducible apply State.p_memOk | with_reducible apply State.putOn_memOk | with_reducible refine foldl_memOk _ _ _ (fun _ _ _ => ?_) ?_ | with_reducible refine And.intro ?_ ?_ | intro _ | split
theorem State.ask_memOk (s : State) (p : Parcel) (hm : s.memOk) : (State.ask s p).memOk := by unfold State.ask; repeat' first | simp only [memOk_mk, ite_memOk, ite_snd_memOk, ite_fst_memOk] | with_reducible assumption | with_reducible apply State.p_memOk | with_reducible apply State.send_memOk | with_reducible refine foldl_memOk _ _ _ (fun _ _ _ => ?_) ?_ | with_reducible refine And.intro ?_ ?_ | intro _ | split
theorem State.answered_memOk (s : State) (f : Parcel → Bool) (hm : s.memOk) : (State.answered s f).memOk := hm
theorem State.dropParcel_memOk (s : State) (hm : s.memOk) : (State.dropParcel s).memOk := by unfold State.dropParcel; repeat' first | simp only [memOk_mk, ite_memOk, ite_snd_memOk, ite_fst_memOk] | with_reducible assumption | with_reducible apply State.bump_memOk | with_reducible apply State.raise_memOk | with_reducible refine foldl_memOk _ _ _ (fun _ _ _ => ?_) ?_ | with_reducible refine And.intro ?_ ?_ | intro _ | split
theorem State.remember_memOk (s : State) (p : Parcel) (hm : s.memOk) : (State.remember s p).memOk := hm
theorem State.nodeKnown_memOk (s : State) (id w h : Nat) (hm : s.memOk) : (State.nodeKnown s id w h).memOk := by unfold State.nodeKnown; repeat' first | simp only [memOk_mk, ite_memOk, ite_snd_memOk, ite_fst_memOk] | with_reducible assumption | with_reducible apply State.p_memOk | with_reducible refine foldl_memOk _ _ _ (fun _ _ _ => ?_) ?_ | with_reducible refine And.intro ?_ ?_ | intro _ | split

/-! ### Pool -/

theorem State.dramCount_memOk (s : State) (ch : Nat) (write : Bool) (n : Nat) (hm : s.memOk) : (State.dramCount s ch write n).memOk := hm
theorem State.dramPut_memOk (s : State) (d : Nat) (l : List Byte) (hm : s.memOk) : (State.dramPut s d l).memOk := hm
theorem State.dramWrite_memOk (s : State) (d : Nat) (b : List Byte) (hm : s.memOk) : (State.dramWrite s d b).memOk := by unfold State.dramWrite; repeat' first | simp only [memOk_mk, ite_memOk, ite_snd_memOk, ite_fst_memOk] | with_reducible assumption | with_reducible apply State.dramCount_memOk | with_reducible apply State.dramPut_memOk | with_reducible refine foldl_memOk _ _ _ (fun _ _ _ => ?_) ?_ | with_reducible refine And.intro ?_ ?_ | intro _ | split
theorem State.dramBlock_memOk (s : State) (d : Nat) (b : List Byte) (hm : s.memOk) : (State.dramBlock s d b).memOk := by unfold State.dramBlock; repeat' first | simp only [memOk_mk, ite_memOk, ite_snd_memOk, ite_fst_memOk] | with_reducible assumption | with_reducible apply State.dramWrite_memOk | with_reducible refine foldl_memOk _ _ _ (fun _ _ _ => ?_) ?_ | with_reducible refine And.intro ?_ ?_ | intro _ | split
theorem State.dramWake_memOk (s : State) (hm : s.memOk) : (State.dramWake s).memOk := by unfold State.dramWake; repeat' first | simp only [memOk_mk, ite_memOk, ite_snd_memOk, ite_fst_memOk] | with_reducible assumption | with_reducible apply State.p_memOk | with_reducible refine foldl_memOk _ _ _ (fun _ _ _ => ?_) ?_ | with_reducible refine And.intro ?_ ?_ | intro _ | split
theorem State.dramStore_memOk (s : State) (k b : Nat) (u : List Byte) (hm : s.memOk) : (State.dramStore s k b u).memOk := by unfold State.dramStore; repeat' first | simp only [memOk_mk, ite_memOk, ite_snd_memOk, ite_fst_memOk] | with_reducible assumption | with_reducible apply State.dramBlock_memOk | with_reducible apply State.dramWrite_memOk | with_reducible refine foldl_memOk _ _ _ (fun _ _ _ => ?_) ?_ | with_reducible refine And.intro ?_ ?_ | intro _ | split
theorem State.dramFetch_memOk (s : State) (k b : Nat) (hm : s.memOk) : (State.dramFetch s k b).memOk := by unfold State.dramFetch; repeat' first | simp only [memOk_mk, ite_memOk, ite_snd_memOk, ite_fst_memOk] | with_reducible assumption | with_reducible apply State.dramCount_memOk | with_reducible refine foldl_memOk _ _ _ (fun _ _ _ => ?_) ?_ | with_reducible refine And.intro ?_ ?_ | intro _ | split
theorem State.modSlab_memOk (s : State) (k : Nat) (f : Slab → Slab) (hm : s.memOk) : (State.modSlab s k f).memOk := by unfold State.modSlab; repeat' first | simp only [memOk_mk, ite_memOk, ite_snd_memOk, ite_fst_memOk] | with_reducible assumption | with_reducible refine foldl_memOk _ _ _ (fun _ _ _ => ?_) ?_ | with_reducible refine And.intro ?_ ?_ | intro _ | split
theorem State.newSlab_memOk (s : State) (k : Nat) (twin : Bool) (vol ext : Nat) (hm : s.memOk) : (State.newSlab s k twin vol ext).memOk := by unfold State.newSlab; repeat' first | simp only [memOk_mk, ite_memOk, ite_snd_memOk, ite_fst_memOk] | with_reducible assumption | with_reducible apply State.modVol_memOk | with_reducible refine foldl_memOk _ _ _ (fun _ _ _ => ?_) ?_ | with_reducible refine And.intro ?_ ?_ | intro _ | split
theorem State.waitSlab_memOk (s : State) (who : Nat) (hm : s.memOk) : (State.waitSlab s who).memOk := by unfold State.waitSlab; repeat' first | simp only [memOk_mk, ite_memOk, ite_snd_memOk, ite_fst_memOk] | with_reducible assumption | with_reducible apply State.raise_memOk | with_reducible refine foldl_memOk _ _ _ (fun _ _ _ => ?_) ?_ | with_reducible refine And.intro ?_ ?_ | intro _ | split
theorem State.dropSlab_memOk (s : State) (k : Nat) (hm : s.memOk) : (State.dropSlab s k).memOk := by unfold State.dropSlab; repeat' first | simp only [memOk_mk, ite_memOk, ite_snd_memOk, ite_fst_memOk] | with_reducible assumption | with_reducible apply State.modVol_memOk | with_reducible refine foldl_memOk _ _ _ (fun _ _ _ => ?_) ?_ | with_reducible refine And.intro ?_ ?_ | intro _ | split

/-! ### Reset -/

theorem State.dipRecord_memOk (s : State) (cut : Bool) (hm : s.memOk) : (State.dipRecord s cut).memOk := by unfold State.dipRecord; repeat' first | simp only [memOk_mk, ite_memOk, ite_snd_memOk, ite_fst_memOk] | with_reducible assumption | with_reducible apply State.record_memOk | with_reducible refine foldl_memOk _ _ _ (fun _ _ _ => ?_) ?_ | with_reducible refine And.intro ?_ ?_ | intro _ | split
theorem State.holdOver_memOk (s : State) (hm : s.memOk) : (State.holdOver s).memOk := hm
theorem State.resetCore_memOk (s : State) (cold : Bool) (hm : s.memOk) : (State.resetCore s cold).memOk := ⟨rfl, hm.2⟩
theorem State.sessionVoid_memOk (s : State) (hm : s.memOk) : (State.sessionVoid s).memOk := by
  unfold State.sessionVoid
  split
  · exact ⟨hm.1, Memory.clear_wf _ _ hm.2⟩
  · exact hm
theorem State.enterReset_memOk (s : State) (cause : Nat) (hm : s.memOk) : (State.enterReset s cause).memOk := by unfold State.enterReset; repeat' first | simp only [memOk_mk, ite_memOk, ite_snd_memOk, ite_fst_memOk] | with_reducible assumption | with_reducible apply State.emit_memOk | with_reducible apply State.gateDropAll_memOk | with_reducible apply State.p_memOk | with_reducible apply State.record_memOk | with_reducible apply State.resetCore_memOk | with_reducible apply State.retractAll_memOk | with_reducible apply State.sessionVoid_memOk | with_reducible apply State.spindleCoast_memOk | with_reducible refine foldl_memOk _ _ _ (fun _ _ _ => ?_) ?_ | with_reducible refine And.intro ?_ ?_ | intro _ | split
theorem State.wake_memOk (s : State) (pins : Nat) (perst : Bool) (hm : s.memOk) : (State.wake s pins perst).memOk := by unfold State.wake; repeat' first | simp only [memOk_mk, ite_memOk, ite_snd_memOk, ite_fst_memOk] | with_reducible assumption | with_reducible apply State.enterReset_memOk | with_reducible apply State.p_memOk | with_reducible refine foldl_memOk _ _ _ (fun _ _ _ => ?_) ?_ | with_reducible refine And.intro ?_ ?_ | intro _ | split
theorem State.journalWrite_memOk (s : State) (cause : Nat) (hm : s.memOk) : ((State.journalWrite s cause).2).memOk := by unfold State.journalWrite; repeat' first | simp only [memOk_mk, ite_memOk, ite_snd_memOk, ite_fst_memOk] | with_reducible assumption | with_reducible apply State.flashAsk_memOk | with_reducible refine foldl_memOk _ _ _ (fun _ _ _ => ?_) ?_ | with_reducible refine And.intro ?_ ?_ | intro _ | split

/-! ### Stats -/

theorem State.sample_memOk (s : State) (src inst : Nat) (v : Int) (ts : Nat) (prev tick : Bool) (hm : s.memOk) : (State.sample s src inst v ts prev tick).memOk := by unfold State.sample; repeat' first | simp only [memOk_mk, ite_memOk, ite_snd_memOk, ite_fst_memOk] | with_reducible assumption | with_reducible refine foldl_memOk _ _ _ (fun _ _ _ => ?_) ?_ | with_reducible refine And.intro ?_ ?_ | intro _ | split
theorem State.occur_memOk (s : State) (src inst : Nat) (v : Nat) (hm : s.memOk) : (State.occur s src inst v).memOk := by unfold State.occur; repeat' first | simp only [memOk_mk, ite_memOk, ite_snd_memOk, ite_fst_memOk] | with_reducible assumption | with_reducible apply State.sample_memOk | with_reducible refine foldl_memOk _ _ _ (fun _ _ _ => ?_) ?_ | with_reducible refine And.intro ?_ ?_ | intro _ | split
theorem State.tickSamples_memOk (s : State) (hm : s.memOk) : (State.tickSamples s).memOk := by unfold State.tickSamples; repeat' first | simp only [memOk_mk, ite_memOk, ite_snd_memOk, ite_fst_memOk] | with_reducible assumption | with_reducible apply State.p_memOk | with_reducible apply State.sample_memOk | with_reducible refine foldl_memOk _ _ _ (fun _ _ _ => ?_) ?_ | with_reducible refine And.intro ?_ ?_ | intro _ | split

/-! ### Clock -/

theorem State.requestClock_memOk (s : State) (econ : Bool) (hm : s.memOk) : (State.requestClock s econ).memOk := by unfold State.requestClock; repeat' first | simp only [memOk_mk, ite_memOk, ite_snd_memOk, ite_fst_memOk] | with_reducible assumption | with_reducible apply State.p_memOk | with_reducible refine foldl_memOk _ _ _ (fun _ _ _ => ?_) ?_ | with_reducible refine And.intro ?_ ?_ | intro _ | split
theorem State.commitReq_memOk (s : State) (hm : s.memOk) : (State.commitReq s).memOk := by unfold State.commitReq; repeat' first | simp only [memOk_mk, ite_memOk, ite_snd_memOk, ite_fst_memOk] | with_reducible assumption | with_reducible refine foldl_memOk _ _ _ (fun _ _ _ => ?_) ?_ | with_reducible refine And.intro ?_ ?_ | intro _ | split
theorem State.clockFault_memOk (s : State) (event : Nat) (hm : s.memOk) : (State.clockFault s event).memOk := by unfold State.clockFault; repeat' first | simp only [memOk_mk, ite_memOk, ite_snd_memOk, ite_fst_memOk] | with_reducible assumption | with_reducible apply State.eparkAll_memOk | with_reducible apply State.gateDropAll_memOk | with_reducible apply State.p_memOk | with_reducible apply State.raise_memOk | with_reducible apply State.spindleCoast_memOk | with_reducible refine foldl_memOk _ _ _ (fun _ _ _ => ?_) ?_ | with_reducible refine And.intro ?_ ?_ | intro _ | split
theorem State.evtMaskWrite_memOk (s : State) (r v : Nat) (hm : s.memOk) : (State.evtMaskWrite s r v).memOk := by unfold State.evtMaskWrite; repeat' first | simp only [memOk_mk, ite_memOk, ite_snd_memOk, ite_fst_memOk] | with_reducible assumption | with_reducible apply State.evtMsg_memOk | with_reducible apply State.pki_memOk | with_reducible refine foldl_memOk _ _ _ (fun _ _ _ => ?_) ?_ | with_reducible refine And.intro ?_ ?_ | intro _ | split
theorem State.evtPop_memOk (s : State) (hm : s.memOk) : (State.evtPop s).memOk := hm
theorem State.evtReceive_memOk (s : State) (payload : List Byte) (hm : s.memOk) : (State.evtReceive s payload).memOk := by unfold State.evtReceive; repeat' first | simp only [memOk_mk, ite_memOk, ite_snd_memOk, ite_fst_memOk] | with_reducible assumption | with_reducible apply State.bump_memOk | with_reducible apply State.p_memOk | with_reducible apply State.raise_memOk | with_reducible refine foldl_memOk _ _ _ (fun _ _ _ => ?_) ?_ | with_reducible refine And.intro ?_ ?_ | intro _ | split

/-! ### Supply -/

theorem State.filterDie_memOk (s : State) (x : List Int) (hm : s.memOk) : (State.filterDie s x).memOk := hm
theorem State.deadlineFlush_memOk (s : State) (hm : s.memOk) : (State.deadlineFlush s).memOk := by unfold State.deadlineFlush; repeat' first | simp only [memOk_mk, ite_memOk, ite_snd_memOk, ite_fst_memOk] | with_reducible assumption | with_reducible refine foldl_memOk _ _ _ (fun _ _ _ => ?_) ?_ | with_reducible refine And.intro ?_ ?_ | intro _ | split
theorem State.holdStart_memOk (s : State) (hm : s.memOk) : (State.holdStart s).memOk := hm
theorem State.causeOn_memOk (s : State) (i : Nat) (hm : s.memOk) : (State.causeOn s i).memOk := by unfold State.causeOn; repeat' first | simp only [memOk_mk, ite_memOk, ite_snd_memOk, ite_fst_memOk] | with_reducible assumption | with_reducible apply State.p_memOk | with_reducible refine foldl_memOk _ _ _ (fun _ _ _ => ?_) ?_ | with_reducible refine And.intro ?_ ?_ | intro _ | split
theorem State.holdCross_memOk (s : State) (i : Nat) (hm : s.memOk) : (State.holdCross s i).memOk := by unfold State.holdCross; repeat' first | simp only [memOk_mk, ite_memOk, ite_snd_memOk, ite_fst_memOk] | with_reducible assumption | with_reducible apply State.abandonSlices_memOk | with_reducible apply State.causeOn_memOk | with_reducible apply State.gateDropAll_memOk | with_reducible apply State.holdStart_memOk | with_reducible apply State.raise_memOk | with_reducible refine foldl_memOk _ _ _ (fun _ _ _ => ?_) ?_ | with_reducible refine And.intro ?_ ?_ | intro _ | split
theorem State.loadDown_memOk (s : State) (l : List Nat) (hm : s.memOk) : (State.loadDown s l).memOk := by unfold State.loadDown; repeat' first | simp only [memOk_mk, ite_memOk, ite_snd_memOk, ite_fst_memOk] | with_reducible assumption | with_reducible apply State.loadAct_memOk | with_reducible refine foldl_memOk _ _ _ (fun _ _ _ => ?_) ?_ | with_reducible refine And.intro ?_ ?_ | intro _ | split
theorem State.holdEnd_memOk (s : State) (hm : s.memOk) : (State.holdEnd s).memOk := by unfold State.holdEnd; repeat' first | simp only [memOk_mk, ite_memOk, ite_snd_memOk, ite_fst_memOk] | with_reducible assumption | with_reducible apply State.deadlineFlush_memOk | with_reducible apply State.dipRecord_memOk | with_reducible apply State.holdOver_memOk | with_reducible apply State.loadDown_memOk | with_reducible apply State.raise_memOk | with_reducible apply State.reissue_memOk | with_reducible apply State.spindleStart_memOk | with_reducible refine foldl_memOk _ _ _ (fun _ _ _ => ?_) ?_ | with_reducible refine And.intro ?_ ?_ | intro _ | split
theorem State.deadlineStop_memOk (s : State) (hm : s.memOk) : (State.deadlineStop s).memOk := by unfold State.deadlineStop; repeat' first | simp only [memOk_mk, ite_memOk, ite_snd_memOk, ite_fst_memOk] | with_reducible assumption | with_reducible apply State.deadlineFlush_memOk | with_reducible refine foldl_memOk _ _ _ (fun _ _ _ => ?_) ?_ | with_reducible refine And.intro ?_ ?_ | intro _ | split
theorem State.holdDown_memOk (s : State) (hm : s.memOk) : (State.holdDown s).memOk := hm
theorem State.flashLoss_memOk (s : State) (hm : s.memOk) : (State.flashLoss s).memOk := by unfold State.flashLoss; repeat' first | simp only [memOk_mk, ite_memOk, ite_snd_memOk, ite_fst_memOk] | with_reducible assumption | with_reducible apply State.flashKick_memOk | with_reducible refine foldl_memOk _ _ _ (fun _ _ _ => ?_) ?_ | with_reducible refine And.intro ?_ ?_ | intro _ | split
theorem State.powerLoss_memOk (s : State) (cause : Nat) (hm : s.memOk) : (State.powerLoss s cause).memOk := by unfold State.powerLoss; repeat' first | simp only [memOk_mk, ite_memOk, ite_snd_memOk, ite_fst_memOk] | with_reducible assumption | with_reducible apply State.deadlineFlush_memOk | with_reducible apply State.dipRecord_memOk | with_reducible apply State.flashLoss_memOk | with_reducible apply State.gateDropAll_memOk | with_reducible apply State.holdOver_memOk | with_reducible apply State.journalWrite_memOk | with_reducible apply State.raise_memOk | with_reducible apply State.retractAll_memOk | with_reducible refine foldl_memOk _ _ _ (fun _ _ _ => ?_) ?_ | with_reducible refine And.intro ?_ ?_ | intro _ | split
theorem State.standbyStart_memOk (s : State) (hm : s.memOk) : (State.standbyStart s).memOk := by unfold State.standbyStart; repeat' first | simp only [memOk_mk, ite_memOk, ite_snd_memOk, ite_fst_memOk] | with_reducible assumption | with_reducible apply State.unloadAll_memOk | with_reducible refine foldl_memOk _ _ _ (fun _ _ _ => ?_) ?_ | with_reducible refine And.intro ?_ ?_ | intro _ | split
theorem State.orderPower_memOk (s : State) (t : Nat) (hm : s.memOk) : ((State.orderPower s t).2).memOk := by unfold State.orderPower; repeat' first | simp only [memOk_mk, ite_memOk, ite_snd_memOk, ite_fst_memOk] | with_reducible assumption | with_reducible apply State.p_memOk | with_reducible apply State.raise_memOk | with_reducible apply State.standbyStart_memOk | with_reducible refine foldl_memOk _ _ _ (fun _ _ _ => ?_) ?_ | with_reducible refine And.intro ?_ ?_ | intro _ | split
theorem State.powerState_memOk (s : State) (c : Nat) (hm : s.memOk) : (State.powerState s c).memOk := by unfold State.powerState; repeat' first | simp only [memOk_mk, ite_memOk, ite_snd_memOk, ite_fst_memOk] | with_reducible assumption | with_reducible apply State.p_memOk | with_reducible apply State.raise_memOk | with_reducible apply State.requestClock_memOk | with_reducible refine foldl_memOk _ _ _ (fun _ _ _ => ?_) ?_ | with_reducible refine And.intro ?_ ?_ | intro _ | split
theorem State.vigilEnter_memOk (s : State) (hm : s.memOk) : (State.vigilEnter s).memOk := by unfold State.vigilEnter; repeat' first | simp only [memOk_mk, ite_memOk, ite_snd_memOk, ite_fst_memOk] | with_reducible assumption | with_reducible apply State.clearKeys_memOk | with_reducible apply State.p_memOk | with_reducible apply State.wake_memOk | with_reducible refine foldl_memOk _ _ _ (fun _ _ _ => ?_) ?_ | with_reducible refine And.intro ?_ ?_ | intro _ | split
theorem State.vigilBegin_memOk (s : State) (hm : s.memOk) : (State.vigilBegin s).memOk := hm

/-! ### Pieces -/

theorem State.modPiece_memOk (s : State) (id : Nat) (f : OPiece → OPiece) (hm : s.memOk) : (State.modPiece s id f).memOk := by unfold State.modPiece; repeat' first | simp only [memOk_mk, ite_memOk, ite_snd_memOk, ite_fst_memOk] | with_reducible assumption | with_reducible apply State.p_memOk | with_reducible refine foldl_memOk _ _ _ (fun _ _ _ => ?_) ?_ | with_reducible refine And.intro ?_ ?_ | intro _ | split
theorem State.newPiece_memOk (s : State) (p : OPiece) (hm : s.memOk) : ((State.newPiece s p).2).memOk := hm
theorem State.dropPiece_memOk (s : State) (id : Nat) (hm : s.memOk) : (State.dropPiece s id).memOk := hm
theorem State.twinSend_memOk (s : State) (kind vol lba modes : Nat) (body : List Byte) (hm : s.memOk) : (State.twinSend s kind vol lba modes body).memOk := by unfold State.twinSend; repeat' first | simp only [memOk_mk, ite_memOk, ite_snd_memOk, ite_fst_memOk] | with_reducible assumption | with_reducible apply State.ask_memOk | with_reducible refine foldl_memOk _ _ _ (fun _ _ _ => ?_) ?_ | with_reducible refine And.intro ?_ ?_ | intro _ | split
theorem State.twinBlock_memOk (s : State) (kind vol lba modes : Nat) (u : Unit4k) (hm : s.memOk) : (State.twinBlock s kind vol lba modes u).memOk := by unfold State.twinBlock; repeat' first | simp only [memOk_mk, ite_memOk, ite_snd_memOk, ite_fst_memOk] | with_reducible assumption | with_reducible apply State.twinSend_memOk | with_reducible refine foldl_memOk _ _ _ (fun _ _ _ => ?_) ?_ | with_reducible refine And.intro ?_ ?_ | intro _ | split
theorem State.dirtyPut_memOk (s : State) (vol ext : Nat) (lack : Bool) (hm : s.memOk) : (State.dirtyPut s vol ext lack).memOk := by unfold State.dirtyPut; repeat' first | simp only [memOk_mk, ite_memOk, ite_snd_memOk, ite_fst_memOk] | with_reducible assumption | with_reducible apply State.p_memOk | with_reducible apply State.raise_memOk | with_reducible refine foldl_memOk _ _ _ (fun _ _ _ => ?_) ?_ | with_reducible refine And.intro ?_ ?_ | intro _ | split
theorem State.indexPiece_memOk (s : State) (p : OPiece) (hm : s.memOk) : (State.indexPiece s p).memOk := hm
theorem State.endWrite_memOk (s : State) (slot status : Nat) (hm : s.memOk) : (State.endWrite s slot status).memOk := by unfold State.endWrite; repeat' first | simp only [memOk_mk, ite_memOk, ite_snd_memOk, ite_fst_memOk] | with_reducible assumption | with_reducible apply State.complete_memOk | with_reducible apply State.modVol_memOk | with_reducible refine foldl_memOk _ _ _ (fun _ _ _ => ?_) ?_ | with_reducible refine And.intro ?_ ?_ | intro _ | split
theorem State.spanCheck_memOk (s : State) (slot : Nat) (hm : s.memOk) : (State.spanCheck s slot).memOk := by unfold State.spanCheck; repeat' first | simp only [memOk_mk, ite_memOk, ite_snd_memOk, ite_fst_memOk] | with_reducible assumption | with_reducible apply State.complete_memOk | with_reducible apply State.endWrite_memOk | with_reducible apply State.p_memOk | with_reducible refine foldl_memOk _ _ _ (fun _ _ _ => ?_) ?_ | with_reducible refine And.intro ?_ ?_ | intro _ | split
theorem State.trimSlot_memOk (s : State) (slot : Nat) (hm : s.memOk) : (State.trimSlot s slot).memOk := hm
theorem State.slotPiece_memOk (s : State) (slot lba status : Nat) (hm : s.memOk) : (State.slotPiece s slot lba status).memOk := by unfold State.slotPiece; repeat' first | simp only [memOk_mk, ite_memOk, ite_snd_memOk, ite_fst_memOk] | with_reducible assumption | with_reducible apply State.endWrite_memOk | with_reducible apply State.p_memOk | with_reducible apply State.setCmd_memOk | with_reducible apply State.spanCheck_memOk | with_reducible apply State.trimSlot_memOk | with_reducible refine foldl_memOk _ _ _ (fun _ _ _ => ?_) ?_ | with_reducible refine And.intro ?_ ?_ | intro _ | split
theorem State.pieceReport_memOk (s : State) (p : OPiece) (status : Nat) (hm : s.memOk) : (State.pieceReport s p status).memOk := by unfold State.pieceReport; repeat' first | simp only [memOk_mk, ite_memOk, ite_snd_memOk, ite_fst_memOk] | with_reducible assumption | with_reducible apply State.occur_memOk | with_reducible apply State.p_memOk | with_reducible apply State.send_memOk | with_reducible apply State.slotPiece_memOk | with_reducible refine foldl_memOk _ _ _ (fun _ _ _ => ?_) ?_ | with_reducible refine And.intro ?_ ?_ | intro _ | split
theorem State.pieceGone_memOk (s : State) (id : Nat) (hm : s.memOk) : (State.pieceGone s id).memOk := by unfold State.pieceGone; repeat' first | simp only [memOk_mk, ite_memOk, ite_snd_memOk, ite_fst_memOk] | with_reducible assumption | with_reducible apply State.dropPiece_memOk | with_reducible apply State.p_memOk | with_reducible refine foldl_memOk _ _ _ (fun _ _ _ => ?_) ?_ | with_reducible refine And.intro ?_ ?_ | intro _ | split
theorem State.pieceFinish_memOk (s : State) (id status : Nat) (hm : s.memOk) : (State.pieceFinish s id status).memOk := by unfold State.pieceFinish; repeat' first | simp only [memOk_mk, ite_memOk, ite_snd_memOk, ite_fst_memOk] | with_reducible assumption | with_reducible apply State.indexPiece_memOk | with_reducible apply State.modPiece_memOk | with_reducible apply State.p_memOk | with_reducible apply State.pieceGone_memOk | with_reducible apply State.pieceReport_memOk | with_reducible apply State.unlock_memOk | with_reducible refine foldl_memOk _ _ _ (fun _ _ _ => ?_) ?_ | with_reducible refine And.intro ?_ ?_ | intro _ | split
theorem State.unrefresh_memOk (s : State) (vol lba : Nat) (hm : s.memOk) : (State.unrefresh s vol lba).memOk := hm
theorem State.addJob_memOk (s : State) (loc : Nat) (j : WJob) (hm : s.memOk) : (State.addJob s loc j).memOk := hm
theorem State.queueJobs_memOk (s : State) (pe vol lba n why edge : Nat) (hm : s.memOk) : (State.queueJobs s pe vol lba n why edge).memOk := by unfold State.queueJobs; repeat' first | simp only [memOk_mk, ite_memOk, ite_snd_memOk, ite_fst_memOk] | with_reducible assumption | with_reducible apply State.addJob_memOk | with_reducible apply State.unrefresh_memOk | with_reducible refine foldl_memOk _ _ _ (fun _ _ _ => ?_) ?_ | with_reducible refine And.intro ?_ ?_ | intro _ | split
theorem State.strandPiece_memOk (s : State) (id : Nat) (p : OPiece) (hm : s.memOk) : (State.strandPiece s id p).memOk := by unfold State.strandPiece; repeat' first | simp only [memOk_mk, ite_memOk, ite_snd_memOk, ite_fst_memOk] | with_reducible assumption | with_reducible apply State.dropPiece_memOk | with_reducible apply State.dropSlab_memOk | with_reducible apply State.modSlab_memOk | with_reducible apply State.p_memOk | with_reducible apply State.pieceFinish_memOk | with_reducible refine foldl_memOk _ _ _ (fun _ _ _ => ?_) ?_ | with_reducible refine And.intro ?_ ?_ | intro _ | split
theorem State.toMedia_memOk (s : State) (id : Nat) (hm : s.memOk) : (State.toMedia s id).memOk := by unfold State.toMedia; repeat' first | simp only [memOk_mk, ite_memOk, ite_snd_memOk, ite_fst_memOk] | with_reducible assumption | with_reducible apply State.modPiece_memOk | with_reducible apply State.p_memOk | with_reducible apply State.pieceFinish_memOk | with_reducible apply State.queueJobs_memOk | with_reducible apply State.setMed_memOk | with_reducible apply State.strandPiece_memOk | with_reducible refine foldl_memOk _ _ _ (fun _ _ _ => ?_) ?_ | with_reducible refine And.intro ?_ ?_ | intro _ | split
theorem State.pieceCheck_memOk (s : State) (id : Nat) (hm : s.memOk) : (State.pieceCheck s id).memOk := by unfold State.pieceCheck; repeat' first | simp only [memOk_mk, ite_memOk, ite_snd_memOk, ite_fst_memOk] | with_reducible assumption | with_reducible apply State.modPiece_memOk | with_reducible apply State.p_memOk | with_reducible apply State.pieceFinish_memOk | with_reducible apply State.toMedia_memOk | with_reducible refine foldl_memOk _ _ _ (fun _ _ _ => ?_) ?_ | with_reducible refine And.intro ?_ ?_ | intro _ | split
theorem State.pieceSweep_memOk (s : State) (hm : s.memOk) : (State.pieceSweep s).memOk := by unfold State.pieceSweep; repeat' first | simp only [memOk_mk, ite_memOk, ite_snd_memOk, ite_fst_memOk] | with_reducible assumption | with_reducible apply State.pieceCheck_memOk | with_reducible refine foldl_memOk _ _ _ (fun _ _ _ => ?_) ?_ | with_reducible refine And.intro ?_ ?_ | intro _ | split
theorem State.commit_memOk (s : State) (id k : Nat) (hm : s.memOk) : (State.commit s id k).memOk := by unfold State.commit; repeat' first | simp only [memOk_mk, ite_memOk, ite_snd_memOk, ite_fst_memOk] | with_reducible assumption | with_reducible apply State.dirtyPut_memOk | with_reducible apply State.dramStore_memOk | with_reducible apply State.modCmd_memOk | with_reducible apply State.modPiece_memOk | with_reducible apply State.modSlab_memOk | with_reducible apply State.p_memOk | with_reducible apply State.pieceCheck_memOk | with_reducible apply State.twinBlock_memOk | with_reducible refine foldl_memOk _ _ _ (fun _ _ _ => ?_) ?_ | with_reducible refine And.intro ?_ ?_ | intro _ | split
theorem State.cutPiece_memOk (s : State) (id n : Nat) (hm : s.memOk) : (State.cutPiece s id n).memOk := by unfold State.cutPiece; repeat' first | simp only [memOk_mk, ite_memOk, ite_snd_memOk, ite_fst_memOk] | with_reducible assumption | with_reducible apply State.dropPiece_memOk | with_reducible apply State.modPiece_memOk | with_reducible apply State.p_memOk | with_reducible apply State.pieceCheck_memOk | with_reducible refine foldl_memOk _ _ _ (fun _ _ _ => ?_) ?_ | with_reducible refine And.intro ?_ ?_ | intro _ | split
theorem State.cutSlot_memOk (s : State) (slot : Nat) (staged : Bool) (hm : s.memOk) : (State.cutSlot s slot staged).memOk := by unfold State.cutSlot; repeat' first | simp only [memOk_mk, ite_memOk, ite_snd_memOk, ite_fst_memOk] | with_reducible assumption | with_reducible apply State.cutPiece_memOk | with_reducible refine foldl_memOk _ _ _ (fun _ _ _ => ?_) ?_ | with_reducible refine And.intro ?_ ?_ | intro _ | split
theorem State.discardSlot_memOk (s : State) (slot : Nat) (hm : s.memOk) : (State.discardSlot s slot).memOk := by unfold State.discardSlot; repeat' first | simp only [memOk_mk, ite_memOk, ite_snd_memOk, ite_fst_memOk] | with_reducible assumption | with_reducible apply State.dropPiece_memOk | with_reducible apply State.dropSlab_memOk | with_reducible apply State.modSlab_memOk | with_reducible apply State.p_memOk | with_reducible refine foldl_memOk _ _ _ (fun _ _ _ => ?_) ?_ | with_reducible refine And.intro ?_ ?_ | intro _ | split
theorem State.twinLanded_memOk (s : State) (x : Slab) (hm : s.memOk) : (State.twinLanded s x).memOk := by unfold State.twinLanded; repeat' first | simp only [memOk_mk, ite_memOk, ite_snd_memOk, ite_fst_memOk] | with_reducible assumption | with_reducible apply State.dirtyPut_memOk | with_reducible apply State.twinSend_memOk | with_reducible refine foldl_memOk _ _ _ (fun _ _ _ => ?_) ?_ | with_reducible refine And.intro ?_ ?_ | intro _ | split
theorem State.extentCheck_memOk (s : State) (vol ext : Nat) (hm : s.memOk) : (State.extentCheck s vol ext).memOk := by unfold State.extentCheck; repeat' first | simp only [memOk_mk, ite_memOk, ite_snd_memOk, ite_fst_memOk] | with_reducible assumption | with_reducible apply State.dropSlab_memOk | with_reducible apply State.twinLanded_memOk | with_reducible refine foldl_memOk _ _ _ (fun _ _ _ => ?_) ?_ | with_reducible refine And.intro ?_ ?_ | intro _ | split
theorem State.pieceLand_memOk (s : State) (id : Nat) (hm : s.memOk) : (State.pieceLand s id).memOk := by unfold State.pieceLand; repeat' first | simp only [memOk_mk, ite_memOk, ite_snd_memOk, ite_fst_memOk] | with_reducible assumption | with_reducible apply State.extentCheck_memOk | with_reducible apply State.modPiece_memOk | with_reducible apply State.p_memOk | with_reducible apply State.pieceFinish_memOk | with_reducible apply State.pieceGone_memOk | with_reducible refine foldl_memOk _ _ _ (fun _ _ _ => ?_) ?_ | with_reducible refine And.intro ?_ ?_ | intro _ | split
theorem State.noteLost_memOk (s : State) (vol lba n : Nat) (hm : s.memOk) : (State.noteLost s vol lba n).memOk := hm

/-! ### Reads -/

theorem State.toHost_memOk (s : State) (c : Cmd) (o : Nat) (b : List Byte) (hm : s.memOk) : (State.toHost s c o b).memOk := by unfold State.toHost; repeat' first | simp only [memOk_mk, ite_memOk, ite_snd_memOk, ite_fst_memOk] | with_reducible assumption | with_reducible apply State.emit_memOk | with_reducible refine foldl_memOk _ _ _ (fun _ _ _ => ?_) ?_ | with_reducible refine And.intro ?_ ?_ | intro _ | split
theorem State.chainEvent_memOk (s : State) (e : ChainEnd) (hm : s.memOk) : (State.chainEvent s e).memOk := by unfold State.chainEvent; repeat' first | simp only [memOk_mk, ite_memOk, ite_snd_memOk, ite_fst_memOk] | with_reducible assumption | with_reducible apply State.raise_memOk | with_reducible refine foldl_memOk _ _ _ (fun _ _ _ => ?_) ?_ | with_reducible refine And.intro ?_ ?_ | intro _ | split
theorem State.endReader_memOk (s : State) (r : Nat) (hm : s.memOk) : (State.endReader s r).memOk := hm
theorem State.readCheck_memOk (s : State) (slot : Nat) (hm : s.memOk) : (State.readCheck s slot).memOk := by unfold State.readCheck; repeat' first | simp only [memOk_mk, ite_memOk, ite_snd_memOk, ite_fst_memOk] | with_reducible assumption | with_reducible apply State.complete_memOk | with_reducible apply State.modVol_memOk | with_reducible refine foldl_memOk _ _ _ (fun _ _ _ => ?_) ?_ | with_reducible refine And.intro ?_ ?_ | intro _ | split
theorem State.failBlock_memOk (s : State) (slot lba status : Nat) (e : ErrInfo) (hm : s.memOk) : (State.failBlock s slot lba status e).memOk := by unfold State.failBlock; repeat' first | simp only [memOk_mk, ite_memOk, ite_snd_memOk, ite_fst_memOk] | with_reducible assumption | with_reducible apply State.readCheck_memOk | with_reducible apply State.setCmd_memOk | with_reducible refine foldl_memOk _ _ _ (fun _ _ _ => ?_) ?_ | with_reducible refine And.intro ?_ ?_ | intro _ | split
theorem State.spanBlock_memOk (s : State) (slot lba status : Nat) (hm : s.memOk) : (State.spanBlock s slot lba status).memOk := by unfold State.spanBlock; repeat' first | simp only [memOk_mk, ite_memOk, ite_snd_memOk, ite_fst_memOk] | with_reducible assumption | with_reducible apply State.p_memOk | with_reducible apply State.setCmd_memOk | with_reducible apply State.spanCheck_memOk | with_reducible refine foldl_memOk _ _ _ (fun _ _ _ => ?_) ?_ | with_reducible refine And.intro ?_ ?_ | intro _ | split
theorem State.deliver_memOk (s : State) (slot lba : Nat) (u : Unit4k) (plain : Bool) (hm : s.memOk) : (State.deliver s slot lba u plain).memOk := by unfold State.deliver; repeat' first | simp only [memOk_mk, ite_memOk, ite_snd_memOk, ite_fst_memOk] | with_reducible assumption | with_reducible apply State.chainEvent_memOk | with_reducible apply State.failBlock_memOk | with_reducible apply State.integrity_memOk | with_reducible apply State.modCmd_memOk | with_reducible apply State.modVol_memOk | with_reducible apply State.readCheck_memOk | with_reducible apply State.spanBlock_memOk | with_reducible apply State.toHost_memOk | with_reducible refine foldl_memOk _ _ _ (fun _ _ _ => ?_) ?_ | with_reducible refine And.intro ?_ ?_ | intro _ | split
theorem State.supply_memOk (s : State) (r lba : Nat) (u : Unit4k) (plain : Bool) (hm : s.memOk) : (State.supply s r lba u plain).memOk := by unfold State.supply; repeat' first | simp only [memOk_mk, ite_memOk, ite_snd_memOk, ite_fst_memOk] | with_reducible assumption | with_reducible apply State.deliver_memOk | with_reducible apply State.dropPiece_memOk | with_reducible apply State.modPiece_memOk | with_reducible apply State.p_memOk | with_reducible apply State.send_memOk | with_reducible refine foldl_memOk _ _ _ (fun _ _ _ => ?_) ?_ | with_reducible refine And.intro ?_ ?_ | intro _ | split
theorem State.failReader_memOk (s : State) (r lba status : Nat) (e : ErrInfo) (hm : s.memOk) : (State.failReader s r lba status e).memOk := by unfold State.failReader; repeat' first | simp only [memOk_mk, ite_memOk, ite_snd_memOk, ite_fst_memOk] | with_reducible assumption | with_reducible apply State.dropPiece_memOk | with_reducible apply State.endReader_memOk | with_reducible apply State.failBlock_memOk | with_reducible apply State.modCmd_memOk | with_reducible apply State.p_memOk | with_reducible apply State.pieceReport_memOk | with_reducible apply State.slotPiece_memOk | with_reducible refine foldl_memOk _ _ _ (fun _ _ _ => ?_) ?_ | with_reducible refine And.intro ?_ ?_ | intro _ | split
theorem State.serve_memOk (s : State) (r vol lba : Nat) (strict : Bool) (hm : s.memOk) : (State.serve s r vol lba strict).memOk := by unfold State.serve; repeat' first | simp only [memOk_mk, ite_memOk, ite_snd_memOk, ite_fst_memOk] | with_reducible assumption | with_reducible apply State.failReader_memOk | with_reducible apply State.setMed_memOk | with_reducible apply State.supply_memOk | with_reducible refine foldl_memOk _ _ _ (fun _ _ _ => ?_) ?_ | with_reducible refine And.intro ?_ ?_ | intro _ | split
theorem State.serveAll_memOk (s : State) (r vol lba n : Nat) (strict : Bool) (hm : s.memOk) : (State.serveAll s r vol lba n strict).memOk := by unfold State.serveAll; repeat' first | simp only [memOk_mk, ite_memOk, ite_snd_memOk, ite_fst_memOk] | with_reducible assumption | with_reducible apply State.serve_memOk | with_reducible refine foldl_memOk _ _ _ (fun _ _ _ => ?_) ?_ | with_reducible refine And.intro ?_ ?_ | intro _ | split
theorem State.readGranted_memOk (s : State) (slot : Nat) (hm : s.memOk) : (State.readGranted s slot).memOk := by unfold State.readGranted; repeat' first | simp only [memOk_mk, ite_memOk, ite_snd_memOk, ite_fst_memOk] | with_reducible assumption | with_reducible apply State.complete_memOk | with_reducible apply State.serveAll_memOk | with_reducible apply State.setCmd_memOk | with_reducible refine foldl_memOk _ _ _ (fun _ _ _ => ?_) ?_ | with_reducible refine And.intro ?_ ?_ | intro _ | split
theorem State.pieceReadGranted_memOk (s : State) (id : Nat) (hm : s.memOk) : (State.pieceReadGranted s id).memOk := by unfold State.pieceReadGranted; repeat' first | simp only [memOk_mk, ite_memOk, ite_snd_memOk, ite_fst_memOk] | with_reducible assumption | with_reducible apply State.failReader_memOk | with_reducible apply State.modPiece_memOk | with_reducible apply State.p_memOk | with_reducible apply State.serveAll_memOk | with_reducible refine foldl_memOk _ _ _ (fun _ _ _ => ?_) ?_ | with_reducible refine And.intro ?_ ?_ | intro _ | split
theorem State.strictGo_memOk (s : State) (hm : s.memOk) : (State.strictGo s).memOk := by unfold State.strictGo; repeat' first | simp only [memOk_mk, ite_memOk, ite_snd_memOk, ite_fst_memOk] | with_reducible assumption | with_reducible apply State.pieceReadGranted_memOk | with_reducible apply State.readGranted_memOk | with_reducible refine foldl_memOk _ _ _ (fun _ _ _ => ?_) ?_ | with_reducible refine And.intro ?_ ?_ | intro _ | split
theorem State.failReads_memOk (s : State) (f : Nat → Bool) (status : Nat) (hm : s.memOk) : (State.failReads s f status).memOk := by unfold State.failReads; repeat' first | simp only [memOk_mk, ite_memOk, ite_snd_memOk, ite_fst_memOk] | with_reducible assumption | with_reducible apply State.failReader_memOk | with_reducible apply State.setMed_memOk | with_reducible refine foldl_memOk _ _ _ (fun _ _ _ => ?_) ?_ | with_reducible refine And.intro ?_ ?_ | intro _ | split
theorem State.failWrites_memOk (s : State) (f : Nat → Bool) (status : Nat) (hm : s.memOk) : (State.failWrites s f status).memOk := by unfold State.failWrites; repeat' first | simp only [memOk_mk, ite_memOk, ite_snd_memOk, ite_fst_memOk] | with_reducible assumption | with_reducible apply State.pieceFinish_memOk | with_reducible refine foldl_memOk _ _ _ (fun _ _ _ => ?_) ?_ | with_reducible refine And.intro ?_ ?_ | intro _ | split
theorem State.failMediaOps_memOk (s : State) (hm : s.memOk) : (State.failMediaOps s).memOk := by unfold State.failMediaOps; repeat' first | simp only [memOk_mk, ite_memOk, ite_snd_memOk, ite_fst_memOk] | with_reducible assumption | with_reducible apply State.failReads_memOk | with_reducible apply State.failWrites_memOk | with_reducible refine foldl_memOk _ _ _ (fun _ _ _ => ?_) ?_ | with_reducible refine And.intro ?_ ?_ | intro _ | split
theorem State.failMediaAt_memOk (s : State) (k track status : Nat) (hm : s.memOk) : (State.failMediaAt s k track status).memOk := by unfold State.failMediaAt; repeat' first | simp only [memOk_mk, ite_memOk, ite_snd_memOk, ite_fst_memOk] | with_reducible assumption | with_reducible apply State.failReads_memOk | with_reducible apply State.failWrites_memOk | with_reducible refine foldl_memOk _ _ _ (fun _ _ _ => ?_) ?_ | with_reducible refine And.intro ?_ ?_ | intro _ | split
theorem State.unplace_memOk (s : State) (pe : Nat) (e : Ent) (hm : s.memOk) : (State.unplace s pe e).memOk := by unfold State.unplace; repeat' first | simp only [memOk_mk, ite_memOk, ite_snd_memOk, ite_fst_memOk] | with_reducible assumption | with_reducible apply State.p_memOk | with_reducible apply State.setMed_memOk | with_reducible apply State.toMedia_memOk | with_reducible refine foldl_memOk _ _ _ (fun _ _ _ => ?_) ?_ | with_reducible refine And.intro ?_ ?_ | intro _ | split
theorem State.withdraw_memOk (s : State) (k : Nat) (hm : s.memOk) : (State.withdraw s k).memOk := by unfold State.withdraw; repeat' first | simp only [memOk_mk, ite_memOk, ite_snd_memOk, ite_fst_memOk] | with_reducible assumption | with_reducible apply State.failReads_memOk | with_reducible apply State.p_memOk | with_reducible apply State.strandPiece_memOk | with_reducible apply State.unplace_memOk | with_reducible refine foldl_memOk _ _ _ (fun _ _ _ => ?_) ?_ | with_reducible refine And.intro ?_ ?_ | intro _ | split
theorem State.outOfService_memOk (s : State) (k : Nat) (hm : s.memOk) : (State.outOfService s k).memOk := by unfold State.outOfService; repeat' first | simp only [memOk_mk, ite_memOk, ite_snd_memOk, ite_fst_memOk] | with_reducible assumption | with_reducible apply State.epark_memOk | with_reducible apply State.raise_memOk | with_reducible apply State.withdraw_memOk | with_reducible refine foldl_memOk _ _ _ (fun _ _ _ => ?_) ?_ | with_reducible refine And.intro ?_ ?_ | intro _ | split
theorem State.forgetAsks_memOk (s : State) (slot : Nat) (hm : s.memOk) : (State.forgetAsks s slot).memOk := hm
theorem State.discardCmd_memOk (s : State) (slot : Nat) (hm : s.memOk) : (State.discardCmd s slot).memOk := by unfold State.discardCmd; repeat' first | simp only [memOk_mk, ite_memOk, ite_snd_memOk, ite_fst_memOk] | with_reducible assumption | with_reducible apply State.discardSlot_memOk | with_reducible apply State.endReader_memOk | with_reducible apply State.forgetAsks_memOk | with_reducible apply State.setCmd_memOk | with_reducible apply State.unlock_memOk | with_reducible refine foldl_memOk _ _ _ (fun _ _ _ => ?_) ?_ | with_reducible refine And.intro ?_ ?_ | intro _ | split
theorem State.clearFn_memOk (s : State) (fn : Nat) (hm : s.memOk) : (State.clearFn s fn).memOk := by unfold State.clearFn; repeat' first | simp only [memOk_mk, ite_memOk, ite_snd_memOk, ite_fst_memOk] | with_reducible assumption | with_reducible apply State.discardCmd_memOk | with_reducible apply State.pk_memOk | with_reducible refine foldl_memOk _ _ _ (fun _ _ _ => ?_) ?_ | with_reducible refine And.intro ?_ ?_ | intro _ | split
theorem State.perstQueues_memOk (s : State) (hm : s.memOk) : (State.perstQueues s).memOk := by unfold State.perstQueues; repeat' first | simp only [memOk_mk, ite_memOk, ite_snd_memOk, ite_fst_memOk] | with_reducible assumption | with_reducible apply State.clearFn_memOk | with_reducible apply State.pk_memOk | with_reducible refine foldl_memOk _ _ _ (fun _ _ _ => ?_) ?_ | with_reducible refine And.intro ?_ ?_ | intro _ | split

/-! ### Startup -/

theorem State.stageBegin_memOk (s : State) (b : Nat) (hm : s.memOk) : (State.stageBegin s b).memOk := hm
theorem State.faultMode_memOk (s : State) (fcode : Nat) (hm : s.memOk) : (State.faultMode s fcode).memOk := by unfold State.faultMode; repeat' first | simp only [memOk_mk, ite_memOk, ite_snd_memOk, ite_fst_memOk] | with_reducible assumption | with_reducible apply State.p_memOk | with_reducible apply State.raise_memOk | with_reducible refine foldl_memOk _ _ _ (fun _ _ _ => ?_) ?_ | with_reducible refine And.intro ?_ ?_ | intro _ | split
theorem State.mediaFail_memOk (s : State) (fcode : Nat) (hm : s.memOk) : (State.mediaFail s fcode).memOk := by unfold State.mediaFail; repeat' first | simp only [memOk_mk, ite_memOk, ite_snd_memOk, ite_fst_memOk] | with_reducible assumption | with_reducible apply State.p_memOk | with_reducible apply State.raise_memOk | with_reducible refine foldl_memOk _ _ _ (fun _ _ _ => ?_) ?_ | with_reducible refine And.intro ?_ ?_ | intro _ | split
theorem State.headsStageEnd_memOk (s : State) (hm : s.memOk) : (State.headsStageEnd s).memOk := by unfold State.headsStageEnd; repeat' first | simp only [memOk_mk, ite_memOk, ite_snd_memOk, ite_fst_memOk] | with_reducible assumption | with_reducible apply State.mediaFail_memOk | with_reducible apply State.p_memOk | with_reducible apply State.spindleBrake_memOk | with_reducible apply State.stageEndAt_memOk | with_reducible refine foldl_memOk _ _ _ (fun _ _ _ => ?_) ?_ | with_reducible refine And.intro ?_ ?_ | intro _ | split
theorem State.headsGo_memOk (s : State) (hm : s.memOk) : (State.headsGo s).memOk := by unfold State.headsGo; repeat' first | simp only [memOk_mk, ite_memOk, ite_snd_memOk, ite_fst_memOk] | with_reducible assumption | with_reducible apply State.headsStageEnd_memOk | with_reducible apply State.loadAll_memOk | with_reducible apply State.outOfService_memOk | with_reducible apply State.p_memOk | with_reducible apply State.stageBegin_memOk | with_reducible refine foldl_memOk _ _ _ (fun _ _ _ => ?_) ?_ | with_reducible refine And.intro ?_ ?_ | intro _ | split
theorem State.spindleStageEnd_memOk (s : State) (hm : s.memOk) : (State.spindleStageEnd s).memOk := by unfold State.spindleStageEnd; repeat' first | simp only [memOk_mk, ite_memOk, ite_snd_memOk, ite_fst_memOk] | with_reducible assumption | with_reducible apply State.headsGo_memOk | with_reducible apply State.stageEndAt_memOk | with_reducible refine foldl_memOk _ _ _ (fun _ _ _ => ?_) ?_ | with_reducible refine And.intro ?_ ?_ | intro _ | split
theorem State.reclaimGo_memOk (s : State) (hm : s.memOk) : (State.reclaimGo s).memOk := by unfold State.reclaimGo; repeat' first | simp only [memOk_mk, ite_memOk, ite_snd_memOk, ite_fst_memOk] | with_reducible assumption | with_reducible apply State.p_memOk | with_reducible refine foldl_memOk _ _ _ (fun _ _ _ => ?_) ?_ | with_reducible refine And.intro ?_ ?_ | intro _ | split
theorem State.spindleFail_memOk (s : State) (hm : s.memOk) : (State.spindleFail s).memOk := by unfold State.spindleFail; repeat' first | simp only [memOk_mk, ite_memOk, ite_snd_memOk, ite_fst_memOk] | with_reducible assumption | with_reducible apply State.enterSpn_memOk | with_reducible apply State.failMediaOps_memOk | with_reducible apply State.mediaFail_memOk | with_reducible refine foldl_memOk _ _ _ (fun _ _ _ => ?_) ?_ | with_reducible refine And.intro ?_ ?_ | intro _ | split
theorem State.result_memOk (s : State) (source test mask outcome fcode block detail dur n1 n2 : Nat) (hm : s.memOk) : (State.result s source test mask outcome fcode block detail dur n1 n2).memOk := hm
theorem State.bistRecord_memOk (s : State) (fcode block detail : Nat) (hm : s.memOk) : (State.bistRecord s fcode block detail).memOk := by unfold State.bistRecord; repeat' first | simp only [memOk_mk, ite_memOk, ite_snd_memOk, ite_fst_memOk] | with_reducible assumption | with_reducible apply State.record_memOk | with_reducible refine foldl_memOk _ _ _ (fun _ _ _ => ?_) ?_ | with_reducible refine And.intro ?_ ?_ | intro _ | split

/-! ### Sq -/

theorem State.adminEnable_memOk (s : State) (fn : Nat) (hm : s.memOk) : (State.adminEnable s fn).memOk := by unfold State.adminEnable; repeat' first | simp only [memOk_mk, ite_memOk, ite_snd_memOk, ite_fst_memOk] | with_reducible assumption | with_reducible apply State.pk_memOk | with_reducible refine foldl_memOk _ _ _ (fun _ _ _ => ?_) ?_ | with_reducible refine And.intro ?_ ?_ | intro _ | split
theorem State.fnReset_memOk (s : State) (fn : Nat) (hm : s.memOk) : (State.fnReset s fn).memOk := by unfold State.fnReset; repeat' first | simp only [memOk_mk, ite_memOk, ite_snd_memOk, ite_fst_memOk] | with_reducible assumption | with_reducible apply State.clearFn_memOk | with_reducible apply State.raise_memOk | with_reducible refine foldl_memOk _ _ _ (fun _ _ _ => ?_) ?_ | with_reducible refine And.intro ?_ ?_ | intro _ | split
theorem State.dbError_memOk (s : State) (fn q kind : Nat) (hm : s.memOk) : (State.dbError s fn q kind).memOk := by unfold State.dbError; repeat' first | simp only [memOk_mk, ite_memOk, ite_snd_memOk, ite_fst_memOk] | with_reducible assumption | with_reducible apply State.bumpk_memOk | with_reducible apply State.hwSet_memOk | with_reducible apply State.pk_memOk | with_reducible apply State.raise_memOk | with_reducible refine foldl_memOk _ _ _ (fun _ _ _ => ?_) ?_ | with_reducible refine And.intro ?_ ?_ | intro _ | split
theorem State.tailWrite_memOk (s : State) (fn q t : Nat) (hm : s.memOk) : (State.tailWrite s fn q t).memOk := by unfold State.tailWrite; repeat' first | simp only [memOk_mk, ite_memOk, ite_snd_memOk, ite_fst_memOk] | with_reducible assumption | with_reducible apply State.dbError_memOk | with_reducible apply State.setSq_memOk | with_reducible refine foldl_memOk _ _ _ (fun _ _ _ => ?_) ?_ | with_reducible refine And.intro ?_ ?_ | intro _ | split
theorem State.headWrite_memOk (s : State) (fn q h : Nat) (hm : s.memOk) : (State.headWrite s fn q h).memOk := by unfold State.headWrite; repeat' first | simp only [memOk_mk, ite_memOk, ite_snd_memOk, ite_fst_memOk] | with_reducible assumption | with_reducible apply State.dbError_memOk | with_reducible apply State.setCq_memOk | with_reducible refine foldl_memOk _ _ _ (fun _ _ _ => ?_) ?_ | with_reducible refine And.intro ?_ ?_ | intro _ | split
theorem State.pushWrite_memOk (s : State) (fn q : Nat) (b : List Byte) (aligned : Bool) (hm : s.memOk) : (State.pushWrite s fn q b aligned).memOk := by unfold State.pushWrite; repeat' first | simp only [memOk_mk, ite_memOk, ite_snd_memOk, ite_fst_memOk] | with_reducible assumption | with_reducible apply State.dbError_memOk | with_reducible apply State.setSq_memOk | with_reducible refine foldl_memOk _ _ _ (fun _ _ _ => ?_) ?_ | with_reducible refine And.intro ?_ ?_ | intro _ | split
theorem State.leaveStandby_memOk (s : State) (hm : s.memOk) : (State.leaveStandby s).memOk := by unfold State.leaveStandby; repeat' first | simp only [memOk_mk, ite_memOk, ite_snd_memOk, ite_fst_memOk] | with_reducible assumption | with_reducible apply State.cancelTransition_memOk | with_reducible apply State.loadAll_memOk | with_reducible apply State.spindleStart_memOk | with_reducible refine foldl_memOk _ _ _ (fun _ _ _ => ?_) ?_ | with_reducible refine And.intro ?_ ?_ | intro _ | split
theorem State.mediaArrives_memOk (s : State) (hm : s.memOk) : (State.mediaArrives s).memOk := by unfold State.mediaArrives; repeat' first | simp only [memOk_mk, ite_memOk, ite_snd_memOk, ite_fst_memOk] | with_reducible assumption | with_reducible apply State.dramWake_memOk | with_reducible apply State.leaveStandby_memOk | with_reducible refine foldl_memOk _ _ _ (fun _ _ _ => ?_) ?_ | with_reducible refine And.intro ?_ ?_ | intro _ | split
theorem State.mediaDispatch_memOk (s : State) (hm : s.memOk) : (State.mediaDispatch s).memOk := by unfold State.mediaDispatch; repeat' first | simp only [memOk_mk, ite_memOk, ite_snd_memOk, ite_fst_memOk] | with_reducible assumption | with_reducible apply State.powerState_memOk | with_reducible refine foldl_memOk _ _ _ (fun _ _ _ => ?_) ?_ | with_reducible refine And.intro ?_ ?_ | intro _ | split
theorem State.takeEntry_memOk (s : State) (fn q slot : Nat) (x : Sq) (b : List Byte) (pushed : Bool) (hm : s.memOk) : (State.takeEntry s fn q slot x b pushed).memOk := by unfold State.takeEntry; repeat' first | simp only [memOk_mk, ite_memOk, ite_snd_memOk, ite_fst_memOk] | with_reducible assumption | with_reducible apply State.deadlineFlush_memOk | with_reducible apply State.mediaArrives_memOk | with_reducible apply State.setCmd_memOk | with_reducible apply State.setSq_memOk | with_reducible refine foldl_memOk _ _ _ (fun _ _ _ => ?_) ?_ | with_reducible refine And.intro ?_ ?_ | intro _ | split
theorem State.entryError_memOk (s : State) (fn q : Nat) (x : Sq) (aer : Bool) (hm : s.memOk) : (State.entryError s fn q x aer).memOk := by unfold State.entryError; repeat' first | simp only [memOk_mk, ite_memOk, ite_snd_memOk, ite_fst_memOk] | with_reducible assumption | with_reducible apply State.cqWait_memOk | with_reducible apply State.raise_memOk | with_reducible apply State.result_memOk | with_reducible apply State.sqError_memOk | with_reducible refine foldl_memOk _ _ _ (fun _ _ _ => ?_) ?_ | with_reducible refine And.intro ?_ ?_ | intro _ | split
theorem State.aborterDone_memOk (s : State) (l : List Nat) (hm : s.memOk) : (State.aborterDone s l).memOk := by unfold State.aborterDone; repeat' first | simp only [memOk_mk, ite_memOk, ite_snd_memOk, ite_fst_memOk] | with_reducible assumption | with_reducible apply State.complete_memOk | with_reducible refine foldl_memOk _ _ _ (fun _ _ _ => ?_) ?_ | with_reducible refine And.intro ?_ ?_ | intro _ | split
theorem State.latencySample_memOk (s : State) (c : Option Cmd) (hm : s.memOk) : (State.latencySample s c).memOk := by unfold State.latencySample; repeat' first | simp only [memOk_mk, ite_memOk, ite_snd_memOk, ite_fst_memOk] | with_reducible assumption | with_reducible apply State.occur_memOk | with_reducible refine foldl_memOk _ _ _ (fun _ _ _ => ?_) ?_ | with_reducible refine And.intro ?_ ?_ | intro _ | split
theorem State.unmask_memOk (s : State) (fn vec : Nat) (hm : s.memOk) : (State.unmask s fn vec).memOk := by unfold State.unmask; repeat' first | simp only [memOk_mk, ite_memOk, ite_snd_memOk, ite_fst_memOk] | with_reducible assumption | with_reducible apply State.sendMsix_memOk | with_reducible refine foldl_memOk _ _ _ (fun _ _ _ => ?_) ?_ | with_reducible refine And.intro ?_ ?_ | intro _ | split
theorem State.unmaskFn_memOk (s : State) (fn : Nat) (hm : s.memOk) : (State.unmaskFn s fn).memOk := by unfold State.unmaskFn; repeat' first | simp only [memOk_mk, ite_memOk, ite_snd_memOk, ite_fst_memOk] | with_reducible assumption | with_reducible apply State.unmask_memOk | with_reducible refine foldl_memOk _ _ _ (fun _ _ _ => ?_) ?_ | with_reducible refine And.intro ?_ ?_ | intro _ | split

/-! ### Entry -/

theorem State.badPtr_memOk (s : State) (slot idx : Nat) (hm : s.memOk) : (State.badPtr s slot idx).memOk := by unfold State.badPtr; repeat' first | simp only [memOk_mk, ite_memOk, ite_snd_memOk, ite_fst_memOk] | with_reducible assumption | with_reducible apply State.complete_memOk | with_reducible apply State.modCmd_memOk | with_reducible refine foldl_memOk _ _ _ (fun _ _ _ => ?_) ?_ | with_reducible refine And.intro ?_ ?_ | intro _ | split
theorem State.hostReadError_memOk (s : State) (slot : Nat) (aer : Bool) (hm : s.memOk) : (State.hostReadError s slot aer).memOk := by unfold State.hostReadError; repeat' first | simp only [memOk_mk, ite_memOk, ite_snd_memOk, ite_fst_memOk] | with_reducible assumption | with_reducible apply State.complete_memOk | with_reducible apply State.raise_memOk | with_reducible refine foldl_memOk _ _ _ (fun _ _ _ => ?_) ?_ | with_reducible refine And.intro ?_ ?_ | intro _ | split
theorem State.chainFail_memOk (s : State) (slot : Nat) (x0 : ChainEnd) (hm : s.memOk) : (State.chainFail s slot x0).memOk := by unfold State.chainFail; repeat' first | simp only [memOk_mk, ite_memOk, ite_snd_memOk, ite_fst_memOk] | with_reducible assumption | with_reducible apply State.badPtr_memOk | with_reducible apply State.hostReadError_memOk | with_reducible refine foldl_memOk _ _ _ (fun _ _ _ => ?_) ?_ | with_reducible refine And.intro ?_ ?_ | intro _ | split
theorem State.withSegs_memOk (s : State) (slot : Nat) (c : Cmd) (d : DescIn) (ok : Nat → Bool) (f : List (Nat × Nat) → State → State) (h_f : ∀ (y0 : List (Nat × Nat)) (y1 : State), y1.memOk → (f y0 y1).memOk) (hm : s.memOk) : (State.withSegs s slot c d ok f).memOk := by unfold State.withSegs; repeat' first | simp only [memOk_mk, ite_memOk, ite_snd_memOk, ite_fst_memOk] | with_reducible assumption | with_reducible apply State.badPtr_memOk | with_reducible apply State.chainFail_memOk | with_reducible apply State.hostReadError_memOk | with_reducible apply h_f | with_reducible refine foldl_memOk _ _ _ (fun _ _ _ => ?_) ?_ | with_reducible refine And.intro ?_ ?_ | intro _ | split
theorem State.admin_memOk (s : State) (slot opc : Nat) (sel : Cmd → Bool) (used : List (Nat × Nat)) (checks : Cmd → List (Bool × Nat)) (f : Cmd → State → State) (h_f : ∀ (y0 : Cmd) (y1 : State), y1.memOk → (f y0 y1).memOk) (hm : s.memOk) : (State.admin s slot opc sel used checks f).memOk := by unfold State.admin; repeat' first | simp only [memOk_mk, ite_memOk, ite_snd_memOk, ite_fst_memOk] | with_reducible assumption | with_reducible apply State.complete_memOk | with_reducible apply State.setCmd_memOk | with_reducible apply h_f | with_reducible refine foldl_memOk _ _ _ (fun _ _ _ => ?_) ?_ | with_reducible refine And.intro ?_ ?_ | intro _ | split
theorem State.adminPlain_memOk (s : State) (slot opc : Nat) (sel : Cmd → Bool) (used : List (Nat × Nat)) (checks : Cmd → List (Bool × Nat)) (f : Cmd → State → State) (h_f : ∀ (y0 : Cmd) (y1 : State), y1.memOk → (f y0 y1).memOk) (hm : s.memOk) : (State.adminPlain s slot opc sel used checks f).memOk := by unfold State.adminPlain; repeat' first | simp only [memOk_mk, ite_memOk, ite_snd_memOk, ite_fst_memOk] | with_reducible assumption | with_reducible apply State.admin_memOk | with_reducible apply h_f | with_reducible refine foldl_memOk _ _ _ (fun _ _ _ => ?_) ?_ | with_reducible refine And.intro ?_ ?_ | intro _ | split

/-! ### Remap -/

theorem State.noSpare_memOk (s : State) (vol lba head : Nat) (hm : s.memOk) : (State.noSpare s vol lba head).memOk := by unfold State.noSpare; repeat' first | simp only [memOk_mk, ite_memOk, ite_snd_memOk, ite_fst_memOk] | with_reducible assumption | with_reducible apply State.loseBlocks_memOk | with_reducible apply State.makeUnwritable_memOk | with_reducible apply State.modSlab_memOk | with_reducible apply State.noteLost_memOk | with_reducible apply State.pieceFinish_memOk | with_reducible apply State.raise_memOk | with_reducible apply State.record_memOk | with_reducible refine foldl_memOk _ _ _ (fun _ _ _ => ?_) ?_ | with_reducible refine And.intro ?_ ?_ | intro _ | split
theorem State.remapFail_memOk (s : State) (key : Nat) (hm : s.memOk) : (State.remapFail s key).memOk := by unfold State.remapFail; repeat' first | simp only [memOk_mk, ite_memOk, ite_snd_memOk, ite_fst_memOk] | with_reducible assumption | with_reducible apply State.noSpare_memOk | with_reducible apply State.raise_memOk | with_reducible apply State.unlock_memOk | with_reducible refine foldl_memOk _ _ _ (fun _ _ _ => ?_) ?_ | with_reducible refine And.intro ?_ ?_ | intro _ | split
theorem State.remapNext_memOk (s : State) (key : Nat) (hm : s.memOk) : (State.remapNext s key).memOk := by unfold State.remapNext; repeat' first | simp only [memOk_mk, ite_memOk, ite_snd_memOk, ite_fst_memOk] | with_reducible assumption | with_reducible apply State.ask_memOk | with_reducible apply State.remapFail_memOk | with_reducible refine foldl_memOk _ _ _ (fun _ _ _ => ?_) ?_ | with_reducible refine And.intro ?_ ?_ | intro _ | split
theorem State.startRemap_memOk (s : State) (vol lba : Nat) (hm : s.memOk) : (State.startRemap s vol lba).memOk := by unfold State.startRemap; repeat' first | simp only [memOk_mk, ite_memOk, ite_snd_memOk, ite_fst_memOk] | with_reducible assumption | with_reducible apply State.present_memOk | with_reducible apply State.remapFail_memOk | with_reducible apply State.unlock_memOk | with_reducible refine foldl_memOk _ _ _ (fun _ _ _ => ?_) ?_ | with_reducible refine And.intro ?_ ?_ | intro _ | split

/-! ### Io -/

theorem State.rwStart_memOk (s : State) (slot : Nat) (c : Cmd) (excl : Bool) (segs : List (Nat × Nat)) (hm : s.memOk) : (State.rwStart s slot c excl segs).memOk := by unfold State.rwStart; repeat' first | simp only [memOk_mk, ite_memOk, ite_snd_memOk, ite_fst_memOk] | with_reducible assumption | with_reducible apply State.present_memOk | with_reducible apply State.setCmd_memOk | with_reducible refine foldl_memOk _ _ _ (fun _ _ _ => ?_) ?_ | with_reducible refine And.intro ?_ ?_ | intro _ | split
theorem State.rw_memOk (s : State) (slot opc : Nat) (d : DescIn) (hm : s.memOk) : (State.rw s slot opc d).memOk := by unfold State.rw; repeat' first | simp only [memOk_mk, ite_memOk, ite_snd_memOk, ite_fst_memOk] | with_reducible assumption | with_reducible apply State.badPtr_memOk | with_reducible apply State.complete_memOk | with_reducible apply State.rwStart_memOk | with_reducible apply State.withSegs_memOk | with_reducible refine foldl_memOk _ _ _ (fun _ _ _ => ?_) ?_ | with_reducible refine And.intro ?_ ?_ | intro _ | split
theorem State.writeGranted_memOk (s : State) (slot : Nat) (hm : s.memOk) : (State.writeGranted s slot).memOk := by unfold State.writeGranted; repeat' first | simp only [memOk_mk, ite_memOk, ite_snd_memOk, ite_fst_memOk] | with_reducible assumption | with_reducible apply State.complete_memOk | with_reducible apply State.newPiece_memOk | with_reducible apply State.setCmd_memOk | with_reducible refine foldl_memOk _ _ _ (fun _ _ _ => ?_) ?_ | with_reducible refine And.intro ?_ ?_ | intro _ | split
theorem State.pieceFail_memOk (s : State) (id status : Nat) (hm : s.memOk) : (State.pieceFail s id status).memOk := by unfold State.pieceFail; repeat' first | simp only [memOk_mk, ite_memOk, ite_snd_memOk, ite_fst_memOk] | with_reducible assumption | with_reducible apply State.dropPiece_memOk | with_reducible apply State.pieceFinish_memOk | with_reducible refine foldl_memOk _ _ _ (fun _ _ _ => ?_) ?_ | with_reducible refine And.intro ?_ ?_ | intro _ | split
theorem State.pieceGranted_memOk (s : State) (id : Nat) (hm : s.memOk) : (State.pieceGranted s id).memOk := by unfold State.pieceGranted; repeat' first | simp only [memOk_mk, ite_memOk, ite_snd_memOk, ite_fst_memOk] | with_reducible assumption | with_reducible apply State.modPiece_memOk | with_reducible apply State.p_memOk | with_reducible apply State.pieceFail_memOk | with_reducible apply State.pieceReadGranted_memOk | with_reducible refine foldl_memOk _ _ _ (fun _ _ _ => ?_) ?_ | with_reducible refine And.intro ?_ ?_ | intro _ | split
theorem State.refreshGranted_memOk (s : State) (l : Lock) (hm : s.memOk) : (State.refreshGranted s l).memOk := by unfold State.refreshGranted; repeat' first | simp only [memOk_mk, ite_memOk, ite_snd_memOk, ite_fst_memOk] | with_reducible assumption | with_reducible apply State.addJob_memOk | with_reducible apply State.unlock_memOk | with_reducible refine foldl_memOk _ _ _ (fun _ _ _ => ?_) ?_ | with_reducible refine And.intro ?_ ?_ | intro _ | split
theorem State.resyncLess_memOk (s : State) (vol ext blk : Nat) (hm : s.memOk) : (State.resyncLess s vol ext blk).memOk := by unfold State.resyncLess; repeat' first | simp only [memOk_mk, ite_memOk, ite_snd_memOk, ite_fst_memOk] | with_reducible assumption | with_reducible refine foldl_memOk _ _ _ (fun _ _ _ => ?_) ?_ | with_reducible refine And.intro ?_ ?_ | intro _ | split
theorem State.resyncGranted_memOk (s : State) (l : Lock) (hm : s.memOk) : (State.resyncGranted s l).memOk := by unfold State.resyncGranted; repeat' first | simp only [memOk_mk, ite_memOk, ite_snd_memOk, ite_fst_memOk] | with_reducible assumption | with_reducible apply State.resyncLess_memOk | with_reducible apply State.twinBlock_memOk | with_reducible apply State.unlock_memOk | with_reducible refine foldl_memOk _ _ _ (fun _ _ _ => ?_) ?_ | with_reducible refine And.intro ?_ ?_ | intro _ | split
theorem State.granted_memOk (s : State) (l : Lock) (hm : s.memOk) : (State.granted s l).memOk := by unfold State.granted; repeat' first | simp only [memOk_mk, ite_memOk, ite_snd_memOk, ite_fst_memOk] | with_reducible assumption | with_reducible apply State.pieceGranted_memOk | with_reducible apply State.readGranted_memOk | with_reducible apply State.refreshGranted_memOk | with_reducible apply State.remapNext_memOk | with_reducible apply State.resyncGranted_memOk | with_reducible apply State.writeGranted_memOk | with_reducible refine foldl_memOk _ _ _ (fun _ _ _ => ?_) ?_ | with_reducible refine And.intro ?_ ?_ | intro _ | split
theorem State.headWord_memOk (s : State) (l : Lock) (hm : s.memOk) : (State.headWord s l).memOk := by unfold State.headWord; repeat' first | simp only [memOk_mk, ite_memOk, ite_snd_memOk, ite_fst_memOk] | with_reducible assumption | with_reducible apply State.setCmd_memOk | with_reducible apply State.toHost_memOk | with_reducible refine foldl_memOk _ _ _ (fun _ _ _ => ?_) ?_ | with_reducible refine And.intro ?_ ?_ | intro _ | split
theorem State.stage_memOk (s : State) (slot lba : Nat) (u : Unit4k) (hm : s.memOk) : (State.stage s slot lba u).memOk := by unfold State.stage; repeat' first | simp only [memOk_mk, ite_memOk, ite_snd_memOk, ite_fst_memOk] | with_reducible assumption | with_reducible apply State.modCmd_memOk | with_reducible apply State.modPiece_memOk | with_reducible apply State.p_memOk | with_reducible refine foldl_memOk _ _ _ (fun _ _ _ => ?_) ?_ | with_reducible refine And.intro ?_ ?_ | intro _ | split
theorem State.ingest_memOk (s : State) (slot : Nat) (c : Cmd) (v : Nat) (b : List Byte) (hm : s.memOk) : (State.ingest s slot c v b).memOk := by unfold State.ingest; repeat' first | simp only [memOk_mk, ite_memOk, ite_snd_memOk, ite_fst_memOk] | with_reducible assumption | with_reducible apply State.cutSlot_memOk | with_reducible apply State.endWrite_memOk | with_reducible apply State.integrity_memOk | with_reducible apply State.result_memOk | with_reducible apply State.setCmd_memOk | with_reducible apply State.stage_memOk | with_reducible refine foldl_memOk _ _ _ (fun _ _ _ => ?_) ?_ | with_reducible refine And.intro ?_ ?_ | intro _ | split
theorem State.sendAccept_memOk (s : State) (id : Nat) (hm : s.memOk) : (State.sendAccept s id).memOk := by unfold State.sendAccept; repeat' first | simp only [memOk_mk, ite_memOk, ite_snd_memOk, ite_fst_memOk] | with_reducible assumption | with_reducible apply State.modPiece_memOk | with_reducible apply State.p_memOk | with_reducible apply State.send_memOk | with_reducible refine foldl_memOk _ _ _ (fun _ _ _ => ?_) ?_ | with_reducible refine And.intro ?_ ?_ | intro _ | split
theorem State.peerAdd_memOk (s : State) (key : Nat) (hm : s.memOk) : (State.peerAdd s key).memOk := by
  unfold State.peerAdd; split <;> exact hm
theorem State.reclaimStore_memOk (s : State) (k : Nat) (p : Parcel) (hm : s.memOk) : (State.reclaimStore s k p).memOk := by unfold State.reclaimStore; repeat' first | simp only [memOk_mk, ite_memOk, ite_snd_memOk, ite_fst_memOk] | with_reducible assumption | with_reducible apply State.peerAdd_memOk | with_reducible apply State.dramStore_memOk | with_reducible apply State.fresh_memOk | with_reducible apply State.modSlab_memOk | with_reducible apply State.newPiece_memOk | with_reducible apply State.p_memOk | with_reducible apply State.toMedia_memOk | with_reducible refine foldl_memOk _ _ _ (fun _ _ _ => ?_) ?_ | with_reducible refine And.intro ?_ ?_ | intro _ | split
theorem State.storeCopy_memOk (s : State) (k : Nat) (p : Parcel) (hm : s.memOk) : (State.storeCopy s k p).memOk := by unfold State.storeCopy; repeat' first | simp only [memOk_mk, ite_memOk, ite_snd_memOk, ite_fst_memOk] | with_reducible assumption | with_reducible apply State.dramStore_memOk | with_reducible apply State.modSlab_memOk | with_reducible apply State.p_memOk | with_reducible apply State.reclaimStore_memOk | with_reducible apply State.send_memOk | with_reducible refine foldl_memOk _ _ _ (fun _ _ _ => ?_) ?_ | with_reducible refine And.intro ?_ ?_ | intro _ | split
theorem State.endIo_memOk (s : State) (slot status : Nat) (hm : s.memOk) : (State.endIo s slot status).memOk := by unfold State.endIo; repeat' first | simp only [memOk_mk, ite_memOk, ite_snd_memOk, ite_fst_memOk] | with_reducible assumption | with_reducible apply State.complete_memOk | with_reducible apply State.cutSlot_memOk | with_reducible apply State.endWrite_memOk | with_reducible refine foldl_memOk _ _ _ (fun _ _ _ => ?_) ?_ | with_reducible refine And.intro ?_ ?_ | intro _ | split
theorem State.keyFail_memOk (s : State) (slot : Nat) (hm : s.memOk) : (State.keyFail s slot).memOk := by unfold State.keyFail; repeat' first | simp only [memOk_mk, ite_memOk, ite_snd_memOk, ite_fst_memOk] | with_reducible assumption | with_reducible apply State.complete_memOk | with_reducible apply State.cutSlot_memOk | with_reducible apply State.endWrite_memOk | with_reducible apply State.setCmd_memOk | with_reducible refine foldl_memOk _ _ _ (fun _ _ _ => ?_) ?_ | with_reducible refine And.intro ?_ ?_ | intro _ | split

/-! ### AdmQueue -/

theorem State.abortTarget_memOk (s : State) (i : Nat) (t : Cmd) (hm : s.memOk) : (State.abortTarget s i t).memOk := by unfold State.abortTarget; repeat' first | simp only [memOk_mk, ite_memOk, ite_snd_memOk, ite_fst_memOk] | with_reducible assumption | with_reducible apply State.complete_memOk | with_reducible apply State.discardSlot_memOk | with_reducible apply State.endWrite_memOk | with_reducible apply State.p_memOk | with_reducible apply State.sessionVoid_memOk | with_reducible refine foldl_memOk _ _ _ (fun _ _ _ => ?_) ?_ | with_reducible refine And.intro ?_ ?_ | intro _ | split
theorem State.thaw_memOk (s : State) (fn q action : Nat) (hm : s.memOk) : ((State.thaw s fn q action).2).memOk := by unfold State.thaw; repeat' first | simp only [memOk_mk, ite_memOk, ite_snd_memOk, ite_fst_memOk] | with_reducible assumption | with_reducible apply State.raise_memOk | with_reducible apply State.setSq_memOk | with_reducible refine foldl_memOk _ _ _ (fun _ _ _ => ?_) ?_ | with_reducible refine And.intro ?_ ?_ | intro _ | split
theorem State.thawCmd_memOk (s : State) (slot : Nat) (sel : Nat → Bool) (hm : s.memOk) : (State.thawCmd s slot sel).memOk := by unfold State.thawCmd; repeat' first | simp only [memOk_mk, ite_memOk, ite_snd_memOk, ite_fst_memOk] | with_reducible assumption | with_reducible apply State.adminPlain_memOk | with_reducible apply State.completeWith_memOk | with_reducible apply State.thaw_memOk | with_reducible refine foldl_memOk _ _ _ (fun _ _ _ => ?_) ?_ | with_reducible refine And.intro ?_ ?_ | intro _ | split
theorem State.admThaw_memOk (s : State) (fn action : Nat) (hm : s.memOk) : (State.admThaw s fn action).memOk := by unfold State.admThaw; repeat' first | simp only [memOk_mk, ite_memOk, ite_snd_memOk, ite_fst_memOk] | with_reducible assumption | with_reducible apply State.pk_memOk | with_reducible apply State.thaw_memOk | with_reducible refine foldl_memOk _ _ _ (fun _ _ _ => ?_) ?_ | with_reducible refine And.intro ?_ ?_ | intro _ | split

/-! ### AdmInfo -/

theorem State.identify_memOk (s : State) (slot cns : Nat) (d : DescIn) (checks : Cmd → List (Bool × Nat)) (page : Cmd → List Byte) (hm : s.memOk) : (State.identify s slot cns d checks page).memOk := by unfold State.identify; repeat' first | simp only [memOk_mk, ite_memOk, ite_snd_memOk, ite_fst_memOk] | with_reducible assumption | with_reducible apply State.admin_memOk | with_reducible apply State.complete_memOk | with_reducible apply State.modCmd_memOk | with_reducible apply State.toHost_memOk | with_reducible apply State.withSegs_memOk | with_reducible refine foldl_memOk _ _ _ (fun _ _ _ => ?_) ?_ | with_reducible refine And.intro ?_ ?_ | intro _ | split
theorem State.logPage_memOk (s : State) (slot lid : Nat) (d : DescIn) (checks : Cmd → List (Bool × Nat)) (page : Cmd → List Byte) (after : Cmd → Nat → State → State) (h_after : ∀ (y0 : Cmd) (y1 : Nat) (y2 : State), y2.memOk → (after y0 y1 y2).memOk) (hm : s.memOk) : (State.logPage s slot lid d checks page after).memOk := by unfold State.logPage; repeat' first | simp only [memOk_mk, ite_memOk, ite_snd_memOk, ite_fst_memOk] | with_reducible assumption | with_reducible apply State.admin_memOk | with_reducible apply State.toHost_memOk | with_reducible apply State.withSegs_memOk | with_reducible apply h_after | with_reducible refine foldl_memOk _ _ _ (fun _ _ _ => ?_) ?_ | with_reducible refine And.intro ?_ ?_ | intro _ | split
theorem State.clearLost_memOk (s : State) (hm : s.memOk) : (State.clearLost s).memOk := hm
theorem State.holdDrain_memOk (s : State) (x0 : Nat) (hm : s.memOk) : (State.holdDrain s x0).memOk := by
  induction x0 generalizing s with
  | zero => unfold State.holdDrain; repeat' first | simp only [memOk_mk, ite_memOk, ite_snd_memOk, ite_fst_memOk] | with_reducible assumption | with_reducible apply State.ringPut_memOk | with_reducible apply ih | with_reducible refine foldl_memOk _ _ _ (fun _ _ _ => ?_) ?_ | with_reducible refine And.intro ?_ ?_ | intro _ | split
  | succ _ ih => unfold State.holdDrain; repeat' first | simp only [memOk_mk, ite_memOk, ite_snd_memOk, ite_fst_memOk] | with_reducible assumption | with_reducible apply State.ringPut_memOk | with_reducible apply ih | with_reducible refine foldl_memOk _ _ _ (fun _ _ _ => ?_) ?_ | with_reducible refine And.intro ?_ ?_ | intro _ | split

/-! ### Surveyor -/

theorem State.throttleStart_memOk (s : State) (hm : s.memOk) : (State.throttleStart s).memOk := by unfold State.throttleStart; repeat' first | simp only [memOk_mk, ite_memOk, ite_snd_memOk, ite_fst_memOk] | with_reducible assumption | with_reducible apply State.p_memOk | with_reducible apply State.raise_memOk | with_reducible apply State.requestClock_memOk | with_reducible refine foldl_memOk _ _ _ (fun _ _ _ => ?_) ?_ | with_reducible refine And.intro ?_ ?_ | intro _ | split
theorem State.criticalTemp_memOk (s : State) (hm : s.memOk) : (State.criticalTemp s).memOk := by unfold State.criticalTemp; repeat' first | simp only [memOk_mk, ite_memOk, ite_snd_memOk, ite_fst_memOk] | with_reducible assumption | with_reducible apply State.eparkAll_memOk | with_reducible apply State.gateDropAll_memOk | with_reducible apply State.raise_memOk | with_reducible refine foldl_memOk _ _ _ (fun _ _ _ => ?_) ?_ | with_reducible refine And.intro ?_ ?_ | intro _ | split
theorem State.surveyTake_memOk (s : State) (x : SurveyIn) (hm : s.memOk) : (State.surveyTake s x).memOk := by unfold State.surveyTake; repeat' first | simp only [memOk_mk, ite_memOk, ite_snd_memOk, ite_fst_memOk] | with_reducible assumption | with_reducible apply State.filterDie_memOk | with_reducible refine foldl_memOk _ _ _ (fun _ _ _ => ?_) ?_ | with_reducible refine And.intro ?_ ?_ | intro _ | split
theorem State.postSurvey_memOk (s : State) (x : SurveyIn) (hm : s.memOk) : (State.postSurvey s x).memOk := by unfold State.postSurvey; repeat' first | simp only [memOk_mk, ite_memOk, ite_snd_memOk, ite_fst_memOk] | with_reducible assumption | with_reducible apply State.p_memOk | with_reducible refine foldl_memOk _ _ _ (fun _ _ _ => ?_) ?_ | with_reducible refine And.intro ?_ ?_ | intro _ | split
theorem State.thermalStep_memOk (s : State) (m : Int) (hm : s.memOk) : (State.thermalStep s m).memOk := by unfold State.thermalStep; repeat' first | simp only [memOk_mk, ite_memOk, ite_snd_memOk, ite_fst_memOk] | with_reducible assumption | with_reducible apply State.criticalTemp_memOk | with_reducible apply State.throttleStart_memOk | with_reducible refine foldl_memOk _ _ _ (fun _ _ _ => ?_) ?_ | with_reducible refine And.intro ?_ ?_ | intro _ | split
theorem State.survey_memOk (s : State) (x : SurveyIn) (hm : s.memOk) : (State.survey s x).memOk := by unfold State.survey; repeat' first | simp only [memOk_mk, ite_memOk, ite_snd_memOk, ite_fst_memOk] | with_reducible assumption | with_reducible apply State.surveyTake_memOk | with_reducible apply State.thermalStep_memOk | with_reducible refine foldl_memOk _ _ _ (fun _ _ _ => ?_) ?_ | with_reducible refine And.intro ?_ ?_ | intro _ | split
theorem State.sensorRead_memOk (s : State) (k : Nat) (b : Option (List Byte)) (hm : s.memOk) : (State.sensorRead s k b).memOk := by unfold State.sensorRead; repeat' first | simp only [memOk_mk, ite_memOk, ite_snd_memOk, ite_fst_memOk] | with_reducible assumption | with_reducible apply State.emit_memOk | with_reducible apply State.raise_memOk | with_reducible refine foldl_memOk _ _ _ (fun _ _ _ => ?_) ?_ | with_reducible refine And.intro ?_ ?_ | intro _ | split
theorem State.avsFree_memOk (s : State) (m : Nat) (hm : s.memOk) : (State.avsFree s m).memOk := by unfold State.avsFree; repeat' first | simp only [memOk_mk, ite_memOk, ite_snd_memOk, ite_fst_memOk] | with_reducible assumption | with_reducible apply State.loopStep_memOk | with_reducible apply State.p_memOk | with_reducible apply State.requestClock_memOk | with_reducible refine foldl_memOk _ _ _ (fun _ _ _ => ?_) ?_ | with_reducible refine And.intro ?_ ?_ | intro _ | split
theorem State.marginThrottle_memOk (s : State) (hm : s.memOk) : (State.marginThrottle s).memOk := by unfold State.marginThrottle; repeat' first | simp only [memOk_mk, ite_memOk, ite_snd_memOk, ite_fst_memOk] | with_reducible assumption | with_reducible apply State.p_memOk | with_reducible apply State.raise_memOk | with_reducible apply State.requestClock_memOk | with_reducible refine foldl_memOk _ _ _ (fun _ _ _ => ?_) ?_ | with_reducible refine And.intro ?_ ?_ | intro _ | split
theorem State.avsMargin_memOk (s : State) (m : Nat) (hm : s.memOk) : (State.avsMargin s m).memOk := by unfold State.avsMargin; repeat' first | simp only [memOk_mk, ite_memOk, ite_snd_memOk, ite_fst_memOk] | with_reducible assumption | with_reducible apply State.atCycle_memOk | with_reducible apply State.p_memOk | with_reducible apply State.slotDone_memOk | with_reducible refine foldl_memOk _ _ _ (fun _ _ _ => ?_) ?_ | with_reducible refine And.intro ?_ ?_ | intro _ | split

/-! ### EngTrace -/

theorem State.trcWord_memOk (s : State) (k : Nat) (bytes : List Byte) (hm : s.memOk) : (State.trcWord s k bytes).memOk := by unfold State.trcWord; repeat' first | simp only [memOk_mk, ite_memOk, ite_snd_memOk, ite_fst_memOk] | with_reducible assumption | with_reducible apply State.bufWrite_memOk | with_reducible apply State.pk_memOk | with_reducible refine foldl_memOk _ _ _ (fun _ _ _ => ?_) ?_ | with_reducible refine And.intro ?_ ?_ | intro _ | split
theorem State.traceNodes_memOk (s : State) (k : Nat) (shown : Tbl Int) (hm : s.memOk) : (State.traceNodes s k shown).memOk := by unfold State.traceNodes; repeat' first | simp only [memOk_mk, ite_memOk, ite_snd_memOk, ite_fst_memOk] | with_reducible assumption | with_reducible apply State.trcWord_memOk | with_reducible refine foldl_memOk _ _ _ (fun _ _ _ => ?_) ?_ | with_reducible refine And.intro ?_ ?_ | intro _ | split
theorem State.traceEstimates_memOk (s : State) (k : Nat) (pes : List Int) (hm : s.memOk) : (State.traceEstimates s k pes).memOk := by unfold State.traceEstimates; repeat' first | simp only [memOk_mk, ite_memOk, ite_snd_memOk, ite_fst_memOk] | with_reducible assumption | with_reducible apply State.fresh_memOk | with_reducible apply State.p_memOk | with_reducible apply State.trcWord_memOk | with_reducible refine foldl_memOk _ _ _ (fun _ _ _ => ?_) ?_ | with_reducible refine And.intro ?_ ?_ | intro _ | split
theorem State.traceCompare_memOk (s : State) (k : Nat) (shown : Tbl Int) (hm : s.memOk) : (State.traceCompare s k shown).memOk := by unfold State.traceCompare; repeat' first | simp only [memOk_mk, ite_memOk, ite_snd_memOk, ite_fst_memOk] | with_reducible assumption | with_reducible apply State.trcSource_memOk | with_reducible refine foldl_memOk _ _ _ (fun _ _ _ => ?_) ?_ | with_reducible refine And.intro ?_ ?_ | intro _ | split
theorem State.traceArm_memOk (s : State) (k : Nat) (hm : s.memOk) : (State.traceArm s k).memOk := by unfold State.traceArm; repeat' first | simp only [memOk_mk, ite_memOk, ite_snd_memOk, ite_fst_memOk] | with_reducible assumption | with_reducible apply State.pk_memOk | with_reducible refine foldl_memOk _ _ _ (fun _ _ _ => ?_) ?_ | with_reducible refine And.intro ?_ ?_ | intro _ | split
theorem State.traceStop_memOk (s : State) (k : Nat) (hm : s.memOk) : (State.traceStop s k).memOk := by unfold State.traceStop; repeat' first | simp only [memOk_mk, ite_memOk, ite_snd_memOk, ite_fst_memOk] | with_reducible assumption | with_reducible apply State.trcTrigger_memOk | with_reducible refine foldl_memOk _ _ _ (fun _ _ _ => ?_) ?_ | with_reducible refine And.intro ?_ ?_ | intro _ | split
theorem State.traceTrig_memOk (s : State) (k : Nat) (hm : s.memOk) : (State.traceTrig s k).memOk := by unfold State.traceTrig; repeat' first | simp only [memOk_mk, ite_memOk, ite_snd_memOk, ite_fst_memOk] | with_reducible assumption | with_reducible apply State.trcTrigger_memOk | with_reducible refine foldl_memOk _ _ _ (fun _ _ _ => ?_) ?_ | with_reducible refine And.intro ?_ ?_ | intro _ | split

/-! ### Servo -/

theorem State.guardStep_memOk (s : State) (k : Nat) (valid : Bool) (pes : Int) (hm : s.memOk) : (State.guardStep s k valid pes).memOk := by unfold State.guardStep; repeat' first | simp only [memOk_mk, ite_memOk, ite_snd_memOk, ite_fst_memOk] | with_reducible assumption | with_reducible apply State.bumpk_memOk | with_reducible apply State.gateDrop_memOk | with_reducible apply State.pk_memOk | with_reducible apply State.raise_memOk | with_reducible apply State.setAct_memOk | with_reducible refine foldl_memOk _ _ _ (fun _ _ _ => ?_) ?_ | with_reducible refine And.intro ?_ ?_ | intro _ | split
theorem State.settleStep_memOk (s : State) (k : Nat) (valid : Bool) (pes : Int) (hm : s.memOk) : (State.settleStep s k valid pes).memOk := by unfold State.settleStep; repeat' first | simp only [memOk_mk, ite_memOk, ite_snd_memOk, ite_fst_memOk] | with_reducible assumption | with_reducible apply State.pk_memOk | with_reducible apply State.setAct_memOk | with_reducible refine foldl_memOk _ _ _ (fun _ _ _ => ?_) ?_ | with_reducible refine And.intro ?_ ?_ | intro _ | split
theorem State.estimate_memOk (s : State) (k j e : Nat) (hm : s.memOk) : (State.estimate s k j e).memOk := by unfold State.estimate; repeat' first | simp only [memOk_mk, ite_memOk, ite_snd_memOk, ite_fst_memOk] | with_reducible assumption | with_reducible apply State.atCycle_memOk | with_reducible apply State.fresh_memOk | with_reducible apply State.guardStep_memOk | with_reducible apply State.pk_memOk | with_reducible apply State.setAct_memOk | with_reducible apply State.settleStep_memOk | with_reducible apply State.traceEstimates_memOk | with_reducible refine foldl_memOk _ _ _ (fun _ _ _ => ?_) ?_ | with_reducible refine And.intro ?_ ?_ | intro _ | split
theorem State.servoLoss_memOk (s : State) (k : Nat) (hm : s.memOk) : (State.servoLoss s k).memOk := by unfold State.servoLoss; repeat' first | simp only [memOk_mk, ite_memOk, ite_snd_memOk, ite_fst_memOk] | with_reducible assumption | with_reducible apply State.epark_memOk | with_reducible apply State.raise_memOk | with_reducible apply State.record_memOk | with_reducible refine foldl_memOk _ _ _ (fun _ _ _ => ?_) ?_ | with_reducible refine And.intro ?_ ?_ | intro _ | split
theorem State.startSeek_memOk (s : State) (k : Nat) (q : Seek) (hm : s.memOk) : (State.startSeek s k q).memOk := by unfold State.startSeek; repeat' first | simp only [memOk_mk, ite_memOk, ite_snd_memOk, ite_fst_memOk] | with_reducible assumption | with_reducible apply State.fresh_memOk | with_reducible apply State.gateDrop_memOk | with_reducible apply State.pk_memOk | with_reducible apply State.seekEdge_memOk | with_reducible apply State.setAct_memOk | with_reducible apply State.setActSt_memOk | with_reducible refine foldl_memOk _ _ _ (fun _ _ _ => ?_) ?_ | with_reducible refine And.intro ?_ ?_ | intro _ | split
theorem State.orderSeek_memOk (s : State) (k : Nat) (q : Seek) (hm : s.memOk) : (State.orderSeek s k q).memOk := hm
theorem State.seekEdge_memOk (s : State) (k : Nat) (hm : s.memOk) : (State.seekEdge s k).memOk := by unfold State.seekEdge; repeat' first | simp only [memOk_mk, ite_memOk, ite_snd_memOk, ite_fst_memOk] | with_reducible assumption | with_reducible apply State.pk_memOk | with_reducible apply State.setAct_memOk | with_reducible apply State.setActSt_memOk | with_reducible apply State.startSeek_memOk | with_reducible refine foldl_memOk _ _ _ (fun _ _ _ => ?_) ?_ | with_reducible refine And.intro ?_ ?_ | intro _ | split
theorem State.servoEdge_memOk (s : State) (hm : s.memOk) : (State.servoEdge s).memOk := by unfold State.servoEdge; repeat' first | simp only [memOk_mk, ite_memOk, ite_snd_memOk, ite_fst_memOk] | with_reducible assumption | with_reducible apply State.pk_memOk | with_reducible apply State.seekEdge_memOk | with_reducible apply State.setAct_memOk | with_reducible refine foldl_memOk _ _ _ (fun _ _ _ => ?_) ?_ | with_reducible refine And.intro ?_ ?_ | intro _ | split
theorem State.loadDone_memOk (s : State) (k : Nat) (hm : s.memOk) : (State.loadDone s k).memOk := by unfold State.loadDone; repeat' first | simp only [memOk_mk, ite_memOk, ite_snd_memOk, ite_fst_memOk] | with_reducible assumption | with_reducible apply State.escEnd_memOk | with_reducible apply State.powerState_memOk | with_reducible apply State.setAct_memOk | with_reducible refine foldl_memOk _ _ _ (fun _ _ _ => ?_) ?_ | with_reducible refine And.intro ?_ ?_ | intro _ | split
theorem State.testSeek_memOk (s : State) (k row : Nat) (ok : Bool) (hm : s.memOk) : (State.testSeek s k row ok).memOk := by unfold State.testSeek; repeat' first | simp only [memOk_mk, ite_memOk, ite_snd_memOk, ite_fst_memOk] | with_reducible assumption | with_reducible refine foldl_memOk _ _ _ (fun _ _ _ => ?_) ?_ | with_reducible refine And.intro ?_ ?_ | intro _ | split
theorem State.readReadyNow_memOk (s : State) (k : Nat) (hm : s.memOk) : (State.readReadyNow s k).memOk := by unfold State.readReadyNow; repeat' first | simp only [memOk_mk, ite_memOk, ite_snd_memOk, ite_fst_memOk] | with_reducible assumption | with_reducible apply State.loadDone_memOk | with_reducible apply State.occur_memOk | with_reducible apply State.pk_memOk | with_reducible apply State.seekEdge_memOk | with_reducible apply State.setAct_memOk | with_reducible apply State.testSeek_memOk | with_reducible refine foldl_memOk _ _ _ (fun _ _ _ => ?_) ?_ | with_reducible refine And.intro ?_ ?_ | intro _ | split
theorem State.seekFail_memOk (s : State) (k : Nat) (q : Seek) (hm : s.memOk) : (State.seekFail s k q).memOk := by unfold State.seekFail; repeat' first | simp only [memOk_mk, ite_memOk, ite_snd_memOk, ite_fst_memOk] | with_reducible assumption | with_reducible apply State.failMediaAt_memOk | with_reducible apply State.fresh_memOk | with_reducible apply State.pk_memOk | with_reducible apply State.seekEdge_memOk | with_reducible apply State.setAct_memOk | with_reducible apply State.setActSt_memOk | with_reducible refine foldl_memOk _ _ _ (fun _ _ _ => ?_) ?_ | with_reducible refine And.intro ?_ ?_ | intro _ | split

/-! ### Park -/

theorem State.loadFail_memOk (s : State) (k : Nat) (hm : s.memOk) : (State.loadFail s k).memOk := by unfold State.loadFail; repeat' first | simp only [memOk_mk, ite_memOk, ite_snd_memOk, ite_fst_memOk] | with_reducible assumption | with_reducible apply State.escEnd_memOk | with_reducible apply State.headsStageEnd_memOk | with_reducible apply State.orderMotion_memOk | with_reducible apply State.outOfService_memOk | with_reducible apply State.raise_memOk | with_reducible apply State.withdraw_memOk | with_reducible refine foldl_memOk _ _ _ (fun _ _ _ => ?_) ?_ | with_reducible refine And.intro ?_ ?_ | intro _ | split
theorem State.escReload_memOk (s : State) (k : Nat) (hm : s.memOk) : (State.escReload s k).memOk := by unfold State.escReload; repeat' first | simp only [memOk_mk, ite_memOk, ite_snd_memOk, ite_fst_memOk] | with_reducible assumption | with_reducible apply State.escEnd_memOk | with_reducible apply State.loadFail_memOk | with_reducible apply State.orderMotion_memOk | with_reducible apply State.setAct_memOk | with_reducible refine foldl_memOk _ _ _ (fun _ _ _ => ?_) ?_ | with_reducible refine And.intro ?_ ?_ | intro _ | split

/-! ### Engine -/

theorem State.setEng_memOk (s : State) (k : Nat) (f : Eng → Eng) (hm : s.memOk) : (State.setEng s k f).memOk := hm
theorem State.runStop_memOk (s : State) (k q cause : Nat) (hm : s.memOk) : (State.runStop s k q cause).memOk := by unfold State.runStop; repeat' first | simp only [memOk_mk, ite_memOk, ite_snd_memOk, ite_fst_memOk] | with_reducible assumption | with_reducible apply State.bumpk_memOk | with_reducible apply State.gateDrop_memOk | with_reducible apply State.pk_memOk | with_reducible apply State.setEng_memOk | with_reducible refine foldl_memOk _ _ _ (fun _ _ _ => ?_) ?_ | with_reducible refine And.intro ?_ ?_ | intro _ | split
theorem State.runFlags_memOk (s : State) (k : Nat) (r : Run) (vsat msat : Bool) (hm : s.memOk) : (State.runFlags s k r vsat msat).memOk := by unfold State.runFlags; repeat' first | simp only [memOk_mk, ite_memOk, ite_snd_memOk, ite_fst_memOk] | with_reducible assumption | with_reducible apply State.bumpk_memOk | with_reducible apply State.hwSet_memOk | with_reducible apply State.pk_memOk | with_reducible refine foldl_memOk _ _ _ (fun _ _ _ => ?_) ?_ | with_reducible refine And.intro ?_ ?_ | intro _ | split
theorem State.afterOutput_memOk (s : State) (k : Nat) (hm : s.memOk) : (State.afterOutput s k).memOk := by unfold State.afterOutput; repeat' first | simp only [memOk_mk, ite_memOk, ite_snd_memOk, ite_fst_memOk] | with_reducible assumption | with_reducible apply State.traceCompare_memOk | with_reducible apply State.traceNodes_memOk | with_reducible apply State.tracePush_memOk | with_reducible refine foldl_memOk _ _ _ (fun _ _ _ => ?_) ?_ | with_reducible refine And.intro ?_ ?_ | intro _ | split
theorem State.runDone_memOk (s : State) (k q : Nat) (x : CtlIn) (hm : s.memOk) : (State.runDone s k q x).memOk := by unfold State.runDone; repeat' first | simp only [memOk_mk, ite_memOk, ite_snd_memOk, ite_fst_memOk] | with_reducible assumption | with_reducible apply State.afterOutput_memOk | with_reducible apply State.atCycle_memOk | with_reducible apply State.fresh_memOk | with_reducible apply State.pk_memOk | with_reducible apply State.runFlags_memOk | with_reducible apply State.setEng_memOk | with_reducible refine foldl_memOk _ _ _ (fun _ _ _ => ?_) ?_ | with_reducible refine And.intro ?_ ?_ | intro _ | split
theorem State.engineRun_memOk (s : State) (k : Nat) (x : CtlIn) (hm : s.memOk) : (State.engineRun s k x).memOk := by unfold State.engineRun; repeat' first | simp only [memOk_mk, ite_memOk, ite_snd_memOk, ite_fst_memOk] | with_reducible assumption | with_reducible apply State.afterOutput_memOk | with_reducible apply State.atCycle_memOk | with_reducible apply State.bumpk_memOk | with_reducible apply State.pk_memOk | with_reducible apply State.runDone_memOk | with_reducible apply State.runStop_memOk | with_reducible apply State.setEng_memOk | with_reducible apply State.slotDone_memOk | with_reducible apply State.traceNodes_memOk | with_reducible refine foldl_memOk _ _ _ (fun _ _ _ => ?_) ?_ | with_reducible refine And.intro ?_ ?_ | intro _ | split
theorem State.escalate_memOk (s : State) (k cause : Nat) (hm : s.memOk) : (State.escalate s k cause).memOk := by unfold State.escalate; repeat' first | simp only [memOk_mk, ite_memOk, ite_snd_memOk, ite_fst_memOk] | with_reducible assumption | with_reducible apply State.escEnd_memOk | with_reducible apply State.orderMotion_memOk | with_reducible apply State.pk_memOk | with_reducible apply State.raise_memOk | with_reducible apply State.record_memOk | with_reducible apply State.setAct_memOk | with_reducible apply State.setEng_memOk | with_reducible apply State.withdraw_memOk | with_reducible refine foldl_memOk _ _ _ (fun _ _ _ => ?_) ?_ | with_reducible refine And.intro ?_ ?_ | intro _ | split
theorem State.safeEnter_memOk (s : State) (k cause q : Nat) (hm : s.memOk) : (State.safeEnter s k cause q).memOk := by unfold State.safeEnter; repeat' first | simp only [memOk_mk, ite_memOk, ite_snd_memOk, ite_fst_memOk] | with_reducible assumption | with_reducible apply State.abandonSlice_memOk | with_reducible apply State.bumpk_memOk | with_reducible apply State.gateDrop_memOk | with_reducible apply State.pk_memOk | with_reducible apply State.raise_memOk | with_reducible apply State.record_memOk | with_reducible apply State.setAct_memOk | with_reducible apply State.setActSt_memOk | with_reducible apply State.setEng_memOk | with_reducible apply State.trcSource_memOk | with_reducible refine foldl_memOk _ _ _ (fun _ _ _ => ?_) ?_ | with_reducible refine And.intro ?_ ?_ | intro _ | split
theorem State.engineOverrun_memOk (s : State) (k : Nat) (hm : s.memOk) : (State.engineOverrun s k).memOk := by unfold State.engineOverrun; repeat' first | simp only [memOk_mk, ite_memOk, ite_snd_memOk, ite_fst_memOk] | with_reducible assumption | with_reducible apply State.escalate_memOk | with_reducible apply State.safeEnter_memOk | with_reducible refine foldl_memOk _ _ _ (fun _ _ _ => ?_) ?_ | with_reducible refine And.intro ?_ ?_ | intro _ | split
theorem State.safeExit_memOk (s : State) (k : Nat) (h : Safe) (hm : s.memOk) : (State.safeExit s k h).memOk := by unfold State.safeExit; repeat' first | simp only [memOk_mk, ite_memOk, ite_snd_memOk, ite_fst_memOk] | with_reducible assumption | with_reducible apply State.pk_memOk | with_reducible apply State.raise_memOk | with_reducible apply State.record_memOk | with_reducible apply State.setEng_memOk | with_reducible refine foldl_memOk _ _ _ (fun _ _ _ => ?_) ?_ | with_reducible refine And.intro ?_ ?_ | intro _ | split
theorem State.engineEdge_memOk (s : State) (k : Nat) (ovr : Bool) (hm : s.memOk) : (State.engineEdge s k ovr).memOk := by unfold State.engineEdge; repeat' first | simp only [memOk_mk, ite_memOk, ite_snd_memOk, ite_fst_memOk] | with_reducible assumption | with_reducible apply State.engineOverrun_memOk | with_reducible apply State.pk_memOk | with_reducible apply State.safeExit_memOk | with_reducible apply State.setEng_memOk | with_reducible refine foldl_memOk _ _ _ (fun _ _ _ => ?_) ?_ | with_reducible refine And.intro ?_ ?_ | intro _ | split
theorem State.latchRun_memOk (s : State) (k : Nat) (hm : s.memOk) : (State.latchRun s k).memOk := hm
theorem State.engineLatch_memOk (s : State) (hm : s.memOk) : (State.engineLatch s).memOk := by unfold State.engineLatch; repeat' first | simp only [memOk_mk, ite_memOk, ite_snd_memOk, ite_fst_memOk] | with_reducible assumption | with_reducible apply State.latchRun_memOk | with_reducible refine foldl_memOk _ _ _ (fun _ _ _ => ?_) ?_ | with_reducible refine And.intro ?_ ?_ | intro _ | split
theorem State.holdExit_memOk (s : State) (k : Nat) (h : Safe) (hm : s.memOk) : (State.holdExit s k h).memOk := by unfold State.holdExit; repeat' first | simp only [memOk_mk, ite_memOk, ite_snd_memOk, ite_fst_memOk] | with_reducible assumption | with_reducible apply State.safeExit_memOk | with_reducible apply State.seekEdge_memOk | with_reducible apply State.setAct_memOk | with_reducible apply State.startSeek_memOk | with_reducible refine foldl_memOk _ _ _ (fun _ _ _ => ?_) ?_ | with_reducible refine And.intro ?_ ?_ | intro _ | split

/-! ### ChartCheck -/

theorem State.applyImage_memOk (s : State) (l : List Fld) (b : List Byte) (hm : s.memOk) : (State.applyImage s l b).memOk := by unfold State.applyImage; repeat' first | simp only [memOk_mk, ite_memOk, ite_snd_memOk, ite_fst_memOk] | with_reducible assumption | with_reducible apply State.pki_memOk | with_reducible refine foldl_memOk _ _ _ (fun _ _ _ => ?_) ?_ | with_reducible refine And.intro ?_ ?_ | intro _ | split
theorem State.clearImage_memOk (s : State) (l : List Fld) (hm : s.memOk) : (State.clearImage s l).memOk := by unfold State.clearImage; repeat' first | simp only [memOk_mk, ite_memOk, ite_snd_memOk, ite_fst_memOk] | with_reducible assumption | with_reducible apply State.pki_memOk | with_reducible refine foldl_memOk _ _ _ (fun _ _ _ => ?_) ?_ | with_reducible refine And.intro ?_ ?_ | intro _ | split
theorem State.scratch_memOk (s : State) (h : List Byte) (secs : List Sec) (hm : s.memOk) : (State.scratch s h secs).memOk := by unfold State.scratch; repeat' first | simp only [memOk_mk, ite_memOk, ite_snd_memOk, ite_fst_memOk] | with_reducible assumption | with_reducible apply State.applyImage_memOk | with_reducible apply State.clearImage_memOk | with_reducible refine foldl_memOk _ _ _ (fun _ _ _ => ?_) ?_ | with_reducible refine And.intro ?_ ?_ | intro _ | split

/-! ### Apply -/

theorem State.applyFields_memOk (s : State) (hm : s.memOk) : (State.applyFields s).memOk := by unfold State.applyFields; repeat' first | simp only [memOk_mk, ite_memOk, ite_snd_memOk, ite_fst_memOk] | with_reducible assumption | with_reducible apply State.p_memOk | with_reducible apply State.pk_memOk | with_reducible apply State.pki_memOk | with_reducible refine foldl_memOk _ _ _ (fun _ _ _ => ?_) ?_ | with_reducible refine And.intro ?_ ?_ | intro _ | split
theorem State.applyLanes_memOk (s : State) (hm : s.memOk) : (State.applyLanes s).memOk := by unfold State.applyLanes; repeat' first | simp only [memOk_mk, ite_memOk, ite_snd_memOk, ite_fst_memOk] | with_reducible assumption | with_reducible apply State.pki_memOk | with_reducible refine foldl_memOk _ _ _ (fun _ _ _ => ?_) ?_ | with_reducible refine And.intro ?_ ?_ | intro _ | split
theorem State.applySections_memOk (s : State) (hm : s.memOk) : (State.applySections s).memOk := by unfold State.applySections; repeat' first | simp only [memOk_mk, ite_memOk, ite_snd_memOk, ite_fst_memOk] | with_reducible assumption | with_reducible apply State.applyFields_memOk | with_reducible apply State.applyLanes_memOk | with_reducible apply State.nodeKnown_memOk | with_reducible apply State.pk_memOk | with_reducible refine foldl_memOk _ _ _ (fun _ _ _ => ?_) ?_ | with_reducible refine And.intro ?_ ?_ | intro _ | split

/-! ### Chart -/

theorem State.markScan_memOk (s : State) (hm : s.memOk) : (State.markScan s).memOk := by unfold State.markScan; repeat' first | simp only [memOk_mk, ite_memOk, ite_snd_memOk, ite_fst_memOk] | with_reducible assumption | with_reducible apply State.p_memOk | with_reducible apply State.raise_memOk | with_reducible apply State.record_memOk | with_reducible refine foldl_memOk _ _ _ (fun _ _ _ => ?_) ?_ | with_reducible refine And.intro ?_ ?_ | intro _ | split
theorem State.putRej_memOk (s : State) (i code : Nat) (hm : s.memOk) : (State.putRej s i code).memOk := hm
theorem State.rejectSlot_memOk (s : State) (i code dir : Nat) (hm : s.memOk) : (State.rejectSlot s i code dir).memOk := by unfold State.rejectSlot; repeat' first | simp only [memOk_mk, ite_memOk, ite_snd_memOk, ite_fst_memOk] | with_reducible assumption | with_reducible apply State.putRej_memOk | with_reducible apply State.raise_memOk | with_reducible apply State.record_memOk | with_reducible refine foldl_memOk _ _ _ (fun _ _ _ => ?_) ?_ | with_reducible refine And.intro ?_ ?_ | intro _ | split
theorem State.setLink_memOk (s : State) (octal : Bool) (mhz : Nat) (hm : s.memOk) : (State.setLink s octal mhz).memOk := hm
theorem State.goOctal_memOk (s : State) (i : Nat) (differs : Bool) (hm : s.memOk) : (State.goOctal s i differs).memOk := by unfold State.goOctal; repeat' first | simp only [memOk_mk, ite_memOk, ite_snd_memOk, ite_fst_memOk] | with_reducible assumption | with_reducible apply State.p_memOk | with_reducible apply State.setLink_memOk | with_reducible apply State.xspi_memOk | with_reducible refine foldl_memOk _ _ _ (fun _ _ _ => ?_) ?_ | with_reducible refine And.intro ?_ ?_ | intro _ | split
theorem State.trySlots_memOk (s : State) (differs : List Bool) (x0 : List Nat) (x1 : Nat) (hm : s.memOk) : (State.trySlots s differs x0 x1).memOk := by
  induction x0 generalizing s x1 with
  | nil => exact hm
  | cons i t ih =>
    simp only [State.trySlots]
    repeat' first | simp only [memOk_mk, ite_memOk, ite_snd_memOk, ite_fst_memOk] | with_reducible assumption | with_reducible apply State.goOctal_memOk | with_reducible apply State.p_memOk | with_reducible apply State.putRej_memOk | with_reducible apply State.raise_memOk | with_reducible apply State.rejectSlot_memOk | with_reducible apply ih | with_reducible refine foldl_memOk _ _ _ (fun _ _ _ => ?_) ?_ | with_reducible refine And.intro ?_ ?_ | intro _ | split
theorem State.selectSlot_memOk (s : State) (differs : List Bool) (hm : s.memOk) : (State.selectSlot s differs).memOk := by unfold State.selectSlot; repeat' first | simp only [memOk_mk, ite_memOk, ite_snd_memOk, ite_fst_memOk] | with_reducible assumption | with_reducible apply State.rejectSlot_memOk | with_reducible apply State.trySlots_memOk | with_reducible apply State.xspi_memOk | with_reducible refine foldl_memOk _ _ _ (fun _ _ _ => ?_) ?_ | with_reducible refine And.intro ?_ ?_ | intro _ | split
theorem State.journalScan_memOk (s : State) (hm : s.memOk) : (State.journalScan s).memOk := by unfold State.journalScan; repeat' first | simp only [memOk_mk, ite_memOk, ite_snd_memOk, ite_fst_memOk] | with_reducible assumption | with_reducible apply State.complete_memOk | with_reducible apply State.journalReady_memOk | with_reducible apply State.p_memOk | with_reducible apply State.raise_memOk | with_reducible refine foldl_memOk _ _ _ (fun _ _ _ => ?_) ?_ | with_reducible refine And.intro ?_ ?_ | intro _ | split
theorem State.gazAdopt_memOk (s : State) (i sgen : Nat) (w : (Nat × Nat) × Bool) (hm : s.memOk) : (State.gazAdopt s i sgen w).memOk := by unfold State.gazAdopt; repeat' first | simp only [memOk_mk, ite_memOk, ite_snd_memOk, ite_fst_memOk] | with_reducible assumption | with_reducible apply State.p_memOk | with_reducible apply State.raise_memOk | with_reducible refine foldl_memOk _ _ _ (fun _ _ _ => ?_) ?_ | with_reducible refine And.intro ?_ ?_ | intro _ | split
theorem State.gazPick_memOk (s : State) (hs : List (Nat × List Byte)) (hm : s.memOk) : (State.gazPick s hs).memOk := by unfold State.gazPick; repeat' first | simp only [memOk_mk, ite_memOk, ite_snd_memOk, ite_fst_memOk] | with_reducible assumption | with_reducible apply State.gazAdopt_memOk | with_reducible refine foldl_memOk _ _ _ (fun _ _ _ => ?_) ?_ | with_reducible refine And.intro ?_ ?_ | intro _ | split
theorem State.gazPrepare_memOk (s : State) (hm : s.memOk) : (State.gazPrepare s).memOk := by unfold State.gazPrepare; repeat' first | simp only [memOk_mk, ite_memOk, ite_snd_memOk, ite_fst_memOk] | with_reducible assumption | with_reducible apply State.gazEraseNext_memOk | with_reducible refine foldl_memOk _ _ _ (fun _ _ _ => ?_) ?_ | with_reducible refine And.intro ?_ ?_ | intro _ | split
theorem State.gazStamps_memOk (s : State) (hm : s.memOk) : (State.gazStamps s).memOk := by unfold State.gazStamps; repeat' first | simp only [memOk_mk, ite_memOk, ite_snd_memOk, ite_fst_memOk] | with_reducible assumption | with_reducible apply State.bump_memOk | with_reducible apply State.p_memOk | with_reducible refine foldl_memOk _ _ _ (fun _ _ _ => ?_) ?_ | with_reducible refine And.intro ?_ ?_ | intro _ | split
theorem State.gazScan_memOk (s : State) (hm : s.memOk) : (State.gazScan s).memOk := by unfold State.gazScan; repeat' first | simp only [memOk_mk, ite_memOk, ite_snd_memOk, ite_fst_memOk] | with_reducible assumption | with_reducible apply State.gazPick_memOk | with_reducible apply State.gazPrepare_memOk | with_reducible apply State.gazStamps_memOk | with_reducible apply State.raise_memOk | with_reducible refine foldl_memOk _ _ _ (fun _ _ _ => ?_) ?_ | with_reducible refine And.intro ?_ ?_ | intro _ | split
theorem State.movePreChart_memOk (s : State) (hm : s.memOk) : (State.movePreChart s).memOk := by unfold State.movePreChart; repeat' first | simp only [memOk_mk, ite_memOk, ite_snd_memOk, ite_fst_memOk] | with_reducible assumption | with_reducible apply State.dropRecord_memOk | with_reducible apply State.ringOrHold_memOk | with_reducible refine foldl_memOk _ _ _ (fun _ _ _ => ?_) ?_ | with_reducible refine And.intro ?_ ?_ | intro _ | split
theorem State.fabAlone_memOk (s : State) (hm : s.memOk) : (State.fabAlone s).memOk := by unfold State.fabAlone; repeat' first | simp only [memOk_mk, ite_memOk, ite_snd_memOk, ite_fst_memOk] | with_reducible assumption | with_reducible apply State.p_memOk | with_reducible apply State.raise_memOk | with_reducible refine foldl_memOk _ _ _ (fun _ _ _ => ?_) ?_ | with_reducible refine And.intro ?_ ?_ | intro _ | split
theorem State.forgetKver_memOk (s : State) (hm : s.memOk) : (State.forgetKver s).memOk := hm
theorem State.applyChart_memOk (s : State) (hm : s.memOk) : (State.applyChart s).memOk := by unfold State.applyChart; repeat' first | simp only [memOk_mk, ite_memOk, ite_snd_memOk, ite_fst_memOk] | with_reducible assumption | with_reducible apply State.applyImage_memOk | with_reducible apply State.applySections_memOk | with_reducible apply State.clearImage_memOk | with_reducible apply State.fabAlone_memOk | with_reducible apply State.forgetKver_memOk | with_reducible apply State.movePreChart_memOk | with_reducible apply State.p_memOk | with_reducible apply State.showTunables_memOk | with_reducible apply State.stageBegin_memOk | with_reducible refine foldl_memOk _ _ _ (fun _ _ _ => ?_) ?_ | with_reducible refine And.intro ?_ ?_ | intro _ | split
theorem State.chartAbsent_memOk (s : State) (hm : s.memOk) : (State.chartAbsent s).memOk := by unfold State.chartAbsent; repeat' first | simp only [memOk_mk, ite_memOk, ite_snd_memOk, ite_fst_memOk] | with_reducible assumption | with_reducible apply State.p_memOk | with_reducible apply State.raise_memOk | with_reducible refine foldl_memOk _ _ _ (fun _ _ _ => ?_) ?_ | with_reducible refine And.intro ?_ ?_ | intro _ | split
theorem State.chartScan_memOk (s : State) (differs : List Bool) (hm : s.memOk) : (State.chartScan s differs).memOk := by unfold State.chartScan; repeat' first | simp only [memOk_mk, ite_memOk, ite_snd_memOk, ite_fst_memOk] | with_reducible assumption | with_reducible apply State.gazScan_memOk | with_reducible apply State.journalScan_memOk | with_reducible apply State.markScan_memOk | with_reducible apply State.selectSlot_memOk | with_reducible apply State.stageEndAt_memOk | with_reducible refine foldl_memOk _ _ _ (fun _ _ _ => ?_) ?_ | with_reducible refine And.intro ?_ ?_ | intro _ | split
theorem State.updateFail_memOk (s : State) (hm : s.memOk) : (State.updateFail s).memOk := by unfold State.updateFail; repeat' first | simp only [memOk_mk, ite_memOk, ite_snd_memOk, ite_fst_memOk] | with_reducible assumption | with_reducible apply State.commit_memOk | with_reducible apply State.complete_memOk | with_reducible apply State.p_memOk | with_reducible apply State.raise_memOk | with_reducible refine foldl_memOk _ _ _ (fun _ _ _ => ?_) ?_ | with_reducible refine And.intro ?_ ?_ | intro _ | split
theorem State.updateDone_memOk (s : State) (j : FlashJob) (hm : s.memOk) : (State.updateDone s j).memOk := by unfold State.updateDone; repeat' first | simp only [memOk_mk, ite_memOk, ite_snd_memOk, ite_fst_memOk] | with_reducible assumption | with_reducible apply State.commit_memOk | with_reducible apply State.complete_memOk | with_reducible apply State.p_memOk | with_reducible apply State.raise_memOk | with_reducible refine foldl_memOk _ _ _ (fun _ _ _ => ?_) ?_ | with_reducible refine And.intro ?_ ?_ | intro _ | split
theorem State.askHead_memOk (s : State) (hm : s.memOk) : (State.askHead s).memOk := by unfold State.askHead; repeat' first | simp only [memOk_mk, ite_memOk, ite_snd_memOk, ite_fst_memOk] | with_reducible assumption | with_reducible apply State.flashAsk_memOk | with_reducible refine foldl_memOk _ _ _ (fun _ _ _ => ?_) ?_ | with_reducible refine And.intro ?_ ?_ | intro _ | split
theorem State.afterErase_memOk (s : State) (j : FlashJob) (ok : Bool) (hm : s.memOk) : (State.afterErase s j ok).memOk := by unfold State.afterErase; repeat' first | simp only [memOk_mk, ite_memOk, ite_snd_memOk, ite_fst_memOk] | with_reducible assumption | with_reducible apply State.askHead_memOk | with_reducible apply State.flashAsk_memOk | with_reducible apply State.journalErased_memOk | with_reducible apply State.updateDone_memOk | with_reducible refine foldl_memOk _ _ _ (fun _ _ _ => ?_) ?_ | with_reducible refine And.intro ?_ ?_ | intro _ | split
theorem State.flashFree_memOk (s : State) (hm : s.memOk) : (State.flashFree s).memOk := by unfold State.flashFree; repeat' first | simp only [memOk_mk, ite_memOk, ite_snd_memOk, ite_fst_memOk] | with_reducible assumption | with_reducible apply State.flashKick_memOk | with_reducible apply State.markSwitch_memOk | with_reducible refine foldl_memOk _ _ _ (fun _ _ _ => ?_) ?_ | with_reducible refine And.intro ?_ ?_ | intro _ | split
theorem State.eraseDone_memOk (s : State) (j : FlashJob) (hm : s.memOk) : (State.eraseDone s j).memOk := by unfold State.eraseDone; repeat' first | simp only [memOk_mk, ite_memOk, ite_snd_memOk, ite_fst_memOk] | with_reducible assumption | with_reducible apply State.afterErase_memOk | with_reducible apply State.flashFree_memOk | with_reducible apply State.p_memOk | with_reducible apply State.raise_memOk | with_reducible apply State.retire_memOk | with_reducible apply State.wearErase_memOk | with_reducible refine foldl_memOk _ _ _ (fun _ _ _ => ?_) ?_ | with_reducible refine And.intro ?_ ?_ | intro _ | split
theorem State.eraseGo_memOk (s : State) (j : FlashJob) (hm : s.memOk) : (State.eraseGo s j).memOk := by unfold State.eraseGo; repeat' first | simp only [memOk_mk, ite_memOk, ite_snd_memOk, ite_fst_memOk] | with_reducible assumption | with_reducible apply State.flashFree_memOk | with_reducible apply State.mark_memOk | with_reducible apply State.p_memOk | with_reducible apply State.xspi_memOk | with_reducible refine foldl_memOk _ _ _ (fun _ _ _ => ?_) ?_ | with_reducible refine And.intro ?_ ?_ | intro _ | split
theorem State.markEnd_memOk (s : State) (j : FlashJob) (ok : Bool) (hm : s.memOk) : (State.markEnd s j ok).memOk := by unfold State.markEnd; repeat' first | simp only [memOk_mk, ite_memOk, ite_snd_memOk, ite_fst_memOk] | with_reducible assumption | with_reducible apply State.afterErase_memOk | with_reducible apply State.eraseDone_memOk | with_reducible apply State.eraseGo_memOk | with_reducible apply State.flashFree_memOk | with_reducible apply State.mark_memOk | with_reducible apply State.p_memOk | with_reducible apply State.retire_memOk | with_reducible refine foldl_memOk _ _ _ (fun _ _ _ => ?_) ?_ | with_reducible refine And.intro ?_ ?_ | intro _ | split
theorem State.eraseEnd_memOk (s : State) (j : FlashJob) (t : Nat) (ok : Bool) (hm : s.memOk) : (State.eraseEnd s j t ok).memOk := by unfold State.eraseEnd; repeat' first | simp only [memOk_mk, ite_memOk, ite_snd_memOk, ite_fst_memOk] | with_reducible assumption | with_reducible apply State.afterErase_memOk | with_reducible apply State.flashClear_memOk | with_reducible apply State.flashFree_memOk | with_reducible apply State.retire_memOk | with_reducible apply State.updateFail_memOk | with_reducible apply State.xspi_memOk | with_reducible refine foldl_memOk _ _ _ (fun _ _ _ => ?_) ?_ | with_reducible refine And.intro ?_ ?_ | intro _ | split
theorem State.afterProgram_memOk (s : State) (j : FlashJob) (hm : s.memOk) : (State.afterProgram s j).memOk := by unfold State.afterProgram; repeat' first | simp only [memOk_mk, ite_memOk, ite_snd_memOk, ite_fst_memOk] | with_reducible assumption | with_reducible apply State.commit_memOk | with_reducible apply State.flashAsk_memOk | with_reducible apply State.gazTaken_memOk | with_reducible apply State.updateDone_memOk | with_reducible refine foldl_memOk _ _ _ (fun _ _ _ => ?_) ?_ | with_reducible refine And.intro ?_ ?_ | intro _ | split
theorem State.pageGo_memOk (s : State) (j : FlashJob) (hm : s.memOk) : (State.pageGo s j).memOk := by unfold State.pageGo; repeat' first | simp only [memOk_mk, ite_memOk, ite_snd_memOk, ite_fst_memOk] | with_reducible assumption | with_reducible apply State.afterProgram_memOk | with_reducible apply State.flashFree_memOk | with_reducible apply State.flashWrite_memOk | with_reducible apply State.xspi_memOk | with_reducible refine foldl_memOk _ _ _ (fun _ _ _ => ?_) ?_ | with_reducible refine And.intro ?_ ?_ | intro _ | split
theorem State.pageEnd_memOk (s : State) (j : FlashJob) (ok : Bool) (hm : s.memOk) : (State.pageEnd s j ok).memOk := by unfold State.pageEnd; repeat' first | simp only [memOk_mk, ite_memOk, ite_snd_memOk, ite_fst_memOk] | with_reducible assumption | with_reducible apply State.flashFree_memOk | with_reducible apply State.pageGo_memOk | with_reducible apply State.retire_memOk | with_reducible apply State.updateFail_memOk | with_reducible refine foldl_memOk _ _ _ (fun _ _ _ => ?_) ?_ | with_reducible refine And.intro ?_ ?_ | intro _ | split

/-! ### FabLink -/

theorem State.alignRise_memOk (s : State) (hm : s.memOk) : (State.alignRise s).memOk := hm
theorem State.alignFall_memOk (s : State) (hm : s.memOk) : (State.alignFall s).memOk := by unfold State.alignFall; repeat' first | simp only [memOk_mk, ite_memOk, ite_snd_memOk, ite_fst_memOk] | with_reducible assumption | with_reducible apply State.p_memOk | with_reducible apply State.raise_memOk | with_reducible refine foldl_memOk _ _ _ (fun _ _ _ => ?_) ?_ | with_reducible refine And.intro ?_ ?_ | intro _ | split
theorem State.flood_memOk (s : State) (id : Nat) (x : Lsr) (skip : Nat) (hm : s.memOk) : (State.flood s id x skip).memOk := by unfold State.flood; repeat' first | simp only [memOk_mk, ite_memOk, ite_snd_memOk, ite_fst_memOk] | with_reducible assumption | with_reducible apply State.linkSend_memOk | with_reducible apply State.p_memOk | with_reducible refine foldl_memOk _ _ _ (fun _ _ _ => ?_) ?_ | with_reducible refine And.intro ?_ ?_ | intro _ | split
theorem State.viewPut_memOk (s : State) (id : Nat) (x : Lsr) (hm : s.memOk) : (State.viewPut s id x).memOk := hm
theorem State.originate_memOk (s : State) (hm : s.memOk) : (State.originate s).memOk := by unfold State.originate; repeat' first | simp only [memOk_mk, ite_memOk, ite_snd_memOk, ite_fst_memOk] | with_reducible assumption | with_reducible apply State.flood_memOk | with_reducible apply State.viewPut_memOk | with_reducible refine foldl_memOk _ _ _ (fun _ _ _ => ?_) ?_ | with_reducible refine And.intro ?_ ?_ | intro _ | split
theorem State.linkRecord_memOk (s : State) (p kind cause lanes : Nat) (hm : s.memOk) : (State.linkRecord s p kind cause lanes).memOk := by unfold State.linkRecord; repeat' first | simp only [memOk_mk, ite_memOk, ite_snd_memOk, ite_fst_memOk] | with_reducible assumption | with_reducible apply State.p_memOk | with_reducible apply State.record_memOk | with_reducible refine foldl_memOk _ _ _ (fun _ _ _ => ?_) ?_ | with_reducible refine And.intro ?_ ?_ | intro _ | split
theorem State.lanesIdle_memOk (s : State) (p v : Nat) (hm : s.memOk) : (State.lanesIdle s p v).memOk := hm
theorem State.holdPort_memOk (s : State) (p cause : Nat) (until? : Option Nat) (hm : s.memOk) : (State.holdPort s p cause until?).memOk := by unfold State.holdPort; repeat' first | simp only [memOk_mk, ite_memOk, ite_snd_memOk, ite_fst_memOk] | with_reducible assumption | with_reducible apply State.lanesIdle_memOk | with_reducible apply State.linkRecord_memOk | with_reducible apply State.p_memOk | with_reducible apply State.pk_memOk | with_reducible apply State.raise_memOk | with_reducible apply State.setPort_memOk | with_reducible refine foldl_memOk _ _ _ (fun _ _ _ => ?_) ?_ | with_reducible refine And.intro ?_ ?_ | intro _ | split
theorem State.leaveFabric_memOk (s : State) (result : Nat) (hm : s.memOk) : (State.leaveFabric s result).memOk := by unfold State.leaveFabric; repeat' first | simp only [memOk_mk, ite_memOk, ite_snd_memOk, ite_fst_memOk] | with_reducible assumption | with_reducible apply State.alignFall_memOk | with_reducible apply State.holdPort_memOk | with_reducible apply State.p_memOk | with_reducible apply State.raise_memOk | with_reducible apply State.record_memOk | with_reducible apply State.result_memOk | with_reducible apply State.setPort_memOk | with_reducible refine foldl_memOk _ _ _ (fun _ _ _ => ?_) ?_ | with_reducible refine And.intro ?_ ?_ | intro _ | split
theorem State.discFail_memOk (s : State) (result : Nat) (hm : s.memOk) : (State.discFail s result).memOk := by unfold State.discFail; repeat' first | simp only [memOk_mk, ite_memOk, ite_snd_memOk, ite_fst_memOk] | with_reducible assumption | with_reducible apply State.fabAlone_memOk | with_reducible apply State.leaveFabric_memOk | with_reducible apply State.p_memOk | with_reducible apply State.raise_memOk | with_reducible apply State.result_memOk | with_reducible refine foldl_memOk _ _ _ (fun _ _ _ => ?_) ?_ | with_reducible refine And.intro ?_ ?_ | intro _ | split
theorem State.elect_memOk (s : State) (hm : s.memOk) : (State.elect s).memOk := by unfold State.elect; repeat' first | simp only [memOk_mk, ite_memOk, ite_snd_memOk, ite_fst_memOk] | with_reducible assumption | with_reducible apply State.linkSend_memOk | with_reducible apply State.p_memOk | with_reducible refine foldl_memOk _ _ _ (fun _ _ _ => ?_) ?_ | with_reducible refine And.intro ?_ ?_ | intro _ | split
theorem State.discBegin_memOk (s : State) (hm : s.memOk) : (State.discBegin s).memOk := by unfold State.discBegin; repeat' first | simp only [memOk_mk, ite_memOk, ite_snd_memOk, ite_fst_memOk] | with_reducible assumption | with_reducible apply State.elect_memOk | with_reducible apply State.originate_memOk | with_reducible apply State.p_memOk | with_reducible refine foldl_memOk _ _ _ (fun _ _ _ => ?_) ?_ | with_reducible refine And.intro ?_ ?_ | intro _ | split
theorem State.trainingEnd_memOk (s : State) (hm : s.memOk) : (State.trainingEnd s).memOk := by unfold State.trainingEnd; repeat' first | simp only [memOk_mk, ite_memOk, ite_snd_memOk, ite_fst_memOk] | with_reducible assumption | with_reducible apply State.discBegin_memOk | with_reducible apply State.fabAlone_memOk | with_reducible apply State.p_memOk | with_reducible apply State.stageBegin_memOk | with_reducible apply State.stageEndAt_memOk | with_reducible refine foldl_memOk _ _ _ (fun _ _ _ => ?_) ?_ | with_reducible refine And.intro ?_ ?_ | intro _ | split
theorem State.trainingCheck_memOk (s : State) (hm : s.memOk) : (State.trainingCheck s).memOk := by unfold State.trainingCheck; repeat' first | simp only [memOk_mk, ite_memOk, ite_snd_memOk, ite_fst_memOk] | with_reducible assumption | with_reducible apply State.p_memOk | with_reducible apply State.trainingEnd_memOk | with_reducible refine foldl_memOk _ _ _ (fun _ _ _ => ?_) ?_ | with_reducible refine And.intro ?_ ?_ | intro _ | split
theorem State.cutParcel_memOk (s : State) (p : Nat) (hm : s.memOk) : (State.cutParcel s p).memOk := by unfold State.cutParcel; repeat' first | simp only [memOk_mk, ite_memOk, ite_snd_memOk, ite_fst_memOk] | with_reducible assumption | with_reducible apply State.bump_memOk | with_reducible apply State.flitSeq_memOk | with_reducible apply State.p_memOk | with_reducible apply State.setPort_memOk | with_reducible refine foldl_memOk _ _ _ (fun _ _ _ => ?_) ?_ | with_reducible refine And.intro ?_ ?_ | intro _ | split
theorem State.linkFail_memOk (s : State) (p cause : Nat) (hm : s.memOk) : (State.linkFail s p cause).memOk := by unfold State.linkFail; repeat' first | simp only [memOk_mk, ite_memOk, ite_snd_memOk, ite_fst_memOk] | with_reducible assumption | with_reducible apply State.alignFall_memOk | with_reducible apply State.bumpk_memOk | with_reducible apply State.cutParcel_memOk | with_reducible apply State.holdPort_memOk | with_reducible apply State.lanesIdle_memOk | with_reducible apply State.linkRecord_memOk | with_reducible apply State.originate_memOk | with_reducible apply State.p_memOk | with_reducible apply State.pk_memOk | with_reducible apply State.raise_memOk | with_reducible apply State.setPort_memOk | with_reducible refine foldl_memOk _ _ _ (fun _ _ _ => ?_) ?_ | with_reducible refine And.intro ?_ ?_ | intro _ | split

/-! ### Boot -/

theorem State.dramFail_memOk (s : State) (hm : s.memOk) : (State.dramFail s).memOk := by unfold State.dramFail; repeat' first | simp only [memOk_mk, ite_memOk, ite_snd_memOk, ite_fst_memOk] | with_reducible assumption | with_reducible apply State.faultMode_memOk | with_reducible apply State.unloadAll_memOk | with_reducible refine foldl_memOk _ _ _ (fun _ _ _ => ?_) ?_ | with_reducible refine And.intro ?_ ?_ | intro _ | split
theorem State.bistFail_memOk (s : State) (hm : s.memOk) : (State.bistFail s).memOk := by unfold State.bistFail; repeat' first | simp only [memOk_mk, ite_memOk, ite_snd_memOk, ite_fst_memOk] | with_reducible assumption | with_reducible apply State.bistRecord_memOk | with_reducible apply State.faultMode_memOk | with_reducible apply State.p_memOk | with_reducible apply State.result_memOk | with_reducible refine foldl_memOk _ _ _ (fun _ _ _ => ?_) ?_ | with_reducible refine And.intro ?_ ?_ | intro _ | split
theorem State.stageExit_memOk (s : State) (x0 : Stage) (hm : s.memOk) : (State.stageExit s x0).memOk := by unfold State.stageExit; repeat' first | simp only [memOk_mk, ite_memOk, ite_snd_memOk, ite_fst_memOk] | with_reducible assumption | with_reducible apply State.bistFail_memOk | with_reducible apply State.chartAbsent_memOk | with_reducible apply State.discFail_memOk | with_reducible apply State.dramFail_memOk | with_reducible apply State.enterReset_memOk | with_reducible apply State.headsStageEnd_memOk | with_reducible apply State.outOfService_memOk | with_reducible apply State.spindleFail_memOk | with_reducible apply State.trainingEnd_memOk | with_reducible refine foldl_memOk _ _ _ (fun _ _ _ => ?_) ?_ | with_reducible refine And.intro ?_ ?_ | intro _ | split
theorem State.consumeJournals_memOk (s : State) (hm : s.memOk) : (State.consumeJournals s).memOk := by unfold State.consumeJournals; repeat' first | simp only [memOk_mk, ite_memOk, ite_snd_memOk, ite_fst_memOk] | with_reducible assumption | with_reducible apply State.complete_memOk | with_reducible apply State.flashAsk_memOk | with_reducible refine foldl_memOk _ _ _ (fun _ _ _ => ?_) ?_ | with_reducible refine And.intro ?_ ?_ | intro _ | split
theorem State.burnEpoch_memOk (s : State) (hm : s.memOk) : (State.burnEpoch s).memOk := by unfold State.burnEpoch; repeat' first | simp only [memOk_mk, ite_memOk, ite_snd_memOk, ite_fst_memOk] | with_reducible assumption | with_reducible apply State.p_memOk | with_reducible apply State.raise_memOk | with_reducible refine foldl_memOk _ _ _ (fun _ _ _ => ?_) ?_ | with_reducible refine And.intro ?_ ?_ | intro _ | split
theorem State.burnLock_memOk (s : State) (hm : s.memOk) : (State.burnLock s).memOk := by unfold State.burnLock; repeat' first | simp only [memOk_mk, ite_memOk, ite_snd_memOk, ite_fst_memOk] | with_reducible assumption | with_reducible apply State.p_memOk | with_reducible refine foldl_memOk _ _ _ (fun _ _ _ => ?_) ?_ | with_reducible refine And.intro ?_ ?_ | intro _ | split
theorem State.spanShort_memOk (s : State) (n reason : Nat) (hm : s.memOk) : (State.spanShort s n reason).memOk := by unfold State.spanShort; repeat' first | simp only [memOk_mk, ite_memOk, ite_snd_memOk, ite_fst_memOk] | with_reducible assumption | with_reducible apply State.raise_memOk | with_reducible apply State.record_memOk | with_reducible apply State.setMed_memOk | with_reducible refine foldl_memOk _ _ _ (fun _ _ _ => ?_) ?_ | with_reducible refine And.intro ?_ ?_ | intro _ | split
theorem State.reserveSpan_memOk (s : State) (n : Nat) (hm : s.memOk) : (State.reserveSpan s n).memOk := by unfold State.reserveSpan; repeat' first | simp only [memOk_mk, ite_memOk, ite_snd_memOk, ite_fst_memOk] | with_reducible assumption | with_reducible apply State.setMed_memOk | with_reducible apply State.spanShort_memOk | with_reducible refine foldl_memOk _ _ _ (fun _ _ _ => ?_) ?_ | with_reducible refine And.intro ?_ ?_ | intro _ | split
theorem State.calRestart_memOk (s : State) (hm : s.memOk) : (State.calRestart s).memOk := hm
theorem State.enterReady_memOk (s : State) (hm : s.memOk) : (State.enterReady s).memOk := by unfold State.enterReady; repeat' first | simp only [memOk_mk, ite_memOk, ite_snd_memOk, ite_fst_memOk] | with_reducible assumption | with_reducible apply State.peerAdd_memOk | with_reducible apply State.burnEpoch_memOk | with_reducible apply State.burnLock_memOk | with_reducible apply State.calRestart_memOk | with_reducible apply State.consumeJournals_memOk | with_reducible apply State.p_memOk | with_reducible apply State.pk_memOk | with_reducible apply State.raise_memOk | with_reducible apply State.record_memOk | with_reducible apply State.reserveSpan_memOk | with_reducible refine foldl_memOk _ _ _ (fun _ _ _ => ?_) ?_ | with_reducible refine And.intro ?_ ?_ | intro _ | split
theorem State.hostReset_memOk (s : State) (hm : s.memOk) : (State.hostReset s).memOk := by unfold State.hostReset; repeat' first | simp only [memOk_mk, ite_memOk, ite_snd_memOk, ite_fst_memOk] | with_reducible assumption | with_reducible apply State.gateDropAll_memOk | with_reducible apply State.journalWrite_memOk | with_reducible apply State.raise_memOk | with_reducible apply State.unloadAll_memOk | with_reducible apply ih | with_reducible refine foldl_memOk _ _ _ (fun _ _ _ => ?_) ?_ | with_reducible refine And.intro ?_ ?_ | intro _ | split

/-! ### AdmVol -/

theorem State.volManage_memOk (s : State) (slot action : Nat) (used : List (Nat × Nat)) (checks : Cmd → List (Bool × Nat)) (f : Cmd → State → State) (h_f : ∀ (y0 : Cmd) (y1 : State), y1.memOk → (f y0 y1).memOk) (hm : s.memOk) : (State.volManage s slot action used checks f).memOk := by unfold State.volManage; repeat' first | simp only [memOk_mk, ite_memOk, ite_snd_memOk, ite_fst_memOk] | with_reducible assumption | with_reducible apply State.adminPlain_memOk | with_reducible apply State.complete_memOk | with_reducible apply h_f | with_reducible refine foldl_memOk _ _ _ (fun _ _ _ => ?_) ?_ | with_reducible refine And.intro ?_ ?_ | intro _ | split
theorem State.volRemove_memOk (s : State) (v : Nat) (hm : s.memOk) : (State.volRemove s v).memOk := hm
theorem State.spanManage_memOk (s : State) (slot action : Nat) (checks : Cmd → List (Bool × Nat)) (f : Cmd → State → State) (h_f : ∀ (y0 : Cmd) (y1 : State), y1.memOk → (f y0 y1).memOk) (hm : s.memOk) : (State.spanManage s slot action checks f).memOk := by unfold State.spanManage; repeat' first | simp only [memOk_mk, ite_memOk, ite_snd_memOk, ite_fst_memOk] | with_reducible assumption | with_reducible apply State.adminPlain_memOk | with_reducible apply State.complete_memOk | with_reducible apply h_f | with_reducible refine foldl_memOk _ _ _ (fun _ _ _ => ?_) ?_ | with_reducible refine And.intro ?_ ?_ | intro _ | split
theorem State.putKey_memOk (s : State) (v : Nat) (b : List Byte) (hm : s.memOk) : (State.putKey s v b).memOk := hm
theorem State.powerCmd_memOk (s : State) (slot target : Nat) (f : State → State) (h_f : ∀ (y0 : State), y0.memOk → (f y0).memOk) (hm : s.memOk) : (State.powerCmd s slot target f).memOk := by unfold State.powerCmd; repeat' first | simp only [memOk_mk, ite_memOk, ite_snd_memOk, ite_fst_memOk] | with_reducible assumption | with_reducible apply State.adminPlain_memOk | with_reducible apply h_f | with_reducible refine foldl_memOk _ _ _ (fun _ _ _ => ?_) ?_ | with_reducible refine And.intro ?_ ?_ | intro _ | split

/-! ### AdmChart -/

theorem State.askAll_memOk (s : State) (l : List FlashJob) (hm : s.memOk) : (State.askAll s l).memOk := by unfold State.askAll; repeat' first | simp only [memOk_mk, ite_memOk, ite_snd_memOk, ite_fst_memOk] | with_reducible assumption | with_reducible apply State.flashAsk_memOk | with_reducible refine foldl_memOk _ _ _ (fun _ _ _ => ?_) ?_ | with_reducible refine And.intro ?_ ?_ | intro _ | split
theorem State.chartData_memOk (s : State) (slot off : Nat) (b : List Byte) (hm : s.memOk) : (State.chartData s slot off b).memOk := by unfold State.chartData; repeat' first | simp only [memOk_mk, ite_memOk, ite_snd_memOk, ite_fst_memOk] | with_reducible assumption | with_reducible apply State.askAll_memOk | with_reducible apply State.p_memOk | with_reducible refine foldl_memOk _ _ _ (fun _ _ _ => ?_) ?_ | with_reducible refine And.intro ?_ ?_ | intro _ | split

/-! ### AdmTun -/

theorem State.setTunable_memOk (s : State) (slot : Nat) (c : Cmd) (hm : s.memOk) : (State.setTunable s slot c).memOk := by unfold State.setTunable; repeat' first | simp only [memOk_mk, ite_memOk, ite_snd_memOk, ite_fst_memOk] | with_reducible assumption | with_reducible apply State.complete_memOk | with_reducible refine foldl_memOk _ _ _ (fun _ _ _ => ?_) ?_ | with_reducible refine And.intro ?_ ?_ | intro _ | split

/-! ### Channel -/

theorem State.setChn_memOk (s : State) (k : Nat) (f : Chan → Chan) (hm : s.memOk) : (State.setChn s k f).memOk := hm
theorem State.setHd_memOk (s : State) (h : Nat) (f : HeadCtx → HeadCtx) (hm : s.memOk) : (State.setHd s h f).memOk := hm
theorem State.disableHead_memOk (s : State) (h : Nat) (hm : s.memOk) : (State.disableHead s h).memOk := by unfold State.disableHead; repeat' first | simp only [memOk_mk, ite_memOk, ite_snd_memOk, ite_fst_memOk] | with_reducible assumption | with_reducible apply State.failWrites_memOk | with_reducible apply State.raise_memOk | with_reducible apply State.setHd_memOk | with_reducible refine foldl_memOk _ _ _ (fun _ _ _ => ?_) ?_ | with_reducible refine And.intro ?_ ?_ | intro _ | split
theorem State.linkFailure_memOk (s : State) (k : Nat) (hm : s.memOk) : (State.linkFailure s k).memOk := by unfold State.linkFailure; repeat' first | simp only [memOk_mk, ite_memOk, ite_snd_memOk, ite_fst_memOk] | with_reducible assumption | with_reducible apply State.epark_memOk | with_reducible apply State.gateDrop_memOk | with_reducible apply State.headsStageEnd_memOk | with_reducible apply State.pk_memOk | with_reducible apply State.raise_memOk | with_reducible apply State.withdraw_memOk | with_reducible refine foldl_memOk _ _ _ (fun _ _ _ => ?_) ?_ | with_reducible refine And.intro ?_ ?_ | intro _ | split
theorem State.contact_memOk (s : State) (k h : Nat) (hm : s.memOk) : (State.contact s k h).memOk := by unfold State.contact; repeat' first | simp only [memOk_mk, ite_memOk, ite_snd_memOk, ite_fst_memOk] | with_reducible assumption | with_reducible apply State.fresh_memOk | with_reducible apply State.gateDrop_memOk | with_reducible apply State.loopHold_memOk | with_reducible apply State.pk_memOk | with_reducible apply State.raise_memOk | with_reducible apply State.setHd_memOk | with_reducible apply State.zeroHeater_memOk | with_reducible apply ih | with_reducible refine foldl_memOk _ _ _ (fun _ _ _ => ?_) ?_ | with_reducible refine And.intro ?_ ?_ | intro _ | split
theorem State.linkWait_memOk (s : State) (k : Nat) (f : LFrame) (hm : s.memOk) : (State.linkWait s k f).memOk := hm
theorem State.linkEmit_memOk (s : State) (k : Nat) (f : LFrame) (hm : s.memOk) : (State.linkEmit s k f).memOk := hm
theorem State.linkWrite_memOk (s : State) (k : Nat) (f : LFrame) (hm : s.memOk) : (State.linkWrite s k f).memOk := by unfold State.linkWrite; repeat' first | simp only [memOk_mk, ite_memOk, ite_snd_memOk, ite_fst_memOk] | with_reducible assumption | with_reducible apply State.linkEmit_memOk | with_reducible apply State.linkWait_memOk | with_reducible refine foldl_memOk _ _ _ (fun _ _ _ => ?_) ?_ | with_reducible refine And.intro ?_ ?_ | intro _ | split
theorem State.linkEdge_memOk (s : State) (k : Nat) (hm : s.memOk) : (State.linkEdge s k).memOk := by unfold State.linkEdge; repeat' first | simp only [memOk_mk, ite_memOk, ite_snd_memOk, ite_fst_memOk] | with_reducible assumption | with_reducible apply State.fresh_memOk | with_reducible apply State.linkWait_memOk | with_reducible apply State.linkWrite_memOk | with_reducible apply State.setChn_memOk | with_reducible apply State.setHd_memOk | with_reducible refine foldl_memOk _ _ _ (fun _ _ _ => ?_) ?_ | with_reducible refine And.intro ?_ ?_ | intro _ | split
theorem State.linkError_memOk (s : State) (k : Nat) (f : LFrame) (hm : s.memOk) : (State.linkError s k f).memOk := by unfold State.linkError; repeat' first | simp only [memOk_mk, ite_memOk, ite_snd_memOk, ite_fst_memOk] | with_reducible assumption | with_reducible apply State.bumpk_memOk | with_reducible apply State.linkFailure_memOk | with_reducible apply State.setChn_memOk | with_reducible refine foldl_memOk _ _ _ (fun _ _ _ => ?_) ?_ | with_reducible refine And.intro ?_ ?_ | intro _ | split
theorem State.statusRead_memOk (s : State) (k : Nat) (f : LFrame) (data : Nat) (hit : Bool) (hm : s.memOk) : (State.statusRead s k f data hit).memOk := by unfold State.statusRead; repeat' first | simp only [memOk_mk, ite_memOk, ite_snd_memOk, ite_fst_memOk] | with_reducible assumption | with_reducible apply State.contact_memOk | with_reducible apply State.pk_memOk | with_reducible apply State.setChn_memOk | with_reducible refine foldl_memOk _ _ _ (fun _ _ _ => ?_) ?_ | with_reducible refine And.intro ?_ ?_ | intro _ | split
theorem State.sideband_memOk (s : State) (k : Nat) (F : Fld) (v : Option Nat) (hm : s.memOk) : (State.sideband s k F v).memOk := by unfold State.sideband; repeat' first | simp only [memOk_mk, ite_memOk, ite_snd_memOk, ite_fst_memOk] | with_reducible assumption | with_reducible apply State.bumpk_memOk | with_reducible apply State.pk_memOk | with_reducible apply State.raise_memOk | with_reducible apply State.setChn_memOk | with_reducible refine foldl_memOk _ _ _ (fun _ _ _ => ?_) ?_ | with_reducible refine And.intro ?_ ?_ | intro _ | split
theorem State.sidebandGo_memOk (s : State) (k : Nat) (hm : s.memOk) : (State.sidebandGo s k).memOk := by unfold State.sidebandGo; repeat' first | simp only [memOk_mk, ite_memOk, ite_snd_memOk, ite_fst_memOk] | with_reducible assumption | with_reducible apply State.emit_memOk | with_reducible refine foldl_memOk _ _ _ (fun _ _ _ => ?_) ?_ | with_reducible refine And.intro ?_ ?_ | intro _ | split
theorem State.sidebandGot_memOk (s : State) (k : Nat) (id : Option (BitVec 16)) (temp : Option (BitVec 8)) (hm : s.memOk) : (State.sidebandGot s k id temp).memOk := by unfold State.sidebandGot; repeat' first | simp only [memOk_mk, ite_memOk, ite_snd_memOk, ite_fst_memOk] | with_reducible assumption | with_reducible apply State.sideband_memOk | with_reducible refine foldl_memOk _ _ _ (fun _ _ _ => ?_) ?_ | with_reducible refine And.intro ?_ ?_ | intro _ | split
theorem State.chanLoop_memOk (s : State) (k : Nat) (x : Option ChanSums) (hm : s.memOk) : (State.chanLoop s k x).memOk := by unfold State.chanLoop; repeat' first | simp only [memOk_mk, ite_memOk, ite_snd_memOk, ite_fst_memOk] | with_reducible assumption | with_reducible apply State.loopStep_memOk | with_reducible apply State.setHd_memOk | with_reducible refine foldl_memOk _ _ _ (fun _ _ _ => ?_) ?_ | with_reducible refine And.intro ?_ ?_ | intro _ | split
theorem State.loopIdle_memOk (s : State) (l : Nat) (hm : s.memOk) : (State.loopIdle s l).memOk := hm
theorem State.setHeater_memOk (s : State) (k h v : Nat) (hm : s.memOk) : (State.setHeater s k h v).memOk := by unfold State.setHeater; repeat' first | simp only [memOk_mk, ite_memOk, ite_snd_memOk, ite_fst_memOk] | with_reducible assumption | with_reducible apply State.pk_memOk | with_reducible apply State.setChn_memOk | with_reducible refine foldl_memOk _ _ _ (fun _ _ _ => ?_) ?_ | with_reducible refine And.intro ?_ ?_ | intro _ | split
theorem State.flyLoop_memOk (s : State) (k : Nat) (hm : s.memOk) : (State.flyLoop s k).memOk := by unfold State.flyLoop; repeat' first | simp only [memOk_mk, ite_memOk, ite_snd_memOk, ite_fst_memOk] | with_reducible assumption | with_reducible apply State.loopStep_memOk | with_reducible apply State.setHeater_memOk | with_reducible refine foldl_memOk _ _ _ (fun _ _ _ => ?_) ?_ | with_reducible refine And.intro ?_ ?_ | intro _ | split
theorem State.clearance_memOk (s : State) (k : Nat) (x : Option ClearIn) (hm : s.memOk) : (State.clearance s k x).memOk := by unfold State.clearance; repeat' first | simp only [memOk_mk, ite_memOk, ite_snd_memOk, ite_fst_memOk] | with_reducible assumption | with_reducible apply State.pk_memOk | with_reducible apply State.setHd_memOk | with_reducible refine foldl_memOk _ _ _ (fun _ _ _ => ?_) ?_ | with_reducible refine And.intro ?_ ?_ | intro _ | split
theorem State.flyHead_memOk (s : State) (h : Nat) (hm : s.memOk) : (State.flyHead s h).memOk := by unfold State.flyHead; repeat' first | simp only [memOk_mk, ite_memOk, ite_snd_memOk, ite_fst_memOk] | with_reducible assumption | with_reducible apply State.contact_memOk | with_reducible apply State.flyLoop_memOk | with_reducible apply State.loopHold_memOk | with_reducible apply State.loopIdle_memOk | with_reducible apply State.zeroHeater_memOk | with_reducible refine foldl_memOk _ _ _ (fun _ _ _ => ?_) ?_ | with_reducible refine And.intro ?_ ?_ | intro _ | split
theorem State.testHead_memOk (s : State) (h code : Nat) (ok : Bool) (hm : s.memOk) : (State.testHead s h code ok).memOk := by unfold State.testHead; repeat' first | simp only [memOk_mk, ite_memOk, ite_snd_memOk, ite_fst_memOk] | with_reducible assumption | with_reducible refine foldl_memOk _ _ _ (fun _ _ _ => ?_) ?_ | with_reducible refine And.intro ?_ ?_ | intro _ | split
theorem State.calFail_memOk (s : State) (k h : Nat) (hm : s.memOk) : (State.calFail s k h).memOk := by unfold State.calFail; repeat' first | simp only [memOk_mk, ite_memOk, ite_snd_memOk, ite_fst_memOk] | with_reducible assumption | with_reducible apply State.headsStageEnd_memOk | with_reducible apply State.outOfService_memOk | with_reducible apply State.setChn_memOk | with_reducible apply State.testHead_memOk | with_reducible apply State.zeroHeater_memOk | with_reducible refine foldl_memOk _ _ _ (fun _ _ _ => ?_) ?_ | with_reducible refine And.intro ?_ ?_ | intro _ | split
theorem State.calPass_memOk (s : State) (k h ptd : Nat) (x : CalIn) (hm : s.memOk) : (State.calPass s k h ptd x).memOk := by unfold State.calPass; repeat' first | simp only [memOk_mk, ite_memOk, ite_snd_memOk, ite_fst_memOk] | with_reducible assumption | with_reducible apply State.headsStageEnd_memOk | with_reducible apply State.pk_memOk | with_reducible apply State.setAct_memOk | with_reducible apply State.setChn_memOk | with_reducible apply State.setHd_memOk | with_reducible apply State.testHead_memOk | with_reducible apply State.zeroHeater_memOk | with_reducible refine foldl_memOk _ _ _ (fun _ _ _ => ?_) ?_ | with_reducible refine And.intro ?_ ?_ | intro _ | split
theorem State.configFrames_memOk (s : State) (k h : Nat) (hm : s.memOk) : (State.configFrames s k h).memOk := hm
theorem State.calTouch_memOk (s : State) (k h : Nat) (x : CalIn) (hm : s.memOk) : (State.calTouch s k h x).memOk := by unfold State.calTouch; repeat' first | simp only [memOk_mk, ite_memOk, ite_snd_memOk, ite_fst_memOk] | with_reducible assumption | with_reducible apply State.calFail_memOk | with_reducible apply State.setChn_memOk | with_reducible apply State.sidebandGot_memOk | with_reducible refine foldl_memOk _ _ _ (fun _ _ _ => ?_) ?_ | with_reducible refine And.intro ?_ ?_ | intro _ | split

/-! ### BistTap -/

theorem State.setTap_memOk (s : State) (t : Tap) (hm : s.memOk) : (State.setTap s t).memOk := hm
theorem State.tapBypass_memOk (s : State) (op : Nat) (hm : s.memOk) : (State.tapBypass s op).memOk := hm
theorem State.tapDrive_memOk (s : State) (op : Nat) (f : Tap → Tap) (hm : s.memOk) : (State.tapDrive s op f).memOk := by unfold State.tapDrive; repeat' first | simp only [memOk_mk, ite_memOk, ite_snd_memOk, ite_fst_memOk] | with_reducible assumption | with_reducible apply State.setTap_memOk | with_reducible apply State.tapBypass_memOk | with_reducible refine foldl_memOk _ _ _ (fun _ _ _ => ?_) ?_ | with_reducible refine And.intro ?_ ?_ | intro _ | split
theorem State.tapTest_memOk (s : State) (op cells pins : Nat) (hm : s.memOk) : (State.tapTest s op cells pins).memOk := by unfold State.tapTest; repeat' first | simp only [memOk_mk, ite_memOk, ite_snd_memOk, ite_fst_memOk] | with_reducible assumption | with_reducible apply State.tapDrive_memOk | with_reducible refine foldl_memOk _ _ _ (fun _ _ _ => ?_) ?_ | with_reducible refine And.intro ?_ ?_ | intro _ | split
theorem State.dbgCtl_memOk (s : State) (openIt : Bool) (key : Nat) (hm : s.memOk) : (State.dbgCtl s openIt key).memOk := by unfold State.dbgCtl; repeat' first | simp only [memOk_mk, ite_memOk, ite_snd_memOk, ite_fst_memOk] | with_reducible assumption | with_reducible apply State.p_memOk | with_reducible apply State.raise_memOk | with_reducible refine foldl_memOk _ _ _ (fun _ _ _ => ?_) ?_ | with_reducible refine And.intro ?_ ?_ | intro _ | split
theorem State.dbgBad_memOk (s : State) (hm : s.memOk) : (State.dbgBad s).memOk := by unfold State.dbgBad; repeat' first | simp only [memOk_mk, ite_memOk, ite_snd_memOk, ite_fst_memOk] | with_reducible assumption | with_reducible apply State.hwSet_memOk | with_reducible apply State.p_memOk | with_reducible apply State.raise_memOk | with_reducible refine foldl_memOk _ _ _ (fun _ _ _ => ?_) ?_ | with_reducible refine And.intro ?_ ?_ | intro _ | split
theorem State.dbgRead_memOk (s : State) (i : Nat) (hm : s.memOk) : ((State.dbgRead s i).2).memOk := by unfold State.dbgRead; repeat' first | simp only [memOk_mk, ite_memOk, ite_snd_memOk, ite_fst_memOk] | with_reducible assumption | with_reducible apply State.dbgBad_memOk | with_reducible refine foldl_memOk _ _ _ (fun _ _ _ => ?_) ?_ | with_reducible refine And.intro ?_ ?_ | intro _ | split
theorem State.dbgWrite_memOk (s : State) (i v : Nat) (hm : s.memOk) : (State.dbgWrite s i v).memOk := by unfold State.dbgWrite; repeat' first | simp only [memOk_mk, ite_memOk, ite_snd_memOk, ite_fst_memOk] | with_reducible assumption | with_reducible apply State.bufWrite_memOk | with_reducible apply State.bump_memOk | with_reducible apply State.dbgBad_memOk | with_reducible refine foldl_memOk _ _ _ (fun _ _ _ => ?_) ?_ | with_reducible refine And.intro ?_ ?_ | intro _ | split
theorem State.snapHost_memOk (s : State) (m : Nat) (hm : s.memOk) : (State.snapHost s m).memOk := by unfold State.snapHost; repeat' first | simp only [memOk_mk, ite_memOk, ite_snd_memOk, ite_fst_memOk] | with_reducible assumption | with_reducible apply State.snapArm_memOk | with_reducible refine foldl_memOk _ _ _ (fun _ _ _ => ?_) ?_ | with_reducible refine And.intro ?_ ?_ | intro _ | split

/-! ### Fabric -/

theorem State.replay_memOk (s : State) (p : Nat) (hm : s.memOk) : (State.replay s p).memOk := by unfold State.replay; repeat' first | simp only [memOk_mk, ite_memOk, ite_snd_memOk, ite_fst_memOk] | with_reducible assumption | with_reducible apply State.bumpk_memOk | with_reducible apply State.p_memOk | with_reducible apply State.raise_memOk | with_reducible apply State.setPort_memOk | with_reducible refine foldl_memOk _ _ _ (fun _ _ _ => ?_) ?_ | with_reducible refine And.intro ?_ ?_ | intro _ | split
theorem State.flitControl_memOk (s : State) (p : Nat) (f : FlitIn) (hm : s.memOk) : (State.flitControl s p f).memOk := by unfold State.flitControl; repeat' first | simp only [memOk_mk, ite_memOk, ite_snd_memOk, ite_fst_memOk] | with_reducible assumption | with_reducible apply State.drainPort_memOk | with_reducible apply State.flitPump_memOk | with_reducible apply State.flitReplay_memOk | with_reducible apply State.linkFail_memOk | with_reducible apply State.p_memOk | with_reducible apply State.replay_memOk | with_reducible apply State.setPort_memOk | with_reducible refine foldl_memOk _ _ _ (fun _ _ _ => ?_) ?_ | with_reducible refine And.intro ?_ ?_ | intro _ | split
theorem State.flitData_memOk (s : State) (p : Nat) (f : FlitIn) (hm : s.memOk) : (State.flitData s p f).memOk := by unfold State.flitData; repeat' first | simp only [memOk_mk, ite_memOk, ite_snd_memOk, ite_fst_memOk] | with_reducible assumption | with_reducible apply State.cutParcel_memOk | with_reducible apply State.owe_memOk | with_reducible apply State.p_memOk | with_reducible apply State.setPort_memOk | with_reducible refine foldl_memOk _ _ _ (fun _ _ _ => ?_) ?_ | with_reducible refine And.intro ?_ ?_ | intro _ | split
theorem State.flitAnswer_memOk (s : State) (p : Nat) (f : FlitIn) (hm : s.memOk) : (State.flitAnswer s p f).memOk := by unfold State.flitAnswer; repeat' first | simp only [memOk_mk, ite_memOk, ite_snd_memOk, ite_fst_memOk] | with_reducible assumption | with_reducible apply State.flitIdle_memOk | with_reducible apply State.p_memOk | with_reducible refine foldl_memOk _ _ _ (fun _ _ _ => ?_) ?_ | with_reducible refine And.intro ?_ ?_ | intro _ | split
theorem State.laneSet_memOk (s : State) (lane : Nat) (ctle dfe : Int) (hm : s.memOk) : (State.laneSet s lane ctle dfe).memOk := hm
theorem State.assign_memOk (s : State) (p : Nat) (hm : s.memOk) : (State.assign s p).memOk := by unfold State.assign; repeat' first | simp only [memOk_mk, ite_memOk, ite_snd_memOk, ite_fst_memOk] | with_reducible assumption | with_reducible apply State.linkSend_memOk | with_reducible apply State.p_memOk | with_reducible refine foldl_memOk _ _ _ (fun _ _ _ => ?_) ?_ | with_reducible refine And.intro ?_ ?_ | intro _ | split
theorem State.portRise_memOk (s : State) (p : Nat) (half : Bool) (lanes : List (Int × Int)) (hm : s.memOk) : (State.portRise s p half lanes).memOk := by unfold State.portRise; repeat' first | simp only [memOk_mk, ite_memOk, ite_snd_memOk, ite_fst_memOk] | with_reducible assumption | with_reducible apply State.assign_memOk | with_reducible apply State.discBegin_memOk | with_reducible apply State.laneSet_memOk | with_reducible apply State.lanesIdle_memOk | with_reducible apply State.linkRecord_memOk | with_reducible apply State.linkSend_memOk | with_reducible apply State.originate_memOk | with_reducible apply State.p_memOk | with_reducible apply State.pk_memOk | with_reducible apply State.raise_memOk | with_reducible apply State.setPort_memOk | with_reducible apply State.trainingCheck_memOk | with_reducible refine foldl_memOk _ _ _ (fun _ _ _ => ?_) ?_ | with_reducible refine And.intro ?_ ?_ | intro _ | split

/-! ### Recovery -/

theorem State.countClass_memOk (s : State) (k c : Nat) (hm : s.memOk) : (State.countClass s k c).memOk := hm
theorem State.refreshAdd_memOk (s : State) (k vol lba : Nat) (hm : s.memOk) : (State.refreshAdd s k vol lba).memOk := by unfold State.refreshAdd; repeat' first | simp only [memOk_mk, ite_memOk, ite_snd_memOk, ite_fst_memOk] | with_reducible assumption | with_reducible apply State.bump_memOk | with_reducible apply State.raise_memOk | with_reducible apply State.setChn_memOk | with_reducible refine foldl_memOk _ _ _ (fun _ _ _ => ?_) ?_ | with_reducible refine And.intro ?_ ?_ | intro _ | split
theorem State.relocRead_memOk (s : State) (j : RJob) (u : List Byte) (hm : s.memOk) : (State.relocRead s j u).memOk := hm
theorem State.scanned_memOk (s : State) (bad : Bool) (hm : s.memOk) : (State.scanned s bad).memOk := by unfold State.scanned; repeat' first | simp only [memOk_mk, ite_memOk, ite_snd_memOk, ite_fst_memOk] | with_reducible assumption | with_reducible refine foldl_memOk _ _ _ (fun _ _ _ => ?_) ?_ | with_reducible refine And.intro ?_ ?_ | intro _ | split
theorem State.sectorGood_memOk (s : State) (k loc cl : Nat) (j : RJob) (hm : s.memOk) : (State.sectorGood s k loc cl j).memOk := by unfold State.sectorGood; repeat' first | simp only [memOk_mk, ite_memOk, ite_snd_memOk, ite_fst_memOk] | with_reducible assumption | with_reducible apply State.failReader_memOk | with_reducible apply State.integrity_memOk | with_reducible apply State.modCmd_memOk | with_reducible apply State.modVol_memOk | with_reducible apply State.raise_memOk | with_reducible apply State.refreshAdd_memOk | with_reducible apply State.relocRead_memOk | with_reducible apply State.scanned_memOk | with_reducible apply State.setMed_memOk | with_reducible apply State.supply_memOk | with_reducible refine foldl_memOk _ _ _ (fun _ _ _ => ?_) ?_ | with_reducible refine And.intro ?_ ?_ | intro _ | split
theorem State.rcvRecord_memOk (s : State) (k : Nat) (v : Recov) (j : RJob) (by' how : Nat) (hm : s.memOk) : (State.rcvRecord s k v j by' how).memOk := by unfold State.rcvRecord; repeat' first | simp only [memOk_mk, ite_memOk, ite_snd_memOk, ite_fst_memOk] | with_reducible assumption | with_reducible apply State.occur_memOk | with_reducible apply State.record_memOk | with_reducible refine foldl_memOk _ _ _ (fun _ _ _ => ?_) ?_ | with_reducible refine And.intro ?_ ?_ | intro _ | split
theorem State.rcvDrop_memOk (s : State) (k loc : Nat) (hm : s.memOk) : (State.rcvDrop s k loc).memOk := hm
theorem State.unrecovered_memOk (s : State) (k : Nat) (v : Recov) (j : RJob) (hm : s.memOk) : (State.unrecovered s k v j).memOk := by unfold State.unrecovered; repeat' first | simp only [memOk_mk, ite_memOk, ite_snd_memOk, ite_fst_memOk] | with_reducible assumption | with_reducible apply State.bumpk_memOk | with_reducible apply State.failReader_memOk | with_reducible apply State.raise_memOk | with_reducible apply State.rcvDrop_memOk | with_reducible apply State.rcvRecord_memOk | with_reducible apply State.scanned_memOk | with_reducible apply State.setMed_memOk | with_reducible refine foldl_memOk _ _ _ (fun _ _ _ => ?_) ?_ | with_reducible refine And.intro ?_ ?_ | intro _ | split
theorem State.deadlineCut_memOk (s : State) (k : Nat) (v : Recov) (j : RJob) (slot : Nat) (hm : s.memOk) : (State.deadlineCut s k v j slot).memOk := by unfold State.deadlineCut; repeat' first | simp only [memOk_mk, ite_memOk, ite_snd_memOk, ite_fst_memOk] | with_reducible assumption | with_reducible apply State.bumpk_memOk | with_reducible apply State.endIo_memOk | with_reducible apply State.raise_memOk | with_reducible apply State.rcvDrop_memOk | with_reducible apply State.rcvRecord_memOk | with_reducible refine foldl_memOk _ _ _ (fun _ _ _ => ?_) ?_ | with_reducible refine And.intro ?_ ?_ | intro _ | split
theorem State.reSeat_memOk (s : State) (k : Nat) (a : Adj) (hm : s.memOk) : (State.reSeat s k a).memOk := by unfold State.reSeat; repeat' first | simp only [memOk_mk, ite_memOk, ite_snd_memOk, ite_fst_memOk] | with_reducible assumption | with_reducible apply State.orderSeek_memOk | with_reducible refine foldl_memOk _ _ _ (fun _ _ _ => ?_) ?_ | with_reducible refine And.intro ?_ ?_ | intro _ | split
theorem State.stepStart_memOk (s : State) (k : Nat) (v : Recov) (hm : s.memOk) : (State.stepStart s k v).memOk := by unfold State.stepStart; repeat' first | simp only [memOk_mk, ite_memOk, ite_snd_memOk, ite_fst_memOk] | with_reducible assumption | with_reducible apply State.reSeat_memOk | with_reducible apply State.setChn_memOk | with_reducible refine foldl_memOk _ _ _ (fun _ _ _ => ?_) ?_ | with_reducible refine And.intro ?_ ?_ | intro _ | split
theorem State.stepClear_memOk (s : State) (k : Nat) (hm : s.memOk) : (State.stepClear s k).memOk := by unfold State.stepClear; repeat' first | simp only [memOk_mk, ite_memOk, ite_snd_memOk, ite_fst_memOk] | with_reducible assumption | with_reducible apply State.pk_memOk | with_reducible apply State.reSeat_memOk | with_reducible apply State.setChn_memOk | with_reducible refine foldl_memOk _ _ _ (fun _ _ _ => ?_) ?_ | with_reducible refine And.intro ?_ ?_ | intro _ | split
theorem State.rcvGo_memOk (s : State) (k : Nat) (hm : s.memOk) : (State.rcvGo s k).memOk := by unfold State.rcvGo; repeat' first | simp only [memOk_mk, ite_memOk, ite_snd_memOk, ite_fst_memOk] | with_reducible assumption | with_reducible apply State.deadlineCut_memOk | with_reducible apply State.stepClear_memOk | with_reducible apply State.stepStart_memOk | with_reducible apply State.unrecovered_memOk | with_reducible refine foldl_memOk _ _ _ (fun _ _ _ => ?_) ?_ | with_reducible refine And.intro ?_ ?_ | intro _ | split
theorem State.enterRecovery_memOk (s : State) (k loc cl : Nat) (j : RJob) (hm : s.memOk) : (State.enterRecovery s k loc cl j).memOk := by unfold State.enterRecovery; repeat' first | simp only [memOk_mk, ite_memOk, ite_snd_memOk, ite_fst_memOk] | with_reducible assumption | with_reducible apply State.raise_memOk | with_reducible apply State.rcvGo_memOk | with_reducible apply State.setChn_memOk | with_reducible refine foldl_memOk _ _ _ (fun _ _ _ => ?_) ?_ | with_reducible refine And.intro ?_ ?_ | intro _ | split
theorem State.firstDecode_memOk (s : State) (k : Nat) (head loc : Nat) (x : ReadIn) (j : RJob) (hm : s.memOk) : (State.firstDecode s k head loc x j).memOk := by unfold State.firstDecode; repeat' first | simp only [memOk_mk, ite_memOk, ite_snd_memOk, ite_fst_memOk] | with_reducible assumption | with_reducible apply State.actFalls_memOk | with_reducible apply State.countClass_memOk | with_reducible apply State.enterRecovery_memOk | with_reducible apply State.occur_memOk | with_reducible apply State.raise_memOk | with_reducible apply State.sectorGood_memOk | with_reducible refine foldl_memOk _ _ _ (fun _ _ _ => ?_) ?_ | with_reducible refine And.intro ?_ ?_ | intro _ | split
theorem State.rcvStepDone_memOk (s : State) (k : Nat) (x : ReadIn) (v : Recov) (j : RJob) (hm : s.memOk) : (State.rcvStepDone s k x v j).memOk := by unfold State.rcvStepDone; repeat' first | simp only [memOk_mk, ite_memOk, ite_snd_memOk, ite_fst_memOk] | with_reducible assumption | with_reducible apply State.bumpk_memOk | with_reducible apply State.raise_memOk | with_reducible apply State.rcvDrop_memOk | with_reducible apply State.rcvGo_memOk | with_reducible apply State.rcvRecord_memOk | with_reducible apply State.sectorGood_memOk | with_reducible apply State.setChn_memOk | with_reducible apply State.stepClear_memOk | with_reducible refine foldl_memOk _ _ _ (fun _ _ _ => ?_) ?_ | with_reducible refine And.intro ?_ ?_ | intro _ | split

/-! ### Dram -/

theorem State.bufferLost_memOk (s : State) (vol lba : Nat) (hm : s.memOk) : (State.bufferLost s vol lba).memOk := by unfold State.bufferLost; repeat' first | simp only [memOk_mk, ite_memOk, ite_snd_memOk, ite_fst_memOk] | with_reducible assumption | with_reducible apply State.failReader_memOk | with_reducible apply State.loseBlocks_memOk | with_reducible apply State.modSlab_memOk | with_reducible apply State.noteLost_memOk | with_reducible apply State.pieceFinish_memOk | with_reducible apply State.pieceSweep_memOk | with_reducible apply State.raise_memOk | with_reducible refine foldl_memOk _ _ _ (fun _ _ _ => ?_) ?_ | with_reducible refine And.intro ?_ ?_ | intro _ | split
theorem State.slabUnitBad_memOk (s : State) (vol lba : Nat) (hm : s.memOk) : (State.slabUnitBad s vol lba).memOk := by unfold State.slabUnitBad; repeat' first | simp only [memOk_mk, ite_memOk, ite_snd_memOk, ite_fst_memOk] | with_reducible assumption | with_reducible apply State.ask_memOk | with_reducible apply State.bufferLost_memOk | with_reducible apply State.modSlab_memOk | with_reducible refine foldl_memOk _ _ _ (fun _ _ _ => ?_) ?_ | with_reducible refine And.intro ?_ ?_ | intro _ | split
theorem State.copyUnitBad_memOk (s : State) (k b : Nat) (hm : s.memOk) : (State.copyUnitBad s k b).memOk := by unfold State.copyUnitBad; repeat' first | simp only [memOk_mk, ite_memOk, ite_snd_memOk, ite_fst_memOk] | with_reducible assumption | with_reducible apply State.modSlab_memOk | with_reducible apply State.send_memOk | with_reducible refine foldl_memOk _ _ _ (fun _ _ _ => ?_) ?_ | with_reducible refine And.intro ?_ ?_ | intro _ | split
theorem State.channelFault_memOk (s : State) (m : Nat) (hm : s.memOk) : (State.channelFault s m).memOk := by unfold State.channelFault; repeat' first | simp only [memOk_mk, ite_memOk, ite_snd_memOk, ite_fst_memOk] | with_reducible assumption | with_reducible apply State.p_memOk | with_reducible apply State.raise_memOk | with_reducible refine foldl_memOk _ _ _ (fun _ _ _ => ?_) ?_ | with_reducible refine And.intro ?_ ?_ | intro _ | split
theorem State.slabLineBad_memOk (s : State) (k b : Nat) (hm : s.memOk) : (State.slabLineBad s k b).memOk := by unfold State.slabLineBad; repeat' first | simp only [memOk_mk, ite_memOk, ite_snd_memOk, ite_fst_memOk] | with_reducible assumption | with_reducible apply State.copyUnitBad_memOk | with_reducible apply State.slabUnitBad_memOk | with_reducible refine foldl_memOk _ _ _ (fun _ _ _ => ?_) ?_ | with_reducible refine And.intro ?_ ?_ | intro _ | split
theorem State.ueCount_memOk (s : State) (d u : Nat) (hm : s.memOk) : (State.ueCount s d u).memOk := by unfold State.ueCount; repeat' first | simp only [memOk_mk, ite_memOk, ite_snd_memOk, ite_fst_memOk] | with_reducible assumption | with_reducible apply State.bumpki_memOk | with_reducible apply State.channelFault_memOk | with_reducible apply State.dramWrite_memOk | with_reducible apply State.free_memOk | with_reducible apply State.p_memOk | with_reducible apply State.raise_memOk | with_reducible apply State.slabLineBad_memOk | with_reducible refine foldl_memOk _ _ _ (fun _ _ _ => ?_) ?_ | with_reducible refine And.intro ?_ ?_ | intro _ | split
theorem State.ueResolve_memOk (s : State) (d u : Nat) (t : TableUse) (hm : s.memOk) : (State.ueResolve s d u t).memOk := by unfold State.ueResolve; repeat' first | simp only [memOk_mk, ite_memOk, ite_snd_memOk, ite_fst_memOk] | with_reducible assumption | with_reducible apply State.bumpki_memOk | with_reducible apply State.channelFault_memOk | with_reducible apply State.dramWrite_memOk | with_reducible apply State.free_memOk | with_reducible apply State.p_memOk | with_reducible apply State.raise_memOk | with_reducible apply State.slabLineBad_memOk | with_reducible refine foldl_memOk _ _ _ (fun _ _ _ => ?_) ?_ | with_reducible refine And.intro ?_ ?_ | intro _ | split
theorem State.classU_memOk (s : State) (d : Nat) (t : TableUse) (hm : s.memOk) : (State.classU s d t).memOk := State.ueResolve_memOk _ _ _ _ (State.ueCount_memOk _ _ _ hm)
theorem State.classC_memOk (s : State) (m : Nat) (hm : s.memOk) : (State.classC s m).memOk := by unfold State.classC; repeat' first | simp only [memOk_mk, ite_memOk, ite_snd_memOk, ite_fst_memOk] | with_reducible assumption | with_reducible apply State.bumpki_memOk | with_reducible apply State.raise_memOk | with_reducible refine foldl_memOk _ _ _ (fun _ _ _ => ?_) ?_ | with_reducible refine And.intro ?_ ?_ | intro _ | split
theorem State.lineCheck_memOk (s : State) (d : Nat) (t : TableUse) (c : DramCls) (late : Bool) (hm : s.memOk) : (State.lineCheck s d t c late).memOk := by unfold State.lineCheck; repeat' first | simp only [memOk_mk, ite_memOk, ite_snd_memOk, ite_fst_memOk] | with_reducible assumption | with_reducible apply State.bumpki_memOk | with_reducible apply State.classC_memOk | with_reducible apply State.classU_memOk | with_reducible refine foldl_memOk _ _ _ (fun _ _ _ => ?_) ?_ | with_reducible refine And.intro ?_ ?_ | intro _ | split
theorem State.dramTrained_memOk (s : State) (ok : Bool) (gib0 gib1 : Nat) (hm : s.memOk) : (State.dramTrained s ok gib0 gib1).memOk := by unfold State.dramTrained; repeat' first | simp only [memOk_mk, ite_memOk, ite_snd_memOk, ite_fst_memOk] | with_reducible assumption | with_reducible apply State.dramFail_memOk | with_reducible apply State.p_memOk | with_reducible refine foldl_memOk _ _ _ (fun _ _ _ => ?_) ?_ | with_reducible refine And.intro ?_ ?_ | intro _ | split
theorem State.dramReady_memOk (s : State) (hm : s.memOk) : (State.dramReady s).memOk := by unfold State.dramReady; repeat' first | simp only [memOk_mk, ite_memOk, ite_snd_memOk, ite_fst_memOk] | with_reducible assumption | with_reducible apply State.headsGo_memOk | with_reducible apply State.p_memOk | with_reducible apply State.reclaimGo_memOk | with_reducible apply State.stageEndAt_memOk | with_reducible refine foldl_memOk _ _ _ (fun _ _ _ => ?_) ?_ | with_reducible refine And.intro ?_ ?_ | intro _ | split
theorem State.dramServed_memOk (s : State) (r vol lba : Nat) (hm : s.memOk) : (State.dramServed s r vol lba).memOk := by unfold State.dramServed; repeat' first | simp only [memOk_mk, ite_memOk, ite_snd_memOk, ite_fst_memOk] | with_reducible assumption | with_reducible apply State.serve_memOk | with_reducible apply State.supply_memOk | with_reducible refine foldl_memOk _ _ _ (fun _ _ _ => ?_) ?_ | with_reducible refine And.intro ?_ ?_ | intro _ | split
theorem State.scrubNext_memOk (s : State) (hm : s.memOk) : (State.scrubNext s).memOk := by unfold State.scrubNext; repeat' first | simp only [memOk_mk, ite_memOk, ite_snd_memOk, ite_fst_memOk] | with_reducible assumption | with_reducible apply State.p_memOk | with_reducible refine foldl_memOk _ _ _ (fun _ _ _ => ?_) ?_ | with_reducible refine And.intro ?_ ?_ | intro _ | split
theorem State.benchPublish_memOk (s : State) (corr : Nat) (hm : s.memOk) : (State.benchPublish s corr).memOk := by unfold State.benchPublish; repeat' first | simp only [memOk_mk, ite_memOk, ite_snd_memOk, ite_fst_memOk] | with_reducible assumption | with_reducible apply State.bump_memOk | with_reducible apply State.p_memOk | with_reducible apply State.pki_memOk | with_reducible apply State.raise_memOk | with_reducible apply State.setBench_memOk | with_reducible refine foldl_memOk _ _ _ (fun _ _ _ => ?_) ?_ | with_reducible refine And.intro ?_ ?_ | intro _ | split

/-! ### Twin -/

theorem State.askAgain_memOk (s : State) (p : Parcel) (hm : s.memOk) : (State.askAgain s p).memOk := by unfold State.askAgain; repeat' first | simp only [memOk_mk, ite_memOk, ite_snd_memOk, ite_fst_memOk] | with_reducible assumption | with_reducible apply State.p_memOk | with_reducible apply State.send_memOk | with_reducible refine foldl_memOk _ _ _ (fun _ _ _ => ?_) ?_ | with_reducible refine And.intro ?_ ?_ | intro _ | split
theorem State.transit_memOk (s : State) (p : Parcel) (vol : Nat) (enc : Bool) (good : Unit4k → Nat → State → State) (bad : Nat → State → State) (h_good : ∀ (y0 : Unit4k) (y1 : Nat) (y2 : State), y2.memOk → (good y0 y1 y2).memOk) (h_bad : ∀ (y0 : Nat) (y1 : State), y1.memOk → (bad y0 y1).memOk) (hm : s.memOk) : (State.transit s p vol enc good bad).memOk := by unfold State.transit; repeat' first | simp only [memOk_mk, ite_memOk, ite_snd_memOk, ite_fst_memOk] | with_reducible assumption | with_reducible apply State.askAgain_memOk | with_reducible apply State.bump_memOk | with_reducible apply State.integrity_memOk | with_reducible apply State.p_memOk | with_reducible apply State.raise_memOk | with_reducible apply State.unitReject_memOk | with_reducible apply h_good | with_reducible apply h_bad | with_reducible refine foldl_memOk _ _ _ (fun _ _ _ => ?_) ?_ | with_reducible refine And.intro ?_ ?_ | intro _ | split
theorem State.reclaimEnd_memOk (s : State) (hm : s.memOk) : (State.reclaimEnd s).memOk := by unfold State.reclaimEnd; repeat' first | simp only [memOk_mk, ite_memOk, ite_snd_memOk, ite_fst_memOk] | with_reducible assumption | with_reducible apply State.p_memOk | with_reducible apply State.stageEndAt_memOk | with_reducible refine foldl_memOk _ _ _ (fun _ _ _ => ?_) ?_ | with_reducible refine And.intro ?_ ?_ | intro _ | split
theorem State.enterSolo_memOk (s : State) (cause : Nat) (hm : s.memOk) : (State.enterSolo s cause).memOk := by unfold State.enterSolo; repeat' first | simp only [memOk_mk, ite_memOk, ite_snd_memOk, ite_fst_memOk] | with_reducible assumption | with_reducible apply State.answered_memOk | with_reducible apply State.dirtyPut_memOk | with_reducible apply State.modPiece_memOk | with_reducible apply State.p_memOk | with_reducible apply State.pieceCheck_memOk | with_reducible apply State.raise_memOk | with_reducible apply State.reclaimEnd_memOk | with_reducible apply State.record_memOk | with_reducible refine foldl_memOk _ _ _ (fun _ _ _ => ?_) ?_ | with_reducible refine And.intro ?_ ?_ | intro _ | split
theorem State.resyncExtent_memOk (s : State) (key : Nat) (d : Dirty) (hm : s.memOk) : (State.resyncExtent s key d).memOk := by unfold State.resyncExtent; repeat' first | simp only [memOk_mk, ite_memOk, ite_snd_memOk, ite_fst_memOk] | with_reducible assumption | with_reducible apply State.present_memOk | with_reducible apply State.twinSend_memOk | with_reducible refine foldl_memOk _ _ _ (fun _ _ _ => ?_) ?_ | with_reducible refine And.intro ?_ ?_ | intro _ | split
theorem State.startResync_memOk (s : State) (fresh : Bool) (hm : s.memOk) : (State.startResync s fresh).memOk := by unfold State.startResync; repeat' first | simp only [memOk_mk, ite_memOk, ite_snd_memOk, ite_fst_memOk] | with_reducible assumption | with_reducible apply State.dirtyPut_memOk | with_reducible apply State.fresh_memOk | with_reducible apply State.p_memOk | with_reducible apply State.raise_memOk | with_reducible apply State.resyncExtent_memOk | with_reducible refine foldl_memOk _ _ _ (fun _ _ _ => ?_) ?_ | with_reducible refine And.intro ?_ ?_ | intro _ | split
theorem State.reclaimSend_memOk (s : State) (hm : s.memOk) : (State.reclaimSend s).memOk := by unfold State.reclaimSend; repeat' first | simp only [memOk_mk, ite_memOk, ite_snd_memOk, ite_fst_memOk] | with_reducible assumption | with_reducible apply State.twinBlock_memOk | with_reducible refine foldl_memOk _ _ _ (fun _ _ _ => ?_) ?_ | with_reducible refine And.intro ?_ ?_ | intro _ | split
theorem State.parcelHeartbeat_memOk (s : State) (p : Parcel) (hm : s.memOk) : (State.parcelHeartbeat s p).memOk := by unfold State.parcelHeartbeat; repeat' first | simp only [memOk_mk, ite_memOk, ite_snd_memOk, ite_fst_memOk] | with_reducible assumption | with_reducible apply State.enterSolo_memOk | with_reducible apply State.fresh_memOk | with_reducible apply State.p_memOk | with_reducible apply State.reclaimEnd_memOk | with_reducible apply State.reclaimSend_memOk | with_reducible apply State.startResync_memOk | with_reducible refine foldl_memOk _ _ _ (fun _ _ _ => ?_) ?_ | with_reducible refine And.intro ?_ ?_ | intro _ | split
theorem State.copyIn_memOk (s : State) (p : Parcel) (hm : s.memOk) : (State.copyIn s p).memOk := by unfold State.copyIn; repeat' first | simp only [memOk_mk, ite_memOk, ite_snd_memOk, ite_fst_memOk] | with_reducible assumption | with_reducible apply State.dramWake_memOk | with_reducible apply State.dropParcel_memOk | with_reducible apply State.newSlab_memOk | with_reducible apply State.p_memOk | with_reducible apply State.remember_memOk | with_reducible apply State.send_memOk | with_reducible apply State.storeCopy_memOk | with_reducible apply State.transit_memOk | with_reducible apply State.waitSlab_memOk | with_reducible refine foldl_memOk _ _ _ (fun _ _ _ => ?_) ?_ | with_reducible refine And.intro ?_ ?_ | intro _ | split
theorem State.parcelLanded_memOk (s : State) (p : Parcel) (hm : s.memOk) : (State.parcelLanded s p).memOk := by unfold State.parcelLanded; repeat' first | simp only [memOk_mk, ite_memOk, ite_snd_memOk, ite_fst_memOk] | with_reducible assumption | with_reducible apply State.dropSlab_memOk | with_reducible apply State.p_memOk | with_reducible apply State.remember_memOk | with_reducible apply State.send_memOk | with_reducible refine foldl_memOk _ _ _ (fun _ _ _ => ?_) ?_ | with_reducible refine And.intro ?_ ?_ | intro _ | split
theorem State.parcelRestore_memOk (s : State) (p : Parcel) (hm : s.memOk) : (State.parcelRestore s p).memOk := by unfold State.parcelRestore; repeat' first | simp only [memOk_mk, ite_memOk, ite_snd_memOk, ite_fst_memOk] | with_reducible assumption | with_reducible apply State.p_memOk | with_reducible apply State.remember_memOk | with_reducible apply State.send_memOk | with_reducible refine foldl_memOk _ _ _ (fun _ _ _ => ?_) ?_ | with_reducible refine And.intro ?_ ?_ | intro _ | split
theorem State.twinAnswered_memOk (s : State) (x : Nat) (hm : s.memOk) : (State.twinAnswered s x).memOk := hm
theorem State.copyConfirmed_memOk (s : State) (vol ext blk : Nat) (hm : s.memOk) : (State.copyConfirmed s vol ext blk).memOk := by unfold State.copyConfirmed; repeat' first | simp only [memOk_mk, ite_memOk, ite_snd_memOk, ite_fst_memOk] | with_reducible assumption | with_reducible apply State.modPiece_memOk | with_reducible apply State.modSlab_memOk | with_reducible apply State.p_memOk | with_reducible apply State.pieceCheck_memOk | with_reducible refine foldl_memOk _ _ _ (fun _ _ _ => ?_) ?_ | with_reducible refine And.intro ?_ ?_ | intro _ | split
theorem State.resyncConfirmed_memOk (s : State) (vol ext blk : Nat) (hm : s.memOk) : (State.resyncConfirmed s vol ext blk).memOk := by unfold State.resyncConfirmed; repeat' first | simp only [memOk_mk, ite_memOk, ite_snd_memOk, ite_fst_memOk] | with_reducible assumption | with_reducible apply State.resyncLess_memOk | with_reducible apply State.unlock_memOk | with_reducible refine foldl_memOk _ _ _ (fun _ _ _ => ?_) ?_ | with_reducible refine And.intro ?_ ?_ | intro _ | split
theorem State.parcelConfirm_memOk (s : State) (p : Parcel) (hm : s.memOk) : (State.parcelConfirm s p).memOk := by unfold State.parcelConfirm; repeat' first | simp only [memOk_mk, ite_memOk, ite_snd_memOk, ite_fst_memOk] | with_reducible assumption | with_reducible apply State.copyConfirmed_memOk | with_reducible apply State.p_memOk | with_reducible apply State.resyncConfirmed_memOk | with_reducible apply State.twinAnswered_memOk | with_reducible refine foldl_memOk _ _ _ (fun _ _ _ => ?_) ?_ | with_reducible refine And.intro ?_ ?_ | intro _ | split
theorem State.parcelAck_memOk (s : State) (p : Parcel) (hm : s.memOk) : (State.parcelAck s p).memOk := by unfold State.parcelAck; repeat' first | simp only [memOk_mk, ite_memOk, ite_snd_memOk, ite_fst_memOk] | with_reducible assumption | with_reducible apply State.p_memOk | with_reducible apply State.twinAnswered_memOk | with_reducible refine foldl_memOk _ _ _ (fun _ _ _ => ?_) ?_ | with_reducible refine And.intro ?_ ?_ | intro _ | split

/-! ### Span -/

theorem State.modIPiece_memOk (s : State) (slot i : Nat) (f : IPiece → IPiece) (hm : s.memOk) : (State.modIPiece s slot i f).memOk := by unfold State.modIPiece; repeat' first | simp only [memOk_mk, ite_memOk, ite_snd_memOk, ite_fst_memOk] | with_reducible assumption | with_reducible apply State.modCmd_memOk | with_reducible refine foldl_memOk _ _ _ (fun _ _ _ => ?_) ?_ | with_reducible refine And.intro ?_ ?_ | intro _ | split
theorem State.sendBlocks_memOk (s : State) (slot i : Nat) (hm : s.memOk) : (State.sendBlocks s slot i).memOk := by unfold State.sendBlocks; repeat' first | simp only [memOk_mk, ite_memOk, ite_snd_memOk, ite_fst_memOk] | with_reducible assumption | with_reducible apply State.ask_memOk | with_reducible apply State.modCmd_memOk | with_reducible apply State.modIPiece_memOk | with_reducible apply State.p_memOk | with_reducible refine foldl_memOk _ _ _ (fun _ _ _ => ?_) ?_ | with_reducible refine And.intro ?_ ?_ | intro _ | split
theorem State.ownPiece_memOk (s : State) (slot i : Nat) (c : Cmd) (p : IPiece) (hm : s.memOk) : (State.ownPiece s slot i c p).memOk := by unfold State.ownPiece; repeat' first | simp only [memOk_mk, ite_memOk, ite_snd_memOk, ite_fst_memOk] | with_reducible assumption | with_reducible apply State.modCmd_memOk | with_reducible apply State.modIPiece_memOk | with_reducible apply State.newPiece_memOk | with_reducible apply State.p_memOk | with_reducible refine foldl_memOk _ _ _ (fun _ _ _ => ?_) ?_ | with_reducible refine And.intro ?_ ?_ | intro _ | split
theorem State.pieceGo_memOk (s : State) (slot i : Nat) (c : Cmd) (p : IPiece) (hm : s.memOk) : (State.pieceGo s slot i c p).memOk := by unfold State.pieceGo; repeat' first | simp only [memOk_mk, ite_memOk, ite_snd_memOk, ite_fst_memOk] | with_reducible assumption | with_reducible apply State.ask_memOk | with_reducible apply State.modIPiece_memOk | with_reducible apply State.ownPiece_memOk | with_reducible apply State.p_memOk | with_reducible apply State.sendBlocks_memOk | with_reducible apply State.spanCheck_memOk | with_reducible refine foldl_memOk _ _ _ (fun _ _ _ => ?_) ?_ | with_reducible refine And.intro ?_ ?_ | intro _ | split
theorem State.presentPiece_memOk (s : State) (id : Nat) (hm : s.memOk) : (State.presentPiece s id).memOk := by unfold State.presentPiece; repeat' first | simp only [memOk_mk, ite_memOk, ite_snd_memOk, ite_fst_memOk] | with_reducible assumption | with_reducible apply State.modPiece_memOk | with_reducible apply State.p_memOk | with_reducible apply State.present_memOk | with_reducible refine foldl_memOk _ _ _ (fun _ _ _ => ?_) ?_ | with_reducible refine And.intro ?_ ?_ | intro _ | split
theorem State.respond_memOk (s : State) (p : Parcel) (kind lba : Nat) (body : List Byte) (hm : s.memOk) : (State.respond s p kind lba body).memOk := by unfold State.respond; repeat' first | simp only [memOk_mk, ite_memOk, ite_snd_memOk, ite_fst_memOk] | with_reducible assumption | with_reducible apply State.p_memOk | with_reducible apply State.send_memOk | with_reducible refine foldl_memOk _ _ _ (fun _ _ _ => ?_) ?_ | with_reducible refine And.intro ?_ ?_ | intro _ | split
theorem State.holdPiece_memOk (s : State) (p : Parcel) (read : Bool) (hm : s.memOk) : ((State.holdPiece s p read).2).memOk := by unfold State.holdPiece; repeat' first | simp only [memOk_mk, ite_memOk, ite_snd_memOk, ite_fst_memOk] | with_reducible assumption | with_reducible apply State.bump_memOk | with_reducible apply State.newPiece_memOk | with_reducible apply State.p_memOk | with_reducible apply State.presentPiece_memOk | with_reducible apply State.raise_memOk | with_reducible refine foldl_memOk _ _ _ (fun _ _ _ => ?_) ?_ | with_reducible refine And.intro ?_ ?_ | intro _ | split
theorem State.asOwner_memOk (s : State) (p : Parcel) (f : State → State) (h_f : ∀ (y0 : State), y0.memOk → (f y0).memOk) (hm : s.memOk) : (State.asOwner s p f).memOk := by unfold State.asOwner; repeat' first | simp only [memOk_mk, ite_memOk, ite_snd_memOk, ite_fst_memOk] | with_reducible assumption | with_reducible apply State.dropParcel_memOk | with_reducible apply State.p_memOk | with_reducible apply State.respond_memOk | with_reducible apply State.routeOut_memOk | with_reducible apply h_f | with_reducible refine foldl_memOk _ _ _ (fun _ _ _ => ?_) ?_ | with_reducible refine And.intro ?_ ?_ | intro _ | split
theorem State.blockIn_memOk (s : State) (id : Nat) (p : Parcel) (u : Unit4k) (note : Nat) (hm : s.memOk) : (State.blockIn s id p u note).memOk := by unfold State.blockIn; repeat' first | simp only [memOk_mk, ite_memOk, ite_snd_memOk, ite_fst_memOk] | with_reducible assumption | with_reducible apply State.modPiece_memOk | with_reducible apply State.p_memOk | with_reducible apply State.remember_memOk | with_reducible apply State.sendAccept_memOk | with_reducible refine foldl_memOk _ _ _ (fun _ _ _ => ?_) ?_ | with_reducible refine And.intro ?_ ?_ | intro _ | split
theorem State.blockBad_memOk (s : State) (id : Nat) (p : Parcel) (status : Nat) (hm : s.memOk) : (State.blockBad s id p status).memOk := by unfold State.blockBad; repeat' first | simp only [memOk_mk, ite_memOk, ite_snd_memOk, ite_fst_memOk] | with_reducible assumption | with_reducible apply State.cutPiece_memOk | with_reducible apply State.dropPiece_memOk | with_reducible apply State.p_memOk | with_reducible apply State.pieceFinish_memOk | with_reducible apply State.remember_memOk | with_reducible refine foldl_memOk _ _ _ (fun _ _ _ => ?_) ?_ | with_reducible refine And.intro ?_ ?_ | intro _ | split
theorem State.parcelPiece_memOk (s : State) (p : Parcel) (hm : s.memOk) : (State.parcelPiece s p).memOk := by unfold State.parcelPiece; repeat' first | simp only [memOk_mk, ite_memOk, ite_snd_memOk, ite_fst_memOk] | with_reducible assumption | with_reducible apply State.asOwner_memOk | with_reducible apply State.blockBad_memOk | with_reducible apply State.blockIn_memOk | with_reducible apply State.bump_memOk | with_reducible apply State.holdPiece_memOk | with_reducible apply State.mediaArrives_memOk | with_reducible apply State.modVol_memOk | with_reducible apply State.p_memOk | with_reducible apply State.remember_memOk | with_reducible apply State.respond_memOk | with_reducible apply State.transit_memOk | with_reducible refine foldl_memOk _ _ _ (fun _ _ _ => ?_) ?_ | with_reducible refine And.intro ?_ ?_ | intro _ | split
theorem State.remapServe_memOk (s : State) (p : Parcel) (key : Nat) (r : Remap) (hm : s.memOk) : (State.remapServe s p key r).memOk := by unfold State.remapServe; repeat' first | simp only [memOk_mk, ite_memOk, ite_snd_memOk, ite_fst_memOk] | with_reducible assumption | with_reducible apply State.ask_memOk | with_reducible apply State.newPiece_memOk | with_reducible apply State.p_memOk | with_reducible apply State.serveAll_memOk | with_reducible refine foldl_memOk _ _ _ (fun _ _ _ => ?_) ?_ | with_reducible refine And.intro ?_ ?_ | intro _ | split
theorem State.parcelReadParcel_memOk (s : State) (p : Parcel) (hm : s.memOk) : (State.parcelReadParcel s p).memOk := by unfold State.parcelReadParcel; repeat' first | simp only [memOk_mk, ite_memOk, ite_snd_memOk, ite_fst_memOk] | with_reducible assumption | with_reducible apply State.asOwner_memOk | with_reducible apply State.bump_memOk | with_reducible apply State.holdPiece_memOk | with_reducible apply State.mediaArrives_memOk | with_reducible apply State.p_memOk | with_reducible apply State.remapServe_memOk | with_reducible apply State.remember_memOk | with_reducible apply State.respond_memOk | with_reducible refine foldl_memOk _ _ _ (fun _ _ _ => ?_) ?_ | with_reducible refine And.intro ?_ ?_ | intro _ | split
theorem State.parcelQuery_memOk (s : State) (p : Parcel) (hm : s.memOk) : (State.parcelQuery s p).memOk := by unfold State.parcelQuery; repeat' first | simp only [memOk_mk, ite_memOk, ite_snd_memOk, ite_fst_memOk] | with_reducible assumption | with_reducible apply State.p_memOk | with_reducible apply State.remember_memOk | with_reducible apply State.respond_memOk | with_reducible apply State.routeOut_memOk | with_reducible refine foldl_memOk _ _ _ (fun _ _ _ => ?_) ?_ | with_reducible refine And.intro ?_ ?_ | intro _ | split
theorem State.onPiece_memOk (s : State) (p : Parcel) (f : IPiece → IPiece) (hm : s.memOk) : (State.onPiece s p f).memOk := by unfold State.onPiece; repeat' first | simp only [memOk_mk, ite_memOk, ite_snd_memOk, ite_fst_memOk] | with_reducible assumption | with_reducible apply State.modCmd_memOk | with_reducible apply State.p_memOk | with_reducible refine foldl_memOk _ _ _ (fun _ _ _ => ?_) ?_ | with_reducible refine And.intro ?_ ?_ | intro _ | split
theorem State.parcelAccept_memOk (s : State) (p : Parcel) (hm : s.memOk) : (State.parcelAccept s p).memOk := by unfold State.parcelAccept; repeat' first | simp only [memOk_mk, ite_memOk, ite_snd_memOk, ite_fst_memOk] | with_reducible assumption | with_reducible apply State.answered_memOk | with_reducible apply State.modCmd_memOk | with_reducible apply State.onPiece_memOk | with_reducible apply State.p_memOk | with_reducible refine foldl_memOk _ _ _ (fun _ _ _ => ?_) ?_ | with_reducible refine And.intro ?_ ?_ | intro _ | split
theorem State.remapDone_memOk (s : State) (key : Nat) (r : Remap) (status : Nat) (hm : s.memOk) : (State.remapDone s key r status).memOk := by unfold State.remapDone; repeat' first | simp only [memOk_mk, ite_memOk, ite_snd_memOk, ite_fst_memOk] | with_reducible assumption | with_reducible apply State.bump_memOk | with_reducible apply State.p_memOk | with_reducible apply State.pieceLand_memOk | with_reducible apply State.raise_memOk | with_reducible apply State.record_memOk | with_reducible apply State.remapNext_memOk | with_reducible apply State.setMed_memOk | with_reducible apply State.unlock_memOk | with_reducible refine foldl_memOk _ _ _ (fun _ _ _ => ?_) ?_ | with_reducible refine And.intro ?_ ?_ | intro _ | split
theorem State.parcelDone_memOk (s : State) (p : Parcel) (hm : s.memOk) : (State.parcelDone s p).memOk := by unfold State.parcelDone; repeat' first | simp only [memOk_mk, ite_memOk, ite_snd_memOk, ite_fst_memOk] | with_reducible assumption | with_reducible apply State.answered_memOk | with_reducible apply State.modCmd_memOk | with_reducible apply State.onPiece_memOk | with_reducible apply State.p_memOk | with_reducible apply State.remapDone_memOk | with_reducible apply State.spanCheck_memOk | with_reducible refine foldl_memOk _ _ _ (fun _ _ _ => ?_) ?_ | with_reducible refine And.intro ?_ ?_ | intro _ | split
theorem State.parcelNotready_memOk (s : State) (p : Parcel) (hm : s.memOk) : (State.parcelNotready s p).memOk := by unfold State.parcelNotready; repeat' first | simp only [memOk_mk, ite_memOk, ite_snd_memOk, ite_fst_memOk] | with_reducible assumption | with_reducible apply State.answered_memOk | with_reducible apply State.onPiece_memOk | with_reducible apply State.p_memOk | with_reducible refine foldl_memOk _ _ _ (fun _ _ _ => ?_) ?_ | with_reducible refine And.intro ?_ ?_ | intro _ | split
theorem State.restored_memOk (s : State) (p : Parcel) (hm : s.memOk) : (State.restored s p).memOk := by unfold State.restored; repeat' first | simp only [memOk_mk, ite_memOk, ite_snd_memOk, ite_fst_memOk] | with_reducible assumption | with_reducible apply State.answered_memOk | with_reducible apply State.bufferLost_memOk | with_reducible apply State.dramStore_memOk | with_reducible apply State.modSlab_memOk | with_reducible apply State.p_memOk | with_reducible apply State.raise_memOk | with_reducible apply State.transit_memOk | with_reducible refine foldl_memOk _ _ _ (fun _ _ _ => ?_) ?_ | with_reducible refine And.intro ?_ ?_ | intro _ | split
theorem State.takeBlock_memOk (s : State) (p : Parcel) (id : Nat) (hm : s.memOk) : (State.takeBlock s p id).memOk := by unfold State.takeBlock; repeat' first | simp only [memOk_mk, ite_memOk, ite_snd_memOk, ite_fst_memOk] | with_reducible assumption | with_reducible apply State.modPiece_memOk | with_reducible apply State.p_memOk | with_reducible apply State.pieceFail_memOk | with_reducible apply State.transit_memOk | with_reducible refine foldl_memOk _ _ _ (fun _ _ _ => ?_) ?_ | with_reducible refine And.intro ?_ ?_ | intro _ | split
theorem State.parcelRdata_memOk (s : State) (p : Parcel) (hm : s.memOk) : (State.parcelRdata s p).memOk := by unfold State.parcelRdata; repeat' first | simp only [memOk_mk, ite_memOk, ite_snd_memOk, ite_fst_memOk] | with_reducible assumption | with_reducible apply State.answered_memOk | with_reducible apply State.deliver_memOk | with_reducible apply State.modCmd_memOk | with_reducible apply State.p_memOk | with_reducible apply State.restored_memOk | with_reducible apply State.spanBlock_memOk | with_reducible apply State.takeBlock_memOk | with_reducible apply State.transit_memOk | with_reducible refine foldl_memOk _ _ _ (fun _ _ _ => ?_) ?_ | with_reducible refine And.intro ?_ ?_ | intro _ | split
theorem State.serveAgain_memOk (s : State) (p : Parcel) (hm : s.memOk) : (State.serveAgain s p).memOk := by unfold State.serveAgain; repeat' first | simp only [memOk_mk, ite_memOk, ite_snd_memOk, ite_fst_memOk] | with_reducible assumption | with_reducible apply State.modPiece_memOk | with_reducible apply State.newPiece_memOk | with_reducible apply State.p_memOk | with_reducible apply State.presentPiece_memOk | with_reducible apply State.serve_memOk | with_reducible refine foldl_memOk _ _ _ (fun _ _ _ => ?_) ?_ | with_reducible refine And.intro ?_ ?_ | intro _ | split
theorem State.parcelResendq_memOk (s : State) (p : Parcel) (hm : s.memOk) : (State.parcelResendq s p).memOk := by unfold State.parcelResendq; repeat' first | simp only [memOk_mk, ite_memOk, ite_snd_memOk, ite_fst_memOk] | with_reducible assumption | with_reducible apply State.bufferLost_memOk | with_reducible apply State.modSlab_memOk | with_reducible apply State.p_memOk | with_reducible apply State.respond_memOk | with_reducible apply State.send_memOk | with_reducible apply State.serveAgain_memOk | with_reducible apply State.twinBlock_memOk | with_reducible refine foldl_memOk _ _ _ (fun _ _ _ => ?_) ?_ | with_reducible refine And.intro ?_ ?_ | intro _ | split
theorem State.parcelRemap_memOk (s : State) (p : Parcel) (hm : s.memOk) : (State.parcelRemap s p).memOk := by unfold State.parcelRemap; repeat' first | simp only [memOk_mk, ite_memOk, ite_snd_memOk, ite_fst_memOk] | with_reducible assumption | with_reducible apply State.ask_memOk | with_reducible apply State.newPiece_memOk | with_reducible apply State.p_memOk | with_reducible apply State.remember_memOk | with_reducible apply State.respond_memOk | with_reducible refine foldl_memOk _ _ _ (fun _ _ _ => ?_) ?_ | with_reducible refine And.intro ?_ ?_ | intro _ | split
theorem State.parcelRemapr_memOk (s : State) (p : Parcel) (hm : s.memOk) : (State.parcelRemapr s p).memOk := by unfold State.parcelRemapr; repeat' first | simp only [memOk_mk, ite_memOk, ite_snd_memOk, ite_fst_memOk] | with_reducible assumption | with_reducible apply State.answered_memOk | with_reducible apply State.p_memOk | with_reducible apply State.remapNext_memOk | with_reducible refine foldl_memOk _ _ _ (fun _ _ _ => ?_) ?_ | with_reducible refine And.intro ?_ ?_ | intro _ | split
theorem State.takeEnd_memOk (s : State) (hm : s.memOk) : (State.takeEnd s).memOk := by unfold State.takeEnd; repeat' first | simp only [memOk_mk, ite_memOk, ite_snd_memOk, ite_fst_memOk] | with_reducible assumption | with_reducible apply State.p_memOk | with_reducible refine foldl_memOk _ _ _ (fun _ _ _ => ?_) ?_ | with_reducible refine And.intro ?_ ?_ | intro _ | split
theorem State.remapRetry_memOk (s : State) (hm : s.memOk) : (State.remapRetry s).memOk := by unfold State.remapRetry; repeat' first | simp only [memOk_mk, ite_memOk, ite_snd_memOk, ite_fst_memOk] | with_reducible assumption | with_reducible apply State.remapNext_memOk | with_reducible refine foldl_memOk _ _ _ (fun _ _ _ => ?_) ?_ | with_reducible refine And.intro ?_ ?_ | intro _ | split

/-! ### Discovery -/

theorem State.originDone_memOk (s : State) (hm : s.memOk) : (State.originDone s).memOk := by unfold State.originDone; repeat' first | simp only [memOk_mk, ite_memOk, ite_snd_memOk, ite_fst_memOk] | with_reducible assumption | with_reducible apply State.assign_memOk | with_reducible apply State.nodeKnown_memOk | with_reducible apply State.originate_memOk | with_reducible apply State.p_memOk | with_reducible refine foldl_memOk _ _ _ (fun _ _ _ => ?_) ?_ | with_reducible refine And.intro ?_ ?_ | intro _ | split
theorem State.ringStart_memOk (s : State) (dim : Nat) (x0 : Nat) (hm : s.memOk) : (State.ringStart s dim x0).memOk := by
  induction x0 generalizing s dim with
  | zero => exact hm
  | succ f ih =>
    simp only [State.ringStart]
    repeat' first | simp only [memOk_mk, ite_memOk, ite_snd_memOk, ite_fst_memOk] | with_reducible assumption | with_reducible apply State.linkSend_memOk | with_reducible apply State.originDone_memOk | with_reducible apply ih | with_reducible refine foldl_memOk _ _ _ (fun _ _ _ => ?_) ?_ | with_reducible refine And.intro ?_ ?_ | intro _ | split
theorem State.idConflict_memOk (s : State) (x : Lsr) (hm : s.memOk) : (State.idConflict s x).memOk := by unfold State.idConflict; repeat' first | simp only [memOk_mk, ite_memOk, ite_snd_memOk, ite_fst_memOk] | with_reducible assumption | with_reducible apply State.discFail_memOk | with_reducible apply State.leaveFabric_memOk | with_reducible apply State.raise_memOk | with_reducible refine foldl_memOk _ _ _ (fun _ _ _ => ?_) ?_ | with_reducible refine And.intro ?_ ?_ | intro _ | split
theorem State.discEnd_memOk (s : State) (hm : s.memOk) : (State.discEnd s).memOk := by unfold State.discEnd; repeat' first | simp only [memOk_mk, ite_memOk, ite_snd_memOk, ite_fst_memOk] | with_reducible assumption | with_reducible apply State.alignRise_memOk | with_reducible apply State.p_memOk | with_reducible apply State.raise_memOk | with_reducible apply State.record_memOk | with_reducible apply State.stageBegin_memOk | with_reducible apply State.stageEndAt_memOk | with_reducible refine foldl_memOk _ _ _ (fun _ _ _ => ?_) ?_ | with_reducible refine And.intro ?_ ?_ | intro _ | split
theorem State.rootPlace_memOk (s : State) (root : Nat) (hm : s.memOk) : (State.rootPlace s root).memOk := by unfold State.rootPlace; repeat' first | simp only [memOk_mk, ite_memOk, ite_snd_memOk, ite_fst_memOk] | with_reducible assumption | with_reducible apply State.alignFall_memOk | with_reducible apply State.alignRise_memOk | with_reducible apply State.p_memOk | with_reducible refine foldl_memOk _ _ _ (fun _ _ _ => ?_) ?_ | with_reducible refine And.intro ?_ ?_ | intro _ | split
theorem State.rootUpdate_memOk (s : State) (hm : s.memOk) : (State.rootUpdate s).memOk := by unfold State.rootUpdate; repeat' first | simp only [memOk_mk, ite_memOk, ite_snd_memOk, ite_fst_memOk] | with_reducible assumption | with_reducible apply State.raise_memOk | with_reducible apply State.record_memOk | with_reducible apply State.rootPlace_memOk | with_reducible refine foldl_memOk _ _ _ (fun _ _ _ => ?_) ?_ | with_reducible refine And.intro ?_ ?_ | intro _ | split
theorem State.rerouteKept_memOk (s : State) (hm : s.memOk) : (State.rerouteKept s).memOk := by unfold State.rerouteKept; repeat' first | simp only [memOk_mk, ite_memOk, ite_snd_memOk, ite_fst_memOk] | with_reducible assumption | with_reducible apply State.p_memOk | with_reducible apply State.routeOut_memOk | with_reducible apply State.setPort_memOk | with_reducible refine foldl_memOk _ _ _ (fun _ _ _ => ?_) ?_ | with_reducible refine And.intro ?_ ?_ | intro _ | split
theorem State.unreachableAsk_memOk (s : State) (p : Parcel) (hm : s.memOk) : (State.unreachableAsk s p).memOk := by unfold State.unreachableAsk; repeat' first | simp only [memOk_mk, ite_memOk, ite_snd_memOk, ite_fst_memOk] | with_reducible assumption | with_reducible apply State.bufferLost_memOk | with_reducible apply State.p_memOk | with_reducible apply State.pieceFail_memOk | with_reducible refine foldl_memOk _ _ _ (fun _ _ _ => ?_) ?_ | with_reducible refine And.intro ?_ ?_ | intro _ | split
theorem State.resendAll_memOk (s : State) (hm : s.memOk) : (State.resendAll s).memOk := by unfold State.resendAll; repeat' first | simp only [memOk_mk, ite_memOk, ite_snd_memOk, ite_fst_memOk] | with_reducible assumption | with_reducible apply State.bump_memOk | with_reducible apply State.p_memOk | with_reducible apply State.send_memOk | with_reducible apply State.unreachableAsk_memOk | with_reducible refine foldl_memOk _ _ _ (fun _ _ _ => ?_) ?_ | with_reducible refine And.intro ?_ ?_ | intro _ | split
theorem State.piecesAtSwitch_memOk (s : State) (slot : Nat) (c : Cmd) (hm : s.memOk) : (State.piecesAtSwitch s slot c).memOk := by unfold State.piecesAtSwitch; repeat' first | simp only [memOk_mk, ite_memOk, ite_snd_memOk, ite_fst_memOk] | with_reducible assumption | with_reducible apply State.ask_memOk | with_reducible apply State.modCmd_memOk | with_reducible apply State.p_memOk | with_reducible apply State.spanCheck_memOk | with_reducible refine foldl_memOk _ _ _ (fun _ _ _ => ?_) ?_ | with_reducible refine And.intro ?_ ?_ | intro _ | split
theorem State.epochSwitch_memOk (s : State) (hm : s.memOk) : (State.epochSwitch s).memOk := by unfold State.epochSwitch; repeat' first | simp only [memOk_mk, ite_memOk, ite_snd_memOk, ite_fst_memOk] | with_reducible assumption | with_reducible apply State.p_memOk | with_reducible apply State.piecesAtSwitch_memOk | with_reducible apply State.raise_memOk | with_reducible apply State.record_memOk | with_reducible apply State.remapRetry_memOk | with_reducible apply State.rerouteKept_memOk | with_reducible apply State.resendAll_memOk | with_reducible apply State.rootUpdate_memOk | with_reducible refine foldl_memOk _ _ _ (fun _ _ _ => ?_) ?_ | with_reducible refine And.intro ?_ ?_ | intro _ | split

/-! ### TimeSync -/

theorem State.setTrim_memOk (s : State) (v : Int) (hm : s.memOk) : (State.setTrim s v).memOk := hm
theorem State.setF_memOk (s : State) (v : Int) (hm : s.memOk) : (State.setF s v).memOk := hm
theorem State.timeStep_memOk (s : State) (e : Int) (hm : s.memOk) : (State.timeStep s e).memOk := by unfold State.timeStep; repeat' first | simp only [memOk_mk, ite_memOk, ite_snd_memOk, ite_fst_memOk] | with_reducible assumption | with_reducible apply State.alignFall_memOk | with_reducible apply State.alignRise_memOk | with_reducible apply State.setF_memOk | with_reducible apply State.setTrim_memOk | with_reducible refine foldl_memOk _ _ _ (fun _ _ _ => ?_) ?_ | with_reducible refine And.intro ?_ ?_ | intro _ | split
theorem State.timeSend_memOk (s : State) (hm : s.memOk) : (State.timeSend s).memOk := by unfold State.timeSend; repeat' first | simp only [memOk_mk, ite_memOk, ite_snd_memOk, ite_fst_memOk] | with_reducible assumption | with_reducible apply State.linkSend_memOk | with_reducible apply State.p_memOk | with_reducible refine foldl_memOk _ _ _ (fun _ _ _ => ?_) ?_ | with_reducible refine And.intro ?_ ?_ | intro _ | split
theorem State.laneStep_memOk (s : State) (lane : Nat) (x : Option EyeIn) (hm : s.memOk) : (State.laneStep s lane x).memOk := by unfold State.laneStep; repeat' first | simp only [memOk_mk, ite_memOk, ite_snd_memOk, ite_fst_memOk] | with_reducible assumption | with_reducible apply State.free_memOk | with_reducible apply State.loopIdle_memOk | with_reducible apply State.loopStep_memOk | with_reducible apply State.pki_memOk | with_reducible refine foldl_memOk _ _ _ (fun _ _ _ => ?_) ?_ | with_reducible refine And.intro ?_ ?_ | intro _ | split

/-! ### MapRegion -/

theorem State.mapCopy_memOk (s : State) (g n : Nat) (hm : s.memOk) : ((State.mapCopy s g n).2).memOk := hm
theorem State.mapWrite_memOk (s : State) (pe failA failB : Nat) (hm : s.memOk) : ((State.mapWrite s pe failA failB).2).memOk := by unfold State.mapWrite; repeat' first | simp only [memOk_mk, ite_memOk, ite_snd_memOk, ite_fst_memOk] | with_reducible assumption | with_reducible apply State.mapCopy_memOk | with_reducible refine foldl_memOk _ _ _ (fun _ _ _ => ?_) ?_ | with_reducible refine And.intro ?_ ?_ | intro _ | split
theorem State.mapLost_memOk (s : State) (h j : Nat) (hm : s.memOk) : (State.mapLost s h j).memOk := by unfold State.mapLost; repeat' first | simp only [memOk_mk, ite_memOk, ite_snd_memOk, ite_fst_memOk] | with_reducible assumption | with_reducible apply State.makeUnwritable_memOk | with_reducible apply State.p_memOk | with_reducible apply State.raise_memOk | with_reducible apply State.setMed_memOk | with_reducible refine foldl_memOk _ _ _ (fun _ _ _ => ?_) ?_ | with_reducible refine And.intro ?_ ?_ | intro _ | split

/-! ### MediaCmd -/

theorem State.jobDone_memOk (s : State) (loc : Nat) (j : WJob) (hm : s.memOk) : (State.jobDone s loc j).memOk := by unfold State.jobDone; repeat' first | simp only [memOk_mk, ite_memOk, ite_snd_memOk, ite_fst_memOk] | with_reducible assumption | with_reducible apply State.bump_memOk | with_reducible apply State.raise_memOk | with_reducible apply State.record_memOk | with_reducible apply State.setMed_memOk | with_reducible apply State.unlock_memOk | with_reducible refine foldl_memOk _ _ _ (fun _ _ _ => ?_) ?_ | with_reducible refine And.intro ?_ ?_ | intro _ | split
theorem State.gateEnd_memOk (s : State) (k : Nat) (hm : s.memOk) : (State.gateEnd s k).memOk := by unfold State.gateEnd; repeat' first | simp only [memOk_mk, ite_memOk, ite_snd_memOk, ite_fst_memOk] | with_reducible assumption | with_reducible apply State.actFalls_memOk | with_reducible apply State.jobDone_memOk | with_reducible apply State.setAct_memOk | with_reducible refine foldl_memOk _ _ _ (fun _ _ _ => ?_) ?_ | with_reducible refine And.intro ?_ ?_ | intro _ | split
theorem State.sectorWrite_memOk (s : State) (k loc : Nat) (j : WJob) (bad : Bool) (hm : s.memOk) : (State.sectorWrite s k loc j bad).memOk := by unfold State.sectorWrite; repeat' first | simp only [memOk_mk, ite_memOk, ite_snd_memOk, ite_fst_memOk] | with_reducible assumption | with_reducible apply State.bump_memOk | with_reducible apply State.gateEnd_memOk | with_reducible apply State.raise_memOk | with_reducible apply State.setAct_memOk | with_reducible apply State.setMed_memOk | with_reducible apply State.slabUnitBad_memOk | with_reducible refine foldl_memOk _ _ _ (fun _ _ _ => ?_) ?_ | with_reducible refine And.intro ?_ ?_ | intro _ | split
theorem State.reallocate_memOk (s : State) (loc : Nat) (j : WJob) (hm : s.memOk) : (State.reallocate s loc j).memOk := by unfold State.reallocate; repeat' first | simp only [memOk_mk, ite_memOk, ite_snd_memOk, ite_fst_memOk] | with_reducible assumption | with_reducible apply State.addJob_memOk | with_reducible apply State.noSpare_memOk | with_reducible apply State.setMed_memOk | with_reducible apply State.startRemap_memOk | with_reducible apply State.unlock_memOk | with_reducible refine foldl_memOk _ _ _ (fun _ _ _ => ?_) ?_ | with_reducible refine And.intro ?_ ?_ | intro _ | split
theorem State.verifyFail_memOk (s : State) (k loc : Nat) (j : WJob) (hm : s.memOk) : (State.verifyFail s k loc j).memOk := by unfold State.verifyFail; repeat' first | simp only [memOk_mk, ite_memOk, ite_snd_memOk, ite_fst_memOk] | with_reducible assumption | with_reducible apply State.bumpk_memOk | with_reducible apply State.raise_memOk | with_reducible apply State.reallocate_memOk | with_reducible refine foldl_memOk _ _ _ (fun _ _ _ => ?_) ?_ | with_reducible refine And.intro ?_ ?_ | intro _ | split
theorem State.storeEnt_memOk (s : State) (pe : Nat) (e : Ent) (copies : Nat) (hm : s.memOk) : (State.storeEnt s pe e copies).memOk := by unfold State.storeEnt; repeat' first | simp only [memOk_mk, ite_memOk, ite_snd_memOk, ite_fst_memOk] | with_reducible assumption | with_reducible apply State.p_memOk | with_reducible apply State.raise_memOk | with_reducible apply State.setMed_memOk | with_reducible refine foldl_memOk _ _ _ (fun _ _ _ => ?_) ?_ | with_reducible refine And.intro ?_ ?_ | intro _ | split
theorem State.moveEnd_memOk (s : State) (pe : Nat) (hm : s.memOk) : (State.moveEnd s pe).memOk := by unfold State.moveEnd; repeat' first | simp only [memOk_mk, ite_memOk, ite_snd_memOk, ite_fst_memOk] | with_reducible assumption | with_reducible apply State.raise_memOk | with_reducible apply State.setMed_memOk | with_reducible refine foldl_memOk _ _ _ (fun _ _ _ => ?_) ?_ | with_reducible refine And.intro ?_ ?_ | intro _ | split
theorem State.placeRefused_memOk (s : State) (pe : Nat) (e : Ent) (hm : s.memOk) : (State.placeRefused s pe e).memOk := by unfold State.placeRefused; repeat' first | simp only [memOk_mk, ite_memOk, ite_snd_memOk, ite_fst_memOk] | with_reducible assumption | with_reducible apply State.noSpare_memOk | with_reducible apply State.p_memOk | with_reducible apply State.pieceLand_memOk | with_reducible apply State.setMed_memOk | with_reducible apply State.startRemap_memOk | with_reducible refine foldl_memOk _ _ _ (fun _ _ _ => ?_) ?_ | with_reducible refine And.intro ?_ ?_ | intro _ | split
theorem State.landMap_memOk (s : State) (id pe : Nat) (e : Ent) (failA failB : Nat) (hm : s.memOk) : (State.landMap s id pe e failA failB).memOk := by unfold State.landMap; repeat' first | simp only [memOk_mk, ite_memOk, ite_snd_memOk, ite_fst_memOk] | with_reducible assumption | with_reducible apply State.mapWrite_memOk | with_reducible apply State.moveEnd_memOk | with_reducible apply State.pieceLand_memOk | with_reducible apply State.placeRefused_memOk | with_reducible apply State.storeEnt_memOk | with_reducible apply State.strictGo_memOk | with_reducible refine foldl_memOk _ _ _ (fun _ _ _ => ?_) ?_ | with_reducible refine And.intro ?_ ?_ | intro _ | split
theorem State.placeNew_memOk (s : State) (p : OPiece) (pe : Nat) (hm : s.memOk) : (State.placeNew s p pe).memOk := by unfold State.placeNew; repeat' first | simp only [memOk_mk, ite_memOk, ite_snd_memOk, ite_fst_memOk] | with_reducible assumption | with_reducible apply State.p_memOk | with_reducible apply State.queueJobs_memOk | with_reducible apply State.setMed_memOk | with_reducible refine foldl_memOk _ _ _ (fun _ _ _ => ?_) ?_ | with_reducible refine And.intro ?_ ?_ | intro _ | split
theorem State.placeMove_memOk (s : State) (p : OPiece) (pe src : Nat) (hm : s.memOk) : (State.placeMove s p pe src).memOk := by unfold State.placeMove; repeat' first | simp only [memOk_mk, ite_memOk, ite_snd_memOk, ite_fst_memOk] | with_reducible assumption | with_reducible apply State.addJob_memOk | with_reducible apply State.p_memOk | with_reducible apply State.queueJobs_memOk | with_reducible apply State.setMed_memOk | with_reducible refine foldl_memOk _ _ _ (fun _ _ _ => ?_) ?_ | with_reducible refine And.intro ?_ ?_ | intro _ | split
theorem State.placementRun_memOk (s : State) (hm : s.memOk) : (State.placementRun s).memOk := by
  have one : ∀ (a : State × PlcOut) (i : Nat), a.1.memOk → (State.placeOne a i).1.memOk := by
    intro a i ha
    unfold State.placeOne
    dsimp only
    (repeat' split) <;> dsimp only <;> (repeat' first | simp only [memOk_mk] | with_reducible assumption | with_reducible apply State.setMed_memOk | with_reducible apply State.queueJobs_memOk | with_reducible apply State.placeMove_memOk | with_reducible apply State.placeNew_memOk | with_reducible apply State.raise_memOk | split)
  have all : ∀ (l : List Nat) (a : State × PlcOut), a.1.memOk → (l.foldl State.placeOne a).1.memOk := by
    intro l
    induction l with
    | nil => exact fun _ h => h
    | cons i t ih => exact fun a h => ih _ (one a i h)
  have e : ∀ u : State, u.memOk → (((u.placeOrder u.med.eligNow).take (u.secLe 0x41 0 2 1 16)).foldl State.placeOne (u, {})).1.memOk := fun u h => all _ _ h
  unfold State.placementRun
  apply State.loopStep_memOk
  apply State.p_memOk
  apply State.p_memOk
  apply State.setMed_memOk
  apply e
  apply State.slotDone_memOk
  apply State.atCycle_memOk
  exact hm

/-! ### SelfTest -/

theorem State.testStart_memOk (s : State) (slot : Nat) (c : Cmd) (hm : s.memOk) : (State.testStart s slot c).memOk := by unfold State.testStart; repeat' first | simp only [memOk_mk, ite_memOk, ite_snd_memOk, ite_fst_memOk] | with_reducible assumption | with_reducible apply State.p_memOk | with_reducible apply State.raise_memOk | with_reducible refine foldl_memOk _ _ _ (fun _ _ _ => ?_) ?_ | with_reducible refine And.intro ?_ ?_ | intro _ | split
theorem State.modRun_memOk (s : State) (f : TestRun → TestRun) (hm : s.memOk) : (State.modRun s f).memOk := by unfold State.modRun; repeat' first | simp only [memOk_mk, ite_memOk, ite_snd_memOk, ite_fst_memOk] | with_reducible assumption | with_reducible refine foldl_memOk _ _ _ (fun _ _ _ => ?_) ?_ | with_reducible refine And.intro ?_ ?_ | intro _ | split
theorem State.selfTest_memOk (s : State) (slot : Nat) (sel : Nat → Bool) (f : Nat → State → State) (h_f : ∀ (y0 : Nat) (y1 : State), y1.memOk → (f y0 y1).memOk) (hm : s.memOk) : (State.selfTest s slot sel f).memOk := by unfold State.selfTest; repeat' first | simp only [memOk_mk, ite_memOk, ite_snd_memOk, ite_fst_memOk] | with_reducible assumption | with_reducible apply State.adminPlain_memOk | with_reducible apply State.testStart_memOk | with_reducible apply h_f | with_reducible refine foldl_memOk _ _ _ (fun _ _ _ => ?_) ?_ | with_reducible refine And.intro ?_ ?_ | intro _ | split
theorem State.testDue_memOk (s : State) (mask : Nat) (f : HeadCtx → HeadCtx) (hm : s.memOk) : (State.testDue s mask f).memOk := by unfold State.testDue; repeat' first | simp only [memOk_mk, ite_memOk, ite_snd_memOk, ite_fst_memOk] | with_reducible assumption | with_reducible apply State.modRun_memOk | with_reducible apply State.setHd_memOk | with_reducible refine foldl_memOk _ _ _ (fun _ _ _ => ?_) ?_ | with_reducible refine And.intro ?_ ?_ | intro _ | split
theorem State.testRelease_memOk (s : State) (hm : s.memOk) : (State.testRelease s).memOk := by unfold State.testRelease; repeat' first | simp only [memOk_mk, ite_memOk, ite_snd_memOk, ite_fst_memOk] | with_reducible assumption | with_reducible apply State.p_memOk | with_reducible apply State.setChn_memOk | with_reducible apply State.setMed_memOk | with_reducible refine foldl_memOk _ _ _ (fun _ _ _ => ?_) ?_ | with_reducible refine And.intro ?_ ?_ | intro _ | split
theorem State.testReply_memOk (s : State) (r : TestRun) (status result : Nat) (hm : s.memOk) : (State.testReply s r status result).memOk := by unfold State.testReply; repeat' first | simp only [memOk_mk, ite_memOk, ite_snd_memOk, ite_fst_memOk] | with_reducible assumption | with_reducible apply State.completeWith_memOk | with_reducible apply State.result_memOk | with_reducible refine foldl_memOk _ _ _ (fun _ _ _ => ?_) ?_ | with_reducible refine And.intro ?_ ?_ | intro _ | split
theorem State.testFinish_memOk (s : State) (r : TestRun) (slabs : Nat) (hm : s.memOk) : (State.testFinish s r slabs).memOk := by unfold State.testFinish; repeat' first | simp only [memOk_mk, ite_memOk, ite_snd_memOk, ite_fst_memOk] | with_reducible assumption | with_reducible apply State.raise_memOk | with_reducible apply State.result_memOk | with_reducible apply State.testRelease_memOk | with_reducible apply State.testReply_memOk | with_reducible refine foldl_memOk _ _ _ (fun _ _ _ => ?_) ?_ | with_reducible refine And.intro ?_ ?_ | intro _ | split
theorem State.sliceBegin_memOk (s : State) (h : Nat) (sep : Bool) (hm : s.memOk) : (State.sliceBegin s h sep).memOk := by unfold State.sliceBegin; repeat' first | simp only [memOk_mk, ite_memOk, ite_snd_memOk, ite_fst_memOk] | with_reducible assumption | with_reducible apply State.gateDrop_memOk | with_reducible apply State.orderSeek_memOk | with_reducible apply State.p_memOk | with_reducible apply State.pk_memOk | with_reducible apply State.setChn_memOk | with_reducible refine foldl_memOk _ _ _ (fun _ _ _ => ?_) ?_ | with_reducible refine And.intro ?_ ?_ | intro _ | split
theorem State.sliceRelease_memOk (s : State) (k : Nat) (hm : s.memOk) : (State.sliceRelease s k).memOk := by unfold State.sliceRelease; repeat' first | simp only [memOk_mk, ite_memOk, ite_snd_memOk, ite_fst_memOk] | with_reducible assumption | with_reducible apply State.bump_memOk | with_reducible apply State.p_memOk | with_reducible apply State.pk_memOk | with_reducible apply State.setChn_memOk | with_reducible refine foldl_memOk _ _ _ (fun _ _ _ => ?_) ?_ | with_reducible refine And.intro ?_ ?_ | intro _ | split
theorem State.calResult_memOk (s : State) (k : Nat) (x : Slice) (ok : Bool) (hm : s.memOk) : (State.calResult s k x ok).memOk := by unfold State.calResult; repeat' first | simp only [memOk_mk, ite_memOk, ite_snd_memOk, ite_fst_memOk] | with_reducible assumption | with_reducible apply State.bistRecord_memOk | with_reducible apply State.raise_memOk | with_reducible apply State.result_memOk | with_reducible apply State.testHead_memOk | with_reducible refine foldl_memOk _ _ _ (fun _ _ _ => ?_) ?_ | with_reducible refine And.intro ?_ ?_ | intro _ | split
theorem State.touchEnd_memOk (s : State) (k : Nat) (x : Slice) (p : Option Nat) (hm : s.memOk) : (State.touchEnd s k x p).memOk := by unfold State.touchEnd; repeat' first | simp only [memOk_mk, ite_memOk, ite_snd_memOk, ite_fst_memOk] | with_reducible assumption | with_reducible apply State.calResult_memOk | with_reducible apply State.disableHead_memOk | with_reducible apply State.p_memOk | with_reducible apply State.pk_memOk | with_reducible apply State.setHd_memOk | with_reducible refine foldl_memOk _ _ _ (fun _ _ _ => ?_) ?_ | with_reducible refine And.intro ?_ ?_ | intro _ | split
theorem State.sepEnd_memOk (s : State) (k : Nat) (x : Slice) (sep : Int) (hm : s.memOk) : (State.sepEnd s k x sep).memOk := by unfold State.sepEnd; repeat' first | simp only [memOk_mk, ite_memOk, ite_snd_memOk, ite_fst_memOk] | with_reducible assumption | with_reducible apply State.calResult_memOk | with_reducible apply State.setHd_memOk | with_reducible refine foldl_memOk _ _ _ (fun _ _ _ => ?_) ?_ | with_reducible refine And.intro ?_ ?_ | intro _ | split

/-! ### Bus -/

theorem State.readDword_memOk (s : State) (fn a : Nat) (hm : s.memOk) : ((State.readDword s fn a).2).memOk := by unfold State.readDword; repeat' first | simp only [memOk_mk, ite_memOk, ite_snd_memOk, ite_fst_memOk] | with_reducible assumption | with_reducible apply State.dbgRead_memOk | with_reducible refine foldl_memOk _ _ _ (fun _ _ _ => ?_) ?_ | with_reducible refine And.intro ?_ ?_ | intro _ | split
theorem State.writeFld_memOk (s : State) (F : Fld) (k i v : Nat) (hm : s.memOk) : (State.writeFld s F k i v).memOk := by unfold State.writeFld; repeat' first | simp only [memOk_mk, ite_memOk, ite_snd_memOk, ite_fst_memOk] | with_reducible assumption | with_reducible apply State.hwClr_memOk | with_reducible apply State.pki_memOk | with_reducible apply State.rw_memOk | with_reducible refine foldl_memOk _ _ _ (fun _ _ _ => ?_) ?_ | with_reducible refine And.intro ?_ ?_ | intro _ | split
theorem State.writeFlds_memOk (s : State) (a v : Nat) (hm : s.memOk) : (State.writeFlds s a v).memOk := by unfold State.writeFlds; repeat' first | simp only [memOk_mk, ite_memOk, ite_snd_memOk, ite_fst_memOk] | with_reducible assumption | with_reducible apply State.writeFld_memOk | with_reducible refine foldl_memOk _ _ _ (fun _ _ _ => ?_) ?_ | with_reducible refine And.intro ?_ ?_ | intro _ | split
theorem State.rstctlWrite_memOk (s : State) (v : Nat) (hm : s.memOk) : (State.rstctlWrite s v).memOk := by unfold State.rstctlWrite; repeat' first | simp only [memOk_mk, ite_memOk, ite_snd_memOk, ite_fst_memOk] | with_reducible assumption | with_reducible apply State.hostReset_memOk | with_reducible refine foldl_memOk _ _ _ (fun _ _ _ => ?_) ?_ | with_reducible refine And.intro ?_ ?_ | intro _ | split
theorem State.mqpCtlWrite_memOk (s : State) (fn v : Nat) (hm : s.memOk) : (State.mqpCtlWrite s fn v).memOk := by unfold State.mqpCtlWrite; repeat' first | simp only [memOk_mk, ite_memOk, ite_snd_memOk, ite_fst_memOk] | with_reducible assumption | with_reducible apply State.adminEnable_memOk | with_reducible apply State.fnReset_memOk | with_reducible refine foldl_memOk _ _ _ (fun _ _ _ => ?_) ?_ | with_reducible refine And.intro ?_ ?_ | intro _ | split
theorem State.trcctlWrite_memOk (s : State) (k v : Nat) (hm : s.memOk) : (State.trcctlWrite s k v).memOk := by unfold State.trcctlWrite; repeat' first | simp only [memOk_mk, ite_memOk, ite_snd_memOk, ite_fst_memOk] | with_reducible assumption | with_reducible apply State.traceArm_memOk | with_reducible apply State.traceStop_memOk | with_reducible apply State.traceTrig_memOk | with_reducible apply State.writeFlds_memOk | with_reducible refine foldl_memOk _ _ _ (fun _ _ _ => ?_) ?_ | with_reducible refine And.intro ?_ ?_ | intro _ | split
theorem State.regWrite_memOk (s : State) (a v : Nat) (hm : s.memOk) : (State.regWrite s a v).memOk := by unfold State.regWrite; repeat' first | simp only [memOk_mk, ite_memOk, ite_snd_memOk, ite_fst_memOk] | with_reducible assumption | with_reducible apply State.admThaw_memOk | with_reducible apply State.dbgCtl_memOk | with_reducible apply State.dbgWrite_memOk | with_reducible apply State.evtMaskWrite_memOk | with_reducible apply State.evtPop_memOk | with_reducible apply State.mqpCtlWrite_memOk | with_reducible apply State.pk_memOk | with_reducible apply State.rstctlWrite_memOk | with_reducible apply State.snapHost_memOk | with_reducible apply State.trcctlWrite_memOk | with_reducible apply State.writeFlds_memOk | with_reducible refine foldl_memOk _ _ _ (fun _ _ _ => ?_) ?_ | with_reducible refine And.intro ?_ ?_ | intro _ | split
theorem State.writeHigh_memOk (s : State) (fn a v : Nat) (hm : s.memOk) : (State.writeHigh s fn a v).memOk := by unfold State.writeHigh; repeat' first | simp only [memOk_mk, ite_memOk, ite_snd_memOk, ite_fst_memOk] | with_reducible assumption | with_reducible refine foldl_memOk _ _ _ (fun _ _ _ => ?_) ?_ | with_reducible refine And.intro ?_ ?_ | intro _ | split
theorem State.commitWide_memOk (s : State) (fn a v : Nat) (hm : s.memOk) : (State.commitWide s fn a v).memOk := by unfold State.commitWide; repeat' first | simp only [memOk_mk, ite_memOk, ite_snd_memOk, ite_fst_memOk] | with_reducible assumption | with_reducible apply State.writeFlds_memOk | with_reducible refine foldl_memOk _ _ _ (fun _ _ _ => ?_) ?_ | with_reducible refine And.intro ?_ ?_ | intro _ | split
theorem State.msixWrite_memOk (s : State) (fn o v : Nat) (hm : s.memOk) : (State.msixWrite s fn o v).memOk := by unfold State.msixWrite; repeat' first | simp only [memOk_mk, ite_memOk, ite_snd_memOk, ite_fst_memOk] | with_reducible assumption | with_reducible apply State.unmask_memOk | with_reducible refine foldl_memOk _ _ _ (fun _ _ _ => ?_) ?_ | with_reducible refine And.intro ?_ ?_ | intro _ | split
theorem State.writeDword_memOk (s : State) (fn a v : Nat) (hm : s.memOk) : (State.writeDword s fn a v).memOk := by unfold State.writeDword; repeat' first | simp only [memOk_mk, ite_memOk, ite_snd_memOk, ite_fst_memOk] | with_reducible assumption | with_reducible apply State.commitWide_memOk | with_reducible apply State.headWrite_memOk | with_reducible apply State.msixWrite_memOk | with_reducible apply State.pushWrite_memOk | with_reducible apply State.regWrite_memOk | with_reducible apply State.tailWrite_memOk | with_reducible apply State.writeHigh_memOk | with_reducible refine foldl_memOk _ _ _ (fun _ _ _ => ?_) ?_ | with_reducible refine And.intro ?_ ?_ | intro _ | split
theorem State.writeBad_memOk (s : State) (fn a : Nat) (hm : s.memOk) : (State.writeBad s fn a).memOk := by unfold State.writeBad; repeat' first | simp only [memOk_mk, ite_memOk, ite_snd_memOk, ite_fst_memOk] | with_reducible assumption | with_reducible apply State.dbError_memOk | with_reducible apply State.pushWrite_memOk | with_reducible refine foldl_memOk _ _ _ (fun _ _ _ => ?_) ?_ | with_reducible refine And.intro ?_ ?_ | intro _ | split
theorem State.nextCycle_memOk (s : State) (hm : s.memOk) : (State.nextCycle s).memOk := by unfold State.nextCycle; repeat' first | simp only [memOk_mk, ite_memOk, ite_snd_memOk, ite_fst_memOk] | with_reducible assumption | with_reducible apply State.atCycle_memOk | with_reducible refine foldl_memOk _ _ _ (fun _ _ _ => ?_) ?_ | with_reducible refine And.intro ?_ ?_ | intro _ | split
theorem State.idle_memOk (s : State) (hm : s.memOk) : (State.idle s).memOk := by unfold State.idle; repeat' first | simp only [memOk_mk, ite_memOk, ite_snd_memOk, ite_fst_memOk] | with_reducible assumption | with_reducible apply State.nextCycle_memOk | with_reducible refine foldl_memOk _ _ _ (fun _ _ _ => ?_) ?_ | with_reducible refine And.intro ?_ ?_ | intro _ | split
theorem State.readWide_memOk (s : State) (fn a : Nat) (n : Nat) (x0 : Nat) (hm : s.memOk) : ((State.readWide s fn a n x0).2).memOk := by
  induction x0 generalizing s a n with
  | zero => exact hm
  | succ f ih =>
    simp only [State.readWide]
    repeat' first | simp only [memOk_mk, ite_memOk, ite_snd_memOk, ite_fst_memOk] | with_reducible assumption | with_reducible apply State.nextCycle_memOk | with_reducible apply State.readDword_memOk | with_reducible apply ih | with_reducible refine foldl_memOk _ _ _ (fun _ _ _ => ?_) ?_ | with_reducible refine And.intro ?_ ?_ | intro _ | split
theorem State.writeWide_memOk (s : State) (fn a : Nat) (l : List Byte) (x0 : Nat) (hm : s.memOk) : (State.writeWide s fn a l x0).memOk := by
  induction x0 generalizing s a l with
  | zero => exact hm
  | succ f ih =>
    simp only [State.writeWide]
    repeat' first | simp only [memOk_mk, ite_memOk, ite_snd_memOk, ite_fst_memOk] | with_reducible assumption | with_reducible apply State.commitWide_memOk | with_reducible apply State.nextCycle_memOk | with_reducible apply State.writeDword_memOk | with_reducible apply ih | with_reducible refine foldl_memOk _ _ _ (fun _ _ _ => ?_) ?_ | with_reducible refine And.intro ?_ ?_ | intro _ | split

/-! ### Pins -/

theorem State.extTake_memOk (s : State) (n : Nat) (high : Bool) (hm : s.memOk) : (State.extTake s n high).memOk := hm
theorem State.extStamp_memOk (s : State) (n : Nat) (hm : s.memOk) : (State.extStamp s n).memOk := hm
theorem State.wakeEdge_memOk (s : State) (low high : Nat) (hm : s.memOk) : (State.wakeEdge s low high).memOk := by unfold State.wakeEdge; repeat' first | simp only [memOk_mk, ite_memOk, ite_snd_memOk, ite_fst_memOk] | with_reducible assumption | with_reducible refine foldl_memOk _ _ _ (fun _ _ _ => ?_) ?_ | with_reducible refine And.intro ?_ ?_ | intro _ | split
theorem State.linkDown_memOk (s : State) (hm : s.memOk) : (State.linkDown s).memOk := hm

/-! ### Endpoint -/

theorem State.linkTrained_memOk (s : State) (speed n : Nat) (hm : s.memOk) : (State.linkTrained s speed n).memOk := by unfold State.linkTrained; repeat' first | simp only [memOk_mk, ite_memOk, ite_snd_memOk, ite_fst_memOk] | with_reducible assumption | with_reducible apply State.bump_memOk | with_reducible apply State.p_memOk | with_reducible apply State.raise_memOk | with_reducible refine foldl_memOk _ _ _ (fun _ _ _ => ?_) ?_ | with_reducible refine And.intro ?_ ?_ | intro _ | split
theorem State.benchLost_memOk (s : State) (x0 : BenchOwner) (hm : s.memOk) : (State.benchLost s x0).memOk := by unfold State.benchLost; repeat' first | simp only [memOk_mk, ite_memOk, ite_snd_memOk, ite_fst_memOk] | with_reducible assumption | with_reducible apply State.askAgain_memOk | with_reducible apply State.endIo_memOk | with_reducible apply State.p_memOk | with_reducible refine foldl_memOk _ _ _ (fun _ _ _ => ?_) ?_ | with_reducible refine And.intro ?_ ?_ | intro _ | split

/-! ### GazSlots -/

theorem State.eventRecords_memOk (s : State) (hm : s.memOk) : (State.eventRecords s).memOk := by unfold State.eventRecords; repeat' first | simp only [memOk_mk, ite_memOk, ite_snd_memOk, ite_fst_memOk] | with_reducible assumption | with_reducible apply State.record_memOk | with_reducible refine foldl_memOk _ _ _ (fun _ _ _ => ?_) ?_ | with_reducible refine And.intro ?_ ?_ | intro _ | split
theorem State.histRecord_memOk (s : State) (i : Nat) (hm : s.memOk) : (State.histRecord s i).memOk := by unfold State.histRecord; repeat' first | simp only [memOk_mk, ite_memOk, ite_snd_memOk, ite_fst_memOk] | with_reducible assumption | with_reducible apply State.record_memOk | with_reducible refine foldl_memOk _ _ _ (fun _ _ _ => ?_) ?_ | with_reducible refine And.intro ?_ ?_ | intro _ | split
theorem State.extRecord_memOk (s : State) (i : Nat) (hm : s.memOk) : (State.extRecord s i).memOk := by unfold State.extRecord; repeat' first | simp only [memOk_mk, ite_memOk, ite_snd_memOk, ite_fst_memOk] | with_reducible assumption | with_reducible apply State.fresh_memOk | with_reducible apply State.record_memOk | with_reducible refine foldl_memOk _ _ _ (fun _ _ _ => ?_) ?_ | with_reducible refine And.intro ?_ ?_ | intro _ | split
theorem State.pageEdge_memOk (s : State) (hm : s.memOk) : (State.pageEdge s).memOk := by unfold State.pageEdge; repeat' first | simp only [memOk_mk, ite_memOk, ite_snd_memOk, ite_fst_memOk] | with_reducible assumption | with_reducible apply State.extRecord_memOk | with_reducible apply State.histRecord_memOk | with_reducible apply State.p_memOk | with_reducible refine foldl_memOk _ _ _ (fun _ _ _ => ?_) ?_ | with_reducible refine And.intro ?_ ?_ | intro _ | split
theorem State.calPeriods_memOk (s : State) (hm : s.memOk) : (State.calPeriods s).memOk := by unfold State.calPeriods; repeat' first | simp only [memOk_mk, ite_memOk, ite_snd_memOk, ite_fst_memOk] | with_reducible assumption | with_reducible apply State.setHd_memOk | with_reducible refine foldl_memOk _ _ _ (fun _ _ _ => ?_) ?_ | with_reducible refine And.intro ?_ ?_ | intro _ | split
theorem State.opsecTick_memOk (s : State) (hm : s.memOk) : (State.opsecTick s).memOk := by unfold State.opsecTick; repeat' first | simp only [memOk_mk, ite_memOk, ite_snd_memOk, ite_fst_memOk] | with_reducible assumption | with_reducible apply State.calPeriods_memOk | with_reducible apply State.dropPersist_memOk | with_reducible apply State.p_memOk | with_reducible apply State.record_memOk | with_reducible refine foldl_memOk _ _ _ (fun _ _ _ => ?_) ?_ | with_reducible refine And.intro ?_ ?_ | intro _ | split
theorem State.programRecord_memOk (s : State) (e : PRec) (rest : List PRec) (hm : s.memOk) : (State.programRecord s e rest).memOk := by unfold State.programRecord; repeat' first | simp only [memOk_mk, ite_memOk, ite_snd_memOk, ite_fst_memOk] | with_reducible assumption | with_reducible apply State.dropPersist_memOk | with_reducible apply State.flashAsk_memOk | with_reducible apply State.p_memOk | with_reducible refine foldl_memOk _ _ _ (fun _ _ _ => ?_) ?_ | with_reducible refine And.intro ?_ ?_ | intro _ | split

/-! ### Spindle -/

theorem State.setSpn_memOk (s : State) (f : Spn → Spn) (hm : s.memOk) : (State.setSpn s f).memOk := hm
theorem State.attempt_memOk (s : State) (st : Nat) (hm : s.memOk) : (State.attempt s st).memOk := by unfold State.attempt; repeat' first | simp only [memOk_mk, ite_memOk, ite_snd_memOk, ite_fst_memOk] | with_reducible assumption | with_reducible apply State.enterSpn_memOk | with_reducible apply State.p_memOk | with_reducible apply State.setSpn_memOk | with_reducible refine foldl_memOk _ _ _ (fun _ _ _ => ?_) ?_ | with_reducible refine And.intro ?_ ?_ | intro _ | split
theorem State.startFailed_memOk (s : State) (hm : s.memOk) : (State.startFailed s).memOk := by unfold State.startFailed; repeat' first | simp only [memOk_mk, ite_memOk, ite_snd_memOk, ite_fst_memOk] | with_reducible assumption | with_reducible apply State.raise_memOk | with_reducible apply State.spindleFail_memOk | with_reducible refine foldl_memOk _ _ _ (fun _ _ _ => ?_) ?_ | with_reducible refine And.intro ?_ ?_ | intro _ | split
theorem State.attemptFail_memOk (s : State) (hm : s.memOk) : (State.attemptFail s).memOk := by unfold State.attemptFail; repeat' first | simp only [memOk_mk, ite_memOk, ite_snd_memOk, ite_fst_memOk] | with_reducible assumption | with_reducible apply State.spindleBrakeFor_memOk | with_reducible apply State.startFailed_memOk | with_reducible refine foldl_memOk _ _ _ (fun _ _ _ => ?_) ?_ | with_reducible refine And.intro ?_ ?_ | intro _ | split
theorem State.catchRotor_memOk (s : State) (v : Int) (hm : s.memOk) : (State.catchRotor s v).memOk := hm
theorem State.listened_memOk (s : State) (c len : Nat) (v : Int) (hm : s.memOk) : (State.listened s c len v).memOk := by unfold State.listened; repeat' first | simp only [memOk_mk, ite_memOk, ite_snd_memOk, ite_fst_memOk] | with_reducible assumption | with_reducible apply State.attempt_memOk | with_reducible apply State.catchRotor_memOk | with_reducible apply State.fresh_memOk | with_reducible apply State.p_memOk | with_reducible apply State.raise_memOk | with_reducible apply State.record_memOk | with_reducible apply State.setSpn_memOk | with_reducible apply State.spindleBrakeFor_memOk | with_reducible refine foldl_memOk _ _ _ (fun _ _ _ => ?_) ?_ | with_reducible refine And.intro ?_ ?_ | intro _ | split
theorem State.standbyReached_memOk (s : State) (hm : s.memOk) : (State.standbyReached s).memOk := by unfold State.standbyReached; repeat' first | simp only [memOk_mk, ite_memOk, ite_snd_memOk, ite_fst_memOk] | with_reducible assumption | with_reducible apply State.powerState_memOk | with_reducible refine foldl_memOk _ _ _ (fun _ _ _ => ?_) ?_ | with_reducible refine And.intro ?_ ?_ | intro _ | split
theorem State.startDone_memOk (s : State) (src : Nat) (hm : s.memOk) : (State.startDone s src).memOk := by unfold State.startDone; repeat' first | simp only [memOk_mk, ite_memOk, ite_snd_memOk, ite_fst_memOk] | with_reducible assumption | with_reducible apply State.loadAct_memOk | with_reducible apply State.loadAll_memOk | with_reducible apply State.p_memOk | with_reducible apply State.setSpn_memOk | with_reducible apply State.spindleStageEnd_memOk | with_reducible refine foldl_memOk _ _ _ (fun _ _ _ => ?_) ?_ | with_reducible refine And.intro ?_ ?_ | intro _ | split
theorem State.orderDone_memOk (s : State) (src : Nat) (hm : s.memOk) : (State.orderDone s src).memOk := by unfold State.orderDone; repeat' first | simp only [memOk_mk, ite_memOk, ite_snd_memOk, ite_fst_memOk] | with_reducible assumption | with_reducible apply State.p_memOk | with_reducible apply State.record_memOk | with_reducible apply State.setSpn_memOk | with_reducible apply State.startDone_memOk | with_reducible refine foldl_memOk _ _ _ (fun _ _ _ => ?_) ?_ | with_reducible refine And.intro ?_ ?_ | intro _ | split
theorem State.bandExit_memOk (s : State) (hm : s.memOk) : (State.bandExit s).memOk := by unfold State.bandExit; repeat' first | simp only [memOk_mk, ite_memOk, ite_snd_memOk, ite_fst_memOk] | with_reducible assumption | with_reducible apply State.gateDropAll_memOk | with_reducible apply State.p_memOk | with_reducible apply State.raise_memOk | with_reducible apply State.setSpn_memOk | with_reducible refine foldl_memOk _ _ _ (fun _ _ _ => ?_) ?_ | with_reducible refine And.intro ?_ ?_ | intro _ | split
theorem State.commutate_memOk (s : State) (hm : s.memOk) : (State.commutate s).memOk := by unfold State.commutate; repeat' first | simp only [memOk_mk, ite_memOk, ite_snd_memOk, ite_fst_memOk] | with_reducible assumption | with_reducible apply State.atCycle_memOk | with_reducible apply State.fresh_memOk | with_reducible apply State.p_memOk | with_reducible apply State.setSpn_memOk | with_reducible apply State.slotDone_memOk | with_reducible refine foldl_memOk _ _ _ (fun _ _ _ => ?_) ?_ | with_reducible refine And.intro ?_ ?_ | intro _ | split
theorem State.rotorLoss_memOk (s : State) (cause : Nat) (hm : s.memOk) : (State.rotorLoss s cause).memOk := by unfold State.rotorLoss; repeat' first | simp only [memOk_mk, ite_memOk, ite_snd_memOk, ite_fst_memOk] | with_reducible assumption | with_reducible apply State.abandonSlices_memOk | with_reducible apply State.bump_memOk | with_reducible apply State.enterSpn_memOk | with_reducible apply State.eparkAll_memOk | with_reducible apply State.gateDropAll_memOk | with_reducible apply State.p_memOk | with_reducible apply State.raise_memOk | with_reducible apply State.setSpn_memOk | with_reducible apply State.spindleBrakeFor_memOk | with_reducible refine foldl_memOk _ _ _ (fun _ _ _ => ?_) ?_ | with_reducible refine And.intro ?_ ?_ | intro _ | split
theorem State.brakeUpdate_memOk (s : State) (x : ObsIn) (hm : s.memOk) : (State.brakeUpdate s x).memOk := by unfold State.brakeUpdate; repeat' first | simp only [memOk_mk, ite_memOk, ite_snd_memOk, ite_fst_memOk] | with_reducible assumption | with_reducible apply State.p_memOk | with_reducible apply State.setSpn_memOk | with_reducible refine foldl_memOk _ _ _ (fun _ _ _ => ?_) ?_ | with_reducible refine And.intro ?_ ?_ | intro _ | split
theorem State.observed_memOk (s : State) (x : ObsIn) (hm : s.memOk) : (State.observed s x).memOk := by unfold State.observed; repeat' first | simp only [memOk_mk, ite_memOk, ite_snd_memOk, ite_fst_memOk] | with_reducible assumption | with_reducible apply State.brakeUpdate_memOk | with_reducible apply State.fresh_memOk | with_reducible apply State.p_memOk | with_reducible apply State.setSpn_memOk | with_reducible refine foldl_memOk _ _ _ (fun _ _ _ => ?_) ?_ | with_reducible refine And.intro ?_ ?_ | intro _ | split
theorem State.commOverrun_memOk (s : State) (ovr : Bool) (hm : s.memOk) : (State.commOverrun s ovr).memOk := by unfold State.commOverrun; repeat' first | simp only [memOk_mk, ite_memOk, ite_snd_memOk, ite_fst_memOk] | with_reducible assumption | with_reducible apply State.attemptFail_memOk | with_reducible apply State.p_memOk | with_reducible apply State.rotorLoss_memOk | with_reducible apply State.setSpn_memOk | with_reducible refine foldl_memOk _ _ _ (fun _ _ _ => ?_) ?_ | with_reducible refine And.intro ?_ ?_ | intro _ | split
theorem State.spindleEdge_memOk (s : State) (hm : s.memOk) : (State.spindleEdge s).memOk := by unfold State.spindleEdge; repeat' first | simp only [memOk_mk, ite_memOk, ite_snd_memOk, ite_fst_memOk] | with_reducible assumption | with_reducible apply State.enterSpn_memOk | with_reducible apply State.lossRecord_memOk | with_reducible apply State.p_memOk | with_reducible apply State.raise_memOk | with_reducible apply State.setSpn_memOk | with_reducible refine foldl_memOk _ _ _ (fun _ _ _ => ?_) ?_ | with_reducible refine And.intro ?_ ?_ | intro _ | split

/-! ### Tick -/

theorem State.snapRecord_memOk (s : State) (l : Nat × Nat × Nat × List Nat) (a : Arm) (n : Nat) (hm : s.memOk) : (State.snapRecord s l a n).memOk := by unfold State.snapRecord; repeat' first | simp only [memOk_mk, ite_memOk, ite_snd_memOk, ite_fst_memOk] | with_reducible assumption | with_reducible apply State.raise_memOk | with_reducible apply State.record_memOk | with_reducible refine foldl_memOk _ _ _ (fun _ _ _ => ?_) ?_ | with_reducible refine And.intro ?_ ?_ | intro _ | split
theorem State.snapshot_memOk (s : State) (left : Option Nat) (hm : s.memOk) : (State.snapshot s left).memOk := by
  unfold State.snapshot
  generalize s.dueLists = l
  have all : ∀ (l : List (Nat × Nat × Nat × List Nat)) (a : State × Option Nat), a.1.memOk → (l.foldl (fun (x : State × Option Nat) l =>
      match Tbl.find x.1.gaz.armed l.1 with
      | none => x
      | some a => (x.1.snapRecord l a (x.2.getD l.2.2.2.length), x.2.map fun n => n - l.2.2.2.length)) a).1.memOk := by
    intro l
    induction l with
    | nil => exact fun _ h => h
    | cons i t ih =>
      intro a h
      rw [List.foldl_cons]
      apply ih
      split
      · exact h
      · exact State.snapRecord_memOk _ _ _ _ h
  exact all l (s, left) hm
theorem State.pinEdge_memOk (s : State) (hm : s.memOk) : (State.pinEdge s).memOk := by unfold State.pinEdge; repeat' first | simp only [memOk_mk, ite_memOk, ite_snd_memOk, ite_fst_memOk] | with_reducible assumption | with_reducible apply State.p_memOk | with_reducible apply State.pk_memOk | with_reducible apply State.pki_memOk | with_reducible refine foldl_memOk _ _ _ (fun _ _ _ => ?_) ?_ | with_reducible refine And.intro ?_ ?_ | intro _ | split
theorem State.edgeStart_memOk (s : State) (hm : s.memOk) : (State.edgeStart s).memOk := by unfold State.edgeStart; repeat' first | simp only [memOk_mk, ite_memOk, ite_snd_memOk, ite_fst_memOk] | with_reducible assumption | with_reducible refine foldl_memOk _ _ _ (fun _ _ _ => ?_) ?_ | with_reducible refine And.intro ?_ ?_ | intro _ | split
theorem State.missedPost_memOk (s : State) (x : TickIn) (hm : s.memOk) : (State.missedPost s x).memOk := by unfold State.missedPost; repeat' first | simp only [memOk_mk, ite_memOk, ite_snd_memOk, ite_fst_memOk] | with_reducible assumption | with_reducible apply State.commitReq_memOk | with_reducible apply State.survey_memOk | with_reducible refine foldl_memOk _ _ _ (fun _ _ _ => ?_) ?_ | with_reducible refine And.intro ?_ ?_ | intro _ | split
theorem State.freqEdge_memOk (s : State) (hm : s.memOk) : (State.freqEdge s).memOk := by unfold State.freqEdge; repeat' first | simp only [memOk_mk, ite_memOk, ite_snd_memOk, ite_fst_memOk] | with_reducible assumption | with_reducible apply State.commit_memOk | with_reducible apply State.p_memOk | with_reducible apply State.raise_memOk | with_reducible refine foldl_memOk _ _ _ (fun _ _ _ => ?_) ?_ | with_reducible refine And.intro ?_ ?_ | intro _ | split
theorem State.loadEdge_memOk (s : State) (old : Nat) (hm : s.memOk) : (State.loadEdge s old).memOk := by unfold State.loadEdge; repeat' first | simp only [memOk_mk, ite_memOk, ite_snd_memOk, ite_fst_memOk] | with_reducible assumption | with_reducible apply State.p_memOk | with_reducible apply State.raise_memOk | with_reducible apply State.record_memOk | with_reducible apply ih | with_reducible refine foldl_memOk _ _ _ (fun _ _ _ => ?_) ?_ | with_reducible refine And.intro ?_ ?_ | intro _ | split
theorem State.ovrBits_memOk (s : State) (ov : Nat) (hm : s.memOk) : (State.ovrBits s ov).memOk := by unfold State.ovrBits; repeat' first | simp only [memOk_mk, ite_memOk, ite_snd_memOk, ite_fst_memOk] | with_reducible assumption | with_reducible apply State.hwSet_memOk | with_reducible refine foldl_memOk _ _ _ (fun _ _ _ => ?_) ?_ | with_reducible refine And.intro ?_ ?_ | intro _ | split
theorem State.overrunReport_memOk (s : State) (ov old : Nat) (hm : s.memOk) : (State.overrunReport s ov old).memOk := by unfold State.overrunReport; repeat' first | simp only [memOk_mk, ite_memOk, ite_snd_memOk, ite_fst_memOk] | with_reducible assumption | with_reducible apply State.bump_memOk | with_reducible apply State.ovrBits_memOk | with_reducible apply State.p_memOk | with_reducible apply State.raise_memOk | with_reducible apply State.record_memOk | with_reducible refine foldl_memOk _ _ _ (fun _ _ _ => ?_) ?_ | with_reducible refine And.intro ?_ ?_ | intro _ | split
theorem State.statOverrun_memOk (s : State) (hm : s.memOk) : (State.statOverrun s).memOk := by unfold State.statOverrun; repeat' first | simp only [memOk_mk, ite_memOk, ite_snd_memOk, ite_fst_memOk] | with_reducible assumption | with_reducible apply State.bump_memOk | with_reducible refine foldl_memOk _ _ _ (fun _ _ _ => ?_) ?_ | with_reducible refine And.intro ?_ ?_ | intro _ | split
theorem State.slotOverruns_memOk (s : State) (ov : Nat) (hm : s.memOk) : (State.slotOverruns s ov).memOk := by unfold State.slotOverruns; repeat' first | simp only [memOk_mk, ite_memOk, ite_snd_memOk, ite_fst_memOk] | with_reducible assumption | with_reducible apply State.statOverrun_memOk | with_reducible refine foldl_memOk _ _ _ (fun _ _ _ => ?_) ?_ | with_reducible refine And.intro ?_ ?_ | intro _ | split
theorem State.supplyEdge_memOk (s : State) (x : TickIn) (hm : s.memOk) : (State.supplyEdge s x).memOk := by unfold State.supplyEdge; repeat' first | simp only [memOk_mk, ite_memOk, ite_snd_memOk, ite_fst_memOk] | with_reducible assumption | with_reducible apply State.bump_memOk | with_reducible apply State.p_memOk | with_reducible refine foldl_memOk _ _ _ (fun _ _ _ => ?_) ?_ | with_reducible refine And.intro ?_ ?_ | intro _ | split
theorem State.pinTick_memOk (s : State) (x : TickIn) (hm : s.memOk) : (State.pinTick s x).memOk := by unfold State.pinTick; repeat' first | simp only [memOk_mk, ite_memOk, ite_snd_memOk, ite_fst_memOk] | with_reducible assumption | with_reducible apply State.wakeEdge_memOk | with_reducible refine foldl_memOk _ _ _ (fun _ _ _ => ?_) ?_ | with_reducible refine And.intro ?_ ?_ | intro _ | split
theorem State.deferEdge_memOk (s : State) (hm : s.memOk) : (State.deferEdge s).memOk := by unfold State.deferEdge; repeat' first | simp only [memOk_mk, ite_memOk, ite_snd_memOk, ite_fst_memOk] | with_reducible assumption | with_reducible apply State.p_memOk | with_reducible refine foldl_memOk _ _ _ (fun _ _ _ => ?_) ?_ | with_reducible refine And.intro ?_ ?_ | intro _ | split
theorem State.idleEdge_memOk (s : State) (hm : s.memOk) : (State.idleEdge s).memOk := by unfold State.idleEdge; repeat' first | simp only [memOk_mk, ite_memOk, ite_snd_memOk, ite_fst_memOk] | with_reducible assumption | with_reducible apply State.mediaDispatch_memOk | with_reducible refine foldl_memOk _ _ _ (fun _ _ _ => ?_) ?_ | with_reducible refine And.intro ?_ ?_ | intro _ | split
theorem State.surveyEdge_memOk (s : State) (hm : s.memOk) : (State.surveyEdge s).memOk := hm
theorem State.trimEdge_memOk (s : State) (hm : s.memOk) : (State.trimEdge s).memOk := hm
theorem State.fabEdge_memOk (s : State) (hm : s.memOk) : (State.fabEdge s).memOk := by unfold State.fabEdge; repeat' first | simp only [memOk_mk, ite_memOk, ite_snd_memOk, ite_fst_memOk] | with_reducible assumption | with_reducible apply State.setTrim_memOk | with_reducible refine foldl_memOk _ _ _ (fun _ _ _ => ?_) ?_ | with_reducible refine And.intro ?_ ?_ | intro _ | split
theorem State.windowEdge_memOk (s : State) (hm : s.memOk) : (State.windowEdge s).memOk := by unfold State.windowEdge; repeat' first | simp only [memOk_mk, ite_memOk, ite_snd_memOk, ite_fst_memOk] | with_reducible assumption | with_reducible refine foldl_memOk _ _ _ (fun _ _ _ => ?_) ?_ | with_reducible refine And.intro ?_ ?_ | intro _ | split
theorem State.gazEdge_memOk (s : State) (hm : s.memOk) : (State.gazEdge s).memOk := hm
theorem State.coverEdge_memOk (s : State) (hm : s.memOk) : (State.coverEdge s).memOk := by unfold State.coverEdge; repeat' first | simp only [memOk_mk, ite_memOk, ite_snd_memOk, ite_fst_memOk] | with_reducible assumption | with_reducible apply State.evtQueue_memOk | with_reducible apply State.sendMsix_memOk | with_reducible refine foldl_memOk _ _ _ (fun _ _ _ => ?_) ?_ | with_reducible refine And.intro ?_ ?_ | intro _ | split
theorem State.evtSend_memOk (s : State) (hm : s.memOk) : (State.evtSend s).memOk := by unfold State.evtSend; repeat' first | simp only [memOk_mk, ite_memOk, ite_snd_memOk, ite_fst_memOk] | with_reducible assumption | with_reducible apply State.bump_memOk | with_reducible apply State.p_memOk | with_reducible apply State.send_memOk | with_reducible refine foldl_memOk _ _ _ (fun _ _ _ => ?_) ?_ | with_reducible refine And.intro ?_ ?_ | intro _ | split
theorem State.mediaEdge_memOk (s : State) (hm : s.memOk) : (State.mediaEdge s).memOk := by unfold State.mediaEdge; repeat' first | simp only [memOk_mk, ite_memOk, ite_snd_memOk, ite_fst_memOk] | with_reducible assumption | with_reducible apply State.gateEnd_memOk | with_reducible apply State.pieceSweep_memOk | with_reducible apply State.rcvGo_memOk | with_reducible apply State.sendAccept_memOk | with_reducible apply State.setMed_memOk | with_reducible apply State.takeEnd_memOk | with_reducible refine foldl_memOk _ _ _ (fun _ _ _ => ?_) ?_ | with_reducible refine And.intro ?_ ?_ | intro _ | split
theorem State.alignEnd_memOk (s : State) (hm : s.memOk) : (State.alignEnd s).memOk := by unfold State.alignEnd; repeat' first | simp only [memOk_mk, ite_memOk, ite_snd_memOk, ite_fst_memOk] | with_reducible assumption | with_reducible apply State.enterSolo_memOk | with_reducible apply State.loadEdge_memOk | with_reducible apply State.p_memOk | with_reducible apply State.reclaimGo_memOk | with_reducible apply State.stageEndAt_memOk | with_reducible refine foldl_memOk _ _ _ (fun _ _ _ => ?_) ?_ | with_reducible refine And.intro ?_ ?_ | intro _ | split
theorem State.aloneEdge_memOk (s : State) (hm : s.memOk) : (State.aloneEdge s).memOk := by unfold State.aloneEdge; repeat' first | simp only [memOk_mk, ite_memOk, ite_snd_memOk, ite_fst_memOk] | with_reducible assumption | with_reducible apply State.enterSolo_memOk | with_reducible refine foldl_memOk _ _ _ (fun _ _ _ => ?_) ?_ | with_reducible refine And.intro ?_ ?_ | intro _ | split
theorem State.tickEdge_memOk (s : State) (x : TickIn) (hm : s.memOk) : (State.tickEdge s x).memOk := by unfold State.tickEdge; repeat' first | simp only [memOk_mk, ite_memOk, ite_snd_memOk, ite_fst_memOk] | with_reducible assumption | with_reducible apply State.alignEnd_memOk | with_reducible apply State.aloneEdge_memOk | with_reducible apply State.benchEdge_memOk | with_reducible apply State.commOverrun_memOk | with_reducible apply State.coverEdge_memOk | with_reducible apply State.deadlineFlush_memOk | with_reducible apply State.deferEdge_memOk | with_reducible apply State.edgeStart_memOk | with_reducible apply State.engineEdge_memOk | with_reducible apply State.engineLatch_memOk | with_reducible apply State.evtSend_memOk | with_reducible apply State.fabEdge_memOk | with_reducible apply State.freqEdge_memOk | with_reducible apply State.gather_memOk | with_reducible apply State.gazEdge_memOk | with_reducible apply State.idleEdge_memOk | with_reducible apply State.inOrder_memOk | with_reducible apply State.linkEdge_memOk | with_reducible apply State.loadEdge_memOk | with_reducible apply State.mediaEdge_memOk | with_reducible apply State.missedPost_memOk | with_reducible apply State.overrunReport_memOk | with_reducible apply State.pinEdge_memOk | with_reducible apply State.pinTick_memOk | with_reducible apply State.servoEdge_memOk | with_reducible apply State.slotOverruns_memOk | with_reducible apply State.snapshot_memOk | with_reducible apply State.spindleEdge_memOk | with_reducible apply State.supplyEdge_memOk | with_reducible apply State.surveyEdge_memOk | with_reducible apply State.timeSend_memOk | with_reducible apply State.traceEdge_memOk | with_reducible apply State.trimEdge_memOk | with_reducible apply State.tunEdge_memOk | with_reducible apply State.windowEdge_memOk | with_reducible refine foldl_memOk _ _ _ (fun _ _ _ => ?_) ?_ | with_reducible refine And.intro ?_ ?_ | intro _ | split
theorem State.anyEdge_memOk (s : State) (x : TickIn) (hm : s.memOk) : (State.anyEdge s x).memOk := by unfold State.anyEdge; repeat' first | simp only [memOk_mk, ite_memOk, ite_snd_memOk, ite_fst_memOk] | with_reducible assumption | with_reducible apply State.tickEdge_memOk | with_reducible apply State.wakeEdge_memOk | with_reducible refine foldl_memOk _ _ _ (fun _ _ _ => ?_) ?_ | with_reducible refine And.intro ?_ ?_ | intro _ | split

end Sys2Proof.Machine
end

