-- ==== Sys2Proof/Laws/Regs.lean ====
section
/-! SUPPORT. The laws of the register file: what storing a field does to a read of it and of every other field. -/

namespace Sys2Proof.Machine

theorem Tbl.find_put_same {α : Type} (t : Tbl α) (k : Nat) (v : α) : Tbl.find (Tbl.put t k v) k = some v := by
  induction t with
  | nil => simp [Tbl.put, Tbl.find]
  | cons c t ih =>
    simp only [Tbl.put]
    split
    · simp [Tbl.find]
    · split
      · simp [Tbl.find]
      · next h => simp [Tbl.find, h, ih]

theorem Tbl.find_put_ne {α : Type} (t : Tbl α) {k k' : Nat} (v : α) (h : k' ≠ k) : Tbl.find (Tbl.put t k v) k' = Tbl.find t k' := by
  induction t with
  | nil => simp [Tbl.put, Tbl.find, Ne.symm h]
  | cons c t ih =>
    simp only [Tbl.put]
    split
    · simp [Tbl.find, Ne.symm h]
    · split
      · next hc => simp [Tbl.find, Ne.symm h, hc]
      · simp [Tbl.find, ih]

/-- A field reads as it was stored, in its width. -/
@[simp] theorem RegFile.get_put_same (rf : RegFile) (F : Fld) (k i v : Nat) : (rf.put F k i v).get F k i = v % 2 ^ F.w := by
  simp [RegFile.get, RegFile.put, Tbl.getD, Tbl.find_put_same]

/-- Storing a field leaves every field under another key alone. -/
theorem RegFile.get_put_ne (rf : RegFile) {F G : Fld} {k i k' i' : Nat} (v : Nat) (h : G.key k' i' ≠ F.key k i) :
    (rf.put F k i v).get G k' i' = rf.get G k' i' := by
  simp [RegFile.get, RegFile.put, Tbl.getD, Tbl.find_put_ne _ _ h]

@[simp] theorem State.gki_pki_same (s : State) (F : Fld) (k i v : Nat) : (s.pki F k i v).gki F k i = v % 2 ^ F.w :=
  RegFile.get_put_same _ _ _ _ _

theorem State.gki_pki_ne (s : State) {F G : Fld} {k i k' i' : Nat} (v : Nat) (h : G.key k' i' ≠ F.key k i) :
    (s.pki F k i v).gki G k' i' = s.gki G k' i' := RegFile.get_put_ne _ _ h

@[simp] theorem State.gk_pk_same (s : State) (F : Fld) (k v : Nat) : (s.pk F k v).gk F k = v % 2 ^ F.w := RegFile.get_put_same _ _ _ _ _

theorem State.gk_pk_ne (s : State) {F G : Fld} {k k' : Nat} (v : Nat) (h : G.key k' 0 ≠ F.key k 0) : (s.pk F k v).gk G k' = s.gk G k' :=
  RegFile.get_put_ne _ _ h

@[simp] theorem State.g_p_same (s : State) (F : Fld) (v : Nat) : (s.p F v).g F = v % 2 ^ F.w := RegFile.get_put_same _ _ _ _ _

/-- For two fields of fixed places the premise closes by `decide`. -/
theorem State.g_p_ne (s : State) {F G : Fld} (v : Nat) (h : G.key 0 0 ≠ F.key 0 0) : (s.p F v).g G = s.g G := RegFile.get_put_ne _ _ h

theorem State.pki_regs (s : State) (F : Fld) (k i v : Nat) : (s.pki F k i v).regs = s.regs.put F k i v := rfl

theorem State.pk_regs (s : State) (F : Fld) (k v : Nat) : (s.pk F k v).regs = s.regs.put F k 0 v := rfl

theorem State.p_regs (s : State) (F : Fld) (v : Nat) : (s.p F v).regs = s.regs.put F 0 0 v := rfl

end Sys2Proof.Machine
end

