-- ==== Sys2Proof/Laws/Events.lean ====
section
/-! SUPPORT. What the raising of an event and the making of a record can do, said once: which fields of the state and which registers they may change. -/

namespace Sys2Proof.Machine

theorem State.reported_refl (s : State) : s.reported s := rfl

theorem State.reported_trans {s t u : State} (h : s.reported t) (h' : t.reported u) : s.reported u := by
  unfold State.reported at *
  rw [h'] ; rw [h]

theorem State.reported_foldl {α : Type} (f : State → α → State) (l : List α) (h : ∀ (s : State) a, s.reported (f s a)) (s : State) :
    s.reported (l.foldl f s) := by
  induction l generalizing s with
  | nil => rfl
  | cons a t ih => exact State.reported_trans (h s a) (ih _)

theorem State.regsBut_trans {ks : List Nat} {s t u : State} (h : s.regsBut ks t) (h' : t.regsBut ks u) : s.regsBut ks u :=
  fun F k i hk => (h' F k i hk).trans (h F k i hk)

theorem State.regsBut_foldl {α : Type} {ks : List Nat} (f : State → α → State) (l : List α) (h : ∀ s : State, ∀ a ∈ l, s.regsBut ks (f s a)) (s : State) :
    s.regsBut ks (l.foldl f s) := by
  induction l generalizing s with
  | nil => exact fun _ _ _ _ => rfl
  | cons a t ih => exact State.regsBut_trans (h s a (List.mem_cons_self ..)) (ih (fun s b hb => h s b (List.mem_cons_of_mem _ hb)) _)

theorem State.regsBut_pki {ks : List Nat} (s : State) (F : Fld) (k i v : Nat) (h : F.key k i ∈ ks) : s.regsBut ks (s.pki F k i v) :=
  fun _ _ _ hk => State.gki_pki_ne s v fun he => hk (he ▸ h)

theorem State.regsBut_of_regs {ks : List Nat} {s t : State} (h : t.regs = s.regs) : s.regsBut ks t :=
  fun _ _ _ _ => by simp [State.gki, h]

theorem State.sendMsix_reported (s : State) (fn vec : Nat) : s.reported (s.sendMsix fn vec) := by
  simp only [State.sendMsix]; (repeat' split) <;> rfl

theorem State.sendMsix_regs (s : State) (fn vec : Nat) : (s.sendMsix fn vec).regs = s.regs := by
  simp only [State.sendMsix]; (repeat' split) <;> rfl

theorem State.tracePush_reported (s : State) (m : List Byte) : s.reported (s.tracePush m) := by
  simp only [State.tracePush]; (repeat' split) <;> rfl

theorem State.tracePush_regs (s : State) (m : List Byte) : (s.tracePush m).regs = s.regs := by
  simp only [State.tracePush]; (repeat' split) <;> rfl

theorem State.trcTrigger_reported (s : State) (k post : Nat) : s.reported (s.trcTrigger k post) := by
  simp only [State.trcTrigger]; (repeat' split) <;> rfl

theorem State.trcSource_reported (s : State) (k src : Nat) : s.reported (s.trcSource k src) := by
  simp only [State.trcSource]; split
  · exact State.trcTrigger_reported _ _ _
  · rfl

theorem State.trcEvent_reported (s : State) (e : Nat) : s.reported (s.trcEvent e) := by
  apply State.reported_foldl
  intro s k
  dsimp only
  (repeat' split) <;> first
    | exact State.reported_trans (State.trcSource_reported _ _ _) (State.trcSource_reported _ _ _)
    | exact State.trcSource_reported _ _ _
    | rfl

theorem State.trcTrigger_regsBut {ks : List Nat} (s : State) (k post : Nat)
    (h : ∀ x ∈ [CTL_TRCSTAT_STATE.key k 0, CTL_TRCSTAT_IGNORED.key k 0, CTL_TRCTS.key k 0, CTL_TRCTRIGW.key k 0], x ∈ ks) :
    s.regsBut ks (s.trcTrigger k post) := by
  simp only [List.mem_cons, List.not_mem_nil, or_false, forall_eq_or_imp, forall_eq] at h
  simp only [State.trcTrigger]
  (repeat' split) <;> first
    | exact fun _ _ _ _ => rfl
    | exact State.regsBut_pki _ _ _ _ _ h.2.1
    | exact State.regsBut_trans (State.regsBut_pki _ _ _ _ _ h.1) (State.regsBut_trans (State.regsBut_pki _ _ _ _ _ h.2.2.1)
        (State.regsBut_trans (State.regsBut_pki _ _ _ _ _ h.2.2.2) (State.regsBut_of_regs rfl)))

theorem State.trcEvent_regsBut (s : State) (e : Nat) : s.regsBut raiseSides (s.trcEvent e) := by
  apply State.regsBut_foldl
  intro s k hk
  have hs : ∀ (s : State) (src : Nat), s.regsBut raiseSides (s.trcSource k src) := by
    intro s src
    simp only [State.trcSource]
    split
    · apply State.trcTrigger_regsBut
      intro x hx
      simp only [raiseSides, List.mem_cons, List.mem_flatMap]
      exact Or.inr ⟨k, by simpa using hk, by simpa using hx⟩
    · exact fun _ _ _ _ => rfl
  dsimp only
  (repeat' split) <;> first
    | exact State.regsBut_trans (hs _ _) (hs _ _)
    | exact hs _ _
    | exact fun _ _ _ _ => rfl

theorem State.evtMsg_reported (s : State) (e : Nat) : s.reported (s.evtMsg e) := by
  simp only [State.evtMsg]; (repeat' split) <;> first | rfl | exact State.reported_trans (by exact rfl) (State.sendMsix_reported _ _ _)

theorem State.evtMsg_regs (s : State) (e : Nat) : (s.evtMsg e).regs = s.regs := by
  simp only [State.evtMsg]; (repeat' split) <;> first | rfl | (rw [State.sendMsix_regs])

theorem State.evtDue_reported (s : State) (e : Nat) : s.reported (s.evtDue e) := by
  simp only [State.evtDue]; (repeat' split) <;> rfl

theorem State.evtDue_regs (s : State) (e : Nat) : (s.evtDue e).regs = s.regs := by
  simp only [State.evtDue]; (repeat' split) <;> rfl

theorem State.evtQueue_reported (s : State) (p : EvtParcel) : s.reported (s.evtQueue p) := by
  simp only [State.evtQueue]; split <;> rfl

theorem State.evtFab_reported (s : State) (e : Nat) : s.reported (s.evtFab e) := by
  simp only [State.evtFab]; (repeat' split) <;> first | rfl | exact State.reported_trans (by exact rfl) (State.evtQueue_reported _ _)

theorem State.evtFab_regsBut (s : State) (e : Nat) : s.regsBut raiseSides (s.evtFab e) := by
  simp only [State.evtFab, State.evtQueue]
  (repeat' split) <;> first
    | exact State.regsBut_of_regs rfl
    | exact State.regsBut_trans (State.regsBut_of_regs rfl) (State.regsBut_pki _ _ _ _ _ (by simp [raiseSides]))

theorem State.snapTrig_reported (s : State) (e : Nat) : s.reported (s.snapTrig e) := by
  refine State.reported_foldl (fun s (l : Nat × Nat × Nat × List Nat) => if l.2.1 = e then s.snapArm l.1 e else s) _ (fun s l => ?_) s
  split <;> rfl

theorem State.snapTrig_regs (s : State) (e : Nat) : (s.snapTrig e).regs = s.regs := by
  have : ∀ (l : List (Nat × Nat × Nat × List Nat)) (s : State),
      (l.foldl (fun s l => if l.2.1 = e then s.snapArm l.1 e else s) s).regs = s.regs := by
    intro l
    induction l with
    | nil => intro s; rfl
    | cons a t ih =>
      intro s
      rw [List.foldl_cons, ih]
      split <;> rfl
  exact this _ _

theorem State.evoPulse_reported (s : State) (e : Nat) : s.reported (s.evoPulse e) := by
  simp only [State.evoPulse]; (repeat' split) <;> rfl

theorem State.evoPulse_regs (s : State) (e : Nat) : (s.evoPulse e).regs = s.regs := by
  simp only [State.evoPulse]; (repeat' split) <;> rfl

theorem State.evtCount_reported (s : State) (e : Nat) : s.reported (s.evtCount e) := rfl

theorem State.evtCount_regsBut (s : State) (e : Nat) : s.regsBut (raiseKeys e) (s.evtCount e) :=
  State.regsBut_pki s EVT_PEND 0 (e / 32) (setBit (s.gki EVT_PEND 0 (e / 32)) (e % 32)) (by simp [raiseKeys])

theorem State.evtTrace_reported (s : State) (e : Nat) : s.reported (s.evtTrace e) := by
  unfold State.evtTrace; split
  · exact State.tracePush_reported _ _
  · rfl

theorem State.evtTrace_regs (s : State) (e : Nat) : (s.evtTrace e).regs = s.regs := by
  unfold State.evtTrace; split
  · exact State.tracePush_regs _ _
  · rfl

theorem State.evtRoutes_reported (s : State) (e : Nat) : s.reported (s.evtRoutes e) := by
  unfold State.evtRoutes; split
  · exact State.reported_trans (State.reported_trans (State.evtMsg_reported s e) (State.evoPulse_reported _ e)) (State.evtFab_reported _ e)
  · rfl

theorem State.evtRoutes_regsBut (s : State) (e : Nat) : s.regsBut raiseSides (s.evtRoutes e) := by
  unfold State.evtRoutes; split
  · exact State.regsBut_trans (State.regsBut_of_regs (by rw [State.evoPulse_regs, State.evtMsg_regs])) (State.evtFab_regsBut _ e)
  · exact fun _ _ _ _ => rfl

/-- Raising an event changes what reports are made of, and nothing else (Table EVT-4). -/
theorem State.raise_reported (s : State) (e : Nat) : s.reported (s.raise e) := by
  have h := State.reported_trans (State.evtCount_reported s e) (State.evtDue_reported _ e)
  have h := State.reported_trans h (State.snapTrig_reported _ e)
  have h := State.reported_trans h (State.trcEvent_reported _ e)
  have h := State.reported_trans h (State.evtTrace_reported _ e)
  exact State.reported_trans h (State.evtRoutes_reported _ e)

/-- What raising an event does to registers after its pending bit. -/
theorem State.raise_sides (s : State) (e : Nat) : (s.evtCount e).regsBut raiseSides (s.raise e) := by
  have h := State.regsBut_of_regs (ks := raiseSides) (State.evtDue_regs (s.evtCount e) e)
  have h := State.regsBut_trans h (State.regsBut_of_regs (State.snapTrig_regs _ e))
  have h := State.regsBut_trans h (State.trcEvent_regsBut _ e)
  have h := State.regsBut_trans h (State.regsBut_of_regs (State.evtTrace_regs _ e))
  exact State.regsBut_trans h (State.evtRoutes_regsBut _ e)

theorem State.regsBut_mono {ks l : List Nat} {s t : State} (h : ∀ x ∈ ks, x ∈ l) (hs : s.regsBut ks t) : s.regsBut l t :=
  fun F k i hk => hs F k i fun hm => hk (h _ hm)

/-- Raising an event changes no register but those of `raiseKeys`. -/
theorem State.raise_regsBut (s : State) (e : Nat) : s.regsBut (raiseKeys e) (s.raise e) :=
  State.regsBut_trans (State.evtCount_regsBut s e) (State.regsBut_mono (fun _ h => List.mem_cons_of_mem _ h) (State.raise_sides s e))

theorem State.ringPad_reported (s : State) (n : Nat) : s.reported (s.ringPad n) := by
  unfold State.ringPad; split <;> rfl

theorem State.ringPad_regs (s : State) (n : Nat) : (s.ringPad n).regs = s.regs := by
  unfold State.ringPad; split <;> rfl

theorem State.ringPtrs_reported (s : State) (a b : Nat) (e : RingEnt) : s.reported (s.ringPtrs a b e) := rfl

theorem State.ringPtrs_regsBut (s : State) (a b : Nat) (e : RingEnt) : s.regsBut recordKeys (s.ringPtrs a b e) := by
  unfold State.ringPtrs State.p
  have h := State.regsBut_pki (ks := recordKeys) s GAZ_NEWEST_SEQ 0 0 a (by decide)
  have h := State.regsBut_trans h (State.regsBut_pki _ GAZ_NEWEST_WPTR 0 0 b (by decide))
  have h := State.regsBut_trans h (State.regsBut_pki _ GAZ_OLDEST_SEQ 0 0 e.seq (by decide))
  exact State.regsBut_trans h (State.regsBut_pki _ GAZ_OLDEST_OPTR 0 0 (e.off / 16) (by decide))

theorem State.ringPut_reported (s : State) (r : Rec) : s.reported (s.ringPut r) := by
  unfold State.ringPut
  refine State.reported_trans (State.ringPad_reported s (s.ringPadLen r)) (State.reported_trans ?_ (State.ringPtrs_reported _ _ _ _))
  rfl

theorem State.ringPut_regsBut (s : State) (r : Rec) : s.regsBut recordKeys (s.ringPut r) := by
  unfold State.ringPut
  refine State.regsBut_trans (State.regsBut_of_regs ?_) (State.ringPtrs_regsBut _ _ _ _)
  exact State.ringPad_regs _ _

theorem State.ringOrHold_reported (s : State) (r : Rec) : s.reported (s.ringOrHold r) := by
  unfold State.ringOrHold; (repeat' split)
  · rfl
  · rfl
  · exact State.ringPut_reported _ _

theorem State.ringOrHold_regsBut (s : State) (r : Rec) : s.regsBut recordKeys (s.ringOrHold r) := by
  unfold State.ringOrHold; (repeat' split)
  · exact State.regsBut_of_regs rfl
  · exact State.regsBut_pki s GAZ_DROP_HOLD 0 0 (satAdd GAZ_DROP_HOLD.w (s.gki GAZ_DROP_HOLD 0 0) 1) (by decide)
  · exact State.ringPut_regsBut _ _

theorem State.persistPut_reported (s : State) (r : Rec) : s.reported (s.persistPut r) := by
  unfold State.persistPut; (repeat' split) <;> rfl

theorem State.persistPut_regsBut (s : State) (r : Rec) : s.regsBut recordKeys (s.persistPut r) := by
  unfold State.persistPut; (repeat' split)
  · exact fun _ _ _ _ => rfl
  · exact State.regsBut_pki s GAZ_DROP_PQUEUE 0 0 (satAdd GAZ_DROP_PQUEUE.w (s.gki GAZ_DROP_PQUEUE 0 0) 1) (by decide)
  · exact State.regsBut_pki s GAZ_DROP_PRATE 0 0 (satAdd GAZ_DROP_PRATE.w (s.gki GAZ_DROP_PRATE 0 0) 1) (by decide)
  · exact State.regsBut_pki (ks := recordKeys) s GAZ_STAT_PQUEUE 0 0 (s.gaz.pq ++ [_]).length (by decide)
  · exact State.regsBut_pki (ks := recordKeys) s GAZ_STAT_PQUEUE 0 0 (s.gaz.pq ++ [_]).length (by decide)

theorem State.prePut_reported (s : State) (r : Rec) : s.reported (s.prePut r) := by
  unfold State.prePut; split <;> rfl

theorem State.prePut_regsBut (s : State) (r : Rec) : s.regsBut recordKeys (s.prePut r) := by
  unfold State.prePut; split
  · exact State.regsBut_of_regs rfl
  · exact State.regsBut_pki s GAZ_DROP_PRECHART 0 0 (satAdd GAZ_DROP_PRECHART.w (s.gki GAZ_DROP_PRECHART 0 0) 1) (by decide)

/-- Putting a record in its place changes the Gazetteer, its ring and its registers, and nothing else (R601, R609, R610). -/
theorem State.recordPut_reported (s : State) (r : Rec) : s.reported (s.recordPut r) := by
  have h : s.reported (if r.persist = true then s.persistPut r else s) := by
    split
    · exact State.persistPut_reported _ _
    · rfl
  unfold State.recordPut
  revert h
  generalize (if r.persist = true then s.persistPut r else s) = t
  intro h
  dsimp only
  split
  · exact State.reported_trans h (State.ringOrHold_reported _ _)
  · exact State.reported_trans h (State.prePut_reported _ _)

/-- Putting a record in its place changes no register but those of `recordKeys`. -/
theorem State.recordPut_regsBut (s : State) (r : Rec) : s.regsBut recordKeys (s.recordPut r) := by
  have h : s.regsBut recordKeys (if r.persist = true then s.persistPut r else s) := by
    split
    · exact State.persistPut_regsBut _ _
    · exact fun _ _ _ _ => rfl
  unfold State.recordPut
  revert h
  generalize (if r.persist = true then s.persistPut r else s) = t
  intro h
  dsimp only
  split
  · exact State.regsBut_trans h (State.ringOrHold_regsBut _ _)
  · exact State.regsBut_trans h (State.prePut_regsBut _ _)

/-- Making a record, at once or into the batch of its cycle, changes the Gazetteer, its ring and its registers, and nothing else. -/
theorem State.record_reported (s : State) (r : Rec) : s.reported (s.record r) := by
  unfold State.record
  split
  · rfl
  · exact State.recordPut_reported s r

/-- Making a record changes no register but those of `recordKeys`. -/
theorem State.record_regsBut (s : State) (r : Rec) : s.regsBut recordKeys (s.record r) := by
  unfold State.record
  split
  · exact State.regsBut_of_regs rfl
  · exact State.recordPut_regsBut s r

theorem bitAt_testBit (v b : Nat) : bitAt v b = v.testBit b := by
  rw [bitAt, Nat.testBit_eq_decide_div_mod_eq]; exact (Bool.eq_iff_iff.mpr (by simp))

theorem setBit_testBit (v b : Nat) : (setBit v b).testBit b = true := by
  unfold setBit
  split
  · next h => rw [← bitAt_testBit, h]
  · next h => rw [bitAt_testBit] at h; rw [Nat.add_comm, Nat.testBit_two_pow_add_eq]; simpa using h

/-- A raised event is pending (R632). -/
theorem State.raise_evtPend (s : State) {e : Nat} (h : e < 192) : (s.raise e).evtPend e = true := by
  have hk : EVT_PEND.key 0 (e / 32) ∉ raiseSides := by
    have : e / 32 < 6 := by omega
    revert this; generalize e / 32 = j; intro hj
    have : ∀ j < 6, EVT_PEND.key 0 j ∉ raiseSides := by decide
    exact this j hj
  have h1 : (s.evtCount e).gki EVT_PEND 0 (e / 32) = setBit (s.gki EVT_PEND 0 (e / 32)) (e % 32) % 2 ^ 32 := State.gki_pki_same _ _ _ _ _
  rw [State.evtPend, State.raise_sides s e EVT_PEND 0 (e / 32) hk, h1, bitAt_testBit, Nat.testBit_mod_two_pow, setBit_testBit]
  simp [Nat.mod_lt]

/-- A register stored beside an event's pending word leaves the pending bit alone. -/
theorem State.evtPend_pki (s : State) (e k i v : Nat) {F : Fld} (h : EVT_PEND.key 0 (e / 32) ≠ F.key k i) : (s.pki F k i v).evtPend e = s.evtPend e := by
  rw [State.evtPend, State.gki_pki_ne s v h, State.evtPend]

theorem State.evtPend_p (s : State) (e v : Nat) {F : Fld} (h : EVT_PEND.key 0 (e / 32) ≠ F.key 0 0) : (s.p F v).evtPend e = s.evtPend e :=
  State.evtPend_pki s e 0 0 v h

theorem State.evtPend_pk (s : State) (e k v : Nat) {F : Fld} (h : EVT_PEND.key 0 (e / 32) ≠ F.key k 0) : (s.pk F k v).evtPend e = s.evtPend e :=
  State.evtPend_pki s e k 0 v h

theorem State.evtPend_record (s : State) (e : Nat) (r : Rec) (h : EVT_PEND.key 0 (e / 32) ∉ recordKeys) : (s.record r).evtPend e = s.evtPend e := by
  rw [State.evtPend, State.record_regsBut s r EVT_PEND 0 (e / 32) h, State.evtPend]

/-- A register read after a raising; for fields of fixed places the premise closes by `decide`. -/
theorem State.raise_g (s : State) (e : Nat) {F : Fld} (h : F.key 0 0 ∉ raiseKeys e) : (s.raise e).g F = s.g F := State.raise_regsBut s e F 0 0 h

theorem State.raise_get (s : State) (e : Nat) {F : Fld} {k i : Nat} (h : F.key k i ∉ raiseKeys e) : (s.raise e).regs.get F k i = s.regs.get F k i :=
  State.raise_regsBut s e F k i h

theorem State.record_get (s : State) (r : Rec) {F : Fld} {k i : Nat} (h : F.key k i ∉ recordKeys) : (s.record r).regs.get F k i = s.regs.get F k i :=
  State.record_regsBut s r F k i h

theorem State.raise_gk (s : State) (e k : Nat) {F : Fld} (h : F.key k 0 ∉ raiseKeys e) : (s.raise e).gk F k = s.gk F k := State.raise_regsBut s e F k 0 h

theorem State.record_g (s : State) (r : Rec) {F : Fld} (h : F.key 0 0 ∉ recordKeys) : (s.record r).g F = s.g F := State.record_regsBut s r F 0 0 h

theorem State.record_gk (s : State) (r : Rec) (k : Nat) {F : Fld} (h : F.key k 0 ∉ recordKeys) : (s.record r).gk F k = s.gk F k :=
  State.record_regsBut s r F k 0 h

end Sys2Proof.Machine
end

