-- ==== Sys2Proof/Laws/Parcels.lean ====
section
/-! SUPPORT. What the shared operation of the fabric parcels does with a parcel that this node consumes. -/

namespace Sys2Proof.Machine

/-- Counting a parcel out of its buffer changes neither the node's part in the epoch nor what it has seen of it. -/
theorem State.leaveBuffer_stale (s : State) (p : Parcel) : (s.leaveBuffer p).stale p = s.stale p := by
  unfold State.leaveBuffer State.owe State.stale
  split <;> rfl

/-- A parcel this node consumes leaves its buffer, its payload goes through the bench masters of its port, and its kind's work follows. -/
theorem State.consume_next {s : State} {p : Parcel} {kind : Nat} (f : State → State) (h : s.consumes p kind = true) :
    s.consume p kind f = .next (f (s.received p)) := by
  simp only [State.consumes, Bool.and_eq_true, beq_iff_eq, Bool.not_eq_true'] at h
  obtain ⟨⟨⟨h0, h1⟩, h2⟩, h3⟩ := h
  simp [State.consume, State.received, h0, h1, h2, h3, State.leaveBuffer_stale]

/-- Consuming a parcel always answers a next state. -/
theorem State.consume_answers (s : State) (p : Parcel) (kind : Nat) (f : State → State) : ∃ t, s.consume p kind f = .next t := ⟨_, rfl⟩

end Sys2Proof.Machine
end

