-- ==== Sys2Proof/Laws/State.lean ====
section
/-! SUPPORT. One lemma per field of State and shared update of it: what the update leaves alone; and the same of raising an event and making a record. -/

namespace Sys2Proof.Machine

@[simp] theorem State.pki_pending (s : State) (F : Fld) (k i v : Nat) : (s.pki F k i v).pending = s.pending := rfl
@[simp] theorem State.pki_latch (s : State) (F : Fld) (k i v : Nat) : (s.pki F k i v).latch = s.latch := rfl
@[simp] theorem State.pki_latchPrev (s : State) (F : Fld) (k i v : Nat) : (s.pki F k i v).latchPrev = s.latchPrev := rfl
@[simp] theorem State.pki_ctxL (s : State) (F : Fld) (k i v : Nat) : (s.pki F k i v).ctxL = s.ctxL := rfl
@[simp] theorem State.pki_ctxPrev (s : State) (F : Fld) (k i v : Nat) : (s.pki F k i v).ctxPrev = s.ctxPrev := rfl
@[simp] theorem State.pki_spansL (s : State) (F : Fld) (k i v : Nat) : (s.pki F k i v).spansL = s.spansL := rfl
@[simp] theorem State.pki_spansPrev (s : State) (F : Fld) (k i v : Nat) : (s.pki F k i v).spansPrev = s.spansPrev := rfl
@[simp] theorem State.pki_setNow (s : State) (F : Fld) (k i v : Nat) : (s.pki F k i v).setNow = s.setNow := rfl
@[simp] theorem State.pki_rdLatch (s : State) (F : Fld) (k i v : Nat) : (s.pki F k i v).rdLatch = s.rdLatch := rfl
@[simp] theorem State.pki_staging (s : State) (F : Fld) (k i v : Nat) : (s.pki F k i v).staging = s.staging := rfl
@[simp] theorem State.pki_freeCount (s : State) (F : Fld) (k i v : Nat) : (s.pki F k i v).freeCount = s.freeCount := rfl
@[simp] theorem State.pki_out (s : State) (F : Fld) (k i v : Nat) : (s.pki F k i v).out = s.out := rfl
@[simp] theorem State.pki_buf (s : State) (F : Fld) (k i v : Nat) : (s.pki F k i v).buf = s.buf := rfl
@[simp] theorem State.pki_flash (s : State) (F : Fld) (k i v : Nat) : (s.pki F k i v).flash = s.flash := rfl
@[simp] theorem State.pki_loops (s : State) (F : Fld) (k i v : Nat) : (s.pki F k i v).loops = s.loops := rfl
@[simp] theorem State.pki_clk (s : State) (F : Fld) (k i v : Nat) : (s.pki F k i v).clk = s.clk := rfl
@[simp] theorem State.pki_pwr (s : State) (F : Fld) (k i v : Nat) : (s.pki F k i v).pwr = s.pwr := rfl
@[simp] theorem State.pki_svy (s : State) (F : Fld) (k i v : Nat) : (s.pki F k i v).svy = s.svy := rfl
@[simp] theorem State.pki_pin (s : State) (F : Fld) (k i v : Nat) : (s.pki F k i v).pin = s.pin := rfl
@[simp] theorem State.pki_chart (s : State) (F : Fld) (k i v : Nat) : (s.pki F k i v).chart = s.chart := rfl
@[simp] theorem State.pki_boot (s : State) (F : Fld) (k i v : Nat) : (s.pki F k i v).boot = s.boot := rfl
@[simp] theorem State.pki_gaz (s : State) (F : Fld) (k i v : Nat) : (s.pki F k i v).gaz = s.gaz := rfl
@[simp] theorem State.pki_evt (s : State) (F : Fld) (k i v : Nat) : (s.pki F k i v).evt = s.evt := rfl
@[simp] theorem State.pki_msix (s : State) (F : Fld) (k i v : Nat) : (s.pki F k i v).msix = s.msix := rfl
@[simp] theorem State.pki_msixFnMask (s : State) (F : Fld) (k i v : Nat) : (s.pki F k i v).msixFnMask = s.msixFnMask := rfl
@[simp] theorem State.pki_trace (s : State) (F : Fld) (k i v : Nat) : (s.pki F k i v).trace = s.trace := rfl
@[simp] theorem State.pki_traceLost (s : State) (F : Fld) (k i v : Nat) : (s.pki F k i v).traceLost = s.traceLost := rfl
@[simp] theorem State.pki_traceAt (s : State) (F : Fld) (k i v : Nat) : (s.pki F k i v).traceAt = s.traceAt := rfl
@[simp] theorem State.pki_trcTick (s : State) (F : Fld) (k i v : Nat) : (s.pki F k i v).trcTick = s.trcTick := rfl
@[simp] theorem State.pki_trcLeft (s : State) (F : Fld) (k i v : Nat) : (s.pki F k i v).trcLeft = s.trcLeft := rfl
@[simp] theorem State.pki_pesMax (s : State) (F : Fld) (k i v : Nat) : (s.pki F k i v).pesMax = s.pesMax := rfl
@[simp] theorem State.pki_pesPrev (s : State) (F : Fld) (k i v : Nat) : (s.pki F k i v).pesPrev = s.pesPrev := rfl
@[simp] theorem State.pki_timeSeen (s : State) (F : Fld) (k i v : Nat) : (s.pki F k i v).timeSeen = s.timeSeen := rfl
@[simp] theorem State.pki_timeNow (s : State) (F : Fld) (k i v : Nat) : (s.pki F k i v).timeNow = s.timeNow := rfl
@[simp] theorem State.pki_spn (s : State) (F : Fld) (k i v : Nat) : (s.pki F k i v).spn = s.spn := rfl
@[simp] theorem State.pki_acts (s : State) (F : Fld) (k i v : Nat) : (s.pki F k i v).acts = s.acts := rfl
@[simp] theorem State.pki_retr (s : State) (F : Fld) (k i v : Nat) : (s.pki F k i v).retr = s.retr := rfl
@[simp] theorem State.pki_left (s : State) (F : Fld) (k i v : Nat) : (s.pki F k i v).left = s.left := rfl
@[simp] theorem State.pki_eng (s : State) (F : Fld) (k i v : Nat) : (s.pki F k i v).eng = s.eng := rfl
@[simp] theorem State.pki_wr (s : State) (F : Fld) (k i v : Nat) : (s.pki F k i v).wr = s.wr := rfl
@[simp] theorem State.pki_chan (s : State) (F : Fld) (k i v : Nat) : (s.pki F k i v).chan = s.chan := rfl
@[simp] theorem State.pki_heads (s : State) (F : Fld) (k i v : Nat) : (s.pki F k i v).heads = s.heads := rfl
@[simp] theorem State.pki_cmds (s : State) (F : Fld) (k i v : Nat) : (s.pki F k i v).cmds = s.cmds := rfl
@[simp] theorem State.pki_sqs (s : State) (F : Fld) (k i v : Nat) : (s.pki F k i v).sqs = s.sqs := rfl
@[simp] theorem State.pki_cqs (s : State) (F : Fld) (k i v : Nat) : (s.pki F k i v).cqs = s.cqs := rfl
@[simp] theorem State.pki_fetchSeq (s : State) (F : Fld) (k i v : Nat) : (s.pki F k i v).fetchSeq = s.fetchSeq := rfl
@[simp] theorem State.pki_lastFn (s : State) (F : Fld) (k i v : Nat) : (s.pki F k i v).lastFn = s.lastFn := rfl
@[simp] theorem State.pki_lastSq (s : State) (F : Fld) (k i v : Nat) : (s.pki F k i v).lastSq = s.lastSq := rfl
@[simp] theorem State.pki_visit (s : State) (F : Fld) (k i v : Nat) : (s.pki F k i v).visit = s.visit := rfl
@[simp] theorem State.pki_burst (s : State) (F : Fld) (k i v : Nat) : (s.pki F k i v).burst = s.burst := rfl
@[simp] theorem State.pki_credit (s : State) (F : Fld) (k i v : Nat) : (s.pki F k i v).credit = s.credit := rfl
@[simp] theorem State.pki_enEdge (s : State) (F : Fld) (k i v : Nat) : (s.pki F k i v).enEdge = s.enEdge := rfl
@[simp] theorem State.pki_locks (s : State) (F : Fld) (k i v : Nat) : (s.pki F k i v).locks = s.locks := rfl
@[simp] theorem State.pki_wbuf (s : State) (F : Fld) (k i v : Nat) : (s.pki F k i v).wbuf = s.wbuf := rfl
@[simp] theorem State.pki_devctl (s : State) (F : Fld) (k i v : Nat) : (s.pki F k i v).devctl = s.devctl := rfl
@[simp] theorem State.pki_pieces (s : State) (F : Fld) (k i v : Nat) : (s.pki F k i v).pieces = s.pieces := rfl
@[simp] theorem State.pki_slabs (s : State) (F : Fld) (k i v : Nat) : (s.pki F k i v).slabs = s.slabs := rfl
@[simp] theorem State.pki_slabWait (s : State) (F : Fld) (k i v : Nat) : (s.pki F k i v).slabWait = s.slabWait := rfl
@[simp] theorem State.pki_poolFull (s : State) (F : Fld) (k i v : Nat) : (s.pki F k i v).poolFull = s.poolFull := rfl
@[simp] theorem State.pki_med (s : State) (F : Fld) (k i v : Nat) : (s.pki F k i v).med = s.med := rfl
@[simp] theorem State.pki_keys (s : State) (F : Fld) (k i v : Nat) : (s.pki F k i v).keys = s.keys := rfl
@[simp] theorem State.pki_ceWin (s : State) (F : Fld) (k i v : Nat) : (s.pki F k i v).ceWin = s.ceWin := rfl
@[simp] theorem State.pki_ueWin (s : State) (F : Fld) (k i v : Nat) : (s.pki F k i v).ueWin = s.ueWin := rfl
@[simp] theorem State.pki_fab (s : State) (F : Fld) (k i v : Nat) : (s.pki F k i v).fab = s.fab := rfl
@[simp] theorem State.pki_twn (s : State) (F : Fld) (k i v : Nat) : (s.pki F k i v).twn = s.twn := rfl
@[simp] theorem State.pki_dreads (s : State) (F : Fld) (k i v : Nat) : (s.pki F k i v).dreads = s.dreads := rfl
@[simp] theorem State.pki_copyWait (s : State) (F : Fld) (k i v : Nat) : (s.pki F k i v).copyWait = s.copyWait := rfl
@[simp] theorem State.pki_remote (s : State) (F : Fld) (k i v : Nat) : (s.pki F k i v).remote = s.remote := rfl
@[simp] theorem State.pki_lostSeq (s : State) (F : Fld) (k i v : Nat) : (s.pki F k i v).lostSeq = s.lostSeq := rfl
@[simp] theorem State.pki_scrubLine (s : State) (F : Fld) (k i v : Nat) : (s.pki F k i v).scrubLine = s.scrubLine := rfl
@[simp] theorem State.pki_scrubEdge (s : State) (F : Fld) (k i v : Nat) : (s.pki F k i v).scrubEdge = s.scrubEdge := rfl
@[simp] theorem State.pki_dram (s : State) (F : Fld) (k i v : Nat) : (s.pki F k i v).dram = s.dram := rfl
@[simp] theorem State.pki_dramAcc (s : State) (F : Fld) (k i v : Nat) : (s.pki F k i v).dramAcc = s.dramAcc := rfl
@[simp] theorem State.pki_dramEdge (s : State) (F : Fld) (k i v : Nat) : (s.pki F k i v).dramEdge = s.dramEdge := rfl
@[simp] theorem State.pki_tst (s : State) (F : Fld) (k i v : Nat) : (s.pki F k i v).tst = s.tst := rfl
@[simp] theorem State.pki_bench (s : State) (F : Fld) (k i v : Nat) : (s.pki F k i v).bench = s.bench := rfl
@[simp] theorem State.pki_promo (s : State) (F : Fld) (k i v : Nat) : (s.pki F k i v).promo = s.promo := rfl
@[simp] theorem State.pki_promoDue (s : State) (F : Fld) (k i v : Nat) : (s.pki F k i v).promoDue = s.promoDue := rfl
@[simp] theorem State.pki_credMissed (s : State) (F : Fld) (k i v : Nat) : (s.pki F k i v).credMissed = s.credMissed := rfl

@[simp] theorem State.pk_pending (s : State) (F : Fld) (k v : Nat) : (s.pk F k v).pending = s.pending := rfl
@[simp] theorem State.pk_latch (s : State) (F : Fld) (k v : Nat) : (s.pk F k v).latch = s.latch := rfl
@[simp] theorem State.pk_latchPrev (s : State) (F : Fld) (k v : Nat) : (s.pk F k v).latchPrev = s.latchPrev := rfl
@[simp] theorem State.pk_ctxL (s : State) (F : Fld) (k v : Nat) : (s.pk F k v).ctxL = s.ctxL := rfl
@[simp] theorem State.pk_ctxPrev (s : State) (F : Fld) (k v : Nat) : (s.pk F k v).ctxPrev = s.ctxPrev := rfl
@[simp] theorem State.pk_spansL (s : State) (F : Fld) (k v : Nat) : (s.pk F k v).spansL = s.spansL := rfl
@[simp] theorem State.pk_spansPrev (s : State) (F : Fld) (k v : Nat) : (s.pk F k v).spansPrev = s.spansPrev := rfl
@[simp] theorem State.pk_setNow (s : State) (F : Fld) (k v : Nat) : (s.pk F k v).setNow = s.setNow := rfl
@[simp] theorem State.pk_rdLatch (s : State) (F : Fld) (k v : Nat) : (s.pk F k v).rdLatch = s.rdLatch := rfl
@[simp] theorem State.pk_staging (s : State) (F : Fld) (k v : Nat) : (s.pk F k v).staging = s.staging := rfl
@[simp] theorem State.pk_freeCount (s : State) (F : Fld) (k v : Nat) : (s.pk F k v).freeCount = s.freeCount := rfl
@[simp] theorem State.pk_out (s : State) (F : Fld) (k v : Nat) : (s.pk F k v).out = s.out := rfl
@[simp] theorem State.pk_buf (s : State) (F : Fld) (k v : Nat) : (s.pk F k v).buf = s.buf := rfl
@[simp] theorem State.pk_flash (s : State) (F : Fld) (k v : Nat) : (s.pk F k v).flash = s.flash := rfl
@[simp] theorem State.pk_loops (s : State) (F : Fld) (k v : Nat) : (s.pk F k v).loops = s.loops := rfl
@[simp] theorem State.pk_clk (s : State) (F : Fld) (k v : Nat) : (s.pk F k v).clk = s.clk := rfl
@[simp] theorem State.pk_pwr (s : State) (F : Fld) (k v : Nat) : (s.pk F k v).pwr = s.pwr := rfl
@[simp] theorem State.pk_svy (s : State) (F : Fld) (k v : Nat) : (s.pk F k v).svy = s.svy := rfl
@[simp] theorem State.pk_pin (s : State) (F : Fld) (k v : Nat) : (s.pk F k v).pin = s.pin := rfl
@[simp] theorem State.pk_chart (s : State) (F : Fld) (k v : Nat) : (s.pk F k v).chart = s.chart := rfl
@[simp] theorem State.pk_boot (s : State) (F : Fld) (k v : Nat) : (s.pk F k v).boot = s.boot := rfl
@[simp] theorem State.pk_gaz (s : State) (F : Fld) (k v : Nat) : (s.pk F k v).gaz = s.gaz := rfl
@[simp] theorem State.pk_evt (s : State) (F : Fld) (k v : Nat) : (s.pk F k v).evt = s.evt := rfl
@[simp] theorem State.pk_msix (s : State) (F : Fld) (k v : Nat) : (s.pk F k v).msix = s.msix := rfl
@[simp] theorem State.pk_msixFnMask (s : State) (F : Fld) (k v : Nat) : (s.pk F k v).msixFnMask = s.msixFnMask := rfl
@[simp] theorem State.pk_trace (s : State) (F : Fld) (k v : Nat) : (s.pk F k v).trace = s.trace := rfl
@[simp] theorem State.pk_traceLost (s : State) (F : Fld) (k v : Nat) : (s.pk F k v).traceLost = s.traceLost := rfl
@[simp] theorem State.pk_traceAt (s : State) (F : Fld) (k v : Nat) : (s.pk F k v).traceAt = s.traceAt := rfl
@[simp] theorem State.pk_trcTick (s : State) (F : Fld) (k v : Nat) : (s.pk F k v).trcTick = s.trcTick := rfl
@[simp] theorem State.pk_trcLeft (s : State) (F : Fld) (k v : Nat) : (s.pk F k v).trcLeft = s.trcLeft := rfl
@[simp] theorem State.pk_pesMax (s : State) (F : Fld) (k v : Nat) : (s.pk F k v).pesMax = s.pesMax := rfl
@[simp] theorem State.pk_pesPrev (s : State) (F : Fld) (k v : Nat) : (s.pk F k v).pesPrev = s.pesPrev := rfl
@[simp] theorem State.pk_timeSeen (s : State) (F : Fld) (k v : Nat) : (s.pk F k v).timeSeen = s.timeSeen := rfl
@[simp] theorem State.pk_timeNow (s : State) (F : Fld) (k v : Nat) : (s.pk F k v).timeNow = s.timeNow := rfl
@[simp] theorem State.pk_spn (s : State) (F : Fld) (k v : Nat) : (s.pk F k v).spn = s.spn := rfl
@[simp] theorem State.pk_acts (s : State) (F : Fld) (k v : Nat) : (s.pk F k v).acts = s.acts := rfl
@[simp] theorem State.pk_retr (s : State) (F : Fld) (k v : Nat) : (s.pk F k v).retr = s.retr := rfl
@[simp] theorem State.pk_left (s : State) (F : Fld) (k v : Nat) : (s.pk F k v).left = s.left := rfl
@[simp] theorem State.pk_eng (s : State) (F : Fld) (k v : Nat) : (s.pk F k v).eng = s.eng := rfl
@[simp] theorem State.pk_wr (s : State) (F : Fld) (k v : Nat) : (s.pk F k v).wr = s.wr := rfl
@[simp] theorem State.pk_chan (s : State) (F : Fld) (k v : Nat) : (s.pk F k v).chan = s.chan := rfl
@[simp] theorem State.pk_heads (s : State) (F : Fld) (k v : Nat) : (s.pk F k v).heads = s.heads := rfl
@[simp] theorem State.pk_cmds (s : State) (F : Fld) (k v : Nat) : (s.pk F k v).cmds = s.cmds := rfl
@[simp] theorem State.pk_sqs (s : State) (F : Fld) (k v : Nat) : (s.pk F k v).sqs = s.sqs := rfl
@[simp] theorem State.pk_cqs (s : State) (F : Fld) (k v : Nat) : (s.pk F k v).cqs = s.cqs := rfl
@[simp] theorem State.pk_fetchSeq (s : State) (F : Fld) (k v : Nat) : (s.pk F k v).fetchSeq = s.fetchSeq := rfl
@[simp] theorem State.pk_lastFn (s : State) (F : Fld) (k v : Nat) : (s.pk F k v).lastFn = s.lastFn := rfl
@[simp] theorem State.pk_lastSq (s : State) (F : Fld) (k v : Nat) : (s.pk F k v).lastSq = s.lastSq := rfl
@[simp] theorem State.pk_visit (s : State) (F : Fld) (k v : Nat) : (s.pk F k v).visit = s.visit := rfl
@[simp] theorem State.pk_burst (s : State) (F : Fld) (k v : Nat) : (s.pk F k v).burst = s.burst := rfl
@[simp] theorem State.pk_credit (s : State) (F : Fld) (k v : Nat) : (s.pk F k v).credit = s.credit := rfl
@[simp] theorem State.pk_enEdge (s : State) (F : Fld) (k v : Nat) : (s.pk F k v).enEdge = s.enEdge := rfl
@[simp] theorem State.pk_locks (s : State) (F : Fld) (k v : Nat) : (s.pk F k v).locks = s.locks := rfl
@[simp] theorem State.pk_wbuf (s : State) (F : Fld) (k v : Nat) : (s.pk F k v).wbuf = s.wbuf := rfl
@[simp] theorem State.pk_devctl (s : State) (F : Fld) (k v : Nat) : (s.pk F k v).devctl = s.devctl := rfl
@[simp] theorem State.pk_pieces (s : State) (F : Fld) (k v : Nat) : (s.pk F k v).pieces = s.pieces := rfl
@[simp] theorem State.pk_slabs (s : State) (F : Fld) (k v : Nat) : (s.pk F k v).slabs = s.slabs := rfl
@[simp] theorem State.pk_slabWait (s : State) (F : Fld) (k v : Nat) : (s.pk F k v).slabWait = s.slabWait := rfl
@[simp] theorem State.pk_poolFull (s : State) (F : Fld) (k v : Nat) : (s.pk F k v).poolFull = s.poolFull := rfl
@[simp] theorem State.pk_med (s : State) (F : Fld) (k v : Nat) : (s.pk F k v).med = s.med := rfl
@[simp] theorem State.pk_keys (s : State) (F : Fld) (k v : Nat) : (s.pk F k v).keys = s.keys := rfl
@[simp] theorem State.pk_ceWin (s : State) (F : Fld) (k v : Nat) : (s.pk F k v).ceWin = s.ceWin := rfl
@[simp] theorem State.pk_ueWin (s : State) (F : Fld) (k v : Nat) : (s.pk F k v).ueWin = s.ueWin := rfl
@[simp] theorem State.pk_fab (s : State) (F : Fld) (k v : Nat) : (s.pk F k v).fab = s.fab := rfl
@[simp] theorem State.pk_twn (s : State) (F : Fld) (k v : Nat) : (s.pk F k v).twn = s.twn := rfl
@[simp] theorem State.pk_dreads (s : State) (F : Fld) (k v : Nat) : (s.pk F k v).dreads = s.dreads := rfl
@[simp] theorem State.pk_copyWait (s : State) (F : Fld) (k v : Nat) : (s.pk F k v).copyWait = s.copyWait := rfl
@[simp] theorem State.pk_remote (s : State) (F : Fld) (k v : Nat) : (s.pk F k v).remote = s.remote := rfl
@[simp] theorem State.pk_lostSeq (s : State) (F : Fld) (k v : Nat) : (s.pk F k v).lostSeq = s.lostSeq := rfl
@[simp] theorem State.pk_scrubLine (s : State) (F : Fld) (k v : Nat) : (s.pk F k v).scrubLine = s.scrubLine := rfl
@[simp] theorem State.pk_scrubEdge (s : State) (F : Fld) (k v : Nat) : (s.pk F k v).scrubEdge = s.scrubEdge := rfl
@[simp] theorem State.pk_dram (s : State) (F : Fld) (k v : Nat) : (s.pk F k v).dram = s.dram := rfl
@[simp] theorem State.pk_dramAcc (s : State) (F : Fld) (k v : Nat) : (s.pk F k v).dramAcc = s.dramAcc := rfl
@[simp] theorem State.pk_dramEdge (s : State) (F : Fld) (k v : Nat) : (s.pk F k v).dramEdge = s.dramEdge := rfl
@[simp] theorem State.pk_tst (s : State) (F : Fld) (k v : Nat) : (s.pk F k v).tst = s.tst := rfl
@[simp] theorem State.pk_bench (s : State) (F : Fld) (k v : Nat) : (s.pk F k v).bench = s.bench := rfl
@[simp] theorem State.pk_promo (s : State) (F : Fld) (k v : Nat) : (s.pk F k v).promo = s.promo := rfl
@[simp] theorem State.pk_promoDue (s : State) (F : Fld) (k v : Nat) : (s.pk F k v).promoDue = s.promoDue := rfl
@[simp] theorem State.pk_credMissed (s : State) (F : Fld) (k v : Nat) : (s.pk F k v).credMissed = s.credMissed := rfl

@[simp] theorem State.p_pending (s : State) (F : Fld) (v : Nat) : (s.p F v).pending = s.pending := rfl
@[simp] theorem State.p_latch (s : State) (F : Fld) (v : Nat) : (s.p F v).latch = s.latch := rfl
@[simp] theorem State.p_latchPrev (s : State) (F : Fld) (v : Nat) : (s.p F v).latchPrev = s.latchPrev := rfl
@[simp] theorem State.p_ctxL (s : State) (F : Fld) (v : Nat) : (s.p F v).ctxL = s.ctxL := rfl
@[simp] theorem State.p_ctxPrev (s : State) (F : Fld) (v : Nat) : (s.p F v).ctxPrev = s.ctxPrev := rfl
@[simp] theorem State.p_spansL (s : State) (F : Fld) (v : Nat) : (s.p F v).spansL = s.spansL := rfl
@[simp] theorem State.p_spansPrev (s : State) (F : Fld) (v : Nat) : (s.p F v).spansPrev = s.spansPrev := rfl
@[simp] theorem State.p_setNow (s : State) (F : Fld) (v : Nat) : (s.p F v).setNow = s.setNow := rfl
@[simp] theorem State.p_rdLatch (s : State) (F : Fld) (v : Nat) : (s.p F v).rdLatch = s.rdLatch := rfl
@[simp] theorem State.p_staging (s : State) (F : Fld) (v : Nat) : (s.p F v).staging = s.staging := rfl
@[simp] theorem State.p_freeCount (s : State) (F : Fld) (v : Nat) : (s.p F v).freeCount = s.freeCount := rfl
@[simp] theorem State.p_out (s : State) (F : Fld) (v : Nat) : (s.p F v).out = s.out := rfl
@[simp] theorem State.p_buf (s : State) (F : Fld) (v : Nat) : (s.p F v).buf = s.buf := rfl
@[simp] theorem State.p_flash (s : State) (F : Fld) (v : Nat) : (s.p F v).flash = s.flash := rfl
@[simp] theorem State.p_loops (s : State) (F : Fld) (v : Nat) : (s.p F v).loops = s.loops := rfl
@[simp] theorem State.p_clk (s : State) (F : Fld) (v : Nat) : (s.p F v).clk = s.clk := rfl
@[simp] theorem State.p_pwr (s : State) (F : Fld) (v : Nat) : (s.p F v).pwr = s.pwr := rfl
@[simp] theorem State.p_svy (s : State) (F : Fld) (v : Nat) : (s.p F v).svy = s.svy := rfl
@[simp] theorem State.p_pin (s : State) (F : Fld) (v : Nat) : (s.p F v).pin = s.pin := rfl
@[simp] theorem State.p_chart (s : State) (F : Fld) (v : Nat) : (s.p F v).chart = s.chart := rfl
@[simp] theorem State.p_boot (s : State) (F : Fld) (v : Nat) : (s.p F v).boot = s.boot := rfl
@[simp] theorem State.p_gaz (s : State) (F : Fld) (v : Nat) : (s.p F v).gaz = s.gaz := rfl
@[simp] theorem State.p_evt (s : State) (F : Fld) (v : Nat) : (s.p F v).evt = s.evt := rfl
@[simp] theorem State.p_msix (s : State) (F : Fld) (v : Nat) : (s.p F v).msix = s.msix := rfl
@[simp] theorem State.p_msixFnMask (s : State) (F : Fld) (v : Nat) : (s.p F v).msixFnMask = s.msixFnMask := rfl
@[simp] theorem State.p_trace (s : State) (F : Fld) (v : Nat) : (s.p F v).trace = s.trace := rfl
@[simp] theorem State.p_traceLost (s : State) (F : Fld) (v : Nat) : (s.p F v).traceLost = s.traceLost := rfl
@[simp] theorem State.p_traceAt (s : State) (F : Fld) (v : Nat) : (s.p F v).traceAt = s.traceAt := rfl
@[simp] theorem State.p_trcTick (s : State) (F : Fld) (v : Nat) : (s.p F v).trcTick = s.trcTick := rfl
@[simp] theorem State.p_trcLeft (s : State) (F : Fld) (v : Nat) : (s.p F v).trcLeft = s.trcLeft := rfl
@[simp] theorem State.p_pesMax (s : State) (F : Fld) (v : Nat) : (s.p F v).pesMax = s.pesMax := rfl
@[simp] theorem State.p_pesPrev (s : State) (F : Fld) (v : Nat) : (s.p F v).pesPrev = s.pesPrev := rfl
@[simp] theorem State.p_timeSeen (s : State) (F : Fld) (v : Nat) : (s.p F v).timeSeen = s.timeSeen := rfl
@[simp] theorem State.p_timeNow (s : State) (F : Fld) (v : Nat) : (s.p F v).timeNow = s.timeNow := rfl
@[simp] theorem State.p_spn (s : State) (F : Fld) (v : Nat) : (s.p F v).spn = s.spn := rfl
@[simp] theorem State.p_acts (s : State) (F : Fld) (v : Nat) : (s.p F v).acts = s.acts := rfl
@[simp] theorem State.p_retr (s : State) (F : Fld) (v : Nat) : (s.p F v).retr = s.retr := rfl
@[simp] theorem State.p_left (s : State) (F : Fld) (v : Nat) : (s.p F v).left = s.left := rfl
@[simp] theorem State.p_eng (s : State) (F : Fld) (v : Nat) : (s.p F v).eng = s.eng := rfl
@[simp] theorem State.p_wr (s : State) (F : Fld) (v : Nat) : (s.p F v).wr = s.wr := rfl
@[simp] theorem State.p_chan (s : State) (F : Fld) (v : Nat) : (s.p F v).chan = s.chan := rfl
@[simp] theorem State.p_heads (s : State) (F : Fld) (v : Nat) : (s.p F v).heads = s.heads := rfl
@[simp] theorem State.p_cmds (s : State) (F : Fld) (v : Nat) : (s.p F v).cmds = s.cmds := rfl
@[simp] theorem State.p_sqs (s : State) (F : Fld) (v : Nat) : (s.p F v).sqs = s.sqs := rfl
@[simp] theorem State.p_cqs (s : State) (F : Fld) (v : Nat) : (s.p F v).cqs = s.cqs := rfl
@[simp] theorem State.p_fetchSeq (s : State) (F : Fld) (v : Nat) : (s.p F v).fetchSeq = s.fetchSeq := rfl
@[simp] theorem State.p_lastFn (s : State) (F : Fld) (v : Nat) : (s.p F v).lastFn = s.lastFn := rfl
@[simp] theorem State.p_lastSq (s : State) (F : Fld) (v : Nat) : (s.p F v).lastSq = s.lastSq := rfl
@[simp] theorem State.p_visit (s : State) (F : Fld) (v : Nat) : (s.p F v).visit = s.visit := rfl
@[simp] theorem State.p_burst (s : State) (F : Fld) (v : Nat) : (s.p F v).burst = s.burst := rfl
@[simp] theorem State.p_credit (s : State) (F : Fld) (v : Nat) : (s.p F v).credit = s.credit := rfl
@[simp] theorem State.p_enEdge (s : State) (F : Fld) (v : Nat) : (s.p F v).enEdge = s.enEdge := rfl
@[simp] theorem State.p_locks (s : State) (F : Fld) (v : Nat) : (s.p F v).locks = s.locks := rfl
@[simp] theorem State.p_wbuf (s : State) (F : Fld) (v : Nat) : (s.p F v).wbuf = s.wbuf := rfl
@[simp] theorem State.p_devctl (s : State) (F : Fld) (v : Nat) : (s.p F v).devctl = s.devctl := rfl
@[simp] theorem State.p_pieces (s : State) (F : Fld) (v : Nat) : (s.p F v).pieces = s.pieces := rfl
@[simp] theorem State.p_slabs (s : State) (F : Fld) (v : Nat) : (s.p F v).slabs = s.slabs := rfl
@[simp] theorem State.p_slabWait (s : State) (F : Fld) (v : Nat) : (s.p F v).slabWait = s.slabWait := rfl
@[simp] theorem State.p_poolFull (s : State) (F : Fld) (v : Nat) : (s.p F v).poolFull = s.poolFull := rfl
@[simp] theorem State.p_med (s : State) (F : Fld) (v : Nat) : (s.p F v).med = s.med := rfl
@[simp] theorem State.p_keys (s : State) (F : Fld) (v : Nat) : (s.p F v).keys = s.keys := rfl
@[simp] theorem State.p_ceWin (s : State) (F : Fld) (v : Nat) : (s.p F v).ceWin = s.ceWin := rfl
@[simp] theorem State.p_ueWin (s : State) (F : Fld) (v : Nat) : (s.p F v).ueWin = s.ueWin := rfl
@[simp] theorem State.p_fab (s : State) (F : Fld) (v : Nat) : (s.p F v).fab = s.fab := rfl
@[simp] theorem State.p_twn (s : State) (F : Fld) (v : Nat) : (s.p F v).twn = s.twn := rfl
@[simp] theorem State.p_dreads (s : State) (F : Fld) (v : Nat) : (s.p F v).dreads = s.dreads := rfl
@[simp] theorem State.p_copyWait (s : State) (F : Fld) (v : Nat) : (s.p F v).copyWait = s.copyWait := rfl
@[simp] theorem State.p_remote (s : State) (F : Fld) (v : Nat) : (s.p F v).remote = s.remote := rfl
@[simp] theorem State.p_lostSeq (s : State) (F : Fld) (v : Nat) : (s.p F v).lostSeq = s.lostSeq := rfl
@[simp] theorem State.p_scrubLine (s : State) (F : Fld) (v : Nat) : (s.p F v).scrubLine = s.scrubLine := rfl
@[simp] theorem State.p_scrubEdge (s : State) (F : Fld) (v : Nat) : (s.p F v).scrubEdge = s.scrubEdge := rfl
@[simp] theorem State.p_dram (s : State) (F : Fld) (v : Nat) : (s.p F v).dram = s.dram := rfl
@[simp] theorem State.p_dramAcc (s : State) (F : Fld) (v : Nat) : (s.p F v).dramAcc = s.dramAcc := rfl
@[simp] theorem State.p_dramEdge (s : State) (F : Fld) (v : Nat) : (s.p F v).dramEdge = s.dramEdge := rfl
@[simp] theorem State.p_tst (s : State) (F : Fld) (v : Nat) : (s.p F v).tst = s.tst := rfl
@[simp] theorem State.p_bench (s : State) (F : Fld) (v : Nat) : (s.p F v).bench = s.bench := rfl
@[simp] theorem State.p_promo (s : State) (F : Fld) (v : Nat) : (s.p F v).promo = s.promo := rfl
@[simp] theorem State.p_promoDue (s : State) (F : Fld) (v : Nat) : (s.p F v).promoDue = s.promoDue := rfl
@[simp] theorem State.p_credMissed (s : State) (F : Fld) (v : Nat) : (s.p F v).credMissed = s.credMissed := rfl

@[simp] theorem State.emit_pending (s : State) (o : Output) : (s.emit o).pending = s.pending := rfl
@[simp] theorem State.emit_regs (s : State) (o : Output) : (s.emit o).regs = s.regs := rfl
@[simp] theorem State.emit_latch (s : State) (o : Output) : (s.emit o).latch = s.latch := rfl
@[simp] theorem State.emit_latchPrev (s : State) (o : Output) : (s.emit o).latchPrev = s.latchPrev := rfl
@[simp] theorem State.emit_ctxL (s : State) (o : Output) : (s.emit o).ctxL = s.ctxL := rfl
@[simp] theorem State.emit_ctxPrev (s : State) (o : Output) : (s.emit o).ctxPrev = s.ctxPrev := rfl
@[simp] theorem State.emit_spansL (s : State) (o : Output) : (s.emit o).spansL = s.spansL := rfl
@[simp] theorem State.emit_spansPrev (s : State) (o : Output) : (s.emit o).spansPrev = s.spansPrev := rfl
@[simp] theorem State.emit_setNow (s : State) (o : Output) : (s.emit o).setNow = s.setNow := rfl
@[simp] theorem State.emit_rdLatch (s : State) (o : Output) : (s.emit o).rdLatch = s.rdLatch := rfl
@[simp] theorem State.emit_staging (s : State) (o : Output) : (s.emit o).staging = s.staging := rfl
@[simp] theorem State.emit_freeCount (s : State) (o : Output) : (s.emit o).freeCount = s.freeCount := rfl
@[simp] theorem State.emit_buf (s : State) (o : Output) : (s.emit o).buf = s.buf := rfl
@[simp] theorem State.emit_flash (s : State) (o : Output) : (s.emit o).flash = s.flash := rfl
@[simp] theorem State.emit_loops (s : State) (o : Output) : (s.emit o).loops = s.loops := rfl
@[simp] theorem State.emit_clk (s : State) (o : Output) : (s.emit o).clk = s.clk := rfl
@[simp] theorem State.emit_pwr (s : State) (o : Output) : (s.emit o).pwr = s.pwr := rfl
@[simp] theorem State.emit_svy (s : State) (o : Output) : (s.emit o).svy = s.svy := rfl
@[simp] theorem State.emit_pin (s : State) (o : Output) : (s.emit o).pin = s.pin := rfl
@[simp] theorem State.emit_chart (s : State) (o : Output) : (s.emit o).chart = s.chart := rfl
@[simp] theorem State.emit_boot (s : State) (o : Output) : (s.emit o).boot = s.boot := rfl
@[simp] theorem State.emit_gaz (s : State) (o : Output) : (s.emit o).gaz = s.gaz := rfl
@[simp] theorem State.emit_evt (s : State) (o : Output) : (s.emit o).evt = s.evt := rfl
@[simp] theorem State.emit_msix (s : State) (o : Output) : (s.emit o).msix = s.msix := rfl
@[simp] theorem State.emit_msixFnMask (s : State) (o : Output) : (s.emit o).msixFnMask = s.msixFnMask := rfl
@[simp] theorem State.emit_trace (s : State) (o : Output) : (s.emit o).trace = s.trace := rfl
@[simp] theorem State.emit_traceLost (s : State) (o : Output) : (s.emit o).traceLost = s.traceLost := rfl
@[simp] theorem State.emit_traceAt (s : State) (o : Output) : (s.emit o).traceAt = s.traceAt := rfl
@[simp] theorem State.emit_trcTick (s : State) (o : Output) : (s.emit o).trcTick = s.trcTick := rfl
@[simp] theorem State.emit_trcLeft (s : State) (o : Output) : (s.emit o).trcLeft = s.trcLeft := rfl
@[simp] theorem State.emit_pesMax (s : State) (o : Output) : (s.emit o).pesMax = s.pesMax := rfl
@[simp] theorem State.emit_pesPrev (s : State) (o : Output) : (s.emit o).pesPrev = s.pesPrev := rfl
@[simp] theorem State.emit_timeSeen (s : State) (o : Output) : (s.emit o).timeSeen = s.timeSeen := rfl
@[simp] theorem State.emit_timeNow (s : State) (o : Output) : (s.emit o).timeNow = s.timeNow := rfl
@[simp] theorem State.emit_spn (s : State) (o : Output) : (s.emit o).spn = s.spn := rfl
@[simp] theorem State.emit_acts (s : State) (o : Output) : (s.emit o).acts = s.acts := rfl
@[simp] theorem State.emit_retr (s : State) (o : Output) : (s.emit o).retr = s.retr := rfl
@[simp] theorem State.emit_left (s : State) (o : Output) : (s.emit o).left = s.left := rfl
@[simp] theorem State.emit_eng (s : State) (o : Output) : (s.emit o).eng = s.eng := rfl
@[simp] theorem State.emit_wr (s : State) (o : Output) : (s.emit o).wr = s.wr := rfl
@[simp] theorem State.emit_chan (s : State) (o : Output) : (s.emit o).chan = s.chan := rfl
@[simp] theorem State.emit_heads (s : State) (o : Output) : (s.emit o).heads = s.heads := rfl
@[simp] theorem State.emit_cmds (s : State) (o : Output) : (s.emit o).cmds = s.cmds := rfl
@[simp] theorem State.emit_sqs (s : State) (o : Output) : (s.emit o).sqs = s.sqs := rfl
@[simp] theorem State.emit_cqs (s : State) (o : Output) : (s.emit o).cqs = s.cqs := rfl
@[simp] theorem State.emit_fetchSeq (s : State) (o : Output) : (s.emit o).fetchSeq = s.fetchSeq := rfl
@[simp] theorem State.emit_lastFn (s : State) (o : Output) : (s.emit o).lastFn = s.lastFn := rfl
@[simp] theorem State.emit_lastSq (s : State) (o : Output) : (s.emit o).lastSq = s.lastSq := rfl
@[simp] theorem State.emit_visit (s : State) (o : Output) : (s.emit o).visit = s.visit := rfl
@[simp] theorem State.emit_burst (s : State) (o : Output) : (s.emit o).burst = s.burst := rfl
@[simp] theorem State.emit_credit (s : State) (o : Output) : (s.emit o).credit = s.credit := rfl
@[simp] theorem State.emit_enEdge (s : State) (o : Output) : (s.emit o).enEdge = s.enEdge := rfl
@[simp] theorem State.emit_locks (s : State) (o : Output) : (s.emit o).locks = s.locks := rfl
@[simp] theorem State.emit_wbuf (s : State) (o : Output) : (s.emit o).wbuf = s.wbuf := rfl
@[simp] theorem State.emit_devctl (s : State) (o : Output) : (s.emit o).devctl = s.devctl := rfl
@[simp] theorem State.emit_pieces (s : State) (o : Output) : (s.emit o).pieces = s.pieces := rfl
@[simp] theorem State.emit_slabs (s : State) (o : Output) : (s.emit o).slabs = s.slabs := rfl
@[simp] theorem State.emit_slabWait (s : State) (o : Output) : (s.emit o).slabWait = s.slabWait := rfl
@[simp] theorem State.emit_poolFull (s : State) (o : Output) : (s.emit o).poolFull = s.poolFull := rfl
@[simp] theorem State.emit_med (s : State) (o : Output) : (s.emit o).med = s.med := rfl
@[simp] theorem State.emit_keys (s : State) (o : Output) : (s.emit o).keys = s.keys := rfl
@[simp] theorem State.emit_ceWin (s : State) (o : Output) : (s.emit o).ceWin = s.ceWin := rfl
@[simp] theorem State.emit_ueWin (s : State) (o : Output) : (s.emit o).ueWin = s.ueWin := rfl
@[simp] theorem State.emit_fab (s : State) (o : Output) : (s.emit o).fab = s.fab := rfl
@[simp] theorem State.emit_twn (s : State) (o : Output) : (s.emit o).twn = s.twn := rfl
@[simp] theorem State.emit_dreads (s : State) (o : Output) : (s.emit o).dreads = s.dreads := rfl
@[simp] theorem State.emit_copyWait (s : State) (o : Output) : (s.emit o).copyWait = s.copyWait := rfl
@[simp] theorem State.emit_remote (s : State) (o : Output) : (s.emit o).remote = s.remote := rfl
@[simp] theorem State.emit_lostSeq (s : State) (o : Output) : (s.emit o).lostSeq = s.lostSeq := rfl
@[simp] theorem State.emit_scrubLine (s : State) (o : Output) : (s.emit o).scrubLine = s.scrubLine := rfl
@[simp] theorem State.emit_scrubEdge (s : State) (o : Output) : (s.emit o).scrubEdge = s.scrubEdge := rfl
@[simp] theorem State.emit_dram (s : State) (o : Output) : (s.emit o).dram = s.dram := rfl
@[simp] theorem State.emit_dramAcc (s : State) (o : Output) : (s.emit o).dramAcc = s.dramAcc := rfl
@[simp] theorem State.emit_dramEdge (s : State) (o : Output) : (s.emit o).dramEdge = s.dramEdge := rfl
@[simp] theorem State.emit_tst (s : State) (o : Output) : (s.emit o).tst = s.tst := rfl
@[simp] theorem State.emit_bench (s : State) (o : Output) : (s.emit o).bench = s.bench := rfl
@[simp] theorem State.emit_promo (s : State) (o : Output) : (s.emit o).promo = s.promo := rfl
@[simp] theorem State.emit_promoDue (s : State) (o : Output) : (s.emit o).promoDue = s.promoDue := rfl
@[simp] theorem State.emit_credMissed (s : State) (o : Output) : (s.emit o).credMissed = s.credMissed := rfl

@[simp] theorem State.fresh_pending (s : State) : s.fresh.pending = s.pending := rfl
@[simp] theorem State.fresh_regs (s : State) : s.fresh.regs = s.regs := rfl
@[simp] theorem State.fresh_latch (s : State) : s.fresh.latch = s.latch := rfl
@[simp] theorem State.fresh_latchPrev (s : State) : s.fresh.latchPrev = s.latchPrev := rfl
@[simp] theorem State.fresh_ctxL (s : State) : s.fresh.ctxL = s.ctxL := rfl
@[simp] theorem State.fresh_ctxPrev (s : State) : s.fresh.ctxPrev = s.ctxPrev := rfl
@[simp] theorem State.fresh_spansL (s : State) : s.fresh.spansL = s.spansL := rfl
@[simp] theorem State.fresh_spansPrev (s : State) : s.fresh.spansPrev = s.spansPrev := rfl
@[simp] theorem State.fresh_setNow (s : State) : s.fresh.setNow = s.setNow := rfl
@[simp] theorem State.fresh_rdLatch (s : State) : s.fresh.rdLatch = s.rdLatch := rfl
@[simp] theorem State.fresh_staging (s : State) : s.fresh.staging = s.staging := rfl
@[simp] theorem State.fresh_out (s : State) : s.fresh.out = s.out := rfl
@[simp] theorem State.fresh_buf (s : State) : s.fresh.buf = s.buf := rfl
@[simp] theorem State.fresh_flash (s : State) : s.fresh.flash = s.flash := rfl
@[simp] theorem State.fresh_loops (s : State) : s.fresh.loops = s.loops := rfl
@[simp] theorem State.fresh_clk (s : State) : s.fresh.clk = s.clk := rfl
@[simp] theorem State.fresh_pwr (s : State) : s.fresh.pwr = s.pwr := rfl
@[simp] theorem State.fresh_svy (s : State) : s.fresh.svy = s.svy := rfl
@[simp] theorem State.fresh_pin (s : State) : s.fresh.pin = s.pin := rfl
@[simp] theorem State.fresh_chart (s : State) : s.fresh.chart = s.chart := rfl
@[simp] theorem State.fresh_boot (s : State) : s.fresh.boot = s.boot := rfl
@[simp] theorem State.fresh_gaz (s : State) : s.fresh.gaz = s.gaz := rfl
@[simp] theorem State.fresh_evt (s : State) : s.fresh.evt = s.evt := rfl
@[simp] theorem State.fresh_msix (s : State) : s.fresh.msix = s.msix := rfl
@[simp] theorem State.fresh_msixFnMask (s : State) : s.fresh.msixFnMask = s.msixFnMask := rfl
@[simp] theorem State.fresh_trace (s : State) : s.fresh.trace = s.trace := rfl
@[simp] theorem State.fresh_traceLost (s : State) : s.fresh.traceLost = s.traceLost := rfl
@[simp] theorem State.fresh_traceAt (s : State) : s.fresh.traceAt = s.traceAt := rfl
@[simp] theorem State.fresh_trcTick (s : State) : s.fresh.trcTick = s.trcTick := rfl
@[simp] theorem State.fresh_trcLeft (s : State) : s.fresh.trcLeft = s.trcLeft := rfl
@[simp] theorem State.fresh_pesMax (s : State) : s.fresh.pesMax = s.pesMax := rfl
@[simp] theorem State.fresh_pesPrev (s : State) : s.fresh.pesPrev = s.pesPrev := rfl
@[simp] theorem State.fresh_timeSeen (s : State) : s.fresh.timeSeen = s.timeSeen := rfl
@[simp] theorem State.fresh_timeNow (s : State) : s.fresh.timeNow = s.timeNow := rfl
@[simp] theorem State.fresh_spn (s : State) : s.fresh.spn = s.spn := rfl
@[simp] theorem State.fresh_acts (s : State) : s.fresh.acts = s.acts := rfl
@[simp] theorem State.fresh_retr (s : State) : s.fresh.retr = s.retr := rfl
@[simp] theorem State.fresh_left (s : State) : s.fresh.left = s.left := rfl
@[simp] theorem State.fresh_eng (s : State) : s.fresh.eng = s.eng := rfl
@[simp] theorem State.fresh_wr (s : State) : s.fresh.wr = s.wr := rfl
@[simp] theorem State.fresh_chan (s : State) : s.fresh.chan = s.chan := rfl
@[simp] theorem State.fresh_heads (s : State) : s.fresh.heads = s.heads := rfl
@[simp] theorem State.fresh_cmds (s : State) : s.fresh.cmds = s.cmds := rfl
@[simp] theorem State.fresh_sqs (s : State) : s.fresh.sqs = s.sqs := rfl
@[simp] theorem State.fresh_cqs (s : State) : s.fresh.cqs = s.cqs := rfl
@[simp] theorem State.fresh_fetchSeq (s : State) : s.fresh.fetchSeq = s.fetchSeq := rfl
@[simp] theorem State.fresh_lastFn (s : State) : s.fresh.lastFn = s.lastFn := rfl
@[simp] theorem State.fresh_lastSq (s : State) : s.fresh.lastSq = s.lastSq := rfl
@[simp] theorem State.fresh_visit (s : State) : s.fresh.visit = s.visit := rfl
@[simp] theorem State.fresh_burst (s : State) : s.fresh.burst = s.burst := rfl
@[simp] theorem State.fresh_credit (s : State) : s.fresh.credit = s.credit := rfl
@[simp] theorem State.fresh_enEdge (s : State) : s.fresh.enEdge = s.enEdge := rfl
@[simp] theorem State.fresh_locks (s : State) : s.fresh.locks = s.locks := rfl
@[simp] theorem State.fresh_wbuf (s : State) : s.fresh.wbuf = s.wbuf := rfl
@[simp] theorem State.fresh_devctl (s : State) : s.fresh.devctl = s.devctl := rfl
@[simp] theorem State.fresh_pieces (s : State) : s.fresh.pieces = s.pieces := rfl
@[simp] theorem State.fresh_slabs (s : State) : s.fresh.slabs = s.slabs := rfl
@[simp] theorem State.fresh_slabWait (s : State) : s.fresh.slabWait = s.slabWait := rfl
@[simp] theorem State.fresh_poolFull (s : State) : s.fresh.poolFull = s.poolFull := rfl
@[simp] theorem State.fresh_med (s : State) : s.fresh.med = s.med := rfl
@[simp] theorem State.fresh_keys (s : State) : s.fresh.keys = s.keys := rfl
@[simp] theorem State.fresh_ceWin (s : State) : s.fresh.ceWin = s.ceWin := rfl
@[simp] theorem State.fresh_ueWin (s : State) : s.fresh.ueWin = s.ueWin := rfl
@[simp] theorem State.fresh_fab (s : State) : s.fresh.fab = s.fab := rfl
@[simp] theorem State.fresh_twn (s : State) : s.fresh.twn = s.twn := rfl
@[simp] theorem State.fresh_dreads (s : State) : s.fresh.dreads = s.dreads := rfl
@[simp] theorem State.fresh_copyWait (s : State) : s.fresh.copyWait = s.copyWait := rfl
@[simp] theorem State.fresh_remote (s : State) : s.fresh.remote = s.remote := rfl
@[simp] theorem State.fresh_lostSeq (s : State) : s.fresh.lostSeq = s.lostSeq := rfl
@[simp] theorem State.fresh_scrubLine (s : State) : s.fresh.scrubLine = s.scrubLine := rfl
@[simp] theorem State.fresh_scrubEdge (s : State) : s.fresh.scrubEdge = s.scrubEdge := rfl
@[simp] theorem State.fresh_dram (s : State) : s.fresh.dram = s.dram := rfl
@[simp] theorem State.fresh_dramAcc (s : State) : s.fresh.dramAcc = s.dramAcc := rfl
@[simp] theorem State.fresh_dramEdge (s : State) : s.fresh.dramEdge = s.dramEdge := rfl
@[simp] theorem State.fresh_tst (s : State) : s.fresh.tst = s.tst := rfl
@[simp] theorem State.fresh_bench (s : State) : s.fresh.bench = s.bench := rfl
@[simp] theorem State.fresh_promo (s : State) : s.fresh.promo = s.promo := rfl
@[simp] theorem State.fresh_promoDue (s : State) : s.fresh.promoDue = s.promoDue := rfl
@[simp] theorem State.fresh_credMissed (s : State) : s.fresh.credMissed = s.credMissed := rfl

@[simp] theorem State.slotDone_pending (s : State) (b : Nat) : (s.slotDone b).pending = s.pending := rfl
@[simp] theorem State.slotDone_regs (s : State) (b : Nat) : (s.slotDone b).regs = s.regs := rfl
@[simp] theorem State.slotDone_latch (s : State) (b : Nat) : (s.slotDone b).latch = s.latch := rfl
@[simp] theorem State.slotDone_latchPrev (s : State) (b : Nat) : (s.slotDone b).latchPrev = s.latchPrev := rfl
@[simp] theorem State.slotDone_ctxL (s : State) (b : Nat) : (s.slotDone b).ctxL = s.ctxL := rfl
@[simp] theorem State.slotDone_ctxPrev (s : State) (b : Nat) : (s.slotDone b).ctxPrev = s.ctxPrev := rfl
@[simp] theorem State.slotDone_spansL (s : State) (b : Nat) : (s.slotDone b).spansL = s.spansL := rfl
@[simp] theorem State.slotDone_spansPrev (s : State) (b : Nat) : (s.slotDone b).spansPrev = s.spansPrev := rfl
@[simp] theorem State.slotDone_setNow (s : State) (b : Nat) : (s.slotDone b).setNow = s.setNow := rfl
@[simp] theorem State.slotDone_rdLatch (s : State) (b : Nat) : (s.slotDone b).rdLatch = s.rdLatch := rfl
@[simp] theorem State.slotDone_staging (s : State) (b : Nat) : (s.slotDone b).staging = s.staging := rfl
@[simp] theorem State.slotDone_freeCount (s : State) (b : Nat) : (s.slotDone b).freeCount = s.freeCount := rfl
@[simp] theorem State.slotDone_out (s : State) (b : Nat) : (s.slotDone b).out = s.out := rfl
@[simp] theorem State.slotDone_buf (s : State) (b : Nat) : (s.slotDone b).buf = s.buf := rfl
@[simp] theorem State.slotDone_flash (s : State) (b : Nat) : (s.slotDone b).flash = s.flash := rfl
@[simp] theorem State.slotDone_loops (s : State) (b : Nat) : (s.slotDone b).loops = s.loops := rfl
@[simp] theorem State.slotDone_pwr (s : State) (b : Nat) : (s.slotDone b).pwr = s.pwr := rfl
@[simp] theorem State.slotDone_svy (s : State) (b : Nat) : (s.slotDone b).svy = s.svy := rfl
@[simp] theorem State.slotDone_pin (s : State) (b : Nat) : (s.slotDone b).pin = s.pin := rfl
@[simp] theorem State.slotDone_chart (s : State) (b : Nat) : (s.slotDone b).chart = s.chart := rfl
@[simp] theorem State.slotDone_boot (s : State) (b : Nat) : (s.slotDone b).boot = s.boot := rfl
@[simp] theorem State.slotDone_gaz (s : State) (b : Nat) : (s.slotDone b).gaz = s.gaz := rfl
@[simp] theorem State.slotDone_evt (s : State) (b : Nat) : (s.slotDone b).evt = s.evt := rfl
@[simp] theorem State.slotDone_msix (s : State) (b : Nat) : (s.slotDone b).msix = s.msix := rfl
@[simp] theorem State.slotDone_msixFnMask (s : State) (b : Nat) : (s.slotDone b).msixFnMask = s.msixFnMask := rfl
@[simp] theorem State.slotDone_trace (s : State) (b : Nat) : (s.slotDone b).trace = s.trace := rfl
@[simp] theorem State.slotDone_traceLost (s : State) (b : Nat) : (s.slotDone b).traceLost = s.traceLost := rfl
@[simp] theorem State.slotDone_traceAt (s : State) (b : Nat) : (s.slotDone b).traceAt = s.traceAt := rfl
@[simp] theorem State.slotDone_trcTick (s : State) (b : Nat) : (s.slotDone b).trcTick = s.trcTick := rfl
@[simp] theorem State.slotDone_trcLeft (s : State) (b : Nat) : (s.slotDone b).trcLeft = s.trcLeft := rfl
@[simp] theorem State.slotDone_pesMax (s : State) (b : Nat) : (s.slotDone b).pesMax = s.pesMax := rfl
@[simp] theorem State.slotDone_pesPrev (s : State) (b : Nat) : (s.slotDone b).pesPrev = s.pesPrev := rfl
@[simp] theorem State.slotDone_timeSeen (s : State) (b : Nat) : (s.slotDone b).timeSeen = s.timeSeen := rfl
@[simp] theorem State.slotDone_timeNow (s : State) (b : Nat) : (s.slotDone b).timeNow = s.timeNow := rfl
@[simp] theorem State.slotDone_spn (s : State) (b : Nat) : (s.slotDone b).spn = s.spn := rfl
@[simp] theorem State.slotDone_acts (s : State) (b : Nat) : (s.slotDone b).acts = s.acts := rfl
@[simp] theorem State.slotDone_retr (s : State) (b : Nat) : (s.slotDone b).retr = s.retr := rfl
@[simp] theorem State.slotDone_left (s : State) (b : Nat) : (s.slotDone b).left = s.left := rfl
@[simp] theorem State.slotDone_eng (s : State) (b : Nat) : (s.slotDone b).eng = s.eng := rfl
@[simp] theorem State.slotDone_wr (s : State) (b : Nat) : (s.slotDone b).wr = s.wr := rfl
@[simp] theorem State.slotDone_chan (s : State) (b : Nat) : (s.slotDone b).chan = s.chan := rfl
@[simp] theorem State.slotDone_heads (s : State) (b : Nat) : (s.slotDone b).heads = s.heads := rfl
@[simp] theorem State.slotDone_cmds (s : State) (b : Nat) : (s.slotDone b).cmds = s.cmds := rfl
@[simp] theorem State.slotDone_sqs (s : State) (b : Nat) : (s.slotDone b).sqs = s.sqs := rfl
@[simp] theorem State.slotDone_cqs (s : State) (b : Nat) : (s.slotDone b).cqs = s.cqs := rfl
@[simp] theorem State.slotDone_fetchSeq (s : State) (b : Nat) : (s.slotDone b).fetchSeq = s.fetchSeq := rfl
@[simp] theorem State.slotDone_lastFn (s : State) (b : Nat) : (s.slotDone b).lastFn = s.lastFn := rfl
@[simp] theorem State.slotDone_lastSq (s : State) (b : Nat) : (s.slotDone b).lastSq = s.lastSq := rfl
@[simp] theorem State.slotDone_visit (s : State) (b : Nat) : (s.slotDone b).visit = s.visit := rfl
@[simp] theorem State.slotDone_burst (s : State) (b : Nat) : (s.slotDone b).burst = s.burst := rfl
@[simp] theorem State.slotDone_credit (s : State) (b : Nat) : (s.slotDone b).credit = s.credit := rfl
@[simp] theorem State.slotDone_enEdge (s : State) (b : Nat) : (s.slotDone b).enEdge = s.enEdge := rfl
@[simp] theorem State.slotDone_locks (s : State) (b : Nat) : (s.slotDone b).locks = s.locks := rfl
@[simp] theorem State.slotDone_wbuf (s : State) (b : Nat) : (s.slotDone b).wbuf = s.wbuf := rfl
@[simp] theorem State.slotDone_devctl (s : State) (b : Nat) : (s.slotDone b).devctl = s.devctl := rfl
@[simp] theorem State.slotDone_pieces (s : State) (b : Nat) : (s.slotDone b).pieces = s.pieces := rfl
@[simp] theorem State.slotDone_slabs (s : State) (b : Nat) : (s.slotDone b).slabs = s.slabs := rfl
@[simp] theorem State.slotDone_slabWait (s : State) (b : Nat) : (s.slotDone b).slabWait = s.slabWait := rfl
@[simp] theorem State.slotDone_poolFull (s : State) (b : Nat) : (s.slotDone b).poolFull = s.poolFull := rfl
@[simp] theorem State.slotDone_med (s : State) (b : Nat) : (s.slotDone b).med = s.med := rfl
@[simp] theorem State.slotDone_keys (s : State) (b : Nat) : (s.slotDone b).keys = s.keys := rfl
@[simp] theorem State.slotDone_ceWin (s : State) (b : Nat) : (s.slotDone b).ceWin = s.ceWin := rfl
@[simp] theorem State.slotDone_ueWin (s : State) (b : Nat) : (s.slotDone b).ueWin = s.ueWin := rfl
@[simp] theorem State.slotDone_fab (s : State) (b : Nat) : (s.slotDone b).fab = s.fab := rfl
@[simp] theorem State.slotDone_twn (s : State) (b : Nat) : (s.slotDone b).twn = s.twn := rfl
@[simp] theorem State.slotDone_dreads (s : State) (b : Nat) : (s.slotDone b).dreads = s.dreads := rfl
@[simp] theorem State.slotDone_copyWait (s : State) (b : Nat) : (s.slotDone b).copyWait = s.copyWait := rfl
@[simp] theorem State.slotDone_remote (s : State) (b : Nat) : (s.slotDone b).remote = s.remote := rfl
@[simp] theorem State.slotDone_lostSeq (s : State) (b : Nat) : (s.slotDone b).lostSeq = s.lostSeq := rfl
@[simp] theorem State.slotDone_scrubLine (s : State) (b : Nat) : (s.slotDone b).scrubLine = s.scrubLine := rfl
@[simp] theorem State.slotDone_scrubEdge (s : State) (b : Nat) : (s.slotDone b).scrubEdge = s.scrubEdge := rfl
@[simp] theorem State.slotDone_dram (s : State) (b : Nat) : (s.slotDone b).dram = s.dram := rfl
@[simp] theorem State.slotDone_dramAcc (s : State) (b : Nat) : (s.slotDone b).dramAcc = s.dramAcc := rfl
@[simp] theorem State.slotDone_dramEdge (s : State) (b : Nat) : (s.slotDone b).dramEdge = s.dramEdge := rfl
@[simp] theorem State.slotDone_tst (s : State) (b : Nat) : (s.slotDone b).tst = s.tst := rfl
@[simp] theorem State.slotDone_bench (s : State) (b : Nat) : (s.slotDone b).bench = s.bench := rfl
@[simp] theorem State.slotDone_promo (s : State) (b : Nat) : (s.slotDone b).promo = s.promo := rfl
@[simp] theorem State.slotDone_promoDue (s : State) (b : Nat) : (s.slotDone b).promoDue = s.promoDue := rfl
@[simp] theorem State.slotDone_credMissed (s : State) (b : Nat) : (s.slotDone b).credMissed = s.credMissed := rfl

@[simp] theorem State.emit_out (s : State) (o : Output) : (s.emit o).out = o :: s.out := rfl
@[simp] theorem State.fresh_freeCount (s : State) : s.fresh.freeCount = s.freeCount + 1 := rfl

@[simp] theorem State.raise_pending (s : State) (e : Nat) : (s.raise e).pending = s.pending := by have h := State.raise_reported s e; unfold State.reported at h; rw [h]
@[simp] theorem State.raise_latch (s : State) (e : Nat) : (s.raise e).latch = s.latch := by have h := State.raise_reported s e; unfold State.reported at h; rw [h]
@[simp] theorem State.raise_latchPrev (s : State) (e : Nat) : (s.raise e).latchPrev = s.latchPrev := by have h := State.raise_reported s e; unfold State.reported at h; rw [h]
@[simp] theorem State.raise_ctxL (s : State) (e : Nat) : (s.raise e).ctxL = s.ctxL := by have h := State.raise_reported s e; unfold State.reported at h; rw [h]
@[simp] theorem State.raise_ctxPrev (s : State) (e : Nat) : (s.raise e).ctxPrev = s.ctxPrev := by have h := State.raise_reported s e; unfold State.reported at h; rw [h]
@[simp] theorem State.raise_spansL (s : State) (e : Nat) : (s.raise e).spansL = s.spansL := by have h := State.raise_reported s e; unfold State.reported at h; rw [h]
@[simp] theorem State.raise_spansPrev (s : State) (e : Nat) : (s.raise e).spansPrev = s.spansPrev := by have h := State.raise_reported s e; unfold State.reported at h; rw [h]
@[simp] theorem State.raise_rdLatch (s : State) (e : Nat) : (s.raise e).rdLatch = s.rdLatch := by have h := State.raise_reported s e; unfold State.reported at h; rw [h]
@[simp] theorem State.raise_staging (s : State) (e : Nat) : (s.raise e).staging = s.staging := by have h := State.raise_reported s e; unfold State.reported at h; rw [h]
@[simp] theorem State.raise_freeCount (s : State) (e : Nat) : (s.raise e).freeCount = s.freeCount := by have h := State.raise_reported s e; unfold State.reported at h; rw [h]
@[simp] theorem State.raise_flash (s : State) (e : Nat) : (s.raise e).flash = s.flash := by have h := State.raise_reported s e; unfold State.reported at h; rw [h]
@[simp] theorem State.raise_loops (s : State) (e : Nat) : (s.raise e).loops = s.loops := by have h := State.raise_reported s e; unfold State.reported at h; rw [h]
@[simp] theorem State.raise_clk (s : State) (e : Nat) : (s.raise e).clk = s.clk := by have h := State.raise_reported s e; unfold State.reported at h; rw [h]
@[simp] theorem State.raise_pwr (s : State) (e : Nat) : (s.raise e).pwr = s.pwr := by have h := State.raise_reported s e; unfold State.reported at h; rw [h]
@[simp] theorem State.raise_svy (s : State) (e : Nat) : (s.raise e).svy = s.svy := by have h := State.raise_reported s e; unfold State.reported at h; rw [h]
@[simp] theorem State.raise_chart (s : State) (e : Nat) : (s.raise e).chart = s.chart := by have h := State.raise_reported s e; unfold State.reported at h; rw [h]
@[simp] theorem State.raise_boot (s : State) (e : Nat) : (s.raise e).boot = s.boot := by have h := State.raise_reported s e; unfold State.reported at h; rw [h]
@[simp] theorem State.raise_msixFnMask (s : State) (e : Nat) : (s.raise e).msixFnMask = s.msixFnMask := by have h := State.raise_reported s e; unfold State.reported at h; rw [h]
@[simp] theorem State.raise_traceAt (s : State) (e : Nat) : (s.raise e).traceAt = s.traceAt := by have h := State.raise_reported s e; unfold State.reported at h; rw [h]
@[simp] theorem State.raise_trcTick (s : State) (e : Nat) : (s.raise e).trcTick = s.trcTick := by have h := State.raise_reported s e; unfold State.reported at h; rw [h]
@[simp] theorem State.raise_pesMax (s : State) (e : Nat) : (s.raise e).pesMax = s.pesMax := by have h := State.raise_reported s e; unfold State.reported at h; rw [h]
@[simp] theorem State.raise_pesPrev (s : State) (e : Nat) : (s.raise e).pesPrev = s.pesPrev := by have h := State.raise_reported s e; unfold State.reported at h; rw [h]
@[simp] theorem State.raise_timeSeen (s : State) (e : Nat) : (s.raise e).timeSeen = s.timeSeen := by have h := State.raise_reported s e; unfold State.reported at h; rw [h]
@[simp] theorem State.raise_timeNow (s : State) (e : Nat) : (s.raise e).timeNow = s.timeNow := by have h := State.raise_reported s e; unfold State.reported at h; rw [h]
@[simp] theorem State.raise_spn (s : State) (e : Nat) : (s.raise e).spn = s.spn := by have h := State.raise_reported s e; unfold State.reported at h; rw [h]
@[simp] theorem State.raise_acts (s : State) (e : Nat) : (s.raise e).acts = s.acts := by have h := State.raise_reported s e; unfold State.reported at h; rw [h]
@[simp] theorem State.raise_retr (s : State) (e : Nat) : (s.raise e).retr = s.retr := by have h := State.raise_reported s e; unfold State.reported at h; rw [h]
@[simp] theorem State.raise_left (s : State) (e : Nat) : (s.raise e).left = s.left := by have h := State.raise_reported s e; unfold State.reported at h; rw [h]
@[simp] theorem State.raise_eng (s : State) (e : Nat) : (s.raise e).eng = s.eng := by have h := State.raise_reported s e; unfold State.reported at h; rw [h]
@[simp] theorem State.raise_wr (s : State) (e : Nat) : (s.raise e).wr = s.wr := by have h := State.raise_reported s e; unfold State.reported at h; rw [h]
@[simp] theorem State.raise_chan (s : State) (e : Nat) : (s.raise e).chan = s.chan := by have h := State.raise_reported s e; unfold State.reported at h; rw [h]
@[simp] theorem State.raise_heads (s : State) (e : Nat) : (s.raise e).heads = s.heads := by have h := State.raise_reported s e; unfold State.reported at h; rw [h]
@[simp] theorem State.raise_cmds (s : State) (e : Nat) : (s.raise e).cmds = s.cmds := by have h := State.raise_reported s e; unfold State.reported at h; rw [h]
@[simp] theorem State.raise_sqs (s : State) (e : Nat) : (s.raise e).sqs = s.sqs := by have h := State.raise_reported s e; unfold State.reported at h; rw [h]
@[simp] theorem State.raise_cqs (s : State) (e : Nat) : (s.raise e).cqs = s.cqs := by have h := State.raise_reported s e; unfold State.reported at h; rw [h]
@[simp] theorem State.raise_fetchSeq (s : State) (e : Nat) : (s.raise e).fetchSeq = s.fetchSeq := by have h := State.raise_reported s e; unfold State.reported at h; rw [h]
@[simp] theorem State.raise_lastFn (s : State) (e : Nat) : (s.raise e).lastFn = s.lastFn := by have h := State.raise_reported s e; unfold State.reported at h; rw [h]
@[simp] theorem State.raise_lastSq (s : State) (e : Nat) : (s.raise e).lastSq = s.lastSq := by have h := State.raise_reported s e; unfold State.reported at h; rw [h]
@[simp] theorem State.raise_visit (s : State) (e : Nat) : (s.raise e).visit = s.visit := by have h := State.raise_reported s e; unfold State.reported at h; rw [h]
@[simp] theorem State.raise_burst (s : State) (e : Nat) : (s.raise e).burst = s.burst := by have h := State.raise_reported s e; unfold State.reported at h; rw [h]
@[simp] theorem State.raise_credit (s : State) (e : Nat) : (s.raise e).credit = s.credit := by have h := State.raise_reported s e; unfold State.reported at h; rw [h]
@[simp] theorem State.raise_enEdge (s : State) (e : Nat) : (s.raise e).enEdge = s.enEdge := by have h := State.raise_reported s e; unfold State.reported at h; rw [h]
@[simp] theorem State.raise_locks (s : State) (e : Nat) : (s.raise e).locks = s.locks := by have h := State.raise_reported s e; unfold State.reported at h; rw [h]
@[simp] theorem State.raise_wbuf (s : State) (e : Nat) : (s.raise e).wbuf = s.wbuf := by have h := State.raise_reported s e; unfold State.reported at h; rw [h]
@[simp] theorem State.raise_devctl (s : State) (e : Nat) : (s.raise e).devctl = s.devctl := by have h := State.raise_reported s e; unfold State.reported at h; rw [h]
@[simp] theorem State.raise_pieces (s : State) (e : Nat) : (s.raise e).pieces = s.pieces := by have h := State.raise_reported s e; unfold State.reported at h; rw [h]
@[simp] theorem State.raise_slabs (s : State) (e : Nat) : (s.raise e).slabs = s.slabs := by have h := State.raise_reported s e; unfold State.reported at h; rw [h]
@[simp] theorem State.raise_slabWait (s : State) (e : Nat) : (s.raise e).slabWait = s.slabWait := by have h := State.raise_reported s e; unfold State.reported at h; rw [h]
@[simp] theorem State.raise_poolFull (s : State) (e : Nat) : (s.raise e).poolFull = s.poolFull := by have h := State.raise_reported s e; unfold State.reported at h; rw [h]
@[simp] theorem State.raise_med (s : State) (e : Nat) : (s.raise e).med = s.med := by have h := State.raise_reported s e; unfold State.reported at h; rw [h]
@[simp] theorem State.raise_keys (s : State) (e : Nat) : (s.raise e).keys = s.keys := by have h := State.raise_reported s e; unfold State.reported at h; rw [h]
@[simp] theorem State.raise_ceWin (s : State) (e : Nat) : (s.raise e).ceWin = s.ceWin := by have h := State.raise_reported s e; unfold State.reported at h; rw [h]
@[simp] theorem State.raise_ueWin (s : State) (e : Nat) : (s.raise e).ueWin = s.ueWin := by have h := State.raise_reported s e; unfold State.reported at h; rw [h]
@[simp] theorem State.raise_fab (s : State) (e : Nat) : (s.raise e).fab = s.fab := by have h := State.raise_reported s e; unfold State.reported at h; rw [h]
@[simp] theorem State.raise_twn (s : State) (e : Nat) : (s.raise e).twn = s.twn := by have h := State.raise_reported s e; unfold State.reported at h; rw [h]
@[simp] theorem State.raise_dreads (s : State) (e : Nat) : (s.raise e).dreads = s.dreads := by have h := State.raise_reported s e; unfold State.reported at h; rw [h]
@[simp] theorem State.raise_copyWait (s : State) (e : Nat) : (s.raise e).copyWait = s.copyWait := by have h := State.raise_reported s e; unfold State.reported at h; rw [h]
@[simp] theorem State.raise_remote (s : State) (e : Nat) : (s.raise e).remote = s.remote := by have h := State.raise_reported s e; unfold State.reported at h; rw [h]
@[simp] theorem State.raise_lostSeq (s : State) (e : Nat) : (s.raise e).lostSeq = s.lostSeq := by have h := State.raise_reported s e; unfold State.reported at h; rw [h]
@[simp] theorem State.raise_scrubLine (s : State) (e : Nat) : (s.raise e).scrubLine = s.scrubLine := by have h := State.raise_reported s e; unfold State.reported at h; rw [h]
@[simp] theorem State.raise_scrubEdge (s : State) (e : Nat) : (s.raise e).scrubEdge = s.scrubEdge := by have h := State.raise_reported s e; unfold State.reported at h; rw [h]
@[simp] theorem State.raise_dram (s : State) (e : Nat) : (s.raise e).dram = s.dram := by have h := State.raise_reported s e; unfold State.reported at h; rw [h]
@[simp] theorem State.raise_dramAcc (s : State) (e : Nat) : (s.raise e).dramAcc = s.dramAcc := by have h := State.raise_reported s e; unfold State.reported at h; rw [h]
@[simp] theorem State.raise_dramEdge (s : State) (e : Nat) : (s.raise e).dramEdge = s.dramEdge := by have h := State.raise_reported s e; unfold State.reported at h; rw [h]
@[simp] theorem State.raise_tst (s : State) (e : Nat) : (s.raise e).tst = s.tst := by have h := State.raise_reported s e; unfold State.reported at h; rw [h]
@[simp] theorem State.raise_bench (s : State) (e : Nat) : (s.raise e).bench = s.bench := by have h := State.raise_reported s e; unfold State.reported at h; rw [h]
@[simp] theorem State.raise_promo (s : State) (e : Nat) : (s.raise e).promo = s.promo := by have h := State.raise_reported s e; unfold State.reported at h; rw [h]
@[simp] theorem State.raise_promoDue (s : State) (e : Nat) : (s.raise e).promoDue = s.promoDue := by have h := State.raise_reported s e; unfold State.reported at h; rw [h]
@[simp] theorem State.raise_credMissed (s : State) (e : Nat) : (s.raise e).credMissed = s.credMissed := by have h := State.raise_reported s e; unfold State.reported at h; rw [h]

@[simp] theorem State.record_pending (s : State) (r : Rec) : (s.record r).pending = s.pending := by have h := State.record_reported s r; unfold State.reported at h; rw [h]
@[simp] theorem State.record_latch (s : State) (r : Rec) : (s.record r).latch = s.latch := by have h := State.record_reported s r; unfold State.reported at h; rw [h]
@[simp] theorem State.record_latchPrev (s : State) (r : Rec) : (s.record r).latchPrev = s.latchPrev := by have h := State.record_reported s r; unfold State.reported at h; rw [h]
@[simp] theorem State.record_ctxL (s : State) (r : Rec) : (s.record r).ctxL = s.ctxL := by have h := State.record_reported s r; unfold State.reported at h; rw [h]
@[simp] theorem State.record_ctxPrev (s : State) (r : Rec) : (s.record r).ctxPrev = s.ctxPrev := by have h := State.record_reported s r; unfold State.reported at h; rw [h]
@[simp] theorem State.record_spansL (s : State) (r : Rec) : (s.record r).spansL = s.spansL := by have h := State.record_reported s r; unfold State.reported at h; rw [h]
@[simp] theorem State.record_spansPrev (s : State) (r : Rec) : (s.record r).spansPrev = s.spansPrev := by have h := State.record_reported s r; unfold State.reported at h; rw [h]
@[simp] theorem State.record_rdLatch (s : State) (r : Rec) : (s.record r).rdLatch = s.rdLatch := by have h := State.record_reported s r; unfold State.reported at h; rw [h]
@[simp] theorem State.record_staging (s : State) (r : Rec) : (s.record r).staging = s.staging := by have h := State.record_reported s r; unfold State.reported at h; rw [h]
@[simp] theorem State.record_freeCount (s : State) (r : Rec) : (s.record r).freeCount = s.freeCount := by have h := State.record_reported s r; unfold State.reported at h; rw [h]
@[simp] theorem State.record_flash (s : State) (r : Rec) : (s.record r).flash = s.flash := by have h := State.record_reported s r; unfold State.reported at h; rw [h]
@[simp] theorem State.record_loops (s : State) (r : Rec) : (s.record r).loops = s.loops := by have h := State.record_reported s r; unfold State.reported at h; rw [h]
@[simp] theorem State.record_clk (s : State) (r : Rec) : (s.record r).clk = s.clk := by have h := State.record_reported s r; unfold State.reported at h; rw [h]
@[simp] theorem State.record_pwr (s : State) (r : Rec) : (s.record r).pwr = s.pwr := by have h := State.record_reported s r; unfold State.reported at h; rw [h]
@[simp] theorem State.record_svy (s : State) (r : Rec) : (s.record r).svy = s.svy := by have h := State.record_reported s r; unfold State.reported at h; rw [h]
@[simp] theorem State.record_chart (s : State) (r : Rec) : (s.record r).chart = s.chart := by have h := State.record_reported s r; unfold State.reported at h; rw [h]
@[simp] theorem State.record_boot (s : State) (r : Rec) : (s.record r).boot = s.boot := by have h := State.record_reported s r; unfold State.reported at h; rw [h]
@[simp] theorem State.record_msixFnMask (s : State) (r : Rec) : (s.record r).msixFnMask = s.msixFnMask := by have h := State.record_reported s r; unfold State.reported at h; rw [h]
@[simp] theorem State.record_traceAt (s : State) (r : Rec) : (s.record r).traceAt = s.traceAt := by have h := State.record_reported s r; unfold State.reported at h; rw [h]
@[simp] theorem State.record_trcTick (s : State) (r : Rec) : (s.record r).trcTick = s.trcTick := by have h := State.record_reported s r; unfold State.reported at h; rw [h]
@[simp] theorem State.record_pesMax (s : State) (r : Rec) : (s.record r).pesMax = s.pesMax := by have h := State.record_reported s r; unfold State.reported at h; rw [h]
@[simp] theorem State.record_pesPrev (s : State) (r : Rec) : (s.record r).pesPrev = s.pesPrev := by have h := State.record_reported s r; unfold State.reported at h; rw [h]
@[simp] theorem State.record_timeSeen (s : State) (r : Rec) : (s.record r).timeSeen = s.timeSeen := by have h := State.record_reported s r; unfold State.reported at h; rw [h]
@[simp] theorem State.record_timeNow (s : State) (r : Rec) : (s.record r).timeNow = s.timeNow := by have h := State.record_reported s r; unfold State.reported at h; rw [h]
@[simp] theorem State.record_spn (s : State) (r : Rec) : (s.record r).spn = s.spn := by have h := State.record_reported s r; unfold State.reported at h; rw [h]
@[simp] theorem State.record_acts (s : State) (r : Rec) : (s.record r).acts = s.acts := by have h := State.record_reported s r; unfold State.reported at h; rw [h]
@[simp] theorem State.record_retr (s : State) (r : Rec) : (s.record r).retr = s.retr := by have h := State.record_reported s r; unfold State.reported at h; rw [h]
@[simp] theorem State.record_left (s : State) (r : Rec) : (s.record r).left = s.left := by have h := State.record_reported s r; unfold State.reported at h; rw [h]
@[simp] theorem State.record_eng (s : State) (r : Rec) : (s.record r).eng = s.eng := by have h := State.record_reported s r; unfold State.reported at h; rw [h]
@[simp] theorem State.record_wr (s : State) (r : Rec) : (s.record r).wr = s.wr := by have h := State.record_reported s r; unfold State.reported at h; rw [h]
@[simp] theorem State.record_chan (s : State) (r : Rec) : (s.record r).chan = s.chan := by have h := State.record_reported s r; unfold State.reported at h; rw [h]
@[simp] theorem State.record_heads (s : State) (r : Rec) : (s.record r).heads = s.heads := by have h := State.record_reported s r; unfold State.reported at h; rw [h]
@[simp] theorem State.record_cmds (s : State) (r : Rec) : (s.record r).cmds = s.cmds := by have h := State.record_reported s r; unfold State.reported at h; rw [h]
@[simp] theorem State.record_sqs (s : State) (r : Rec) : (s.record r).sqs = s.sqs := by have h := State.record_reported s r; unfold State.reported at h; rw [h]
@[simp] theorem State.record_cqs (s : State) (r : Rec) : (s.record r).cqs = s.cqs := by have h := State.record_reported s r; unfold State.reported at h; rw [h]
@[simp] theorem State.record_fetchSeq (s : State) (r : Rec) : (s.record r).fetchSeq = s.fetchSeq := by have h := State.record_reported s r; unfold State.reported at h; rw [h]
@[simp] theorem State.record_lastFn (s : State) (r : Rec) : (s.record r).lastFn = s.lastFn := by have h := State.record_reported s r; unfold State.reported at h; rw [h]
@[simp] theorem State.record_lastSq (s : State) (r : Rec) : (s.record r).lastSq = s.lastSq := by have h := State.record_reported s r; unfold State.reported at h; rw [h]
@[simp] theorem State.record_visit (s : State) (r : Rec) : (s.record r).visit = s.visit := by have h := State.record_reported s r; unfold State.reported at h; rw [h]
@[simp] theorem State.record_burst (s : State) (r : Rec) : (s.record r).burst = s.burst := by have h := State.record_reported s r; unfold State.reported at h; rw [h]
@[simp] theorem State.record_credit (s : State) (r : Rec) : (s.record r).credit = s.credit := by have h := State.record_reported s r; unfold State.reported at h; rw [h]
@[simp] theorem State.record_enEdge (s : State) (r : Rec) : (s.record r).enEdge = s.enEdge := by have h := State.record_reported s r; unfold State.reported at h; rw [h]
@[simp] theorem State.record_locks (s : State) (r : Rec) : (s.record r).locks = s.locks := by have h := State.record_reported s r; unfold State.reported at h; rw [h]
@[simp] theorem State.record_wbuf (s : State) (r : Rec) : (s.record r).wbuf = s.wbuf := by have h := State.record_reported s r; unfold State.reported at h; rw [h]
@[simp] theorem State.record_devctl (s : State) (r : Rec) : (s.record r).devctl = s.devctl := by have h := State.record_reported s r; unfold State.reported at h; rw [h]
@[simp] theorem State.record_pieces (s : State) (r : Rec) : (s.record r).pieces = s.pieces := by have h := State.record_reported s r; unfold State.reported at h; rw [h]
@[simp] theorem State.record_slabs (s : State) (r : Rec) : (s.record r).slabs = s.slabs := by have h := State.record_reported s r; unfold State.reported at h; rw [h]
@[simp] theorem State.record_slabWait (s : State) (r : Rec) : (s.record r).slabWait = s.slabWait := by have h := State.record_reported s r; unfold State.reported at h; rw [h]
@[simp] theorem State.record_poolFull (s : State) (r : Rec) : (s.record r).poolFull = s.poolFull := by have h := State.record_reported s r; unfold State.reported at h; rw [h]
@[simp] theorem State.record_med (s : State) (r : Rec) : (s.record r).med = s.med := by have h := State.record_reported s r; unfold State.reported at h; rw [h]
@[simp] theorem State.record_keys (s : State) (r : Rec) : (s.record r).keys = s.keys := by have h := State.record_reported s r; unfold State.reported at h; rw [h]
@[simp] theorem State.record_ceWin (s : State) (r : Rec) : (s.record r).ceWin = s.ceWin := by have h := State.record_reported s r; unfold State.reported at h; rw [h]
@[simp] theorem State.record_ueWin (s : State) (r : Rec) : (s.record r).ueWin = s.ueWin := by have h := State.record_reported s r; unfold State.reported at h; rw [h]
@[simp] theorem State.record_fab (s : State) (r : Rec) : (s.record r).fab = s.fab := by have h := State.record_reported s r; unfold State.reported at h; rw [h]
@[simp] theorem State.record_twn (s : State) (r : Rec) : (s.record r).twn = s.twn := by have h := State.record_reported s r; unfold State.reported at h; rw [h]
@[simp] theorem State.record_dreads (s : State) (r : Rec) : (s.record r).dreads = s.dreads := by have h := State.record_reported s r; unfold State.reported at h; rw [h]
@[simp] theorem State.record_copyWait (s : State) (r : Rec) : (s.record r).copyWait = s.copyWait := by have h := State.record_reported s r; unfold State.reported at h; rw [h]
@[simp] theorem State.record_remote (s : State) (r : Rec) : (s.record r).remote = s.remote := by have h := State.record_reported s r; unfold State.reported at h; rw [h]
@[simp] theorem State.record_lostSeq (s : State) (r : Rec) : (s.record r).lostSeq = s.lostSeq := by have h := State.record_reported s r; unfold State.reported at h; rw [h]
@[simp] theorem State.record_scrubLine (s : State) (r : Rec) : (s.record r).scrubLine = s.scrubLine := by have h := State.record_reported s r; unfold State.reported at h; rw [h]
@[simp] theorem State.record_scrubEdge (s : State) (r : Rec) : (s.record r).scrubEdge = s.scrubEdge := by have h := State.record_reported s r; unfold State.reported at h; rw [h]
@[simp] theorem State.record_dram (s : State) (r : Rec) : (s.record r).dram = s.dram := by have h := State.record_reported s r; unfold State.reported at h; rw [h]
@[simp] theorem State.record_dramAcc (s : State) (r : Rec) : (s.record r).dramAcc = s.dramAcc := by have h := State.record_reported s r; unfold State.reported at h; rw [h]
@[simp] theorem State.record_dramEdge (s : State) (r : Rec) : (s.record r).dramEdge = s.dramEdge := by have h := State.record_reported s r; unfold State.reported at h; rw [h]
@[simp] theorem State.record_tst (s : State) (r : Rec) : (s.record r).tst = s.tst := by have h := State.record_reported s r; unfold State.reported at h; rw [h]
@[simp] theorem State.record_bench (s : State) (r : Rec) : (s.record r).bench = s.bench := by have h := State.record_reported s r; unfold State.reported at h; rw [h]
@[simp] theorem State.record_promo (s : State) (r : Rec) : (s.record r).promo = s.promo := by have h := State.record_reported s r; unfold State.reported at h; rw [h]
@[simp] theorem State.record_promoDue (s : State) (r : Rec) : (s.record r).promoDue = s.promoDue := by have h := State.record_reported s r; unfold State.reported at h; rw [h]
@[simp] theorem State.record_credMissed (s : State) (r : Rec) : (s.record r).credMissed = s.credMissed := by have h := State.record_reported s r; unfold State.reported at h; rw [h]

end Sys2Proof.Machine
end

