-- ==== Sys2Proof/Laws/Still.lean ====
section
/-! SUPPORT. What the operations of the machine leave as it was: all of them the queue of commands, and all but those whose lemma speaks of the queue alone the
key RAM, the edge latch and the place of the fetch engine. -/

namespace Sys2Proof.Machine

/-- What few commands touch: the queue, the key RAM, the edge latch and the place of the fetch engine. -/
def State.still (s : State) : List Instr × Tbl (List Byte) × RegFile × RegFile × Nat × Nat × Tbl Nat × List Nat × Nat := (s.pending, s.keys, s.latch, s.latchPrev, s.fetchSeq, s.lastFn, s.lastSq, s.visit, s.burst)
@[simp] theorem still_mk (u : State) (x_regs : RegFile) (x_ctxL : List HeadCtx) (x_ctxPrev : List HeadCtx) (x_spansL : List Nat) (x_spansPrev : List Nat) (x_setNow : List (Nat × Nat)) (x_rdLatch : Tbl Nat) (x_staging : Tbl Nat) (x_freeCount : Nat) (x_out : List Output) (x_buf : Memory) (x_flash : Memory) (x_loops : Tbl Loop) (x_clk : Clk) (x_pwr : Pwr) (x_svy : Svy) (x_pin : Pin) (x_chart : Chart) (x_boot : Boot) (x_gaz : Gaz) (x_evt : Evt) (x_msix : Tbl Msix) (x_msixFnMask : List Nat) (x_trace : List (List Byte)) (x_traceLost : Nat) (x_traceAt : Nat) (x_trcTick : Tbl Nat) (x_trcLeft : Tbl Nat) (x_pesMax : Tbl Nat) (x_pesPrev : Tbl Nat) (x_timeSeen : Bool) (x_timeNow : Bool) (x_spn : Spn) (x_acts : Tbl Act) (x_retr : Tbl Retract) (x_left : List Nat) (x_eng : Tbl Eng) (x_wr : Tbl WJob) (x_chan : Tbl Chan) (x_heads : Tbl HeadCtx) (x_cmds : Tbl Cmd) (x_sqs : Tbl Sq) (x_cqs : Tbl Cq) (x_credit : Tbl Nat) (x_enEdge : Tbl Nat) (x_locks : Locks) (x_wbuf : List (Nat × Nat)) (x_devctl : Tbl DevCtl) (x_pieces : Tbl OPiece) (x_slabs : Tbl Slab) (x_slabWait : List Nat) (x_poolFull : Bool) (x_med : Med) (x_ceWin : Tbl Nat) (x_ueWin : Tbl Nat) (x_fab : Fab) (x_twn : Twn) (x_dreads : List (Nat × Nat)) (x_copyWait : Tbl Parcel) (x_remote : List (Nat × Nat)) (x_lostSeq : List (Nat × Nat)) (x_scrubLine : Nat) (x_scrubEdge : Option Nat) (x_dram : Tbl (List Byte)) (x_dramAcc : Tbl Nat) (x_dramEdge : Nat) (x_tst : Tst) (x_bench : Bench) (x_promo : List Nat) (x_promoDue : List Nat) (x_credMissed : Bool) : State.still { pending := u.pending, regs := x_regs, latch := u.latch, latchPrev := u.latchPrev, ctxL := x_ctxL, ctxPrev := x_ctxPrev, spansL := x_spansL, spansPrev := x_spansPrev, setNow := x_setNow, rdLatch := x_rdLatch, staging := x_staging, freeCount := x_freeCount, out := x_out, buf := x_buf, flash := x_flash, loops := x_loops, clk := x_clk, pwr := x_pwr, svy := x_svy, pin := x_pin, chart := x_chart, boot := x_boot, gaz := x_gaz, evt := x_evt, msix := x_msix, msixFnMask := x_msixFnMask, trace := x_trace, traceLost := x_traceLost, traceAt := x_traceAt, trcTick := x_trcTick, trcLeft := x_trcLeft, pesMax := x_pesMax, pesPrev := x_pesPrev, timeSeen := x_timeSeen, timeNow := x_timeNow, spn := x_spn, acts := x_acts, retr := x_retr, left := x_left, eng := x_eng, wr := x_wr, chan := x_chan, heads := x_heads, cmds := x_cmds, sqs := x_sqs, cqs := x_cqs, fetchSeq := u.fetchSeq, lastFn := u.lastFn, lastSq := u.lastSq, visit := u.visit, burst := u.burst, credit := x_credit, enEdge := x_enEdge, locks := x_locks, wbuf := x_wbuf, devctl := x_devctl, pieces := x_pieces, slabs := x_slabs, slabWait := x_slabWait, poolFull := x_poolFull, med := x_med, keys := u.keys, ceWin := x_ceWin, ueWin := x_ueWin, fab := x_fab, twn := x_twn, dreads := x_dreads, copyWait := x_copyWait, remote := x_remote, lostSeq := x_lostSeq, scrubLine := x_scrubLine, scrubEdge := x_scrubEdge, dram := x_dram, dramAcc := x_dramAcc, dramEdge := x_dramEdge, tst := x_tst, bench := x_bench, promo := x_promo, promoDue := x_promoDue, credMissed := x_credMissed } = u.still := by cases u; rfl
@[simp] theorem still_mk1 (u : State) (x_regs : RegFile) (x_latch : RegFile) (x_latchPrev : RegFile) (x_ctxL : List HeadCtx) (x_ctxPrev : List HeadCtx) (x_spansL : List Nat) (x_spansPrev : List Nat) (x_setNow : List (Nat × Nat)) (x_rdLatch : Tbl Nat) (x_staging : Tbl Nat) (x_freeCount : Nat) (x_out : List Output) (x_buf : Memory) (x_flash : Memory) (x_loops : Tbl Loop) (x_clk : Clk) (x_pwr : Pwr) (x_svy : Svy) (x_pin : Pin) (x_chart : Chart) (x_boot : Boot) (x_gaz : Gaz) (x_evt : Evt) (x_msix : Tbl Msix) (x_msixFnMask : List Nat) (x_trace : List (List Byte)) (x_traceLost : Nat) (x_traceAt : Nat) (x_trcTick : Tbl Nat) (x_trcLeft : Tbl Nat) (x_pesMax : Tbl Nat) (x_pesPrev : Tbl Nat) (x_timeSeen : Bool) (x_timeNow : Bool) (x_spn : Spn) (x_acts : Tbl Act) (x_retr : Tbl Retract) (x_left : List Nat) (x_eng : Tbl Eng) (x_wr : Tbl WJob) (x_chan : Tbl Chan) (x_heads : Tbl HeadCtx) (x_cmds : Tbl Cmd) (x_sqs : Tbl Sq) (x_cqs : Tbl Cq) (x_fetchSeq : Nat) (x_lastFn : Nat) (x_lastSq : Tbl Nat) (x_visit : List Nat) (x_burst : Nat) (x_credit : Tbl Nat) (x_enEdge : Tbl Nat) (x_locks : Locks) (x_wbuf : List (Nat × Nat)) (x_devctl : Tbl DevCtl) (x_pieces : Tbl OPiece) (x_slabs : Tbl Slab) (x_slabWait : List Nat) (x_poolFull : Bool) (x_med : Med) (x_keys : Tbl (List Byte)) (x_ceWin : Tbl Nat) (x_ueWin : Tbl Nat) (x_fab : Fab) (x_twn : Twn) (x_dreads : List (Nat × Nat)) (x_copyWait : Tbl Parcel) (x_remote : List (Nat × Nat)) (x_lostSeq : List (Nat × Nat)) (x_scrubLine : Nat) (x_scrubEdge : Option Nat) (x_dram : Tbl (List Byte)) (x_dramAcc : Tbl Nat) (x_dramEdge : Nat) (x_tst : Tst) (x_bench : Bench) (x_promo : List Nat) (x_promoDue : List Nat) (x_credMissed : Bool) : (State.still { pending := u.pending, regs := x_regs, latch := x_latch, latchPrev := x_latchPrev, ctxL := x_ctxL, ctxPrev := x_ctxPrev, spansL := x_spansL, spansPrev := x_spansPrev, setNow := x_setNow, rdLatch := x_rdLatch, staging := x_staging, freeCount := x_freeCount, out := x_out, buf := x_buf, flash := x_flash, loops := x_loops, clk := x_clk, pwr := x_pwr, svy := x_svy, pin := x_pin, chart := x_chart, boot := x_boot, gaz := x_gaz, evt := x_evt, msix := x_msix, msixFnMask := x_msixFnMask, trace := x_trace, traceLost := x_traceLost, traceAt := x_traceAt, trcTick := x_trcTick, trcLeft := x_trcLeft, pesMax := x_pesMax, pesPrev := x_pesPrev, timeSeen := x_timeSeen, timeNow := x_timeNow, spn := x_spn, acts := x_acts, retr := x_retr, left := x_left, eng := x_eng, wr := x_wr, chan := x_chan, heads := x_heads, cmds := x_cmds, sqs := x_sqs, cqs := x_cqs, fetchSeq := x_fetchSeq, lastFn := x_lastFn, lastSq := x_lastSq, visit := x_visit, burst := x_burst, credit := x_credit, enEdge := x_enEdge, locks := x_locks, wbuf := x_wbuf, devctl := x_devctl, pieces := x_pieces, slabs := x_slabs, slabWait := x_slabWait, poolFull := x_poolFull, med := x_med, keys := x_keys, ceWin := x_ceWin, ueWin := x_ueWin, fab := x_fab, twn := x_twn, dreads := x_dreads, copyWait := x_copyWait, remote := x_remote, lostSeq := x_lostSeq, scrubLine := x_scrubLine, scrubEdge := x_scrubEdge, dram := x_dram, dramAcc := x_dramAcc, dramEdge := x_dramEdge, tst := x_tst, bench := x_bench, promo := x_promo, promoDue := x_promoDue, credMissed := x_credMissed }).1 = u.still.1 := by cases u; rfl
@[simp] theorem ite_still (c : Prop) [Decidable c] (a b : State) : (if c then a else b).still = if c then a.still else b.still := by split <;> rfl
@[simp] theorem foldl_still {α : Type} (f : State → α → State) (l : List α) (s : State) (h : (∀ s a, (f s a).still = s.still) = True) : (l.foldl f s).still = s.still := by
  have h := of_eq_true h
  induction l generalizing s with
  | nil => rfl
  | cons a t ih => simp [List.foldl, ih, h]
theorem foldl_still' {α : Type} (f : State → α → State) (l : List α) (s : State) (h : ∀ s a, (f s a).still = s.still) : (l.foldl f s).still = s.still :=
  foldl_still f l s (eq_true h)
@[simp] theorem foldl_pend {α : Type} (f : State → α → State) (l : List α) (s : State) (h : (∀ s a, (f s a).still.1 = s.still.1) = True) : (l.foldl f s).still.1 = s.still.1 := by
  have h := of_eq_true h
  induction l generalizing s with
  | nil => rfl
  | cons a t ih => simp [List.foldl, ih, h]
theorem foldl_pend' {α : Type} (f : State → α → State) (l : List α) (s : State) (h : ∀ s a, (f s a).still.1 = s.still.1) : (l.foldl f s).still.1 = s.still.1 := foldl_pend f l s (eq_true h)
@[simp] theorem ite_fst_still {α β : Type} (c : Prop) [Decidable c] (a b : α × β) : (if c then a else b).1 = if c then a.1 else b.1 := by split <;> rfl

/-! ### Ops -/

@[simp] theorem State.pki_still (s : State) (F : Fld) (k i v : Nat) : (State.pki s F k i v).still = s.still := rfl
@[simp] theorem State.pk_still (s : State) (F : Fld) (k v : Nat) : (State.pk s F k v).still = s.still := rfl
@[simp] theorem State.p_still (s : State) (F : Fld) (v : Nat) : (State.p s F v).still = s.still := rfl
@[simp] theorem State.bumpki_still (s : State) (F : Fld) (k i d : Nat) : (State.bumpki s F k i d).still = s.still := rfl
@[simp] theorem State.bumpk_still (s : State) (F : Fld) (k d : Nat) : (State.bumpk s F k d).still = s.still := rfl
@[simp] theorem State.bump_still (s : State) (F : Fld) (d : Nat) : (State.bump s F d).still = s.still := rfl
@[simp] theorem State.hwSet_still (s : State) (F : Fld) (k i b : Nat) : (State.hwSet s F k i b).still = s.still := rfl
@[simp] theorem State.hwClr_still (s : State) (F : Fld) (k i b : Nat) : (State.hwClr s F k i b).still = s.still := rfl
@[simp] theorem State.free_still (s : State) : ((State.free s).2).still = s.still := rfl
@[simp] theorem State.fresh_still (s : State) : (State.fresh s).still = s.still := rfl
@[simp] theorem State.emit_still (s : State) (o : Output) : (State.emit s o).still = s.still := rfl
@[simp] theorem State.atCycle_still (s : State) (c : Nat) : (State.atCycle s c).still = s.still := by simp [State.atCycle]
@[simp] theorem State.slotDone_still (s : State) (b : Nat) : (State.slotDone s b).still = s.still := rfl
@[simp] theorem State.stageEndAt_still (s : State) (i : Nat) : (State.stageEndAt s i).still = s.still := rfl
@[simp] theorem State.sendMsix_still (s : State) (fn vec : Nat) : (State.sendMsix s fn vec).still = s.still := by simp [State.sendMsix]
@[simp] theorem State.tracePush_still (s : State) (m : List Byte) : (State.tracePush s m).still = s.still := by simp [State.tracePush]
@[simp] theorem State.traceEdge_still (s : State) : (State.traceEdge s).still = s.still := by simp [State.traceEdge]
@[simp] theorem State.trcTrigger_still (s : State) (k post : Nat) : (State.trcTrigger s k post).still = s.still := by simp [State.trcTrigger]
@[simp] theorem State.trcSource_still (s : State) (k src : Nat) : (State.trcSource s k src).still = s.still := by simp [State.trcSource]
@[simp] theorem State.trcEvent_still (s : State) (e : Nat) : (State.trcEvent s e).still = s.still := by simp [State.trcEvent]
@[simp] theorem State.evtMsg_still (s : State) (e : Nat) : (State.evtMsg s e).still = s.still := by simp [State.evtMsg]
@[simp] theorem State.evoPulse_still (s : State) (e : Nat) : (State.evoPulse s e).still = s.still := by simp [State.evoPulse]
@[simp] theorem State.evtQueue_still (s : State) (p : EvtParcel) : (State.evtQueue s p).still = s.still := by simp [State.evtQueue]
@[simp] theorem State.evtFab_still (s : State) (e : Nat) : (State.evtFab s e).still = s.still := by simp [State.evtFab]
@[simp] theorem State.snapArm_still (s : State) (i e : Nat) : (State.snapArm s i e).still = s.still := rfl
@[simp] theorem State.snapTrig_still (s : State) (e : Nat) : (State.snapTrig s e).still = s.still := by simp [State.snapTrig]
@[simp] theorem State.evtDue_still (s : State) (e : Nat) : (State.evtDue s e).still = s.still := by simp [State.evtDue]
@[simp] theorem State.evtCount_still (s : State) (e : Nat) : (State.evtCount s e).still = s.still := rfl
@[simp] theorem State.evtTrace_still (s : State) (e : Nat) : (State.evtTrace s e).still = s.still := by simp [State.evtTrace]
@[simp] theorem State.evtRoutes_still (s : State) (e : Nat) : (State.evtRoutes s e).still = s.still := by simp [State.evtRoutes]
@[simp] theorem State.raise_still (s : State) (e : Nat) : (State.raise s e).still = s.still := by simp [State.raise]
@[simp] theorem State.bufWrite_still (s : State) (a : Nat) (b : List Byte) : (State.bufWrite s a b).still = s.still := rfl
@[simp] theorem State.ringPad_still (s : State) (n : Nat) : (State.ringPad s n).still = s.still := by simp [State.ringPad]
@[simp] theorem State.ringPtrs_still (s : State) (seq wptr : Nat) (oldest : RingEnt) : (State.ringPtrs s seq wptr oldest).still = s.still := rfl
@[simp] theorem State.ringPut_still (s : State) (r : Rec) : (State.ringPut s r).still = s.still := by simp [State.ringPut]
@[simp] theorem State.ringOrHold_still (s : State) (r : Rec) : (State.ringOrHold s r).still = s.still := by simp [State.ringOrHold]
@[simp] theorem State.persistPut_still (s : State) (r : Rec) : (State.persistPut s r).still = s.still := by simp [State.persistPut]
@[simp] theorem State.prePut_still (s : State) (r : Rec) : (State.prePut s r).still = s.still := by simp [State.prePut]
@[simp] theorem State.recordPut_still (s : State) (r : Rec) : (State.recordPut s r).still = s.still := by simp [State.recordPut]
@[simp] theorem State.record_still (s : State) (r : Rec) : (State.record s r).still = s.still := by simp only [State.record]; (repeat' split) <;> simp
@[simp] theorem State.gather_still (s : State) : (State.gather s).still = s.still := rfl
@[simp] theorem State.inOrder_still (s : State) : (State.inOrder s).still = s.still := by simp [State.inOrder]
@[simp] theorem State.dropRecord_still (s : State) (kind count : Nat) : (State.dropRecord s kind count).still = s.still := by simp [State.dropRecord]
@[simp] theorem State.dropPersist_still (s : State) : (State.dropPersist s).still = s.still := by simp [State.dropPersist]
@[simp] theorem State.loopStep_still (s : State) (l which : Nat) : (State.loopStep s l which).still = s.still := rfl
@[simp] theorem State.loopHold_still (s : State) (l : Nat) : (State.loopHold s l).still = s.still := rfl

/-! ### Envelope -/

@[simp] theorem State.showTunables_still (s : State) : (State.showTunables s).still = s.still := by simp [State.showTunables]
@[simp] theorem State.tunEdge_still (s : State) : (State.tunEdge s).still = s.still := by simp [State.tunEdge]

/-! ### Motion -/

@[simp] theorem State.setAct_still (s : State) (k : Nat) (f : Act → Act) : (State.setAct s k f).still = s.still := rfl
@[simp] theorem State.actFalls_still (s : State) (k : Nat) : (State.actFalls s k).still = s.still := by simp only [State.actFalls]; (repeat' split) <;> simp
@[simp] theorem State.gateDrop_still (s : State) (k : Nat) : (State.gateDrop s k).still = s.still := by simp only [State.gateDrop]; (repeat' split) <;> simp
@[simp] theorem State.gateDropAll_still (s : State) : (State.gateDropAll s).still = s.still := by simp [State.gateDropAll]
@[simp] theorem State.setActSt_still (s : State) (k st : Nat) : (State.setActSt s k st).still = s.still := by simp [State.setActSt]
@[simp] theorem State.zeroHeater_still (s : State) (k h : Nat) : (State.zeroHeater s k h).still = s.still := by simp only [State.zeroHeater]; (repeat' split) <;> simp
@[simp] theorem State.heaterOff_still (s : State) (k : Nat) : (State.heaterOff s k).still = s.still := by simp [State.heaterOff]
@[simp] theorem State.abandonSlice_still (s : State) (k : Nat) : (State.abandonSlice s k).still = s.still := by simp [State.abandonSlice]
@[simp] theorem State.abandonSlices_still (s : State) : (State.abandonSlices s).still = s.still := by simp [State.abandonSlices]
@[simp] theorem State.beginMotion_still (s : State) (k kind trig : Nat) : (State.beginMotion s k kind trig).still = s.still := by simp [State.beginMotion]
@[simp] theorem State.orderMotion_still (s : State) (k kind trig : Nat) : (State.orderMotion s k kind trig).still = s.still := by simp only [State.orderMotion]; (repeat' split) <;> simp
@[simp] theorem State.endMotion_still (s : State) (k st : Nat) : (State.endMotion s k st).still = s.still := by simp only [State.endMotion]; (repeat' split) <;> simp
@[simp] theorem State.parkRecord_still (s : State) (k : Nat) (m : Motion) (overrun : Nat) : (State.parkRecord s k m overrun).still = s.still := by simp [State.parkRecord]
@[simp] theorem State.escEnd_still (s : State) (k outcome : Nat) : (State.escEnd s k outcome).still = s.still := by simp only [State.escEnd]; (repeat' split) <;> simp
@[simp] theorem State.epark_still (s : State) (k trig : Nat) : (State.epark s k trig).still = s.still := by simp [State.epark]
@[simp] theorem State.eparkAll_still (s : State) (trig : Nat) : (State.eparkAll s trig).still = s.still := by simp [State.eparkAll]
@[simp] theorem State.unloadAll_still (s : State) (trig : Nat) : (State.unloadAll s trig).still = s.still := by simp [State.unloadAll]
@[simp] theorem State.retractAll_still (s : State) : (State.retractAll s).still = s.still := by simp [State.retractAll]
@[simp] theorem State.shockRestart_still (s : State) : (State.shockRestart s).still = s.still := by simp [State.shockRestart]
@[simp] theorem State.loadAct_still (s : State) (k why : Nat) : (State.loadAct s k why).still = s.still := by simp [State.loadAct]
@[simp] theorem State.loadAll_still (s : State) (why : Nat) : (State.loadAll s why).still = s.still := by simp [State.loadAll]
@[simp] theorem State.shockLoads_still (s : State) : (State.shockLoads s).still = s.still := by simp [State.shockLoads]
@[simp] theorem State.enterSpn_still (s : State) (st : Nat) : (State.enterSpn s st).still = s.still := by simp [State.enterSpn]
@[simp] theorem State.lossRecord_still (s : State) (outcome : Nat) : (State.lossRecord s outcome).still = s.still := by simp only [State.lossRecord]; (repeat' split) <;> simp
@[simp] theorem State.spindleCoast_still (s : State) : (State.spindleCoast s).still = s.still := by simp [State.spindleCoast]
@[simp] theorem State.spindleStart_still (s : State) (src : Nat) : (State.spindleStart s src).still = s.still := by simp [State.spindleStart]
@[simp] theorem State.spindleBrakeFor_still (s : State) (why : Nat) : (State.spindleBrakeFor s why).still = s.still := rfl
@[simp] theorem State.spindleBrake_still (s : State) : (State.spindleBrake s).still = s.still := rfl
@[simp] theorem State.reissue_still (s : State) : (State.reissue s).still = s.still := rfl

/-! ### Queue -/

@[simp] theorem State.setCmd_still (s : State) (i : Nat) (c : Cmd) : (State.setCmd s i c).still = s.still := rfl
@[simp] theorem State.modCmd_still (s : State) (i : Nat) (f : Cmd → Cmd) : (State.modCmd s i f).still = s.still := by simp only [State.modCmd]; (repeat' split) <;> simp
@[simp] theorem State.setSq_still (s : State) (fn q : Nat) (x : Sq) : (State.setSq s fn q x).still = s.still := rfl
@[simp] theorem State.setCq_still (s : State) (fn q : Nat) (x : Cq) : (State.setCq s fn q x).still = s.still := rfl
@[simp] theorem State.modVol_still (s : State) (code : Nat) (f : Vol → Vol) : (State.modVol s code f).still = s.still := by simp only [State.modVol]; (repeat' split) <;> simp
@[simp] theorem State.unlock_still (s : State) (w : Who) : (State.unlock s w).still = s.still := rfl
@[simp] theorem State.present_still (s : State) (l : Lock) : (State.present s l).still = s.still := rfl
@[simp] theorem State.cqWait_still (s : State) (fn cq : Nat) (w : CqWait) : (State.cqWait s fn cq w).still = s.still := by simp only [State.cqWait]; (repeat' split) <;> simp
@[simp] theorem State.sqError_still (s : State) (c : Cmd) (status : Nat) : (State.sqError s c status).still = s.still := by simp only [State.sqError]; (repeat' split) <;> simp
@[simp] theorem State.unfreezeEntry_still (s : State) (fn cq q : Nat) : (State.unfreezeEntry s fn cq q).still = s.still := by simp only [State.unfreezeEntry]; (repeat' split) <;> simp
@[simp] theorem State.complete_still (s : State) (slot status : Nat) : (State.complete s slot status).still = s.still := by simp only [State.complete]; (repeat' split) <;> simp
@[simp] theorem State.completeWith_still (s : State) (slot status result : Nat) : (State.completeWith s slot status result).still = s.still := by simp [State.completeWith]
@[simp] theorem State.cqSignal_still (s : State) (fn cq : Nat) : (State.cqSignal s fn cq).still = s.still := by simp only [State.cqSignal]; (repeat' split) <;> simp
@[simp] theorem State.releaseSlot_still (s : State) (slot : Option Nat) : (State.releaseSlot s slot).still = s.still := by simp only [State.releaseSlot]; (repeat' split) <;> simp
@[simp] theorem State.postEntry_still (s : State) (fn cq : Nat) : (State.postEntry s fn cq).still = s.still := by simp only [State.postEntry]; (repeat' split) <;> simp
@[simp] theorem State.cancelTransition_still (s : State) : (State.cancelTransition s).still = s.still := by simp [State.cancelTransition]

/-! ### Flash -/

@[simp] theorem State.wearPut_still (s : State) (n : Nat) (w : Wear) : (State.wearPut s n w).still = s.still := rfl
@[simp] theorem State.flashWrite_still (s : State) (a : Nat) (b : List Byte) : (State.flashWrite s a b).still = s.still := rfl
@[simp] theorem State.flashClear_still (s : State) (n : Nat) : (State.flashClear s n).still = s.still := rfl
@[simp] theorem State.mark_still (s : State) (kind sector erases etime : Nat) : (State.mark s kind sector erases etime).still = s.still := by simp [State.mark]
@[simp] theorem State.wearErase_still (s : State) (n t : Nat) : (State.wearErase s n t).still = s.still := by simp [State.wearErase]
@[simp] theorem State.seal_still (s : State) (n : Nat) : (State.seal s n).still = s.still := by simp [State.seal]
@[simp] theorem State.retireTo_still (s : State) (n cause dst sp : Nat) : (State.retireTo s n cause dst sp).still = s.still := by simp [State.retireTo]
@[simp] theorem State.retire_still (s : State) (n cause : Nat) : ((State.retire s n cause).2).still = s.still := by simp only [State.retire]; (repeat' split) <;> simp
@[simp] theorem State.journalReady_still (s : State) : (State.journalReady s).still = s.still := by simp only [State.journalReady]; (repeat' split) <;> simp
@[simp] theorem State.journalErased_still (s : State) (q : Nat) (ok : Bool) : (State.journalErased s q ok).still = s.still := by simp [State.journalErased]
@[simp] theorem State.xspi_still (s : State) (op addr n : Nat) : (State.xspi s op addr n).still = s.still := rfl
@[simp] theorem State.flashBegin_still (s : State) (j : FlashJob) : (State.flashBegin s j).still = s.still := by simp [State.flashBegin]
@[simp] theorem State.flashKick_still (s : State) : (State.flashKick s).still = s.still := by simp only [State.flashKick]; (repeat' split) <;> simp
@[simp] theorem State.flashAsk_still (s : State) (j : FlashJob) : (State.flashAsk s j).still = s.still := by simp [State.flashAsk]
@[simp] theorem State.markSwitch_still (s : State) : (State.markSwitch s).still = s.still := by simp [State.markSwitch]
@[simp] theorem State.gazEraseNext_still (s : State) : (State.gazEraseNext s).still = s.still := by simp [State.gazEraseNext]
@[simp] theorem State.gazTakeNext_still (s : State) : (State.gazTakeNext s).still = s.still := by simp [State.gazTakeNext]
@[simp] theorem State.gazTaken_still (s : State) : (State.gazTaken s).still = s.still := by simp [State.gazTaken]

/-! ### Integrity -/

@[simp] theorem State.integrity_still (s : State) (cp vol lba : Nat) (u : List Byte) (v : Verdict) : (State.integrity s cp vol lba u v).still = s.still := by simp [State.integrity]
@[simp] theorem State.unitReject_still (s : State) (vol lba : Nat) : (State.unitReject s vol lba).still = s.still := by simp [State.unitReject]
@[simp] theorem State.clearKeys_still (s : State) : (State.clearKeys s).still.1 = s.still.1 := rfl
@[simp] theorem State.keyLost_still (s : State) (code : Nat) : (State.keyLost s code).still.1 = s.still.1 := by simp [State.keyLost]

/-! ### Media -/

@[simp] theorem State.setMed_still (s : State) (f : Med → Med) : (State.setMed s f).still = s.still := rfl
@[simp] theorem State.makeUnwritable_still (s : State) (vol lba n : Nat) : (State.makeUnwritable s vol lba n).still = s.still := by simp [State.makeUnwritable]
@[simp] theorem State.loseBlocks_still (s : State) (kind vol lba n : Nat) : (State.loseBlocks s kind vol lba n).still = s.still := by simp [State.loseBlocks]

/-! ### Bench -/

@[simp] theorem State.benchBad_still (s : State) (m : Nat) : (State.benchBad s m).still = s.still := by simp [State.benchBad]
@[simp] theorem State.setBench_still (s : State) (f : Bench → Bench) : (State.setBench s f).still = s.still := rfl
@[simp] theorem State.benchCount_still (s : State) (m : Nat) (f : BenchCnt → BenchCnt) : (State.benchCount s m f).still = s.still := rfl
@[simp] theorem State.benchFetch_still (s : State) (m a : Nat) (w : List Byte) : (State.benchFetch s m a w).still = s.still := rfl
@[simp] theorem State.benchGrant_still (s : State) (r : BReq) : (State.benchGrant s r).still = s.still := by simp only [State.benchGrant]; (repeat' split) <;> simp
@[simp] theorem State.benchStall_still (s : State) (e : BWait) : (State.benchStall s e).still = s.still := by simp [State.benchStall]
@[simp] theorem State.benchPipe_still (s : State) : (State.benchPipe s).still = s.still := by simp [State.benchPipe]
@[simp] theorem State.benchPresent_still (s : State) (new : List BReq) : (State.benchPresent s new).still = s.still := rfl
@[simp] theorem State.benchCycle_still (s : State) (new : List BReq) : (State.benchCycle s new).still = s.still := by simp [State.benchCycle]
@[simp] theorem State.benchRun_still (s : State) (x0 : List (List BReq)) : (State.benchRun s x0).still = s.still := by induction x0 generalizing s <;> simp_all [State.benchRun]
@[simp] theorem State.benchDrain_still (s : State) (x0 : Nat) : (State.benchDrain s x0).still = s.still := by induction x0 generalizing s <;> simp_all [State.benchDrain]
@[simp] theorem State.benchEdge_still (s : State) (l : List (List BReq)) : (State.benchEdge s l).still = s.still := by simp [State.benchEdge]
@[simp] theorem State.benchPayload_still (s : State) (a : Nat) (write : Bool) (body : List Byte) : (State.benchPayload s a write body).still = s.still := by simp [State.benchPayload]

/-! ### Flits -/

@[simp] theorem State.setPort_still (s : State) (p : Nat) (f : Port → Port) : (State.setPort s p f).still = s.still := rfl
@[simp] theorem State.flitOut_still (s : State) (p seq : Nat) (idle nak abort : Bool) (data : List Byte) : (State.flitOut s p seq idle nak abort data).still = s.still := rfl
@[simp] theorem State.flitIdle_still (s : State) (p : Nat) (nak : Bool) : (State.flitIdle s p nak).still = s.still := rfl
@[simp] theorem State.flitSeq_still (s : State) (p : Nat) (abort : Bool) (data : List Byte) : (State.flitSeq s p abort data).still = s.still := by simp [State.flitSeq]
@[simp] theorem State.flitPump_still (s : State) (p : Nat) (x0 : Nat) : (State.flitPump s p x0).still = s.still := by induction x0 generalizing s <;> simp_all [State.flitPump]
@[simp] theorem State.flitWords_still (s : State) (p : Nat) (l : List (List Byte)) : (State.flitWords s p l).still = s.still := by simp [State.flitWords]
@[simp] theorem State.parcelOut_still (s : State) (port : Nat) (p : Parcel) : (State.parcelOut s port p).still = s.still := by simp [State.parcelOut]
@[simp] theorem State.flitReplay_still (s : State) (p : Nat) : (State.flitReplay s p).still = s.still := by simp [State.flitReplay]
@[simp] theorem State.owe_still (s : State) (p i n : Nat) : (State.owe s p i n).still = s.still := rfl
@[simp] theorem State.leaveBuffer_still (s : State) (p : Parcel) : (State.leaveBuffer s p).still = s.still := by simp [State.leaveBuffer]
@[simp] theorem State.landPayload_still (s : State) (p : Parcel) : (State.landPayload s p).still = s.still := by simp [State.landPayload]

/-! ### Parcels -/

@[simp] theorem State.drainPort_still (s : State) (port : Nat) (x0 : Nat) : (State.drainPort s port x0).still = s.still := by induction x0 generalizing s <;> (unfold State.drainPort; (repeat' split) <;> simp_all)
@[simp] theorem State.putOn_still (s : State) (port : Nat) (p : Parcel) : (State.putOn s port p).still = s.still := by simp [State.putOn]
@[simp] theorem State.linkSend_still (s : State) (port kind : Nat) (body : List Byte) : (State.linkSend s port kind body).still = s.still := by simp [State.linkSend]
@[simp] theorem State.routeOut_still (s : State) (p : Parcel) : (State.routeOut s p).still = s.still := by simp only [State.routeOut]; (repeat' split) <;> simp
@[simp] theorem State.send_still (s : State) (p : Parcel) : (State.send s p).still = s.still := by simp only [State.send]; (repeat' split) <;> simp
@[simp] theorem State.ask_still (s : State) (p : Parcel) : (State.ask s p).still = s.still := by simp [State.ask]
@[simp] theorem State.answered_still (s : State) (f : Parcel → Bool) : (State.answered s f).still = s.still := rfl
@[simp] theorem State.dropParcel_still (s : State) : (State.dropParcel s).still = s.still := by simp [State.dropParcel]
@[simp] theorem State.remember_still (s : State) (p : Parcel) : (State.remember s p).still = s.still := rfl
@[simp] theorem State.nodeKnown_still (s : State) (id w h : Nat) : (State.nodeKnown s id w h).still = s.still := by simp only [State.nodeKnown]; (repeat' split) <;> simp

/-! ### Pool -/

@[simp] theorem State.dramCount_still (s : State) (ch : Nat) (write : Bool) (n : Nat) : (State.dramCount s ch write n).still = s.still := rfl
@[simp] theorem State.dramPut_still (s : State) (d : Nat) (l : List Byte) : (State.dramPut s d l).still = s.still := rfl
@[simp] theorem State.dramWrite_still (s : State) (d : Nat) (b : List Byte) : (State.dramWrite s d b).still = s.still := by simp [State.dramWrite]
@[simp] theorem State.dramBlock_still (s : State) (d : Nat) (b : List Byte) : (State.dramBlock s d b).still = s.still := by simp [State.dramBlock]
@[simp] theorem State.dramWake_still (s : State) : (State.dramWake s).still = s.still := by simp [State.dramWake]
@[simp] theorem State.dramStore_still (s : State) (k b : Nat) (u : List Byte) : (State.dramStore s k b u).still = s.still := by simp [State.dramStore]
@[simp] theorem State.dramFetch_still (s : State) (k b : Nat) : (State.dramFetch s k b).still = s.still := by simp [State.dramFetch]
@[simp] theorem State.modSlab_still (s : State) (k : Nat) (f : Slab → Slab) : (State.modSlab s k f).still = s.still := by simp only [State.modSlab]; (repeat' split) <;> simp
@[simp] theorem State.newSlab_still (s : State) (k : Nat) (twin : Bool) (vol ext : Nat) : (State.newSlab s k twin vol ext).still = s.still := by simp [State.newSlab]
@[simp] theorem State.waitSlab_still (s : State) (who : Nat) : (State.waitSlab s who).still = s.still := by simp [State.waitSlab]
@[simp] theorem State.dropSlab_still (s : State) (k : Nat) : (State.dropSlab s k).still = s.still := by simp only [State.dropSlab]; (repeat' split) <;> simp

/-! ### Reset -/

@[simp] theorem State.dipRecord_still (s : State) (cut : Bool) : (State.dipRecord s cut).still = s.still := by simp [State.dipRecord]
@[simp] theorem State.holdOver_still (s : State) : (State.holdOver s).still = s.still := by simp [State.holdOver]
@[simp] theorem State.resetCore_still (s : State) (cold : Bool) : (State.resetCore s cold).still.1 = s.still.1 := rfl
@[simp] theorem State.sessionVoid_still (s : State) : (State.sessionVoid s).still = s.still := by simp [State.sessionVoid]
@[simp] theorem State.enterReset_still (s : State) (cause : Nat) : (State.enterReset s cause).still.1 = s.still.1 := by simp only [State.enterReset]; (repeat' split) <;> simp
@[simp] theorem State.wake_still (s : State) (pins : Nat) (perst : Bool) : (State.wake s pins perst).still.1 = s.still.1 := by simp [State.wake]
@[simp] theorem State.journalWrite_still (s : State) (cause : Nat) : ((State.journalWrite s cause).2).still = s.still := by simp only [State.journalWrite]; (repeat' split) <;> simp

/-! ### Stats -/

@[simp] theorem State.sample_still (s : State) (src inst : Nat) (v : Int) (ts : Nat) (prev tick : Bool) : (State.sample s src inst v ts prev tick).still = s.still := by simp [State.sample]
@[simp] theorem State.occur_still (s : State) (src inst : Nat) (v : Nat) : (State.occur s src inst v).still = s.still := by simp [State.occur]
@[simp] theorem State.tickSamples_still (s : State) : (State.tickSamples s).still = s.still := by
  unfold State.tickSamples
  split
  · rfl
  · apply foldl_still'
    intro s a
    (repeat' split) <;> simp

/-! ### Clock -/

@[simp] theorem State.requestClock_still (s : State) (econ : Bool) : (State.requestClock s econ).still = s.still := by simp [State.requestClock]
@[simp] theorem State.commitReq_still (s : State) : (State.commitReq s).still = s.still := by simp only [State.commitReq]; (repeat' split) <;> simp
@[simp] theorem State.clockFault_still (s : State) (event : Nat) : (State.clockFault s event).still = s.still := by
  unfold State.clockFault
  dsimp only
  split <;> simp
@[simp] theorem State.evtMaskWrite_still (s : State) (r v : Nat) : (State.evtMaskWrite s r v).still = s.still := by simp [State.evtMaskWrite]
@[simp] theorem State.evtPop_still (s : State) : (State.evtPop s).still = s.still := rfl
@[simp] theorem State.evtReceive_still (s : State) (payload : List Byte) : (State.evtReceive s payload).still = s.still := by simp [State.evtReceive]

/-! ### Supply -/

@[simp] theorem State.filterDie_still (s : State) (x : List Int) : (State.filterDie s x).still = s.still := rfl
@[simp] theorem State.deadlineFlush_still (s : State) : (State.deadlineFlush s).still = s.still := by simp only [State.deadlineFlush]; (repeat' split) <;> simp
@[simp] theorem State.holdStart_still (s : State) : (State.holdStart s).still = s.still := rfl
@[simp] theorem State.causeOn_still (s : State) (i : Nat) : (State.causeOn s i).still = s.still := by simp only [State.causeOn]; (repeat' split) <;> simp
@[simp] theorem State.holdCross_still (s : State) (i : Nat) : (State.holdCross s i).still = s.still := by simp [State.holdCross]
@[simp] theorem State.loadDown_still (s : State) (l : List Nat) : (State.loadDown s l).still = s.still := by simp [State.loadDown]
@[simp] theorem State.holdEnd_still (s : State) : (State.holdEnd s).still = s.still := by simp [State.holdEnd]
@[simp] theorem State.deadlineStop_still (s : State) : (State.deadlineStop s).still = s.still := by simp [State.deadlineStop]
@[simp] theorem State.holdDown_still (s : State) : (State.holdDown s).still = s.still := rfl
@[simp] theorem State.flashLoss_still (s : State) : (State.flashLoss s).still = s.still := by simp [State.flashLoss]
@[simp] theorem State.powerLoss_still (s : State) (cause : Nat) : (State.powerLoss s cause).still = s.still := by simp [State.powerLoss]
@[simp] theorem State.standbyStart_still (s : State) : (State.standbyStart s).still = s.still := by simp [State.standbyStart]
@[simp] theorem State.orderPower_still (s : State) (t : Nat) : ((State.orderPower s t).2).still = s.still := by simp only [State.orderPower]; (repeat' split) <;> simp
@[simp] theorem State.powerState_still (s : State) (c : Nat) : (State.powerState s c).still = s.still := by simp [State.powerState]
@[simp] theorem State.vigilEnter_still (s : State) : (State.vigilEnter s).still.1 = s.still.1 := by simp only [State.vigilEnter]; (repeat' split) <;> simp
@[simp] theorem State.vigilBegin_still (s : State) : (State.vigilBegin s).still = s.still := rfl

/-! ### Pieces -/

@[simp] theorem State.modPiece_still (s : State) (id : Nat) (f : OPiece → OPiece) : (State.modPiece s id f).still = s.still := by simp only [State.modPiece]; (repeat' split) <;> simp
@[simp] theorem State.newPiece_still (s : State) (p : OPiece) : ((State.newPiece s p).2).still = s.still := rfl
@[simp] theorem State.dropPiece_still (s : State) (id : Nat) : (State.dropPiece s id).still = s.still := rfl
@[simp] theorem State.twinSend_still (s : State) (kind vol lba modes : Nat) (body : List Byte) : (State.twinSend s kind vol lba modes body).still = s.still := by simp [State.twinSend]
@[simp] theorem State.twinBlock_still (s : State) (kind vol lba modes : Nat) (u : Unit4k) : (State.twinBlock s kind vol lba modes u).still = s.still := by simp [State.twinBlock]
@[simp] theorem State.dirtyPut_still (s : State) (vol ext : Nat) (lack : Bool) : (State.dirtyPut s vol ext lack).still = s.still := by simp [State.dirtyPut]
@[simp] theorem State.indexPiece_still (s : State) (p : OPiece) : (State.indexPiece s p).still = s.still := rfl
@[simp] theorem State.endWrite_still (s : State) (slot status : Nat) : (State.endWrite s slot status).still = s.still := by simp only [State.endWrite]; (repeat' split) <;> simp
@[simp] theorem State.spanCheck_still (s : State) (slot : Nat) : (State.spanCheck s slot).still = s.still := by simp only [State.spanCheck]; (repeat' split) <;> simp
@[simp] theorem State.trimSlot_still (s : State) (slot : Nat) : (State.trimSlot s slot).still = s.still := rfl
@[simp] theorem State.slotPiece_still (s : State) (slot lba status : Nat) : (State.slotPiece s slot lba status).still = s.still := by simp only [State.slotPiece]; (repeat' split) <;> simp
@[simp] theorem State.pieceReport_still (s : State) (p : OPiece) (status : Nat) : (State.pieceReport s p status).still = s.still := by simp only [State.pieceReport]; (repeat' split) <;> simp
@[simp] theorem State.pieceGone_still (s : State) (id : Nat) : (State.pieceGone s id).still = s.still := by simp only [State.pieceGone]; (repeat' split) <;> simp
@[simp] theorem State.pieceFinish_still (s : State) (id status : Nat) : (State.pieceFinish s id status).still = s.still := by simp only [State.pieceFinish]; (repeat' split) <;> simp
@[simp] theorem State.unrefresh_still (s : State) (vol lba : Nat) : (State.unrefresh s vol lba).still = s.still := rfl
@[simp] theorem State.addJob_still (s : State) (loc : Nat) (j : WJob) : (State.addJob s loc j).still = s.still := rfl
@[simp] theorem State.queueJobs_still (s : State) (pe vol lba n why edge : Nat) : (State.queueJobs s pe vol lba n why edge).still = s.still := by simp [State.queueJobs]
@[simp] theorem State.strandPiece_still (s : State) (id : Nat) (p : OPiece) : (State.strandPiece s id p).still = s.still := by simp only [State.strandPiece]; (repeat' split) <;> simp
@[simp] theorem State.toMedia_still (s : State) (id : Nat) : (State.toMedia s id).still = s.still := by simp only [State.toMedia]; (repeat' split) <;> simp
@[simp] theorem State.pieceCheck_still (s : State) (id : Nat) : (State.pieceCheck s id).still = s.still := by simp only [State.pieceCheck]; (repeat' split) <;> simp
@[simp] theorem State.pieceSweep_still (s : State) : (State.pieceSweep s).still = s.still := by simp [State.pieceSweep]
@[simp] theorem State.commit_still (s : State) (id k : Nat) : (State.commit s id k).still = s.still := by simp only [State.commit]; (repeat' split) <;> simp
@[simp] theorem State.cutPiece_still (s : State) (id n : Nat) : (State.cutPiece s id n).still = s.still := by simp only [State.cutPiece]; (repeat' split) <;> simp
@[simp] theorem State.cutSlot_still (s : State) (slot : Nat) (staged : Bool) : (State.cutSlot s slot staged).still = s.still := by simp [State.cutSlot]
@[simp] theorem State.discardSlot_still (s : State) (slot : Nat) : (State.discardSlot s slot).still = s.still := by unfold State.discardSlot; first | (rw [foldl_still']; (repeat' split) <;> simp; done) | (rw [foldl_still']; rotate_left; (intro s a; (repeat' split) <;> simp); (repeat' split) <;> simp)
@[simp] theorem State.twinLanded_still (s : State) (x : Slab) : (State.twinLanded s x).still = s.still := by simp [State.twinLanded]
@[simp] theorem State.extentCheck_still (s : State) (vol ext : Nat) : (State.extentCheck s vol ext).still = s.still := by simp only [State.extentCheck]; (repeat' split) <;> simp
@[simp] theorem State.pieceLand_still (s : State) (id : Nat) : (State.pieceLand s id).still = s.still := by simp only [State.pieceLand]; (repeat' split) <;> simp
@[simp] theorem State.noteLost_still (s : State) (vol lba n : Nat) : (State.noteLost s vol lba n).still = s.still := rfl

/-! ### Reads -/

@[simp] theorem State.toHost_still (s : State) (c : Cmd) (o : Nat) (b : List Byte) : (State.toHost s c o b).still = s.still := by simp [State.toHost]
@[simp] theorem State.chainEvent_still (s : State) (e : ChainEnd) : (State.chainEvent s e).still = s.still := by simp [State.chainEvent]
@[simp] theorem State.endReader_still (s : State) (r : Nat) : (State.endReader s r).still = s.still := rfl
@[simp] theorem State.readCheck_still (s : State) (slot : Nat) : (State.readCheck s slot).still = s.still := by simp only [State.readCheck]; (repeat' split) <;> simp
@[simp] theorem State.failBlock_still (s : State) (slot lba status : Nat) (e : ErrInfo) : (State.failBlock s slot lba status e).still = s.still := by simp only [State.failBlock]; (repeat' split) <;> simp
@[simp] theorem State.spanBlock_still (s : State) (slot lba status : Nat) : (State.spanBlock s slot lba status).still = s.still := by simp only [State.spanBlock]; (repeat' split) <;> simp
@[simp] theorem State.deliver_still (s : State) (slot lba : Nat) (u : Unit4k) (plain : Bool) : (State.deliver s slot lba u plain).still = s.still := by simp only [State.deliver]; (repeat' split) <;> simp
@[simp] theorem State.supply_still (s : State) (r lba : Nat) (u : Unit4k) (plain : Bool) : (State.supply s r lba u plain).still = s.still := by simp only [State.supply]; (repeat' split) <;> simp
@[simp] theorem State.failReader_still (s : State) (r lba status : Nat) (e : ErrInfo) : (State.failReader s r lba status e).still = s.still := by simp only [State.failReader]; (repeat' split) <;> simp
@[simp] theorem State.serve_still (s : State) (r vol lba : Nat) (strict : Bool) : (State.serve s r vol lba strict).still = s.still := by simp only [State.serve]; (repeat' split) <;> simp
@[simp] theorem State.serveAll_still (s : State) (r vol lba n : Nat) (strict : Bool) : (State.serveAll s r vol lba n strict).still = s.still := by simp [State.serveAll]
@[simp] theorem State.readGranted_still (s : State) (slot : Nat) : (State.readGranted s slot).still = s.still := by simp only [State.readGranted]; (repeat' split) <;> simp
@[simp] theorem State.pieceReadGranted_still (s : State) (id : Nat) : (State.pieceReadGranted s id).still = s.still := by simp only [State.pieceReadGranted]; (repeat' split) <;> simp
@[simp] theorem State.strictGo_still (s : State) : (State.strictGo s).still = s.still := by simp [State.strictGo]
@[simp] theorem State.failReads_still (s : State) (f : Nat → Bool) (status : Nat) : (State.failReads s f status).still = s.still := by unfold State.failReads; (repeat' split) <;> first | (simp; done) | (rw [foldl_still']; simp; intro s a; (repeat' split) <;> simp)
@[simp] theorem State.failWrites_still (s : State) (f : Nat → Bool) (status : Nat) : (State.failWrites s f status).still = s.still := by simp [State.failWrites]
@[simp] theorem State.failMediaOps_still (s : State) : (State.failMediaOps s).still = s.still := by simp [State.failMediaOps]
@[simp] theorem State.failMediaAt_still (s : State) (k track status : Nat) : (State.failMediaAt s k track status).still = s.still := by simp [State.failMediaAt]
@[simp] theorem State.unplace_still (s : State) (pe : Nat) (e : Ent) : (State.unplace s pe e).still = s.still := by simp [State.unplace]
@[simp] theorem State.withdraw_still (s : State) (k : Nat) : (State.withdraw s k).still = s.still := by simp [State.withdraw]
@[simp] theorem State.outOfService_still (s : State) (k : Nat) : (State.outOfService s k).still = s.still := by simp [State.outOfService]
@[simp] theorem State.forgetAsks_still (s : State) (slot : Nat) : (State.forgetAsks s slot).still = s.still := rfl
@[simp] theorem State.discardCmd_still (s : State) (slot : Nat) : (State.discardCmd s slot).still = s.still := by simp only [State.discardCmd]; (repeat' split) <;> simp
@[simp] theorem State.clearFn_still (s : State) (fn : Nat) : (State.clearFn s fn).still = s.still := by simp [State.clearFn]
@[simp] theorem State.perstQueues_still (s : State) : (State.perstQueues s).still = s.still := by simp [State.perstQueues]

/-! ### Startup -/

@[simp] theorem State.stageBegin_still (s : State) (b : Nat) : (State.stageBegin s b).still = s.still := rfl
@[simp] theorem State.faultMode_still (s : State) (fcode : Nat) : (State.faultMode s fcode).still = s.still := by simp [State.faultMode]
@[simp] theorem State.mediaFail_still (s : State) (fcode : Nat) : (State.mediaFail s fcode).still = s.still := by simp [State.mediaFail]
@[simp] theorem State.headsStageEnd_still (s : State) : (State.headsStageEnd s).still = s.still := by simp [State.headsStageEnd]
@[simp] theorem State.headsGo_still (s : State) : (State.headsGo s).still = s.still := by simp [State.headsGo]
@[simp] theorem State.spindleStageEnd_still (s : State) : (State.spindleStageEnd s).still = s.still := by simp [State.spindleStageEnd]
@[simp] theorem State.reclaimGo_still (s : State) : (State.reclaimGo s).still = s.still := by simp [State.reclaimGo]
@[simp] theorem State.spindleFail_still (s : State) : (State.spindleFail s).still = s.still := by simp [State.spindleFail]
@[simp] theorem State.result_still (s : State) (source test mask outcome fcode block detail dur n1 n2 : Nat) : (State.result s source test mask outcome fcode block detail dur n1 n2).still = s.still := rfl
@[simp] theorem State.bistRecord_still (s : State) (fcode block detail : Nat) : (State.bistRecord s fcode block detail).still = s.still := by simp [State.bistRecord]

/-! ### Sq -/

@[simp] theorem State.adminEnable_still (s : State) (fn : Nat) : (State.adminEnable s fn).still = s.still := by simp [State.adminEnable]
@[simp] theorem State.fnReset_still (s : State) (fn : Nat) : (State.fnReset s fn).still = s.still := by simp [State.fnReset]
@[simp] theorem State.dbError_still (s : State) (fn q kind : Nat) : (State.dbError s fn q kind).still = s.still := by simp [State.dbError]
@[simp] theorem State.tailWrite_still (s : State) (fn q t : Nat) : (State.tailWrite s fn q t).still = s.still := by simp only [State.tailWrite]; (repeat' split) <;> simp
@[simp] theorem State.headWrite_still (s : State) (fn q h : Nat) : (State.headWrite s fn q h).still = s.still := by simp only [State.headWrite]; (repeat' split) <;> simp
@[simp] theorem State.pushWrite_still (s : State) (fn q : Nat) (b : List Byte) (aligned : Bool) : (State.pushWrite s fn q b aligned).still = s.still := by simp only [State.pushWrite]; (repeat' split) <;> simp
@[simp] theorem State.leaveStandby_still (s : State) : (State.leaveStandby s).still = s.still := by simp [State.leaveStandby]
@[simp] theorem State.mediaArrives_still (s : State) : (State.mediaArrives s).still = s.still := by simp [State.mediaArrives]
@[simp] theorem State.mediaDispatch_still (s : State) : (State.mediaDispatch s).still = s.still := by simp [State.mediaDispatch]
@[simp] theorem State.takeEntry_still (s : State) (fn q slot : Nat) (x : Sq) (b : List Byte) (pushed : Bool) : (State.takeEntry s fn q slot x b pushed).still.1 = s.still.1 := by simp [State.takeEntry]
@[simp] theorem State.entryError_still (s : State) (fn q : Nat) (x : Sq) (aer : Bool) : (State.entryError s fn q x aer).still = s.still := by simp [State.entryError]
@[simp] theorem State.aborterDone_still (s : State) (l : List Nat) : (State.aborterDone s l).still = s.still := by simp [State.aborterDone]
@[simp] theorem State.latencySample_still (s : State) (c : Option Cmd) : (State.latencySample s c).still = s.still := by simp only [State.latencySample]; (repeat' split) <;> simp
@[simp] theorem State.unmask_still (s : State) (fn vec : Nat) : (State.unmask s fn vec).still = s.still := by simp [State.unmask]
@[simp] theorem State.unmaskFn_still (s : State) (fn : Nat) : (State.unmaskFn s fn).still = s.still := by simp [State.unmaskFn]

/-! ### Entry -/

@[simp] theorem State.badPtr_still (s : State) (slot idx : Nat) : (State.badPtr s slot idx).still = s.still := by simp [State.badPtr]
@[simp] theorem State.hostReadError_still (s : State) (slot : Nat) (aer : Bool) : (State.hostReadError s slot aer).still = s.still := by simp [State.hostReadError]
@[simp] theorem State.chainFail_still (s : State) (slot : Nat) (x0 : ChainEnd) : (State.chainFail s slot x0).still = s.still := by simp only [State.chainFail]; (repeat' split) <;> simp
@[simp] theorem State.withSegs_still (s : State) (slot : Nat) (c : Cmd) (d : DescIn) (ok : Nat → Bool) (f : List (Nat × Nat) → State → State) (h_f : (∀ (y0 : List (Nat × Nat)) (y1 : State), (f y0 y1).still = y1.still) = True) : (State.withSegs s slot c d ok f).still = s.still := by
  have h := of_eq_true h_f
  unfold State.withSegs
  (repeat' split) <;> simp [h]
@[simp] theorem State.admin_still (s : State) (slot opc : Nat) (sel : Cmd → Bool) (used : List (Nat × Nat)) (checks : Cmd → List (Bool × Nat)) (f : Cmd → State → State) (h_f : (∀ (y0 : Cmd) (y1 : State), (f y0 y1).still = y1.still) = True) : (State.admin s slot opc sel used checks f).still = s.still := by
  have h := of_eq_true h_f
  unfold State.admin
  (repeat' split) <;> simp [h]
@[simp] theorem State.adminPlain_still (s : State) (slot opc : Nat) (sel : Cmd → Bool) (used : List (Nat × Nat)) (checks : Cmd → List (Bool × Nat)) (f : Cmd → State → State) (h_f : (∀ (y0 : Cmd) (y1 : State), (f y0 y1).still = y1.still) = True) : (State.adminPlain s slot opc sel used checks f).still = s.still := by
  have h := of_eq_true h_f
  unfold State.adminPlain
  simp [h]

/-! ### Remap -/

@[simp] theorem State.noSpare_still (s : State) (vol lba head : Nat) : (State.noSpare s vol lba head).still = s.still := by simp only [State.noSpare]; (repeat' split) <;> simp
@[simp] theorem State.remapFail_still (s : State) (key : Nat) : (State.remapFail s key).still = s.still := by simp only [State.remapFail]; (repeat' split) <;> simp
@[simp] theorem State.remapNext_still (s : State) (key : Nat) : (State.remapNext s key).still = s.still := by simp only [State.remapNext]; (repeat' split) <;> simp
@[simp] theorem State.startRemap_still (s : State) (vol lba : Nat) : (State.startRemap s vol lba).still = s.still := by simp [State.startRemap]

/-! ### Io -/

@[simp] theorem State.rwStart_still (s : State) (slot : Nat) (c : Cmd) (excl : Bool) (segs : List (Nat × Nat)) : (State.rwStart s slot c excl segs).still = s.still := by simp only [State.rwStart]; (repeat' split) <;> simp
@[simp] theorem State.rw_still (s : State) (slot opc : Nat) (d : DescIn) : (State.rw s slot opc d).still = s.still := by simp only [State.rw]; (repeat' split) <;> simp
@[simp] theorem State.writeGranted_still (s : State) (slot : Nat) : (State.writeGranted s slot).still = s.still := by simp only [State.writeGranted]; (repeat' split) <;> simp
@[simp] theorem State.pieceFail_still (s : State) (id status : Nat) : (State.pieceFail s id status).still = s.still := by simp [State.pieceFail]
@[simp] theorem State.pieceGranted_still (s : State) (id : Nat) : (State.pieceGranted s id).still = s.still := by simp only [State.pieceGranted]; (repeat' split) <;> simp
@[simp] theorem State.refreshGranted_still (s : State) (l : Lock) : (State.refreshGranted s l).still = s.still := by simp only [State.refreshGranted]; (repeat' split) <;> simp
@[simp] theorem State.resyncLess_still (s : State) (vol ext blk : Nat) : (State.resyncLess s vol ext blk).still = s.still := by simp only [State.resyncLess]; (repeat' split) <;> simp
@[simp] theorem State.resyncGranted_still (s : State) (l : Lock) : (State.resyncGranted s l).still = s.still := by simp only [State.resyncGranted]; (repeat' split) <;> simp
@[simp] theorem State.granted_still (s : State) (l : Lock) : (State.granted s l).still = s.still := by simp only [State.granted]; (repeat' split) <;> simp
@[simp] theorem State.headWord_still (s : State) (l : Lock) : (State.headWord s l).still = s.still := by simp only [State.headWord]; (repeat' split) <;> simp
@[simp] theorem State.stage_still (s : State) (slot lba : Nat) (u : Unit4k) : (State.stage s slot lba u).still = s.still := by simp only [State.stage]; (repeat' split) <;> simp
@[simp] theorem State.ingest_still (s : State) (slot : Nat) (c : Cmd) (v : Nat) (b : List Byte) : (State.ingest s slot c v b).still = s.still := by simp [State.ingest]
@[simp] theorem State.sendAccept_still (s : State) (id : Nat) : (State.sendAccept s id).still = s.still := by simp only [State.sendAccept]; (repeat' split) <;> simp
@[simp] theorem State.peerAdd_still (s : State) (key : Nat) : (State.peerAdd s key).still = s.still := by unfold State.peerAdd; split <;> rfl
@[simp] theorem State.reclaimStore_still (s : State) (k : Nat) (p : Parcel) : (State.reclaimStore s k p).still = s.still := by simp [State.reclaimStore]
@[simp] theorem State.storeCopy_still (s : State) (k : Nat) (p : Parcel) : (State.storeCopy s k p).still = s.still := by simp [State.storeCopy]
@[simp] theorem State.endIo_still (s : State) (slot status : Nat) : (State.endIo s slot status).still = s.still := by simp only [State.endIo]; (repeat' split) <;> simp
@[simp] theorem State.keyFail_still (s : State) (slot : Nat) : (State.keyFail s slot).still = s.still := by simp only [State.keyFail]; (repeat' split) <;> simp

/-! ### AdmQueue -/

@[simp] theorem State.abortTarget_still (s : State) (i : Nat) (t : Cmd) : (State.abortTarget s i t).still = s.still := by simp only [State.abortTarget]; (repeat' split) <;> simp
@[simp] theorem State.thaw_still (s : State) (fn q action : Nat) : ((State.thaw s fn q action).2).still = s.still := by simp only [State.thaw]; (repeat' split) <;> simp
@[simp] theorem State.thawCmd_still (s : State) (slot : Nat) (sel : Nat → Bool) : (State.thawCmd s slot sel).still = s.still := by simp [State.thawCmd]
@[simp] theorem State.admThaw_still (s : State) (fn action : Nat) : (State.admThaw s fn action).still = s.still := by simp [State.admThaw]

/-! ### AdmInfo -/

@[simp] theorem State.identify_still (s : State) (slot cns : Nat) (d : DescIn) (checks : Cmd → List (Bool × Nat)) (page : Cmd → List Byte) : (State.identify s slot cns d checks page).still = s.still := by simp [State.identify]
@[simp] theorem State.logPage_still (s : State) (slot lid : Nat) (d : DescIn) (checks : Cmd → List (Bool × Nat)) (page : Cmd → List Byte) (after : Cmd → Nat → State → State) (h_after : (∀ (y0 : Cmd) (y1 : Nat) (y2 : State), (after y0 y1 y2).still = y2.still) = True) : (State.logPage s slot lid d checks page after).still = s.still := by simp only [State.logPage]; (repeat' split) <;> simp_all
@[simp] theorem State.clearLost_still (s : State) : (State.clearLost s).still = s.still := rfl
@[simp] theorem State.holdDrain_still (s : State) (x0 : Nat) : (State.holdDrain s x0).still = s.still := by induction x0 generalizing s <;> (unfold State.holdDrain; (repeat' split) <;> simp_all)

/-! ### Surveyor -/

@[simp] theorem State.throttleStart_still (s : State) : (State.throttleStart s).still = s.still := by simp [State.throttleStart]
@[simp] theorem State.criticalTemp_still (s : State) : (State.criticalTemp s).still = s.still := by simp [State.criticalTemp]
@[simp] theorem State.surveyTake_still (s : State) (x : SurveyIn) : (State.surveyTake s x).still = s.still := by simp [State.surveyTake]
@[simp] theorem State.postSurvey_still (s : State) (x : SurveyIn) : (State.postSurvey s x).still = s.still := rfl
@[simp] theorem State.thermalStep_still (s : State) (m : Int) : (State.thermalStep s m).still = s.still := by simp [State.thermalStep]
@[simp] theorem State.survey_still (s : State) (x : SurveyIn) : (State.survey s x).still = s.still := by simp [State.survey]
@[simp] theorem State.sensorRead_still (s : State) (k : Nat) (b : Option (List Byte)) : (State.sensorRead s k b).still = s.still := by simp only [State.sensorRead]; (repeat' split) <;> simp
@[simp] theorem State.avsFree_still (s : State) (m : Nat) : (State.avsFree s m).still = s.still := by simp [State.avsFree]
@[simp] theorem State.marginThrottle_still (s : State) : (State.marginThrottle s).still = s.still := by simp [State.marginThrottle]
@[simp] theorem State.avsMargin_still (s : State) (m : Nat) : (State.avsMargin s m).still = s.still := by simp [State.avsMargin]

/-! ### EngTrace -/

@[simp] theorem State.trcWord_still (s : State) (k : Nat) (bytes : List Byte) : (State.trcWord s k bytes).still = s.still := by simp only [State.trcWord]; (repeat' split) <;> simp
@[simp] theorem State.traceNodes_still (s : State) (k : Nat) (shown : Tbl Int) : (State.traceNodes s k shown).still = s.still := by simp [State.traceNodes]
@[simp] theorem State.traceEstimates_still (s : State) (k : Nat) (pes : List Int) : (State.traceEstimates s k pes).still = s.still := by simp [State.traceEstimates]
@[simp] theorem State.traceCompare_still (s : State) (k : Nat) (shown : Tbl Int) : (State.traceCompare s k shown).still = s.still := by simp [State.traceCompare]
@[simp] theorem State.traceArm_still (s : State) (k : Nat) : (State.traceArm s k).still = s.still := by simp [State.traceArm]
@[simp] theorem State.traceStop_still (s : State) (k : Nat) : (State.traceStop s k).still = s.still := by simp [State.traceStop]
@[simp] theorem State.traceTrig_still (s : State) (k : Nat) : (State.traceTrig s k).still = s.still := by simp [State.traceTrig]

/-! ### Servo -/

@[simp] theorem State.guardStep_still (s : State) (k : Nat) (valid : Bool) (pes : Int) : (State.guardStep s k valid pes).still = s.still := by simp only [State.guardStep]; (repeat' split) <;> simp
@[simp] theorem State.settleStep_still (s : State) (k : Nat) (valid : Bool) (pes : Int) : (State.settleStep s k valid pes).still = s.still := by simp [State.settleStep]
@[simp] theorem State.estimate_still (s : State) (k j e : Nat) : (State.estimate s k j e).still = s.still := by simp [State.estimate]
@[simp] theorem State.servoLoss_still (s : State) (k : Nat) : (State.servoLoss s k).still = s.still := by simp [State.servoLoss]
@[simp] theorem State.startSeek_still (s : State) (k : Nat) (q : Seek) : (State.startSeek s k q).still = s.still := by simp [State.startSeek]
@[simp] theorem State.orderSeek_still (s : State) (k : Nat) (q : Seek) : (State.orderSeek s k q).still = s.still := rfl
@[simp] theorem State.seekEdge_still (s : State) (k : Nat) : (State.seekEdge s k).still = s.still := by simp only [State.seekEdge]; (repeat' split) <;> simp
@[simp] theorem State.servoEdge_still (s : State) : (State.servoEdge s).still = s.still := by simp [State.servoEdge]
@[simp] theorem State.loadDone_still (s : State) (k : Nat) : (State.loadDone s k).still = s.still := by simp [State.loadDone]
@[simp] theorem State.testSeek_still (s : State) (k row : Nat) (ok : Bool) : (State.testSeek s k row ok).still = s.still := by simp only [State.testSeek]; (repeat' split) <;> simp
@[simp] theorem State.readReadyNow_still (s : State) (k : Nat) : (State.readReadyNow s k).still = s.still := by simp [State.readReadyNow]
@[simp] theorem State.seekFail_still (s : State) (k : Nat) (q : Seek) : (State.seekFail s k q).still = s.still := by simp [State.seekFail]

/-! ### Park -/

@[simp] theorem State.loadFail_still (s : State) (k : Nat) : (State.loadFail s k).still = s.still := by simp [State.loadFail]
@[simp] theorem State.escReload_still (s : State) (k : Nat) : (State.escReload s k).still = s.still := by simp only [State.escReload]; (repeat' split) <;> simp

/-! ### Engine -/

@[simp] theorem State.setEng_still (s : State) (k : Nat) (f : Eng → Eng) : (State.setEng s k f).still = s.still := rfl
@[simp] theorem State.runStop_still (s : State) (k q cause : Nat) : (State.runStop s k q cause).still = s.still := by simp [State.runStop]
@[simp] theorem State.runFlags_still (s : State) (k : Nat) (r : Run) (vsat msat : Bool) : (State.runFlags s k r vsat msat).still = s.still := by simp [State.runFlags]
@[simp] theorem State.afterOutput_still (s : State) (k : Nat) : (State.afterOutput s k).still = s.still := by simp [State.afterOutput]
@[simp] theorem State.runDone_still (s : State) (k q : Nat) (x : CtlIn) : (State.runDone s k q x).still = s.still := by simp [State.runDone]
@[simp] theorem State.engineRun_still (s : State) (k : Nat) (x : CtlIn) : (State.engineRun s k x).still = s.still := by simp only [State.engineRun]; (repeat' split) <;> simp
@[simp] theorem State.escalate_still (s : State) (k cause : Nat) : (State.escalate s k cause).still = s.still := by simp only [State.escalate]; (repeat' split) <;> simp
@[simp] theorem State.safeEnter_still (s : State) (k cause q : Nat) : (State.safeEnter s k cause q).still = s.still := by simp [State.safeEnter]
@[simp] theorem State.engineOverrun_still (s : State) (k : Nat) : (State.engineOverrun s k).still = s.still := by simp [State.engineOverrun]
@[simp] theorem State.safeExit_still (s : State) (k : Nat) (h : Safe) : (State.safeExit s k h).still = s.still := by simp [State.safeExit]
@[simp] theorem State.engineEdge_still (s : State) (k : Nat) (ovr : Bool) : (State.engineEdge s k ovr).still = s.still := by simp only [State.engineEdge]; (repeat' split) <;> simp
@[simp] theorem State.latchRun_still (s : State) (k : Nat) : (State.latchRun s k).still = s.still := rfl
@[simp] theorem State.engineLatch_still (s : State) : (State.engineLatch s).still = s.still := by simp [State.engineLatch]
@[simp] theorem State.holdExit_still (s : State) (k : Nat) (h : Safe) : (State.holdExit s k h).still = s.still := by simp [State.holdExit]

/-! ### ChartCheck -/

@[simp] theorem State.applyImage_still (s : State) (l : List Fld) (b : List Byte) : (State.applyImage s l b).still = s.still := by unfold State.applyImage; first | (rw [foldl_still']; (repeat' split) <;> simp; done) | (rw [foldl_still']; rotate_left; (intro s a; (repeat' split) <;> simp); (repeat' split) <;> simp)
@[simp] theorem State.clearImage_still (s : State) (l : List Fld) : (State.clearImage s l).still = s.still := by unfold State.clearImage; first | (rw [foldl_still']; (repeat' split) <;> simp; done) | (rw [foldl_still']; rotate_left; (intro s a; (repeat' split) <;> simp); (repeat' split) <;> simp)
@[simp] theorem State.scratch_still (s : State) (h : List Byte) (secs : List Sec) : (State.scratch s h secs).still = s.still := by simp [State.scratch]

/-! ### Apply -/

@[simp] theorem State.applyFields_still (s : State) : (State.applyFields s).still = s.still := by simp [State.applyFields]
@[simp] theorem State.applyLanes_still (s : State) : (State.applyLanes s).still = s.still := by simp [State.applyLanes]
@[simp] theorem State.applySections_still (s : State) : (State.applySections s).still = s.still := by simp [State.applySections]

/-! ### Chart -/

@[simp] theorem State.markScan_still (s : State) : (State.markScan s).still = s.still := by simp [State.markScan]
@[simp] theorem State.putRej_still (s : State) (i code : Nat) : (State.putRej s i code).still = s.still := rfl
@[simp] theorem State.rejectSlot_still (s : State) (i code dir : Nat) : (State.rejectSlot s i code dir).still = s.still := by simp [State.rejectSlot]
@[simp] theorem State.setLink_still (s : State) (octal : Bool) (mhz : Nat) : (State.setLink s octal mhz).still = s.still := rfl
@[simp] theorem State.goOctal_still (s : State) (i : Nat) (differs : Bool) : (State.goOctal s i differs).still = s.still := by simp [State.goOctal]
@[simp] theorem State.trySlots_still (s : State) (differs : List Bool) (x0 : List Nat) (x1 : Nat) : (State.trySlots s differs x0 x1).still = s.still := by
  induction x0 generalizing s x1 with
  | nil => simp [State.trySlots]
  | cons i t ih =>
    simp only [State.trySlots]
    split
    · split <;> simp
    · rw [ih]; simp
@[simp] theorem State.selectSlot_still (s : State) (differs : List Bool) : (State.selectSlot s differs).still.1 = s.still.1 := by unfold State.selectSlot; (repeat' split) <;> first | (simp; done) | (rw [foldl_pend']; simp; intro s a; (repeat' split) <;> simp)
@[simp] theorem State.journalScan_still (s : State) : (State.journalScan s).still = s.still := by simp [State.journalScan]
@[simp] theorem State.gazAdopt_still (s : State) (i sgen : Nat) (w : (Nat × Nat) × Bool) : (State.gazAdopt s i sgen w).still = s.still := by simp [State.gazAdopt]
@[simp] theorem State.gazPick_still (s : State) (hs : List (Nat × List Byte)) : (State.gazPick s hs).still = s.still := by simp only [State.gazPick]; (repeat' split) <;> simp
@[simp] theorem State.gazPrepare_still (s : State) : (State.gazPrepare s).still = s.still := by simp [State.gazPrepare]
@[simp] theorem State.gazStamps_still (s : State) : (State.gazStamps s).still = s.still := by simp [State.gazStamps]
@[simp] theorem State.gazScan_still (s : State) : (State.gazScan s).still = s.still := by simp [State.gazScan]
@[simp] theorem State.movePreChart_still (s : State) : (State.movePreChart s).still = s.still := by simp [State.movePreChart]
@[simp] theorem State.fabAlone_still (s : State) : (State.fabAlone s).still = s.still := by simp [State.fabAlone]
@[simp] theorem State.forgetKver_still (s : State) : (State.forgetKver s).still = s.still := rfl
@[simp] theorem State.applyChart_still (s : State) : (State.applyChart s).still = s.still := by simp [State.applyChart]
@[simp] theorem State.chartAbsent_still (s : State) : (State.chartAbsent s).still = s.still := by simp [State.chartAbsent]
@[simp] theorem State.chartScan_still (s : State) (differs : List Bool) : (State.chartScan s differs).still.1 = s.still.1 := by simp [State.chartScan]
@[simp] theorem State.updateFail_still (s : State) : (State.updateFail s).still = s.still := by simp only [State.updateFail]; (repeat' split) <;> simp
@[simp] theorem State.updateDone_still (s : State) (j : FlashJob) : (State.updateDone s j).still = s.still := by simp only [State.updateDone]; (repeat' split) <;> simp
@[simp] theorem State.askHead_still (s : State) : (State.askHead s).still = s.still := by simp [State.askHead]
@[simp] theorem State.afterErase_still (s : State) (j : FlashJob) (ok : Bool) : (State.afterErase s j ok).still = s.still := by simp only [State.afterErase]; (repeat' split) <;> simp
@[simp] theorem State.flashFree_still (s : State) : (State.flashFree s).still = s.still := by simp [State.flashFree]
@[simp] theorem State.eraseDone_still (s : State) (j : FlashJob) : (State.eraseDone s j).still = s.still := by simp only [State.eraseDone]; (repeat' split) <;> simp
@[simp] theorem State.eraseGo_still (s : State) (j : FlashJob) : (State.eraseGo s j).still = s.still := by simp [State.eraseGo]
@[simp] theorem State.markEnd_still (s : State) (j : FlashJob) (ok : Bool) : (State.markEnd s j ok).still = s.still := by simp only [State.markEnd]; (repeat' split) <;> simp
@[simp] theorem State.eraseEnd_still (s : State) (j : FlashJob) (t : Nat) (ok : Bool) : (State.eraseEnd s j t ok).still = s.still := by simp [State.eraseEnd]
@[simp] theorem State.afterProgram_still (s : State) (j : FlashJob) : (State.afterProgram s j).still = s.still := by simp only [State.afterProgram]; (repeat' split) <;> simp
@[simp] theorem State.pageGo_still (s : State) (j : FlashJob) : (State.pageGo s j).still = s.still := by simp only [State.pageGo]; (repeat' split) <;> simp
@[simp] theorem State.pageEnd_still (s : State) (j : FlashJob) (ok : Bool) : (State.pageEnd s j ok).still = s.still := by simp [State.pageEnd]

/-! ### FabLink -/

@[simp] theorem State.alignRise_still (s : State) : (State.alignRise s).still = s.still := rfl
@[simp] theorem State.alignFall_still (s : State) : (State.alignFall s).still = s.still := by simp [State.alignFall]
@[simp] theorem State.flood_still (s : State) (id : Nat) (x : Lsr) (skip : Nat) : (State.flood s id x skip).still = s.still := by simp [State.flood]
@[simp] theorem State.viewPut_still (s : State) (id : Nat) (x : Lsr) : (State.viewPut s id x).still = s.still := rfl
@[simp] theorem State.originate_still (s : State) : (State.originate s).still = s.still := by simp [State.originate]
@[simp] theorem State.linkRecord_still (s : State) (p kind cause lanes : Nat) : (State.linkRecord s p kind cause lanes).still = s.still := by simp [State.linkRecord]
@[simp] theorem State.lanesIdle_still (s : State) (p v : Nat) : (State.lanesIdle s p v).still = s.still := rfl
@[simp] theorem State.holdPort_still (s : State) (p cause : Nat) (until? : Option Nat) : (State.holdPort s p cause until?).still = s.still := by simp [State.holdPort]
@[simp] theorem State.leaveFabric_still (s : State) (result : Nat) : (State.leaveFabric s result).still = s.still := by simp [State.leaveFabric]
@[simp] theorem State.discFail_still (s : State) (result : Nat) : (State.discFail s result).still = s.still := by simp [State.discFail]
@[simp] theorem State.elect_still (s : State) : (State.elect s).still = s.still := by simp [State.elect]
@[simp] theorem State.discBegin_still (s : State) : (State.discBegin s).still = s.still := by simp [State.discBegin]
@[simp] theorem State.trainingEnd_still (s : State) : (State.trainingEnd s).still = s.still := by simp [State.trainingEnd]
@[simp] theorem State.trainingCheck_still (s : State) : (State.trainingCheck s).still = s.still := by simp [State.trainingCheck]
@[simp] theorem State.cutParcel_still (s : State) (p : Nat) : (State.cutParcel s p).still = s.still := by simp only [State.cutParcel]; (repeat' split) <;> simp
@[simp] theorem State.linkFail_still (s : State) (p cause : Nat) : (State.linkFail s p cause).still = s.still := by simp [State.linkFail]

/-! ### Boot -/

@[simp] theorem State.dramFail_still (s : State) : (State.dramFail s).still = s.still := by simp [State.dramFail]
@[simp] theorem State.bistFail_still (s : State) : (State.bistFail s).still = s.still := by simp [State.bistFail]
@[simp] theorem State.stageExit_still (s : State) (x0 : Stage) : (State.stageExit s x0).still.1 = s.still.1 := by simp only [State.stageExit]; (repeat' split) <;> simp
@[simp] theorem State.consumeJournals_still (s : State) : (State.consumeJournals s).still = s.still := by simp [State.consumeJournals]
@[simp] theorem State.burnEpoch_still (s : State) : (State.burnEpoch s).still = s.still := by simp [State.burnEpoch]
@[simp] theorem State.burnLock_still (s : State) : (State.burnLock s).still = s.still := by simp [State.burnLock]
@[simp] theorem State.spanShort_still (s : State) (n reason : Nat) : (State.spanShort s n reason).still = s.still := by simp [State.spanShort]
@[simp] theorem State.reserveSpan_still (s : State) (n : Nat) : (State.reserveSpan s n).still = s.still := by simp [State.reserveSpan]
@[simp] theorem State.calRestart_still (s : State) : (State.calRestart s).still = s.still := rfl
@[simp] theorem State.enterReady_still (s : State) : (State.enterReady s).still = s.still := by simp [State.enterReady]
@[simp] theorem State.hostReset_still (s : State) : (State.hostReset s).still = s.still := by simp [State.hostReset]

/-! ### AdmVol -/

@[simp] theorem State.volManage_still (s : State) (slot action : Nat) (used : List (Nat × Nat)) (checks : Cmd → List (Bool × Nat)) (f : Cmd → State → State) (h_f : (∀ (y0 : Cmd) (y1 : State), (f y0 y1).still = y1.still) = True) : (State.volManage s slot action used checks f).still = s.still := by simp only [State.volManage]; (repeat' split) <;> simp_all
@[simp] theorem State.volRemove_still (s : State) (v : Nat) : (State.volRemove s v).still.1 = s.still.1 := rfl
@[simp] theorem State.spanManage_still (s : State) (slot action : Nat) (checks : Cmd → List (Bool × Nat)) (f : Cmd → State → State) (h_f : (∀ (y0 : Cmd) (y1 : State), (f y0 y1).still = y1.still) = True) : (State.spanManage s slot action checks f).still = s.still := by simp only [State.spanManage]; (repeat' split) <;> simp_all
@[simp] theorem State.putKey_still (s : State) (v : Nat) (b : List Byte) : (State.putKey s v b).still.1 = s.still.1 := rfl
@[simp] theorem State.powerCmd_still (s : State) (slot target : Nat) (f : State → State) (h_f : (∀ (y0 : State), (f y0).still = y0.still) = True) : (State.powerCmd s slot target f).still = s.still := by simp only [State.powerCmd]; (repeat' split) <;> simp_all

/-! ### AdmChart -/

@[simp] theorem State.askAll_still (s : State) (l : List FlashJob) : (State.askAll s l).still = s.still := by simp [State.askAll]
@[simp] theorem State.chartData_still (s : State) (slot off : Nat) (b : List Byte) : (State.chartData s slot off b).still = s.still := by simp [State.chartData]

/-! ### AdmTun -/

@[simp] theorem State.setTunable_still (s : State) (slot : Nat) (c : Cmd) : (State.setTunable s slot c).still = s.still := by
  simp only [State.setTunable]
  split
  · simp
  · rw [State.complete_still]
    apply foldl_still'
    intro s a
    split <;> simp

/-! ### Channel -/

@[simp] theorem State.setChn_still (s : State) (k : Nat) (f : Chan → Chan) : (State.setChn s k f).still = s.still := rfl
@[simp] theorem State.setHd_still (s : State) (h : Nat) (f : HeadCtx → HeadCtx) : (State.setHd s h f).still = s.still := rfl
@[simp] theorem State.disableHead_still (s : State) (h : Nat) : (State.disableHead s h).still = s.still := by simp [State.disableHead]
@[simp] theorem State.linkFailure_still (s : State) (k : Nat) : (State.linkFailure s k).still = s.still := by simp [State.linkFailure]
@[simp] theorem State.contact_still (s : State) (k h : Nat) : (State.contact s k h).still = s.still := by simp [State.contact]
@[simp] theorem State.linkWait_still (s : State) (k : Nat) (f : LFrame) : (State.linkWait s k f).still = s.still := rfl
@[simp] theorem State.linkEmit_still (s : State) (k : Nat) (f : LFrame) : (State.linkEmit s k f).still = s.still := rfl
@[simp] theorem State.linkWrite_still (s : State) (k : Nat) (f : LFrame) : (State.linkWrite s k f).still = s.still := by simp [State.linkWrite]
@[simp] theorem State.linkEdge_still (s : State) (k : Nat) : (State.linkEdge s k).still = s.still := by simp [State.linkEdge]
@[simp] theorem State.linkError_still (s : State) (k : Nat) (f : LFrame) : (State.linkError s k f).still = s.still := by simp [State.linkError]
@[simp] theorem State.statusRead_still (s : State) (k : Nat) (f : LFrame) (data : Nat) (hit : Bool) : (State.statusRead s k f data hit).still = s.still := by simp only [State.statusRead]; (repeat' split) <;> simp
@[simp] theorem State.sideband_still (s : State) (k : Nat) (F : Fld) (v : Option Nat) : (State.sideband s k F v).still = s.still := by simp only [State.sideband]; (repeat' split) <;> simp
@[simp] theorem State.sidebandGo_still (s : State) (k : Nat) : (State.sidebandGo s k).still = s.still := by simp [State.sidebandGo]
@[simp] theorem State.sidebandGot_still (s : State) (k : Nat) (id : Option (BitVec 16)) (temp : Option (BitVec 8)) : (State.sidebandGot s k id temp).still = s.still := by simp [State.sidebandGot]
@[simp] theorem State.chanLoop_still (s : State) (k : Nat) (x : Option ChanSums) : (State.chanLoop s k x).still = s.still := by simp only [State.chanLoop]; (repeat' split) <;> simp
@[simp] theorem State.loopIdle_still (s : State) (l : Nat) : (State.loopIdle s l).still = s.still := rfl
@[simp] theorem State.setHeater_still (s : State) (k h v : Nat) : (State.setHeater s k h v).still = s.still := by simp only [State.setHeater]; (repeat' split) <;> simp
@[simp] theorem State.flyLoop_still (s : State) (k : Nat) : (State.flyLoop s k).still = s.still := by simp [State.flyLoop]
@[simp] theorem State.clearance_still (s : State) (k : Nat) (x : Option ClearIn) : (State.clearance s k x).still = s.still := by simp only [State.clearance]; (repeat' split) <;> simp
@[simp] theorem State.flyHead_still (s : State) (h : Nat) : (State.flyHead s h).still = s.still := by simp [State.flyHead]
@[simp] theorem State.testHead_still (s : State) (h code : Nat) (ok : Bool) : (State.testHead s h code ok).still = s.still := by simp only [State.testHead]; (repeat' split) <;> simp
@[simp] theorem State.calFail_still (s : State) (k h : Nat) : (State.calFail s k h).still = s.still := by simp [State.calFail]
@[simp] theorem State.calPass_still (s : State) (k h ptd : Nat) (x : CalIn) : (State.calPass s k h ptd x).still = s.still := by simp [State.calPass]
@[simp] theorem State.configFrames_still (s : State) (k h : Nat) : (State.configFrames s k h).still = s.still := by simp [State.configFrames]
@[simp] theorem State.calTouch_still (s : State) (k h : Nat) (x : CalIn) : (State.calTouch s k h x).still = s.still := by simp [State.calTouch]

/-! ### BistTap -/

@[simp] theorem State.setTap_still (s : State) (t : Tap) : (State.setTap s t).still = s.still := rfl
@[simp] theorem State.tapBypass_still (s : State) (op : Nat) : (State.tapBypass s op).still = s.still := rfl
@[simp] theorem State.tapDrive_still (s : State) (op : Nat) (f : Tap → Tap) : (State.tapDrive s op f).still = s.still := by simp [State.tapDrive]
@[simp] theorem State.tapTest_still (s : State) (op cells pins : Nat) : (State.tapTest s op cells pins).still = s.still := by simp [State.tapTest]
@[simp] theorem State.dbgCtl_still (s : State) (openIt : Bool) (key : Nat) : (State.dbgCtl s openIt key).still = s.still := by simp [State.dbgCtl]
@[simp] theorem State.dbgBad_still (s : State) : (State.dbgBad s).still = s.still := by simp [State.dbgBad]
@[simp] theorem State.dbgRead_still (s : State) (i : Nat) : ((State.dbgRead s i).2).still = s.still := by simp only [State.dbgRead]; (repeat' split) <;> simp
@[simp] theorem State.dbgWrite_still (s : State) (i v : Nat) : (State.dbgWrite s i v).still = s.still := by simp only [State.dbgWrite]; (repeat' split) <;> simp
@[simp] theorem State.snapHost_still (s : State) (m : Nat) : (State.snapHost s m).still = s.still := by simp [State.snapHost]

/-! ### Fabric -/

@[simp] theorem State.replay_still (s : State) (p : Nat) : (State.replay s p).still = s.still := by simp [State.replay]
@[simp] theorem State.flitControl_still (s : State) (p : Nat) (f : FlitIn) : (State.flitControl s p f).still = s.still := by simp [State.flitControl]
@[simp] theorem State.flitData_still (s : State) (p : Nat) (f : FlitIn) : (State.flitData s p f).still = s.still := by simp [State.flitData]
@[simp] theorem State.flitAnswer_still (s : State) (p : Nat) (f : FlitIn) : (State.flitAnswer s p f).still = s.still := by simp [State.flitAnswer]
@[simp] theorem State.laneSet_still (s : State) (lane : Nat) (ctle dfe : Int) : (State.laneSet s lane ctle dfe).still = s.still := rfl
@[simp] theorem State.assign_still (s : State) (p : Nat) : (State.assign s p).still = s.still := by simp [State.assign]
@[simp] theorem State.portRise_still (s : State) (p : Nat) (half : Bool) (lanes : List (Int × Int)) : (State.portRise s p half lanes).still = s.still := by simp [State.portRise]

/-! ### Recovery -/

@[simp] theorem State.countClass_still (s : State) (k c : Nat) : (State.countClass s k c).still = s.still := rfl
@[simp] theorem State.refreshAdd_still (s : State) (k vol lba : Nat) : (State.refreshAdd s k vol lba).still = s.still := by simp [State.refreshAdd]
@[simp] theorem State.relocRead_still (s : State) (j : RJob) (u : List Byte) : (State.relocRead s j u).still = s.still := rfl
@[simp] theorem State.scanned_still (s : State) (bad : Bool) : (State.scanned s bad).still = s.still := by simp only [State.scanned]; (repeat' split) <;> simp
@[simp] theorem State.sectorGood_still (s : State) (k loc cl : Nat) (j : RJob) : (State.sectorGood s k loc cl j).still = s.still := by simp only [State.sectorGood]; (repeat' split) <;> simp
@[simp] theorem State.rcvRecord_still (s : State) (k : Nat) (v : Recov) (j : RJob) (by' how : Nat) : (State.rcvRecord s k v j by' how).still = s.still := by simp [State.rcvRecord]
@[simp] theorem State.rcvDrop_still (s : State) (k loc : Nat) : (State.rcvDrop s k loc).still = s.still := rfl
@[simp] theorem State.unrecovered_still (s : State) (k : Nat) (v : Recov) (j : RJob) : (State.unrecovered s k v j).still = s.still := by simp only [State.unrecovered]; (repeat' split) <;> simp
@[simp] theorem State.deadlineCut_still (s : State) (k : Nat) (v : Recov) (j : RJob) (slot : Nat) : (State.deadlineCut s k v j slot).still = s.still := by simp [State.deadlineCut]
@[simp] theorem State.reSeat_still (s : State) (k : Nat) (a : Adj) : (State.reSeat s k a).still = s.still := by simp [State.reSeat]
@[simp] theorem State.stepStart_still (s : State) (k : Nat) (v : Recov) : (State.stepStart s k v).still = s.still := by simp [State.stepStart]
@[simp] theorem State.stepClear_still (s : State) (k : Nat) : (State.stepClear s k).still = s.still := by simp only [State.stepClear]; (repeat' split) <;> simp
@[simp] theorem State.rcvGo_still (s : State) (k : Nat) : (State.rcvGo s k).still = s.still := by simp only [State.rcvGo]; (repeat' split) <;> simp
@[simp] theorem State.enterRecovery_still (s : State) (k loc cl : Nat) (j : RJob) : (State.enterRecovery s k loc cl j).still = s.still := by simp [State.enterRecovery]
@[simp] theorem State.firstDecode_still (s : State) (k : Nat) (head loc : Nat) (x : ReadIn) (j : RJob) : (State.firstDecode s k head loc x j).still = s.still := by simp [State.firstDecode]
@[simp] theorem State.rcvStepDone_still (s : State) (k : Nat) (x : ReadIn) (v : Recov) (j : RJob) : (State.rcvStepDone s k x v j).still = s.still := by simp [State.rcvStepDone]

/-! ### Dram -/

@[simp] theorem State.bufferLost_still (s : State) (vol lba : Nat) : (State.bufferLost s vol lba).still = s.still := by simp only [State.bufferLost]; (repeat' split) <;> simp
@[simp] theorem State.slabUnitBad_still (s : State) (vol lba : Nat) : (State.slabUnitBad s vol lba).still = s.still := by simp only [State.slabUnitBad]; (repeat' split) <;> simp
@[simp] theorem State.copyUnitBad_still (s : State) (k b : Nat) : (State.copyUnitBad s k b).still = s.still := by simp only [State.copyUnitBad]; (repeat' split) <;> simp
@[simp] theorem State.channelFault_still (s : State) (m : Nat) : (State.channelFault s m).still = s.still := by simp [State.channelFault]
@[simp] theorem State.slabLineBad_still (s : State) (k b : Nat) : (State.slabLineBad s k b).still = s.still := by simp only [State.slabLineBad]; (repeat' split) <;> simp
@[simp] theorem State.ueCount_still (s : State) (d u : Nat) : (State.ueCount s d u).still = s.still := by simp only [State.ueCount]; (repeat' split) <;> simp
@[simp] theorem State.ueResolve_still (s : State) (d u : Nat) (t : TableUse) : (State.ueResolve s d u t).still = s.still := by
  unfold State.ueResolve; split
  · split <;> simp
  · cases t <;> simp
@[simp] theorem State.classU_still (s : State) (d : Nat) (t : TableUse) : (State.classU s d t).still = s.still := by simp [State.classU]
@[simp] theorem State.classC_still (s : State) (m : Nat) : (State.classC s m).still = s.still := by simp [State.classC]
@[simp] theorem State.lineCheck_still (s : State) (d : Nat) (t : TableUse) (c : DramCls) (late : Bool) : (State.lineCheck s d t c late).still = s.still := by simp only [State.lineCheck]; (repeat' split) <;> simp
@[simp] theorem State.dramTrained_still (s : State) (ok : Bool) (gib0 gib1 : Nat) : (State.dramTrained s ok gib0 gib1).still = s.still := by simp [State.dramTrained]
@[simp] theorem State.dramReady_still (s : State) : (State.dramReady s).still = s.still := by simp [State.dramReady]
@[simp] theorem State.dramServed_still (s : State) (r vol lba : Nat) : (State.dramServed s r vol lba).still = s.still := by simp only [State.dramServed]; (repeat' split) <;> simp
@[simp] theorem State.scrubNext_still (s : State) : (State.scrubNext s).still = s.still := by simp [State.scrubNext]
@[simp] theorem State.benchPublish_still (s : State) (corr : Nat) : (State.benchPublish s corr).still = s.still := by simp only [State.benchPublish]; (repeat' split) <;> simp

/-! ### Twin -/

@[simp] theorem State.askAgain_still (s : State) (p : Parcel) : (State.askAgain s p).still = s.still := by simp [State.askAgain]
@[simp] theorem State.transit_still (s : State) (p : Parcel) (vol : Nat) (enc : Bool) (good : Unit4k → Nat → State → State) (bad : Nat → State → State) (h_good : (∀ (y0 : Unit4k) (y1 : Nat) (y2 : State), (good y0 y1 y2).still = y2.still) = True) (h_bad : (∀ (y0 : Nat) (y1 : State), (bad y0 y1).still = y1.still) = True) : (State.transit s p vol enc good bad).still = s.still := by simp only [State.transit]; (repeat' split) <;> simp_all
@[simp] theorem State.reclaimEnd_still (s : State) : (State.reclaimEnd s).still = s.still := by simp [State.reclaimEnd]
@[simp] theorem State.enterSolo_still (s : State) (cause : Nat) : (State.enterSolo s cause).still = s.still := by simp only [State.enterSolo]; (repeat' split) <;> simp
@[simp] theorem State.resyncExtent_still (s : State) (key : Nat) (d : Dirty) : (State.resyncExtent s key d).still = s.still := by simp [State.resyncExtent]
@[simp] theorem State.startResync_still (s : State) (fresh : Bool) : (State.startResync s fresh).still = s.still := by simp [State.startResync]
@[simp] theorem State.reclaimSend_still (s : State) : (State.reclaimSend s).still = s.still := by simp [State.reclaimSend]
@[simp] theorem State.parcelHeartbeat_still (s : State) (p : Parcel) : (State.parcelHeartbeat s p).still = s.still := by simp [State.parcelHeartbeat]
@[simp] theorem State.copyIn_still (s : State) (p : Parcel) : (State.copyIn s p).still = s.still := by
  simp only [State.copyIn]
  split
  · rfl
  · split
    · simp
    · split
      · split <;> simp
      · apply State.transit_still
        · apply eq_true
          intro u n v
          split
          · split <;> simp
          · (repeat' split) <;> simp
        · apply eq_true
          intro n v
          simp
@[simp] theorem State.parcelLanded_still (s : State) (p : Parcel) : (State.parcelLanded s p).still = s.still := by simp only [State.parcelLanded]; (repeat' split) <;> simp
@[simp] theorem State.parcelRestore_still (s : State) (p : Parcel) : (State.parcelRestore s p).still = s.still := by simp only [State.parcelRestore]; (repeat' split) <;> simp
@[simp] theorem State.twinAnswered_still (s : State) (x : Nat) : (State.twinAnswered s x).still = s.still := rfl
@[simp] theorem State.copyConfirmed_still (s : State) (vol ext blk : Nat) : (State.copyConfirmed s vol ext blk).still = s.still := by simp only [State.copyConfirmed]; (repeat' split) <;> simp
@[simp] theorem State.resyncConfirmed_still (s : State) (vol ext blk : Nat) : (State.resyncConfirmed s vol ext blk).still = s.still := by simp only [State.resyncConfirmed]; (repeat' split) <;> simp
@[simp] theorem State.parcelConfirm_still (s : State) (p : Parcel) : (State.parcelConfirm s p).still = s.still := by simp only [State.parcelConfirm]; (repeat' split) <;> simp
@[simp] theorem State.parcelAck_still (s : State) (p : Parcel) : (State.parcelAck s p).still = s.still := by simp only [State.parcelAck]; (repeat' split) <;> simp

/-! ### Span -/

@[simp] theorem State.modIPiece_still (s : State) (slot i : Nat) (f : IPiece → IPiece) : (State.modIPiece s slot i f).still = s.still := by simp [State.modIPiece]
@[simp] theorem State.sendBlocks_still (s : State) (slot i : Nat) : (State.sendBlocks s slot i).still = s.still := by unfold State.sendBlocks; (repeat' split) <;> first | (simp; done) | (rw [foldl_still']; simp; intro s a; (repeat' split) <;> simp)
@[simp] theorem State.ownPiece_still (s : State) (slot i : Nat) (c : Cmd) (p : IPiece) : (State.ownPiece s slot i c p).still = s.still := by simp [State.ownPiece]
@[simp] theorem State.pieceGo_still (s : State) (slot i : Nat) (c : Cmd) (p : IPiece) : (State.pieceGo s slot i c p).still = s.still := by simp only [State.pieceGo]; (repeat' split) <;> simp
@[simp] theorem State.presentPiece_still (s : State) (id : Nat) : (State.presentPiece s id).still = s.still := by simp only [State.presentPiece]; (repeat' split) <;> simp
@[simp] theorem State.respond_still (s : State) (p : Parcel) (kind lba : Nat) (body : List Byte) : (State.respond s p kind lba body).still = s.still := by simp [State.respond]
@[simp] theorem State.holdPiece_still (s : State) (p : Parcel) (read : Bool) : ((State.holdPiece s p read).2).still = s.still := by simp only [State.holdPiece]; (repeat' split) <;> simp
@[simp] theorem State.asOwner_still (s : State) (p : Parcel) (f : State → State) (h_f : (∀ (y0 : State), (f y0).still = y0.still) = True) : (State.asOwner s p f).still = s.still := by simp only [State.asOwner]; (repeat' split) <;> simp_all
@[simp] theorem State.blockIn_still (s : State) (id : Nat) (p : Parcel) (u : Unit4k) (note : Nat) : (State.blockIn s id p u note).still = s.still := by simp only [State.blockIn]; (repeat' split) <;> simp
@[simp] theorem State.blockBad_still (s : State) (id : Nat) (p : Parcel) (status : Nat) : (State.blockBad s id p status).still = s.still := by simp only [State.blockBad]; (repeat' split) <;> simp
@[simp] theorem State.parcelPiece_still (s : State) (p : Parcel) : (State.parcelPiece s p).still = s.still := by
  simp only [State.parcelPiece]
  split
  · simp
  · apply State.asOwner_still
    apply eq_true
    intro v
    split
    · apply State.transit_still <;> (apply eq_true; intros; simp)
    · split
      · simp
      · refine (State.transit_still _ _ _ _ _ _ (eq_true (by intros; simp)) (eq_true (by intros; simp))).trans ?_
        split <;> simp
@[simp] theorem State.remapServe_still (s : State) (p : Parcel) (key : Nat) (r : Remap) : (State.remapServe s p key r).still = s.still := by simp [State.remapServe]
@[simp] theorem State.parcelReadParcel_still (s : State) (p : Parcel) : (State.parcelReadParcel s p).still = s.still := by
  simp only [State.parcelReadParcel]
  split
  · simp
  · apply State.asOwner_still
    apply eq_true
    intro v
    split
    · split <;> simp
    · split <;> simp
@[simp] theorem State.parcelQuery_still (s : State) (p : Parcel) : (State.parcelQuery s p).still = s.still := by simp only [State.parcelQuery]; (repeat' split) <;> simp
@[simp] theorem State.onPiece_still (s : State) (p : Parcel) (f : IPiece → IPiece) : (State.onPiece s p f).still = s.still := by simp [State.onPiece]
@[simp] theorem State.parcelAccept_still (s : State) (p : Parcel) : (State.parcelAccept s p).still = s.still := by simp [State.parcelAccept]
@[simp] theorem State.remapDone_still (s : State) (key : Nat) (r : Remap) (status : Nat) : (State.remapDone s key r status).still = s.still := by simp [State.remapDone]
@[simp] theorem State.parcelDone_still (s : State) (p : Parcel) : (State.parcelDone s p).still = s.still := by simp only [State.parcelDone]; (repeat' split) <;> simp
@[simp] theorem State.parcelNotready_still (s : State) (p : Parcel) : (State.parcelNotready s p).still = s.still := by simp [State.parcelNotready]
@[simp] theorem State.restored_still (s : State) (p : Parcel) : (State.restored s p).still = s.still := by simp only [State.restored]; (repeat' split) <;> simp
@[simp] theorem State.takeBlock_still (s : State) (p : Parcel) (id : Nat) : (State.takeBlock s p id).still = s.still := by simp only [State.takeBlock]; (repeat' split) <;> simp
@[simp] theorem State.parcelRdata_still (s : State) (p : Parcel) : (State.parcelRdata s p).still = s.still := by simp only [State.parcelRdata]; (repeat' split) <;> simp
@[simp] theorem State.serveAgain_still (s : State) (p : Parcel) : (State.serveAgain s p).still = s.still := by simp only [State.serveAgain]; (repeat' split) <;> simp
@[simp] theorem State.parcelResendq_still (s : State) (p : Parcel) : (State.parcelResendq s p).still = s.still := by simp only [State.parcelResendq]; (repeat' split) <;> simp
@[simp] theorem State.parcelRemap_still (s : State) (p : Parcel) : (State.parcelRemap s p).still = s.still := by simp [State.parcelRemap]
@[simp] theorem State.parcelRemapr_still (s : State) (p : Parcel) : (State.parcelRemapr s p).still = s.still := by simp only [State.parcelRemapr]; (repeat' split) <;> simp
@[simp] theorem State.takeEnd_still (s : State) : (State.takeEnd s).still = s.still := by simp [State.takeEnd]
@[simp] theorem State.remapRetry_still (s : State) : (State.remapRetry s).still = s.still := by simp [State.remapRetry]

/-! ### Discovery -/

@[simp] theorem State.originDone_still (s : State) : (State.originDone s).still = s.still := by simp [State.originDone]
@[simp] theorem State.ringStart_still (s : State) (dim : Nat) (x0 : Nat) : (State.ringStart s dim x0).still = s.still := by
  induction x0 generalizing s dim with
  | zero => simp [State.ringStart]
  | succ f ih =>
    simp only [State.ringStart]
    split
    · simp
    · split
      · simp
      · rw [ih]; simp
@[simp] theorem State.idConflict_still (s : State) (x : Lsr) : (State.idConflict s x).still = s.still := by simp only [State.idConflict]; (repeat' split) <;> simp
@[simp] theorem State.discEnd_still (s : State) : (State.discEnd s).still = s.still := by simp only [State.discEnd]; (repeat' split) <;> simp
@[simp] theorem State.rootPlace_still (s : State) (root : Nat) : (State.rootPlace s root).still = s.still := by simp only [State.rootPlace]; (repeat' split) <;> simp
@[simp] theorem State.rootUpdate_still (s : State) : (State.rootUpdate s).still = s.still := by simp [State.rootUpdate]
@[simp] theorem State.rerouteKept_still (s : State) : (State.rerouteKept s).still = s.still := by simp [State.rerouteKept]
@[simp] theorem State.unreachableAsk_still (s : State) (p : Parcel) : (State.unreachableAsk s p).still = s.still := by simp only [State.unreachableAsk]; (repeat' split) <;> simp
@[simp] theorem State.resendAll_still (s : State) : (State.resendAll s).still = s.still := by simp [State.resendAll]
@[simp] theorem State.piecesAtSwitch_still (s : State) (slot : Nat) (c : Cmd) : (State.piecesAtSwitch s slot c).still = s.still := by simp [State.piecesAtSwitch]
@[simp] theorem State.epochSwitch_still (s : State) : (State.epochSwitch s).still = s.still := by simp [State.epochSwitch]

/-! ### TimeSync -/

@[simp] theorem State.setTrim_still (s : State) (v : Int) : (State.setTrim s v).still = s.still := rfl
@[simp] theorem State.setF_still (s : State) (v : Int) : (State.setF s v).still = s.still := rfl
@[simp] theorem State.timeStep_still (s : State) (e : Int) : (State.timeStep s e).still = s.still := by simp [State.timeStep]
@[simp] theorem State.timeSend_still (s : State) : (State.timeSend s).still = s.still := by simp [State.timeSend]
@[simp] theorem State.laneStep_still (s : State) (lane : Nat) (x : Option EyeIn) : (State.laneStep s lane x).still = s.still := by simp [State.laneStep]

/-! ### MapRegion -/

@[simp] theorem State.mapCopy_still (s : State) (g n : Nat) : ((State.mapCopy s g n).2).still = s.still := rfl
@[simp] theorem State.mapWrite_still (s : State) (pe failA failB : Nat) : ((State.mapWrite s pe failA failB).2).still = s.still := by simp only [State.mapWrite]; (repeat' split) <;> simp
@[simp] theorem State.mapLost_still (s : State) (h j : Nat) : (State.mapLost s h j).still = s.still := by simp [State.mapLost]

/-! ### MediaCmd -/

@[simp] theorem State.jobDone_still (s : State) (loc : Nat) (j : WJob) : (State.jobDone s loc j).still = s.still := by simp only [State.jobDone]; (repeat' split) <;> simp
@[simp] theorem State.gateEnd_still (s : State) (k : Nat) : (State.gateEnd s k).still = s.still := by simp only [State.gateEnd]; (repeat' split) <;> simp
@[simp] theorem State.sectorWrite_still (s : State) (k loc : Nat) (j : WJob) (bad : Bool) : (State.sectorWrite s k loc j bad).still = s.still := by simp [State.sectorWrite]
@[simp] theorem State.reallocate_still (s : State) (loc : Nat) (j : WJob) : (State.reallocate s loc j).still = s.still := by simp only [State.reallocate]; (repeat' split) <;> simp
@[simp] theorem State.verifyFail_still (s : State) (k loc : Nat) (j : WJob) : (State.verifyFail s k loc j).still = s.still := by simp [State.verifyFail]
@[simp] theorem State.storeEnt_still (s : State) (pe : Nat) (e : Ent) (copies : Nat) : (State.storeEnt s pe e copies).still = s.still := by simp [State.storeEnt]
@[simp] theorem State.moveEnd_still (s : State) (pe : Nat) : (State.moveEnd s pe).still = s.still := by simp only [State.moveEnd]; (repeat' split) <;> simp
@[simp] theorem State.placeRefused_still (s : State) (pe : Nat) (e : Ent) : (State.placeRefused s pe e).still = s.still := by simp [State.placeRefused]
@[simp] theorem State.landMap_still (s : State) (id pe : Nat) (e : Ent) (failA failB : Nat) : (State.landMap s id pe e failA failB).still = s.still := by simp [State.landMap]
@[simp] theorem State.placeNew_still (s : State) (p : OPiece) (pe : Nat) : (State.placeNew s p pe).still = s.still := by simp [State.placeNew]
@[simp] theorem State.placeMove_still (s : State) (p : OPiece) (pe src : Nat) : (State.placeMove s p pe src).still = s.still := by simp [State.placeMove]
@[simp] theorem State.placementRun_still (s : State) : (State.placementRun s).still = s.still := by
  have one : ∀ (a : State × PlcOut) (i : Nat), (State.placeOne a i).1.still = a.1.still := by
    intro a i
    simp only [State.placeOne]
    (repeat' split) <;> simp
  have all : ∀ (l : List Nat) (a : State × PlcOut), (l.foldl State.placeOne a).1.still = a.1.still := by
    intro l
    induction l with
    | nil => intro a; rfl
    | cons i t ih => intro a; rw [List.foldl_cons, ih, one]
  simp [State.placementRun, all]

/-! ### SelfTest -/

@[simp] theorem State.testStart_still (s : State) (slot : Nat) (c : Cmd) : (State.testStart s slot c).still = s.still := by simp [State.testStart]
@[simp] theorem State.modRun_still (s : State) (f : TestRun → TestRun) : (State.modRun s f).still = s.still := by simp only [State.modRun]; (repeat' split) <;> simp
@[simp] theorem State.selfTest_still (s : State) (slot : Nat) (sel : Nat → Bool) (f : Nat → State → State) (h_f : (∀ (y0 : Nat) (y1 : State), (f y0 y1).still = y1.still) = True) : (State.selfTest s slot sel f).still = s.still := by simp only [State.selfTest]; (repeat' split) <;> simp_all
@[simp] theorem State.testDue_still (s : State) (mask : Nat) (f : HeadCtx → HeadCtx) : (State.testDue s mask f).still = s.still := by simp [State.testDue]
@[simp] theorem State.testRelease_still (s : State) : (State.testRelease s).still = s.still := by simp [State.testRelease]
@[simp] theorem State.testReply_still (s : State) (r : TestRun) (status result : Nat) : (State.testReply s r status result).still = s.still := by simp only [State.testReply]; (repeat' split) <;> simp
@[simp] theorem State.testFinish_still (s : State) (r : TestRun) (slabs : Nat) : (State.testFinish s r slabs).still = s.still := by simp [State.testFinish]
@[simp] theorem State.sliceBegin_still (s : State) (h : Nat) (sep : Bool) : (State.sliceBegin s h sep).still = s.still := by simp [State.sliceBegin]
@[simp] theorem State.sliceRelease_still (s : State) (k : Nat) : (State.sliceRelease s k).still = s.still := by simp only [State.sliceRelease]; (repeat' split) <;> simp
@[simp] theorem State.calResult_still (s : State) (k : Nat) (x : Slice) (ok : Bool) : (State.calResult s k x ok).still = s.still := by simp [State.calResult]
@[simp] theorem State.touchEnd_still (s : State) (k : Nat) (x : Slice) (p : Option Nat) : (State.touchEnd s k x p).still = s.still := by simp only [State.touchEnd]; (repeat' split) <;> simp
@[simp] theorem State.sepEnd_still (s : State) (k : Nat) (x : Slice) (sep : Int) : (State.sepEnd s k x sep).still = s.still := by simp [State.sepEnd]

/-! ### Bus -/

@[simp] theorem State.readDword_still (s : State) (fn a : Nat) : ((State.readDword s fn a).2).still = s.still := by simp only [State.readDword]; (repeat' split) <;> simp
@[simp] theorem State.writeFld_still (s : State) (F : Fld) (k i v : Nat) : (State.writeFld s F k i v).still = s.still := by simp only [State.writeFld]; (repeat' split) <;> simp
@[simp] theorem State.writeFlds_still (s : State) (a v : Nat) : (State.writeFlds s a v).still = s.still := by simp [State.writeFlds]
@[simp] theorem State.rstctlWrite_still (s : State) (v : Nat) : (State.rstctlWrite s v).still = s.still := by simp [State.rstctlWrite]
@[simp] theorem State.mqpCtlWrite_still (s : State) (fn v : Nat) : (State.mqpCtlWrite s fn v).still = s.still := by simp [State.mqpCtlWrite]
@[simp] theorem State.trcctlWrite_still (s : State) (k v : Nat) : (State.trcctlWrite s k v).still = s.still := by simp [State.trcctlWrite]
@[simp] theorem State.regWrite_still (s : State) (a v : Nat) : (State.regWrite s a v).still = s.still := by simp [State.regWrite]
@[simp] theorem State.writeHigh_still (s : State) (fn a v : Nat) : (State.writeHigh s fn a v).still = s.still := by simp [State.writeHigh]
@[simp] theorem State.commitWide_still (s : State) (fn a v : Nat) : (State.commitWide s fn a v).still = s.still := by simp [State.commitWide]
@[simp] theorem State.msixWrite_still (s : State) (fn o v : Nat) : (State.msixWrite s fn o v).still = s.still := by simp only [State.msixWrite]; (repeat' split) <;> simp
@[simp] theorem State.writeDword_still (s : State) (fn a v : Nat) : (State.writeDword s fn a v).still = s.still := by simp only [State.writeDword]; (repeat' split) <;> simp
@[simp] theorem State.writeBad_still (s : State) (fn a : Nat) : (State.writeBad s fn a).still = s.still := by simp [State.writeBad]
@[simp] theorem State.nextCycle_still (s : State) : (State.nextCycle s).still = s.still := by simp [State.nextCycle]
@[simp] theorem State.idle_still (s : State) : (State.idle s).still = s.still := by simp [State.idle]
@[simp] theorem State.readWide_still (s : State) (fn a : Nat) (n : Nat) (x0 : Nat) : ((State.readWide s fn a n x0).2).still = s.still := by
  induction x0 generalizing s a n with
  | zero => rfl
  | succ f ih =>
    simp only [State.readWide]
    split
    · rfl
    · split <;> simp [ih]
@[simp] theorem State.writeWide_still (s : State) (fn a : Nat) (l : List Byte) (x0 : Nat) : (State.writeWide s fn a l x0).still = s.still := by
  induction x0 generalizing s a l with
  | zero => rfl
  | succ f ih =>
    simp only [State.writeWide]
    split
    · rfl
    · split
      · rw [ih]; split <;> simp
      · rw [ih]; simp

/-! ### Pins -/

@[simp] theorem State.extTake_still (s : State) (n : Nat) (high : Bool) : (State.extTake s n high).still = s.still := rfl
@[simp] theorem State.extStamp_still (s : State) (n : Nat) : (State.extStamp s n).still = s.still := rfl
@[simp] theorem State.wakeEdge_still (s : State) (low high : Nat) : (State.wakeEdge s low high).still = s.still := by simp [State.wakeEdge]
@[simp] theorem State.linkDown_still (s : State) : (State.linkDown s).still = s.still := rfl

/-! ### Endpoint -/

@[simp] theorem State.linkTrained_still (s : State) (speed n : Nat) : (State.linkTrained s speed n).still = s.still := by simp [State.linkTrained]
@[simp] theorem State.benchLost_still (s : State) (x0 : BenchOwner) : (State.benchLost s x0).still = s.still := by simp only [State.benchLost]; (repeat' split) <;> simp

/-! ### GazSlots -/

@[simp] theorem State.eventRecords_still (s : State) : (State.eventRecords s).still = s.still := by simp [State.eventRecords]
@[simp] theorem State.histRecord_still (s : State) (i : Nat) : (State.histRecord s i).still = s.still := by simp [State.histRecord]
@[simp] theorem State.extRecord_still (s : State) (i : Nat) : (State.extRecord s i).still = s.still := by simp [State.extRecord]
@[simp] theorem State.pageEdge_still (s : State) : (State.pageEdge s).still = s.still := by simp [State.pageEdge]
@[simp] theorem State.calPeriods_still (s : State) : (State.calPeriods s).still = s.still := by simp [State.calPeriods]
@[simp] theorem State.opsecTick_still (s : State) : (State.opsecTick s).still = s.still := by simp [State.opsecTick]
@[simp] theorem State.programRecord_still (s : State) (e : PRec) (rest : List PRec) : (State.programRecord s e rest).still = s.still := by simp [State.programRecord]

/-! ### Spindle -/

@[simp] theorem State.setSpn_still (s : State) (f : Spn → Spn) : (State.setSpn s f).still = s.still := rfl
@[simp] theorem State.attempt_still (s : State) (st : Nat) : (State.attempt s st).still = s.still := by simp [State.attempt]
@[simp] theorem State.startFailed_still (s : State) : (State.startFailed s).still = s.still := by simp [State.startFailed]
@[simp] theorem State.attemptFail_still (s : State) : (State.attemptFail s).still = s.still := by simp [State.attemptFail]
@[simp] theorem State.catchRotor_still (s : State) (v : Int) : (State.catchRotor s v).still = s.still := rfl
@[simp] theorem State.listened_still (s : State) (c len : Nat) (v : Int) : (State.listened s c len v).still = s.still := by simp [State.listened]
@[simp] theorem State.standbyReached_still (s : State) : (State.standbyReached s).still = s.still := by simp [State.standbyReached]
@[simp] theorem State.startDone_still (s : State) (src : Nat) : (State.startDone s src).still = s.still := by simp only [State.startDone]; (repeat' split) <;> simp
@[simp] theorem State.orderDone_still (s : State) (src : Nat) : (State.orderDone s src).still = s.still := by simp only [State.orderDone]; (repeat' split) <;> simp
@[simp] theorem State.bandExit_still (s : State) : (State.bandExit s).still = s.still := by simp [State.bandExit]
@[simp] theorem State.commutate_still (s : State) : (State.commutate s).still = s.still := by simp [State.commutate]
@[simp] theorem State.rotorLoss_still (s : State) (cause : Nat) : (State.rotorLoss s cause).still = s.still := by simp [State.rotorLoss]
@[simp] theorem State.brakeUpdate_still (s : State) (x : ObsIn) : (State.brakeUpdate s x).still = s.still := by simp [State.brakeUpdate]
@[simp] theorem State.observed_still (s : State) (x : ObsIn) : (State.observed s x).still = s.still := by simp [State.observed]
@[simp] theorem State.commOverrun_still (s : State) (ovr : Bool) : (State.commOverrun s ovr).still = s.still := by simp [State.commOverrun]
@[simp] theorem State.spindleEdge_still (s : State) : (State.spindleEdge s).still = s.still := by simp only [State.spindleEdge]; (repeat' split) <;> simp

/-! ### Tick -/

@[simp] theorem State.snapRecord_still (s : State) (l : Nat × Nat × Nat × List Nat) (a : Arm) (n : Nat) : (State.snapRecord s l a n).still = s.still := by simp [State.snapRecord]
@[simp] theorem State.snapshot_still (s : State) (left : Option Nat) : (State.snapshot s left).still = s.still := by
  unfold State.snapshot
  suffices h : ∀ (l : List (Nat × Nat × Nat × List Nat)) (a : State × Option Nat), (l.foldl (fun (x : State × Option Nat) l =>
    match Tbl.find x.1.gaz.armed l.1 with
    | none => x
    | some a =>
      let k := l.2.2.2.length
      (x.1.snapRecord l a (x.2.getD k), x.2.map fun n => n - k)) a).1.still = a.1.still from h _ _
  intro l
  induction l with
  | nil => intro a; rfl
  | cons i t ih => intro a; rw [List.foldl_cons, ih]; split <;> simp
@[simp] theorem State.pinEdge_still (s : State) : (State.pinEdge s).still = s.still := by simp [State.pinEdge]
@[simp] theorem State.edgeStart_still (s : State) : (State.edgeStart s).still.1 = s.still.1 := by simp [State.edgeStart]
@[simp] theorem State.missedPost_still (s : State) (x : TickIn) : (State.missedPost s x).still = s.still := by simp only [State.missedPost]; (repeat' split) <;> simp
@[simp] theorem State.freqEdge_still (s : State) : (State.freqEdge s).still = s.still := by simp only [State.freqEdge]; (repeat' split) <;> simp
@[simp] theorem State.loadEdge_still (s : State) (old : Nat) : (State.loadEdge s old).still = s.still := by simp only [State.loadEdge]; (repeat' split) <;> simp
@[simp] theorem State.ovrBits_still (s : State) (ov : Nat) : (State.ovrBits s ov).still = s.still := by simp [State.ovrBits]
@[simp] theorem State.overrunReport_still (s : State) (ov old : Nat) : (State.overrunReport s ov old).still = s.still := by simp [State.overrunReport]
@[simp] theorem State.statOverrun_still (s : State) : (State.statOverrun s).still = s.still := by simp [State.statOverrun]
@[simp] theorem State.slotOverruns_still (s : State) (ov : Nat) : (State.slotOverruns s ov).still = s.still := by simp [State.slotOverruns]
@[simp] theorem State.supplyEdge_still (s : State) (x : TickIn) : (State.supplyEdge s x).still = s.still := by simp [State.supplyEdge]
@[simp] theorem State.pinTick_still (s : State) (x : TickIn) : (State.pinTick s x).still = s.still := by simp [State.pinTick]
@[simp] theorem State.deferEdge_still (s : State) : (State.deferEdge s).still = s.still := by simp [State.deferEdge]
@[simp] theorem State.idleEdge_still (s : State) : (State.idleEdge s).still = s.still := by simp [State.idleEdge]
@[simp] theorem State.surveyEdge_still (s : State) : (State.surveyEdge s).still = s.still := rfl
@[simp] theorem State.trimEdge_still (s : State) : (State.trimEdge s).still = s.still := rfl
@[simp] theorem State.fabEdge_still (s : State) : (State.fabEdge s).still = s.still := by simp [State.fabEdge]
@[simp] theorem State.windowEdge_still (s : State) : (State.windowEdge s).still = s.still := by simp [State.windowEdge]
@[simp] theorem State.gazEdge_still (s : State) : (State.gazEdge s).still = s.still := rfl
@[simp] theorem State.coverEdge_still (s : State) : (State.coverEdge s).still = s.still := by simp [State.coverEdge]
@[simp] theorem State.evtSend_still (s : State) : (State.evtSend s).still = s.still := by simp [State.evtSend]
@[simp] theorem State.mediaEdge_still (s : State) : (State.mediaEdge s).still = s.still := by
  simp only [State.mediaEdge]
  rw [State.takeEnd_still, foldl_still' _ _ _ (by intro s a; simp)]
  rw [State.pieceSweep_still, State.setMed_still, foldl_still' _ _ _ (by intro s a; simp), foldl_still']
  intro s a
  split
  · split <;> simp
  · rfl
@[simp] theorem State.alignEnd_still (s : State) : (State.alignEnd s).still = s.still := by simp [State.alignEnd]
@[simp] theorem State.aloneEdge_still (s : State) : (State.aloneEdge s).still = s.still := by simp [State.aloneEdge]
@[simp] theorem State.tickEdge_still (s : State) (x : TickIn) : (State.tickEdge s x).still.1 = s.still.1 := by simp [State.tickEdge]
@[simp] theorem State.anyEdge_still (s : State) (x : TickIn) : (State.anyEdge s x).still.1 = s.still.1 := by simp [State.anyEdge]

end Sys2Proof.Machine
end

