-- ==== Sys2Proof/WellFormed.lean ====
section
/-! DEFINITION. What a command's operands must be to be what the hardware can meet: sizes and ranges that the types of Syntax.lean do not say. The
machine gives every command a meaning, well-formed or not. -/

namespace Sys2Proof

/-- The fields of a parcel's header fit their places (spec/16_efina.md, Table FAB-3), and its payload fits 129 words. -/
def Machine.Parcel.wf (p : Machine.Parcel) : Bool :=
  decide (p.kind < 256) && decide (p.src < 1024) && decide (p.dst < 1024) && decide (p.hops < 256) && p.waypt.all (fun w => decide (w < 1024)) &&
  decide (p.lba < 2 ^ 48) && decide (p.modes < 256) && decide (p.volc < 256) && decide (p.xid < 32768) && decide (p.keyTick < 2 ^ 48) &&
  decide (p.keyNode < 1024) && decide (p.span < 16) && decide (p.epoch < 256) && decide (p.hcrc < 65536) && decide (p.inPort ≤ 4) && decide (p.body.length ≤ 4128)

/-- The tick's samples: four of VIN, four of VM, eight die sites (Table SVY-1). -/
def Machine.SurveyIn.wf (x : Machine.SurveyIn) : Bool := x.vin.length == 4 && x.vm.length == 4 && x.temps.length == 8

/-- A bench request names one of the 26 masters and a 32-byte-aligned buffer address, and writes a whole word (Tables BEN-1, BEN-4). -/
def Machine.BReq.wf (x : Machine.BReq) : Bool :=
  decide (x.m < 26) && x.addr % 32 == 0 && decide (x.addr < 0x1000000) && x.data.all fun b => b.length == 32

/-- A command is well-formed. -/
def Instr.wf : Instr → Bool
  | .wideAccess _ _ n w => w.all fun b => b.length == n
  | .tickEdge x => x.survey.all (·.wf) && x.bench.all (·.all (·.wf))
  | .tickNumberLoad x => x.survey.all (·.wf) && x.bench.all (·.all (·.wf))
  | .surveyorPost x => x.wf
  | .stallPromotion x => x.all (·.all (·.wf))
  | .resetRelease x => x.die.all (·.length == 8) && decide (x.straps < 16)
  | .channelStep x => x.length == 4
  | .flyHeightStep x => x.length == 20
  | .serdesStep x => x.length == 24
  | .boardSensorRead _ b => b.all fun b => b.length == 1 || b.length == 2
  | .sensorAlertRead _ b => b.all fun b => b.length == 1 || b.length == 2
  | .chartStage d => d.length == 2
  | .pushWrite _ _ b _ => b.length == 64
  | .flitReceive _ f => f.bytes.length == 640
  | .hello _ serial port id mode => serial.length == 16 && decide (port < 4) && decide (id < 1024) && decide (mode < 2)
  | .elect _ serial => serial.length == 16
  | .assign _ w h x y => decide (w ≤ 32) && decide (h ≤ 32) && decide (x < w) && decide (y < h)
  | .lsr _ id x => decide (id < 1024) && x.serial.length == 16 && x.ports.length == 4
  | .parcelForward p => p.wf
  | .heartbeat p => p.wf
  | .piece p => p.wf
  | .readParcel p => p.wf
  | .query p => p.wf
  | .restore p => p.wf
  | .remap p => p.wf
  | .remapr p => p.wf
  | .landed p => p.wf
  | .accept p => p.wf
  | .done p => p.wf
  | .rdata p => p.wf
  | .confirm p => p.wf
  | .notready p => p.wf
  | .resendq p => p.wf
  | .ack p => p.wf
  | .copy p => p.wf
  | .resync p => p.wf
  | .reclaim p => p.wf
  | .event b => b.length == 16
  | .regWrite .. | .readLowDword .. | .writeHighDword .. | .writeLowDword .. | .controlRun .. | .commutatorSlot .. | .statisticsSlot ..
  | .creditRefresh .. | .avsStep .. | .marginThrottleEnd .. | .placementStep ..
  | .snapshotSlot .. | .commitSlot .. | .pinnedEpisodeEvent .. | .referenceLoss .. | .pllUnlock ..
  | .clockFaultReset .. | .pllLock .. | .trimLimitEpisode .. | .powerGoodFailure .. | .alwaysOnReset .. | .vinWarningCrossing ..
  | .vinOverCrossing .. | .vmWarningCrossing .. | .vinResetCrossing .. | .vmLossCrossing .. | .holdCauseClear .. | .holdUnload ..
  | .powerLossDeclared .. | .journalComplete .. | .shockCrossing .. | .writeInhibitEnd .. | .thermalThrottleEnd .. | .criticalTempReset .. | .idleTimer ..
  | .standbyTimer .. | .pendingTransitionProceed .. | .wakeQualify .. | .extintEdge .. | .extintLevel .. | .evoPulseEnd .. | .pinConfigApply ..
  | .resetNAssert .. | .bistEnd .. | .flashEraseComplete .. | .flashProgramComplete .. | .flashBackgroundErase .. | .dramInitComplete ..
  | .stageBoundExpiry .. | .handoverEnd .. | .headCalibration .. | .ready .. | .sysRstctlGo .. | .hostResetEnter .. | .perstNAssert .. | .perstNDeassert ..
  | .pcieLinkUp .. | .spindleStartOrder .. | .listenEnd .. | .brakeEnd .. | .alignEnd .. | .attemptSuccess .. | .attemptFail .. | .accelInBand .. | .atSpeed ..
  | .spinupLimit .. | .brakeMaxExpiry .. | .writeBandResume .. | .observerUpdate .. | .overcurrentTrip .. | .recoverListenWindow .. | .reacquisitionFail ..
  | .rotorRestartOrder .. | .relockCountReset .. | .standbyBrakeStart .. | .retractComplete .. | .demodEstimate .. | .guardReenable .. | .servoLoss ..
  | .seekDispatch .. | .seekSettleEntry .. | .readReady .. | .writeReady .. | .seekTimeout .. | .headSwitch .. | .headSwitchAcquire ..
  | .headSwitchAcquireFail .. | .loadStart .. | .loadTimeout .. | .parkComplete .. | .eparkTimeout .. | .retractEnd .. | .safeHoldEnd ..
  | .ctlTraceArm .. | .ctlTraceStop .. | .ctlTraceTrig .. | .traceCaptureStop .. | .linkFrame .. | .contactHoldEnd .. | .preampFault ..
  | .sidebandRead .. | .touchdownStep .. | .sectorDecode .. | .recoveryStepEnd .. | .recoveryAbortEnd .. | .sectorWrite .. | .sectorRewrite ..
  | .verifyResult .. | .mapLoad .. | .pieceLanded .. | .marginalRefresh .. | .dramReadComplete .. | .benchUncorrectable ..
  | .scrubRead .. | .slabGrant .. | .adminEnable .. | .adminReady .. | .functionDisable .. | .functionLevelReset .. | .sqTailDoorbell ..
  | .cqHeadDoorbell .. | .sqEntryFetch .. | .hostDataBlock .. | .lockRequest .. | .lockGrant .. | .deadlineExpiry .. | .cqEntryPost ..
  | .coalesceTimer .. | .msixUnmask .. | .unknownOpcode .. | .deleteIoSq .. | .sqDrained .. | .createIoSq .. | .deleteIoCq .. | .createIoCq ..
  | .identifyNode .. | .identifyFunction .. | .identifyVolume .. | .queueErrorLog .. | .lostRanges .. | .selfTestResults ..
  | .volumeStatistics .. | .gazetteerRingPage .. | .gazetteerSectorPage .. | .histogramPage .. | .extremesPage .. | .abort .. | .thawResume ..
  | .thawDiscard .. | .adminThawResume .. | .adminThawDiscard .. | .setTunable .. | .getTunable .. | .volumeCreate .. | .volumeDelete ..
  | .volumeGrow .. | .volumeSetModes .. | .spanAttach .. | .spanDetach .. | .spanSetModes .. | .keyLoad .. | .keyClear .. | .powerStateRun ..
  | .powerStateStandby .. | .powerStateVigil .. | .reset .. | .touchdownNow .. | .separationNow .. | .seekSweep .. | .surfaceScan ..
  | .recalibrate .. | .freeSlabTest .. | .selfTestComplete .. | .chartWrite .. | .chartCommit .. | .write .. | .read .. | .flush ..
  | .flushComplete .. | .keyRamParity .. | .linkFailure .. | .portTraining .. | .portUp .. | .portTrainingTimeout .. | .portHoldExpiry ..
  | .delay .. | .delayMeasure .. | .time .. | .alignedTimeout .. | .electionEnd .. | .ring .. | .ringWalkTimeout .. | .discoveryEnd .. | .discoveryTimeout ..
  | .routeEpochSwitch .. | .heartbeatSend .. | .twinLoss .. | .resyncComplete .. | .settleRelease .. | .pieceSend .. | .pieceRetry .. | .evtMaskWrite ..
  | .evtFabctlPop .. | .statisticsPageEdge .. | .opsecTick .. | .persistentWrite .. | .ringHoldRelease .. | .calSliceStart .. | .calSliceEnd ..
  | .tstDbgctlOpen .. | .tstDbgctlClose .. | .tstDbgwinWrite .. | .tstDbgwinRead .. | .tstSnaparm .. | .tapReset .. | .extest .. | .idcode ..
  | .samplePreload .. | .highz .. | .clamp .. | .extestPulse .. | .extestTrain .. | .bypass .. | .dramWriteComplete .. | .dramPeriodicTraining ..
  | .preampFaultClear .. | .completionTimeout .. | .pcieConfigRequest .. | .i2cTargetTransaction .. => true

end Sys2Proof
end

