-- ==== Sys2Proof/Tests/Slice0.lean ====
section
/-! SUPPORT. The model's own tests: the checks of WellFormed, worked examples of the spec, and for every statement a state that meets its hypotheses. -/

namespace Sys2Proof.Tests

set_option linter.unusedVariables false

open Sys2Proof Sys2Proof.Machine

/-! ### Small states for the witnesses -/

def wRun : State := { State.reset with clk := { core := true, started := true } }
def wApp : State := { wRun with chart := { applied := true } }
def wMed : State := { ((wRun.p SPN_STAT_STATE 7).p SPN_STAT_AT_SPEED 1).pk SRV_STAT_STATE 0 2 with chart := { applied := true, secs := [⟨0x10, 0, [1, 1, 0, 0, 100, 0, 0, 0] ++ List.replicate 72 0⟩] } }
def wKe : State := { wRun with chart := { applied := true, secs := [⟨0x20, 0, [0, 0, 0, 0, 1, 0, 0, 0]⟩] } }
def wBar : State := { wRun.p SYS_BOOT_STAGE 4 with boot := { perst := false } }

def wAct (st : Nat) (a : Act) : State := { wMed.pk SRV_STAT_STATE 0 st with acts := [(0, a)], clk := { wRun.clk with edges := 1000000000 } }

def wFrame : LFrame := { cls := 0, head := 0, addr := 0, data := 0 }
def wChn (c : Chan) : State := { wMed with chan := [(0, c)], clk := { wRun.clk with edges := 1000000 } }
def wHd (x : HeadCtx) : State := { wMed with heads := [(0, x)], clk := { wRun.clk with edges := 1000000 } }
def wCal : CalIn := { id := none, temp := none, track := true, sep := 0, lead := [], trail := [], ofsL := 0, ofsT := 0 }
def wCalS : State := { (wMed.p SYS_BOOT_STAGE 3).p SYS_BOOT_MEDIA 3 with chan := [(0, { calAt := some (0, 0) })] }
def wRead : ReadIn := { joint := { sync := true, iters := 1 }, lead := { sync := true, iters := 1 }, trail := { sync := true, iters := 1 } }
def wFollow : State := { ((wMed.pk SRV_STAT_RREADY 0 1).pk SRV_STAT_WREADY 0 1).p SPN_STAT_WB_OK 1 with acts := [(0, { cur := some 0 })] }

def wVerify : State := { wFollow with chart := { applied := true, secs := [⟨0x10, 0, [1, 1, 0, 0, 100, 0, 0, 0] ++ List.replicate 72 0⟩, ⟨0x40, 0, [1] ++ List.replicate 15 0 ++ List.replicate 32 1⟩] }, wr := [(mkLoc 0 0 0, { vol := 0, lba := 0, why := 0, phase := 1 })] }
def wPiece : OPiece := { vol := 0, lba := 0, n := 1, modes := 0, slot := none, phase := 3, got := 1, comm := [0] }
def wLand : State := { wMed with pieces := [(0, wPiece)], med := { map := [(0, { vol := 0, ext := 0, stored := true })] } }

def wC (sq opc : Nat) (b : List (Nat × Nat × Nat)) : Cmd := { fn := 0, sq := sq, entry := b.foldl (fun e f => putLe e f.1 f.2.1 f.2.2) (putLe (zeros 64) 0 1 opc), seq := 0, ts := 0 }
def wQ : State := { wBar with sqs := [(0, { depth := 16 }), (1, { depth := 16, cq := 1, push := true })], cqs := [(0, { depth := 16 }), (1, { depth := 16 })], clk := { wRun.clk with edges := 1000000 } }
def wCmd (c : Cmd) : State := { wQ with cmds := [(if c.sq = 0 then 32768 else 0, c)], med := { vols := [(0, { cap := 1, fmask := 1 })] } }

def wfetch : List Nat × Nat := match ({ (wQ.pk MQP_STS_RDY 0 1).pk MQP_CTL_EN 0 1 with sqs := [(0, { depth := 16, tail := 1 })] } : State).fetchNext with
  | some (_, _ :: t, b) => (t, b)
  | _ => ([], 0)

def wA (opc : Nat) (b : List (Nat × Nat × Nat)) : Cmd := wC 0 opc b
def wAdm (c : Cmd) : State := { (wQ.pk MQP_CAP_QMAX 0 15).pk MQP_CAP_VECN 0 32 with
  cmds := [(32768, c)], sqs := [(0, { depth := 16 }), (1, { depth := 16, cq := 1 })], cqs := [(0, { depth := 16 }), (1, { depth := 16 }), (2, { depth := 16 })], med := { vols := [(0, { cap := 1, fmask := 1, modes := 1 })] }, chart := { applied := true, secs := [⟨0x10, 0, [1, 1, 0, 0, 100, 0, 0, 0] ++ List.replicate 72 0⟩, ⟨0x40, 0, [1] ++ List.replicate 15 0 ++ [0, 0, 0, 0, 1] ++ List.replicate 27 0⟩, ⟨0x80, 0, [1, 1]⟩] } }

def wRun1 : TestRun := { slot := none, test := 0x20, mask := 0, edge := 0 }
def wSpan (c : Cmd) : State := { wAdm c with chart := { applied := true, secs := [⟨0x71, 0, [0, 0, 1, 0, 0, 0, 0, 0, 0, 0, 0, 0, 0, 0, 0, 0, 0, 0, 1, 0] ++ List.replicate 12 0 ++ [0xFF, 3] ++ List.replicate 14 0⟩] }, med := { vols := [(64, { cap := 1, fmask := 1, modes := 17, attached := true })] } }

def wFab : State := { ((((wRun.p FAB_NODE_ID 5).p FAB_NODE_W 4).p FAB_NODE_H 4).pk FAB_PSTAT_STATE 0 2).p FAB_EPOCH_EPOCH 1 with clk := { wRun.clk with edges := 1000000 } }
def wPort (x : Port) : State := { wFab.pk FAB_PSTAT_STATE 0 1 with fab := { ports := [(0, x)] } }
def wFlit (dec : Bool) : FlitIn := { corrected := 0, decoded := dec, bytes := if dec then ([255, 255, 255, 255] ++ zeros 24) ++ ([255, 255, 255, 255] ++ zeros 608) else zeros 640 }
theorem wCrcZeros (n : Nat) : (zeros n).foldl (fun r b => iter (crcShiftR 0x82F63B78) 8 (Nat.xor r b.toNat)) 0 = 0 := by
  induction n with
  | zero => rfl
  | succ n ih => exact ih
theorem wFlitParts (a c d : List Byte) (ha : a.length = 28) (hc : c.length = 4) (hd : d.length = 608) :
    (a ++ (c ++ d)).take 28 ++ ((a ++ (c ++ d)).drop 32).take 608 = a ++ d := by
  have h : (a ++ (c ++ d)).drop 32 = d := by rw [← List.append_assoc]; exact List.drop_left' (by rw [List.length_append, ha, hc])
  rw [h, List.take_of_length_le (Nat.le_of_eq hd), List.take_left' ha]
theorem wFlitGood : (wFlit true).fcrc = true := by
  have e1 : leAt (wFlit true).bytes 28 4 = 0xFFFFFFFF := by decide
  have e2 : (wFlit true).bytes.take 28 ++ ((wFlit true).bytes.drop 32).take 608 = ([255, 255, 255, 255] ++ zeros 24) ++ zeros 608 :=
    wFlitParts _ [255, 255, 255, 255] _ (by decide) rfl (List.length_replicate ..)
  have e3 : [(255 : Byte), 255, 255, 255].foldl (fun r b => iter (crcShiftR 0x82F63B78) 8 (Nat.xor r b.toNat)) 0xFFFFFFFF = 0 := by decide +kernel
  rw [FlitIn.fcrc, e1, e2, crc32c, List.foldl_append, List.foldl_append, e3, wCrcZeros, wCrcZeros]
  rfl

def wGood (p : Parcel) : Parcel := { p with hcrc := p.crc }
def wTwin (k : Nat) : Parcel := wGood { kind := k, src := 6, dst := 5, epoch := 1 }
theorem wConsumes (s : State) (k : Nat) (h : (s.takes (wTwin k) && !s.stale (wTwin k)) = true) : s.consumes (wTwin k) k = true := by
  have g : (wTwin k).good = true := beq_self_eq_true _
  have e : ((wTwin k).kind == k) = true := beq_self_eq_true k
  simp only [Bool.and_eq_true] at h
  simp only [State.consumes, h.1, h.2, g, e, Bool.and_self]
def wPair : State := ((wFab.p TWN_STAT_TWIN 6).p SYS_BOOT_STAGE 4).p SYS_BOOT_DRAM 3
def wIng (op ph : Nat) : Cmd := { wC 1 op [(4, 2, 0x8000)] with phase := 2, pieces := [{ lba := 0, n := 1, phase := ph }] }
def wIngress (op ph : Nat) : State := { wFab with cmds := [(0, wIng op ph)], clk := { wRun.clk with tick := 9 } }

/-! ### WellFormed refuses an ill-formed term for each check -/

theorem test_wf_accepts : (Instr.wideAccess 0 0 8 (some (List.replicate 8 0))).wf = true ∧ (Instr.surveyorPost ⟨[1, 2, 3, 4], [1, 2, 3, 4], 0, 0, List.replicate 8 0⟩).wf = true ∧
    (Instr.parcelForward { kind := 0x10 }).wf = true := by decide

theorem test_wf_lengths : (Instr.wideAccess 0 0 8 (some [0])).wf = false ∧ (Instr.surveyorPost ⟨[1], [1, 2, 3, 4], 0, 0, List.replicate 8 0⟩).wf = false ∧
    (Instr.surveyorPost ⟨[1, 2, 3, 4], [1], 0, 0, List.replicate 8 0⟩).wf = false ∧ (Instr.surveyorPost ⟨[1, 2, 3, 4], [1, 2, 3, 4], 0, 0, []⟩).wf = false ∧
    (Instr.channelStep []).wf = false ∧ (Instr.flyHeightStep []).wf = false ∧ (Instr.serdesStep []).wf = false ∧
    (Instr.boardSensorRead 0 (some [])).wf = false ∧ (Instr.sensorAlertRead 0 (some [0, 0, 0])).wf = false ∧ (Instr.chartStage [true]).wf = false ∧
    (Instr.pushWrite 0 0 [] true).wf = false ∧ (Instr.event []).wf = false ∧
    (Instr.resetRelease { vin := [], refMs := 0, pwrfailHigh := true, die := [[]], resetHigh := true, straps := 0 }).wf = false ∧
    (Instr.resetRelease { vin := [], refMs := 0, pwrfailHigh := true, die := [], resetHigh := true, straps := 16 }).wf = false := by decide

/-- Bench requests: the master, the alignment and the range of the address, the width of the word; the tick's samples. -/
theorem test_wf_bench : (∀ r ∈ [({ m := 26, addr := 0 } : BReq), { m := 0, addr := 16 }, { m := 0, addr := 0x1000000 }, { m := 0, addr := 0, data := some [] }],
      (Instr.stallPromotion [[r]]).wf = false ∧ (Instr.tickEdge { bench := [[r]] }).wf = false ∧ (Instr.tickNumberLoad { bench := [[r]] }).wf = false) ∧
    (Instr.stallPromotion [[{ m := 25, addr := 0xFFFFE0, data := some (List.replicate 32 0) }]]).wf = true ∧
    (Instr.tickEdge { survey := some ⟨[], [], 0, 0, []⟩ }).wf = false ∧ (Instr.tickNumberLoad { survey := some ⟨[], [], 0, 0, []⟩ }).wf = false := by decide

theorem test_wf_links : (Instr.hello 0 [] 0 0 0).wf = false ∧ (Instr.hello 0 (List.replicate 16 0) 4 0 0).wf = false ∧
    (Instr.hello 0 (List.replicate 16 0) 0 1024 0).wf = false ∧ (Instr.hello 0 (List.replicate 16 0) 0 0 2).wf = false ∧ (Instr.elect 0 []).wf = false ∧
    (Instr.assign 0 33 1 0 0).wf = false ∧ (Instr.assign 0 1 33 0 0).wf = false ∧ (Instr.assign 0 1 1 1 0).wf = false ∧ (Instr.assign 0 1 1 0 1).wf = false ∧
    (Instr.lsr 0 1024 { serial := List.replicate 16 0, ports := List.replicate 4 (true, 0) }).wf = false ∧
    (Instr.lsr 0 0 { serial := [], ports := List.replicate 4 (true, 0) }).wf = false ∧
    (Instr.lsr 0 0 { serial := List.replicate 16 0, ports := [] }).wf = false := by decide

theorem test_wf_flits (c : Nat) (d : Bool) (b : List Byte) (h : b.length ≠ 640) : (Instr.flitReceive 0 ⟨d, c, b⟩).wf = false := by
  simp [Instr.wf, h]

theorem test_wf_parcels : ∀ p ∈ [({ kind := 256 } : Parcel), { kind := 0, src := 1024 }, { kind := 0, dst := 1024 }, { kind := 0, hops := 256 }, { kind := 0, waypt := some 1024 },
      { kind := 0, lba := 2 ^ 48 }, { kind := 0, modes := 256 }, { kind := 0, volc := 256 }, { kind := 0, xid := 32768 }, { kind := 0, keyTick := 2 ^ 48 },
      { kind := 0, keyNode := 1024 }, { kind := 0, span := 16 }, { kind := 0, epoch := 256 }, { kind := 0, hcrc := 65536 }, { kind := 0, inPort := 5 }], p.wf = false := by decide

theorem test_wf_parcel_body : Parcel.wf { kind := 0, body := List.replicate 4129 0 } = false := by
  simp only [Parcel.wf, List.length_replicate]; decide

theorem test_wf_parcel_commands (p : Parcel) (h : p.wf = false) : ∀ c ∈ [Instr.parcelForward p, .heartbeat p, .piece p, .readParcel p, .query p, .restore p, .remap p,
      .remapr p, .landed p, .accept p, .done p, .rdata p, .confirm p, .notready p, .resendq p, .ack p, .copy p, .resync p, .reclaim p], c.wf = false := by
  intro c hc
  simp only [List.mem_cons, List.not_mem_nil, or_false] at hc
  rcases hc with rfl | rfl | rfl | rfl | rfl | rfl | rfl | rfl | rfl | rfl | rfl | rfl | rfl | rfl | rfl | rfl | rfl | rfl | rfl <;> exact h

/-! ### Decoding: no row of the table gives bits -/

theorem test_no_word_spells_a_command (n w : Nat) : decodeTableWord n w = none := rfl

theorem test_withFetchWord_keeps_the_state (s : State) (n w : Nat) : s.withFetchWord n w = s := rfl

/-! ### The state after reset -/

theorem test_reset_memories_canonical : Memory.wf 0 State.reset.buf = true ∧ Memory.wf 0xFF State.reset.flash = true := ⟨rfl, rfl⟩

/-! ### Worked examples of the spec -/

/-- The worked case after R72: tick 1 200 001 at economy, cycle 1000. -/
theorem test_timestamp_worked_case : mkTs 1200001 1 1000 = 0x124F8123E8 := by decide

/-- Table SYS-30. -/
theorem test_worked_addresses : SRV_STAT_STATE.at 3 0 = 0x730C ∧ CHN_FH_PIN.at 13 0 = 0x90D0 ∧ CHN_PLINK_ERR.at 2 0 = 0x8840 := by decide

/-- The PLL locks: core logic runs and BIST begins (R200). -/
theorem test_pll_lock_starts_bist : (match step { State.reset with pending := [.pllLock] } with
    | .next t => t.g SYS_BOOT_STAGE == 1 && t.running && t.pending.isEmpty
    | _ => false) = true := by decide

/-- A write of EVT_PEND clears the pending bits written with 1, and no other (R632, Table SYS-1). -/
theorem test_event_clear : (match exec (.regWrite 0 0xE004 4 2) { (wBar.raise 33).raise 34 with setNow := [] } with
    | .next t => !t.evtPend 33 && t.evtPend 34
    | _ => false) = true := by decide

/-- In the cycle in which the hardware sets the bit, the clear does not take (R14). -/
theorem test_event_clear_loses : (match exec (.regWrite 0 0xE004 4 2) (wBar.raise 33) with
    | .next t => t.evtPend 33
    | _ => false) = true := by decide

/-- A write of two bytes to a register is discarded (R17). -/
theorem test_narrow_write_discarded : (match exec (.regWrite 0 0xE044 2 5) wBar with
    | .next t => t.g EVT_SEL_EVENT == 0
    | _ => false) = true := by decide

/-- A tail doorbell of the depth is ignored with event 144; one below it is taken (R425, R426). -/
theorem test_tail_doorbell : (match exec (.sqTailDoorbell 0 1 4) { wBar with sqs := [(1, { depth := 4 })] }, exec (.sqTailDoorbell 0 1 3) { wBar with sqs := [(1, { depth := 4 })] } with
    | .next t, .next u => t.evtPend 144 && (t.sq 0 1).any (·.tail == 0) && (u.sq 0 1).any (·.tail == 3)
    | _, _ => false) = true := by decide

/-- A sample equal to an edge falls in the higher bin (R11, R622). -/
theorem test_sample_on_an_edge : binOf [-5, 0, 7] 0 = 2 ∧ binOf [-5, 0, 7] (-6) = 0 ∧ binOf [-5, 0, 7] 7 = 3 := by decide

/-! ### The hypotheses of every statement can be met -/

theorem test_witness_RegisterAccessCompletes :
    (∃ (s : State) (fn : Fin 16) (a : BitVec 26) (len : Fin 5) (v : BitVec 32), (s.fnOpen fn) ∧ ((len : Nat) = 4) ∧ (a.toNat % 4 = 0)) ∧
    (∃ (s : State) (fn : Fin 16) (a : BitVec 26) (len : Fin 5) (v : BitVec 32), (s.fnOpen fn) ∧ ((len : Nat) ≠ 4 ∨ a.toNat % 4 ≠ 0) ∧ (inDoorbells a.toNat)) ∧
    (∃ (s : State) (fn : Fin 16) (a : BitVec 26) (len : Fin 5) (v : BitVec 32), (s.fnOpen fn) ∧ ((len : Nat) ≠ 4 ∨ a.toNat % 4 ≠ 0) ∧ (¬ inDoorbells a.toNat)) ∧
    (∃ (s : State) (fn : Fin 16) (a : BitVec 26) (len : Fin 5) (v : BitVec 32), (s.fnOpen fn = false)) ∧
    (∃ (s : State) (fn : Fin 16) (a : BitVec 26), (s.fnOpen fn) ∧ (a.toNat % 4 = 0)) ∧
    (∃ (s : State) (fn : Fin 16) (a : BitVec 26), (s.fnOpen fn = false ∨ a.toNat % 4 ≠ 0)) ∧
    (∃ (s : State) (fn : Fin 16) (a : BitVec 26) (v : BitVec 32) (b : Nat), (s.fnOpen fn) ∧ (wideReg fn a.toNat = some b) ∧ (s.aqLocked b = false)) ∧
    (∃ (s : State) (fn : Fin 16) (a : BitVec 26) (v : BitVec 32) (b : Nat), (s.fnOpen fn) ∧ (wideReg fn a.toNat = some b) ∧ (s.aqLocked b)) ∧
    (∃ (s : State) (fn : Fin 16) (a : BitVec 26) (v : BitVec 32), (s.fnOpen fn = false ∨ wideReg fn a.toNat = none)) ∧
    (∃ (s : State) (fn : Fin 16) (a : BitVec 26) (v : BitVec 32) (b : Nat), (s.fnOpen fn) ∧ (wideReg fn a.toNat = some b)) ∧
    (∃ (s : State) (fn : Fin 16) (a : BitVec 26) (v : BitVec 32), (s.fnOpen fn = false ∨ wideReg fn a.toNat = none)) ∧
    (∃ (s : State) (fn : Fin 16) (a : BitVec 26) (n : Nat), (s.fnOpen fn)) ∧
    (∃ (s : State) (fn : Fin 16) (a : BitVec 26) (n : Nat) (b : List Byte), (s.fnOpen fn) ∧ (0x1800000 ≤ a.toNat) ∧ (a.toNat < 0x1840000)) ∧
    (∃ (s : State) (fn : Fin 16) (a : BitVec 26) (n : Nat) (b : List Byte), (s.fnOpen fn) ∧ (a.toNat < 0x1800000 ∨ 0x1840000 ≤ a.toNat) ∧ (a.toNat % 4 ≠ 0 ∨ b.length % 4 ≠ 0)) ∧
    (∃ (s : State) (fn : Fin 16) (a : BitVec 26) (n : Nat) (b : List Byte), (s.fnOpen fn) ∧ (a.toNat < 0x1800000 ∨ 0x1840000 ≤ a.toNat) ∧ (a.toNat % 4 = 0) ∧ (b.length % 4 = 0)) ∧
    (∃ (s : State) (fn : Fin 16) (a : BitVec 26) (n : Nat) (w : Option (List Byte)), (s.fnOpen fn = false)) :=
  ⟨⟨wBar, 0, 0x80, 4, 1, by decide⟩,
    ⟨wBar, 0, 0x1000004, 2, 1, by unfold inDoorbells; decide⟩,
    ⟨wBar, 0, 0x81, 4, 1, by unfold inDoorbells; decide⟩,
    ⟨wRun, 0, 0x80, 4, 1, by decide⟩,
    ⟨wBar, 0, 0x1008, by decide⟩,
    ⟨wBar, 0, 0x1009, by decide⟩,
    ⟨wBar, 0, 0x1008, 1, 0x1008, by decide⟩,
    ⟨wBar.pk MQP_CTL_EN 0 1, 0, 0x10010, 1, 0x10010, by decide⟩,
    ⟨wBar, 1, 0x2004, 1, by decide⟩,
    ⟨wBar, 0, 0x1008, 1, 0x1008, by decide⟩,
    ⟨wBar, 1, 0x2000, 1, by decide⟩,
    ⟨wBar, 0, 0x1008, 8, by decide⟩,
    ⟨wBar, 0, 0x1800000, 0, [], by decide⟩,
    ⟨wBar, 0, 0x1009, 0, [], by decide⟩,
    ⟨wBar, 0, 0x1008, 0, [], by decide⟩,
    ⟨wRun, 0, 0x1008, 8, none, by decide⟩⟩

theorem test_witness_ClockCommandsComplete :
    (∃ (s : State) (r : Bool), (s.slotOpen 14) ∧ (s.clk.req = some r) ∧ (s.clk.reqLate = false)) ∧
    (∃ (s : State), (s.slotOpen 14) ∧ (s.clk.req = none ∨ s.clk.reqLate)) ∧
    (∃ (s : State) (ns : Nat), (s.running) ∧ (1000 ≤ ns)) ∧
    (∃ (s : State) (n : Nat), (s.running) ∧ (64 ≤ n)) ∧
    (∃ (s : State) (e : Nat), (s.running) ∧ (s.clk.fault = some e) ∧ (s.allParked ∨ e + fiveMs ≤ s.instant)) ∧
    (∃ (s : State), (s.pwr.inReset = none) ∧ (s.pwr.vigil = false) ∧ (s.g SYS_BOOT_STAGE = 0) ∧ (s.clk.core = false)) ∧
    (∃ (s : State), (s.running) ∧ (s.on CLK_TRIM_AT_LIMIT) ∧ (63 ≤ s.clk.trimRun) ∧ (s.clk.trimRaised = false)) ∧
    (∃ (s : State) (k : Fin 5) (i : Nat), (s.running) ∧ (64 ≤ (s.loopAt (loopId k i)).run) ∧ ((s.loopAt (loopId k i)).raised = false)) ∧
    (∃ (s : State) (x : TickIn), (s.running) ∧ (s.clk.load.isSome)) ∧
    (∃ (s : State) (x : TickIn), (s.running)) ∧
    (∃ (s : State) (x : TickIn), (s.running = false) ∧ (s.pwr.vigil)) :=
  ⟨⟨{ wRun with clk := { wRun.clk with req := some true } }, true, by decide⟩,
    ⟨wRun, by decide⟩,
    ⟨wRun, 1000, by decide⟩,
    ⟨wRun, 64, by decide⟩,
    ⟨{ wRun with clk := { wRun.clk with fault := some 0 } }, 0, by decide⟩,
    ⟨State.reset, by decide⟩,
    ⟨{ wRun.p CLK_TRIM_AT_LIMIT 1 with clk := { wRun.clk with trimRun := 63 } }, by decide⟩,
    ⟨{ wRun with loops := [(0, { run := 64 })] }, 0, 0, by decide⟩,
    ⟨{ wRun with clk := { wRun.clk with load := some 7 } }, {}, by decide⟩,
    ⟨wRun, {}, by decide⟩,
    ⟨{ State.reset with pwr := { vigil := true } }, {}, by decide⟩⟩

theorem test_witness_SupplyCrossingsComplete :
    (∃ (s : State) (mv ns : Nat), (s.running) ∧ (mv ≤ s.vinWarnMv) ∧ (20 ≤ ns)) ∧
    (∃ (s : State) (mv ns : Nat), (s.running) ∧ (5750 ≤ mv) ∧ (20 ≤ ns)) ∧
    (∃ (s : State) (mv ns : Nat), (s.running) ∧ (mv ≤ s.vmWarnMv) ∧ (20 ≤ ns)) ∧
    (∃ (s : State) (mv ns : Nat), (s.running) ∧ (mv ≤ 8000) ∧ (20 ≤ ns)) ∧
    (∃ (s : State) (mv ns : Nat), (mv ≤ 2450) ∧ (20 ≤ ns) ∧ (s.pwr.inReset = none)) ∧
    (∃ (s : State) (mv ns : Nat) (c : Nat), (mv ≤ 2450) ∧ (20 ≤ ns) ∧ (s.pwr.inReset = some (c + 1))) ∧
    (∃ (s : State) (mv ns : Nat), (s.pwr.inReset = some 0)) ∧
    (∃ (s : State) (rail : Fin 3) (v ns : Nat), (s.pwr.inReset = none) ∧ (s.pwr.vigil = false) ∧ (s.railSet rail < 20 * distN v (s.railSet rail)) ∧ (2000 ≤ ns)) ∧
    (∃ (s : State) (mv : Nat), (mv < 1800)) ∧
    (∃ (s : State) (ns : Nat), (1000 ≤ ns)) ∧
    (∃ (s : State) (ns : Nat), (ns < 100)) :=
  ⟨⟨wRun, 2400, 20, by decide⟩,
    ⟨wRun, 5750, 20, by decide⟩,
    ⟨wRun, 0, 20, by decide⟩,
    ⟨wRun, 8000, 20, by decide⟩,
    ⟨wRun, 2450, 20, by decide⟩,
    ⟨{ wRun with pwr := { inReset := some 2 } }, 2450, 20, 1, by decide⟩,
    ⟨{ wRun with pwr := { inReset := some 0 } }, 2450, 20, by decide⟩,
    ⟨wRun, 1, 2000, 2000, by decide⟩,
    ⟨wRun, 1799, by decide⟩,
    ⟨wRun, 1000, by decide⟩,
    ⟨wRun, 99, by decide⟩⟩

theorem test_witness_HoldCausesClear :
    (∃ (s : State), (s.running) ∧ (s.holding) ∧ (s.pwr.vinLo.active) ∧ (25 ≤ s.pwr.vinLo.count) ∧ (s.pwr.vinHi.active = false) ∧ (s.pwr.vmLo.active = false)) ∧
    (∃ (s : State), (s.running) ∧ (s.holding) ∧ (s.pwr.vinLo.active) ∧ (25 ≤ s.pwr.vinLo.count) ∧ (s.pwr.vinHi.active ∨ s.pwr.vmLo.active)) ∧
    (∃ (s : State), (s.running) ∧ (s.holding) ∧ (s.pwr.vinHi.active) ∧ (25 ≤ s.pwr.vinHi.count) ∧ (s.pwr.vinLo.active = false) ∧ (s.pwr.vmLo.active = false)) ∧
    (∃ (s : State), (s.running) ∧ (s.holding) ∧ (s.pwr.vinHi.active) ∧ (25 ≤ s.pwr.vinHi.count) ∧ (s.pwr.vinLo.active ∨ s.pwr.vmLo.active)) ∧
    (∃ (s : State), (s.running) ∧ (s.holding) ∧ (s.pwr.vmLo.active) ∧ (25 ≤ s.pwr.vmLo.count) ∧ (s.pwr.vinLo.active = false) ∧ (s.pwr.vinHi.active = false)) ∧
    (∃ (s : State), (s.running) ∧ (s.holding) ∧ (s.pwr.vmLo.active) ∧ (25 ≤ s.pwr.vmLo.count) ∧ (s.pwr.vinLo.active ∨ s.pwr.vinHi.active)) :=
  ⟨⟨{ wRun.p PWR_HOLD_ACTIVE 1 with pwr := { vinLo := { active := true, count := 25 } } }, by decide⟩,
    ⟨{ wRun.p PWR_HOLD_ACTIVE 1 with pwr := { vinLo := { active := true, count := 25 }, vinHi := { active := true } } }, by decide⟩,
    ⟨{ wRun.p PWR_HOLD_ACTIVE 1 with pwr := { vinHi := { active := true, count := 25 } } }, by decide⟩,
    ⟨{ wRun.p PWR_HOLD_ACTIVE 1 with pwr := { vinHi := { active := true, count := 25 }, vinLo := { active := true } } }, by decide⟩,
    ⟨{ wRun.p PWR_HOLD_ACTIVE 1 with pwr := { vmLo := { active := true, count := 25 } } }, by decide⟩,
    ⟨{ wRun.p PWR_HOLD_ACTIVE 1 with pwr := { vmLo := { active := true, count := 25 }, vinLo := { active := true } } }, by decide⟩⟩

theorem test_witness_PowerSequencesComplete :
    (∃ (s : State), (s.running) ∧ (s.holding) ∧ (1250 ≤ s.g PWR_HOLD_ELAPSED) ∧ (s.rcvCount = 0) ∧ (s.on PWR_HOLD_UNLOADED = false) ∧ (s.anyLoaded)) ∧
    (∃ (s : State) (x : ReleaseIn) (cause : Nat), (s.pwr.inReset = some cause) ∧ ((x.die.foldl State.filterDie s).releaseOk x cause) ∧ (x.straps / 8 % 2 = 0)) ∧
    (∃ (s : State) (x : ReleaseIn) (cause : Nat), (s.pwr.inReset = some cause) ∧ ((x.die.foldl State.filterDie s).releaseOk x cause = false)) ∧
    (∃ (s : State), (s.running) ∧ (s.on PWR_CFG_PF_EN) ∧ (2 ≤ s.pwr.pfLow) ∧ (s.pwr.loss = none)) ∧
    (∃ (s : State), (s.running) ∧ (s.pwr.vinLo.active) ∧ (s.pwr.vmLoss) ∧ (s.pwr.loss = none)) ∧
    (∃ (s : State), (s.pwr.loss.isSome) ∧ (s.journalBusy = false) ∧ (s.pwr.inReset = none)) ∧
    (∃ (s : State), (s.running) ∧ (s.g SYS_BOOT_STAGE = 4) ∧ (s.g PWR_STATE_CUR = 0) ∧ (s.g PWR_TMR_IDLE ≤ s.pwr.idleTicks)) ∧
    (∃ (s : State), (s.running) ∧ (s.g SYS_BOOT_STAGE = 4) ∧ (s.g PWR_STATE_CUR < 2) ∧ (s.g PWR_TMR_STBY ≠ 0) ∧ (25000 * s.g PWR_TMR_STBY ≤ s.pwr.stbyTicks) ∧ (s.g PWR_STATE_PEND = 0) ∧ (s.pwr.entering = none)) ∧
    (∃ (s : State), (s.running) ∧ (s.g PWR_STATE_PEND = 2) ∧ (s.mayEnter 2) ∧ (s.pwr.entering = none)) ∧
    (∃ (s : State), (s.running) ∧ (s.g PWR_STATE_PEND = 3) ∧ (s.g PWR_STATE_CUR = 2) ∧ (s.mayEnter 3) ∧ ((s.cmds.any fun e => e.2.sq == 0 && e.2.opc == 0x18) = false) ∧ (s.pwr.entering = none)) ∧
    (∃ (s : State) (n : Nat), (s.running) ∧ (s.g PWR_STATE_PEND = 3) ∧ (s.g PWR_STATE_CUR = 2) ∧ (s.mayEnter 3) ∧ ((s.cmds.any fun e => e.2.sq == 0 && e.2.opc == 0x18) = false) ∧ (s.pwr.entering = some n)) :=
  ⟨⟨{ (wMed.p PWR_HOLD_ACTIVE 1).p PWR_HOLD_ELAPSED 1250 with pwr := { vinLo := { active := true } } }, by decide⟩,
    ⟨{ State.reset with pwr := { inReset := some 1 } }, { vin := List.replicate 25 2701, refMs := 10, pwrfailHigh := true, die := [], resetHigh := true, straps := 0 }, 1, by decide⟩,
    ⟨{ State.reset with pwr := { inReset := some 1 } }, { vin := [], refMs := 10, pwrfailHigh := true, die := [], resetHigh := false, straps := 0 }, 1, by decide⟩,
    ⟨{ wRun.p PWR_CFG_PF_EN 1 with pwr := { pfLow := 2 } }, by decide⟩,
    ⟨{ wRun with pwr := { vinLo := { active := true }, vmLoss := true } }, by decide⟩,
    ⟨{ wRun with pwr := { loss := some none } }, by decide⟩,
    ⟨{ wRun.p SYS_BOOT_STAGE 4 with pwr := { idleTicks := 65536 } }, by decide⟩,
    ⟨{ (wRun.p SYS_BOOT_STAGE 4).p PWR_TMR_STBY 1 with pwr := { stbyTicks := 25000 } }, by decide⟩,
    ⟨wRun.p PWR_STATE_PEND 2, by decide⟩,
    ⟨(wRun.p PWR_STATE_PEND 3).p PWR_STATE_CUR 2, by decide⟩,
    ⟨{ (wRun.p PWR_STATE_PEND 3).p PWR_STATE_CUR 2 with pwr := { entering := some 3 } }, 3, by decide⟩⟩

theorem test_witness_SurveyorCommandsComplete :
    (∃ (s : State) (x : SurveyIn), (s.slotOpen 5)) ∧
    (∃ (s : State) (x : SurveyIn), (s.slotOpen 5 = false)) ∧
    (∃ (s : State), (s.running) ∧ (s.svy.hot) ∧ (2500 ≤ s.svy.coolRun)) ∧
    (∃ (s : State) (e : Nat), (s.running) ∧ (s.svy.critical = some e) ∧ (s.allParked ∨ e + fiveMs ≤ s.instant)) ∧
    (∃ (s : State) (mg : Nat), (s.running) ∧ (500 * s.g SVY_SHKCFG_THR < mg)) ∧
    (∃ (s : State), (s.running) ∧ (s.on SVY_SHOCK_INH) ∧ (s.g SVY_SHKCFG_QUIET ≤ s.svy.quietRun)) ∧
    (∃ (s : State) (k : Fin 4) (b : List Byte), (s.running) ∧ (s.chart.applied) ∧ (s.gki SVY_BSENS_EN 0 k = 1) ∧ (25000 ≤ Tbl.getD s.svy.boardTicks k 0)) ∧
    (∃ (s : State) (k : Fin 4), (s.running) ∧ (s.chart.applied) ∧ (s.gki SVY_BSENS_EN 0 k = 1) ∧ (25000 ≤ Tbl.getD s.svy.boardTicks k 0)) ∧
    (∃ (s : State) (k : Fin 4) (b : Option (List Byte)), (s.running) ∧ (s.chart.applied) ∧ (s.gki SVY_BSENS_EN 0 k = 1) ∧ (k.val ∈ s.svy.alert)) ∧
    (∃ (s : State) (m : Nat), (s.slotOpen 8) ∧ (s.chart.applied) ∧ (12 ≤ m) ∧ (s.svy.hotL = false) ∧ (s.on SVY_AVS_MTHROT = false)) ∧
    (∃ (s : State) (m : Nat), (s.slotOpen 8) ∧ (s.chart.applied) ∧ (m < 12) ∧ (s.on SVY_AVS_MTHROT = false)) ∧
    (∃ (s : State) (m : Nat), (s.slotOpen 8) ∧ (s.chart.applied) ∧ (12 ≤ m) ∧ (s.svy.hotL ∨ (s.avsMargin m).on SVY_AVS_MTHROT)) ∧
    (∃ (s : State), (s.running) ∧ (s.on SVY_AVS_MTHROT) ∧ (256 ≤ s.svy.okRun)) :=
  ⟨⟨wRun, { vin := [5000, 5000, 5000, 5000], vm := [12000, 12000, 12000, 12000], peak0 := 0, peak1 := 0, temps := [0, 0, 0, 0, 0, 0, 0, 0] }, by decide⟩,
    ⟨State.reset, { vin := [], vm := [], peak0 := 0, peak1 := 0, temps := [] }, by decide⟩,
    ⟨{ wRun with svy := { hot := true, coolRun := 2500 } }, by decide⟩,
    ⟨{ wRun with svy := { critical := some 0 } }, 0, by decide⟩,
    ⟨wRun, 200000, by decide⟩,
    ⟨{ wRun.p SVY_SHOCK_INH 1 with svy := { quietRun := 65536 } }, by decide⟩,
    ⟨{ wApp.pki SVY_BSENS_EN 0 0 1 with svy := { boardTicks := [(0, 25000)] } }, 0, [0, 0], by decide⟩,
    ⟨{ wApp.pki SVY_BSENS_EN 0 0 1 with svy := { boardTicks := [(0, 25000)] } }, 0, by decide⟩,
    ⟨{ wApp.pki SVY_BSENS_EN 0 0 1 with svy := { alert := [0] } }, 0, none, by decide⟩,
    ⟨wApp, 20, by decide⟩,
    ⟨wApp, 3, by decide⟩,
    ⟨{ wApp with svy := { hotL := true } }, 20, by decide⟩,
    ⟨{ wRun.p SVY_AVS_MTHROT 1 with svy := { okRun := 256 } }, by decide⟩⟩

theorem test_witness_PinCommandsComplete :
    (∃ (s : State) (n : Fin 16) (r : Bool) (held : Nat), (s.extAccepts n r held) ∧ (s.gki PIN_EXTCFG_MODE 0 n = 3 ∨ (s.gki PIN_EXTCFG_MODE 0 n = 1 ∧ r = true) ∨ (s.gki PIN_EXTCFG_MODE 0 n = 2 ∧ r = false)) ∧ (bitAt (s.g PIN_EXTPEND_PEND) n = false)) ∧
    (∃ (s : State) (n : Fin 16) (r : Bool) (held : Nat), (s.extAccepts n r held) ∧ (s.gki PIN_EXTCFG_MODE 0 n = 3 ∨ (s.gki PIN_EXTCFG_MODE 0 n = 1 ∧ r = true) ∨ (s.gki PIN_EXTCFG_MODE 0 n = 2 ∧ r = false)) ∧ (bitAt (s.g PIN_EXTPEND_PEND) n)) ∧
    (∃ (s : State) (n : Fin 16) (r : Bool) (held : Nat), (s.extAccepts n r held = false)) ∧
    (∃ (s : State) (n : Fin 16) (v : Bool) (held : Nat), (s.extAccepts n v held) ∧ ((s.gki PIN_EXTCFG_MODE 0 n = 4 ∧ v = true) ∨ (s.gki PIN_EXTCFG_MODE 0 n = 5 ∧ v = false)) ∧ (bitAt s.pin.active n = false)) ∧
    (∃ (s : State) (n : Fin 16) (v : Bool) (held : Nat), (s.extAccepts n v held) ∧ ((s.gki PIN_EXTCFG_MODE 0 n = 4 ∧ v = false) ∨ (s.gki PIN_EXTCFG_MODE 0 n = 5 ∧ v = true)) ∧ (bitAt s.pin.active n)) ∧
    (∃ (s : State) (n : Fin 16) (v : Bool) (held : Nat), (s.extAccepts n v held = false)) ∧
    (∃ (s : State) (n : Fin 16) (e : Nat), (s.running) ∧ (Tbl.find s.pin.pulse n = some e) ∧ (e ≤ s.cyc)) ∧
    (∃ (s : State), (s.running) ∧ (s.chart.applied) ∧ (s.pin.applied = false) ∧ (s.clk.cycle = 0) ∧ (Tbl.getD s.boot.began 0 0 < s.clk.edges)) ∧
    (∃ (s : State) (l : BitVec 16) (perst : Bool), (s.pin.armed) ∧ (s.pwr.vigil) ∧ (s.pwr.inReset = none) ∧ ((maskOf 16 fun i => s.qualifies i (bitAt l.toNat i)) ≠ 0 ∨ perst = true)) ∧
    (∃ (s : State) (l : BitVec 16) (perst : Bool), (s.pin.armed) ∧ (s.running) ∧ (s.pwr.vigil = false) ∧ (s.pwr.entering = some 3) ∧ ((maskOf 16 fun i => s.qualifies i (bitAt l.toNat i)) ≠ 0 ∨ perst = true)) ∧
    (∃ (s : State) (l : BitVec 16) (perst : Bool), (s.pin.armed = false)) ∧
    (∃ (s : State), (s.boot.perst = false)) ∧
    (∃ (s : State), (s.boot.perst)) :=
  ⟨⟨{ (wRun.pki PIN_FUNC 0 0 1).pki PIN_EXTCFG_MODE 0 0 3 with pin := { applied := true } }, 0, true, 1000, by decide⟩,
    ⟨{ ((wRun.pki PIN_FUNC 0 0 1).pki PIN_EXTCFG_MODE 0 0 3).p PIN_EXTPEND_PEND 1 with pin := { applied := true } }, 0, true, 1000, by decide⟩,
    ⟨wRun, 0, true, 0, by decide⟩,
    ⟨{ (wRun.pki PIN_FUNC 0 0 1).pki PIN_EXTCFG_MODE 0 0 4 with pin := { applied := true } }, 0, true, 1000, by decide⟩,
    ⟨{ (wRun.pki PIN_FUNC 0 0 1).pki PIN_EXTCFG_MODE 0 0 4 with pin := { applied := true, active := 1, accepted := [(0, (true, 0))] }, clk := { wRun.clk with cycle := 4000 } }, 0, false, 1000, by decide⟩,
    ⟨wRun, 0, true, 0, by decide⟩,
    ⟨{ wRun with pin := { pulse := [(0, 0)] } }, 0, 0, by decide⟩,
    ⟨{ wApp with clk := { wRun.clk with edges := 1 } }, by decide⟩,
    ⟨{ State.reset with pwr := { vigil := true }, pin := { armed := true } }, 0, true, by decide⟩,
    ⟨{ wRun with pwr := { entering := some 3 }, pin := { armed := true } }, 0, true, by decide⟩,
    ⟨wRun, 0, true, by decide⟩,
    ⟨wBar, by decide⟩,
    ⟨State.reset, by decide⟩⟩

theorem test_witness_EventRegisterCommandsComplete :
    (∃ (s : State) (r : Fin 6) (v : BitVec 32), (s.barOpen)) ∧
    (∃ (s : State), (s.barOpen)) ∧
    (∃ (s : State) (b : List Byte), (s.running) ∧ (s.evt.recvQ.length < 16)) ∧
    (∃ (s : State) (b : List Byte), (s.running) ∧ (16 ≤ s.evt.recvQ.length) ∧ (s.evt.fullEpi = false)) :=
  ⟨⟨wBar, 0, 0, by decide⟩,
    ⟨wBar, by decide⟩,
    ⟨wRun, [], by decide⟩,
    ⟨{ wRun with evt := { recvQ := List.replicate 16 [] } }, [], by decide⟩⟩

theorem test_witness_StartUpCommandsComplete :
    (∃ (s : State), (s.running) ∧ (s.g SYS_BOOT_STAGE = 1) ∧ (s.on PIN_STRAP_SCANHOLD = false)) ∧
    (∃ (s : State) (b : BitVec 8) (d : BitVec 16), (s.running) ∧ (s.g SYS_BOOT_STAGE = 1) ∧ (s.on PIN_STRAP_SCANHOLD = false)) ∧
    (∃ (s : State) (d : List Bool), (s.g SYS_BOOT_STAGE = 2) ∧ (s.pwr.inReset = none)) ∧
    (∃ (s : State) (ok : Bool) (g h : Nat), (s.running) ∧ (s.g SYS_BOOT_STAGE = 3) ∧ (s.g SYS_BOOT_DRAM = 1) ∧ (ok = true) ∧ (g = s.secLe 0x51 0 0 1 0) ∧ (h = s.secLe 0x51 0 0 1 0)) ∧
    (∃ (s : State) (ok : Bool) (g h : Nat), (s.running) ∧ (s.g SYS_BOOT_STAGE = 3) ∧ (s.g SYS_BOOT_DRAM = 1) ∧ (ok = false ∨ g ≠ s.secLe 0x51 0 0 1 0 ∨ h ≠ s.secLe 0x51 0 0 1 0)) ∧
    (∃ (s : State) (ok : Bool) (g h : Nat), (s.running) ∧ (s.g SYS_BOOT_STAGE = 3) ∧ (s.g SYS_BOOT_DRAM = 2) ∧ (s.dramEdge + s.dramInitTicks ≤ s.clk.edges)) ∧
    (∃ (s : State), (s.running) ∧ (s.g SYS_BOOT_STAGE = 3) ∧ (s.g SYS_BOOT_MEDIA = 1) ∧ (25 ≤ s.boot.vmRun) ∧ (s.handoverPower) ∧ (toSigned 12 (s.g SVY_TEMP_TMAX) < 8 * (s.g SVY_THERM_THROT : Int))) ∧
    (∃ (s : State) (st : Stage) (us : Nat), (s.pwr.inReset = none) ∧ (s.pwr.vigil = false) ∧ (s.stageRuns st) ∧ (s.stageLate us st)) ∧
    (∃ (s : State), (s.running) ∧ (s.g SYS_BOOT_STAGE = 3) ∧ (s.g SYS_BOOT_DRAM = 3) ∧ (s.g SYS_BOOT_MEDIA = 4) ∧ (s.g SYS_BOOT_FAB = 5 ∨ s.g SYS_BOOT_FAB = 6)) ∧
    (∃ (s : State), (s.barOpen) ∧ (s.pwr.hostReset = none) ∧ (s.pwr.loss = none)) ∧
    (∃ (s : State), (s.pwr.hostReset.isSome) ∧ (s.anyLoaded = false) ∧ (s.journalBusy = false)) :=
  ⟨⟨wRun.p SYS_BOOT_STAGE 1, by decide⟩,
    ⟨wRun.p SYS_BOOT_STAGE 1, 0, 0, by decide⟩,
    ⟨State.reset.p SYS_BOOT_STAGE 2, [false, false], by decide⟩,
    ⟨(wRun.p SYS_BOOT_STAGE 3).p SYS_BOOT_DRAM 1, true, 0, 0, by decide⟩,
    ⟨(wRun.p SYS_BOOT_STAGE 3).p SYS_BOOT_DRAM 1, false, 0, 0, by decide⟩,
    ⟨{ (wRun.p SYS_BOOT_STAGE 3).p SYS_BOOT_DRAM 2 with clk := { wRun.clk with edges := 1000000000 } }, true, 0, 0, by decide⟩,
    ⟨{ ((wRun.p SYS_BOOT_STAGE 3).p SYS_BOOT_MEDIA 1).p SVY_THERM_THROT 100 with boot := { vmRun := 25 } }, by decide⟩,
    ⟨{ State.reset.p SYS_BOOT_STAGE 1 with clk := { edges := 100000000 } }, .bist, 0, by decide⟩,
    ⟨(((wRun.p SYS_BOOT_STAGE 3).p SYS_BOOT_DRAM 3).p SYS_BOOT_MEDIA 4).p SYS_BOOT_FAB 5, by decide⟩,
    ⟨wBar, by decide⟩,
    ⟨{ wRun with pwr := { hostReset := some none } }, by decide⟩⟩

theorem test_witness_FlashCommandsComplete :
    (∃ (s : State) (n : Nat) (ok : Bool) (j : FlashJob), (s.chart.busy = some j) ∧ (j.erase) ∧ (j.phase = 2) ∧ (s.pwr.inReset = none)) ∧
    (∃ (s : State) (ok : Bool) (us : Nat) (j : FlashJob), (s.chart.busy = some j) ∧ (j.erase = false) ∧ (s.pwr.inReset = none)) ∧
    (∃ (s : State) (ok : Bool) (us : Nat) (j : FlashJob), (s.chart.busy = some j) ∧ (j.erase) ∧ (j.phase ≠ 2) ∧ (s.pwr.inReset = none)) ∧
    (∃ (s : State) (n : Nat), (3 ≤ s.g SYS_BOOT_STAGE) ∧ (s.pwr.inReset = none) ∧ (s.pwr.loss = none) ∧ (s.chart.half = [n]) ∧ ((s.wearOf n).state ≠ 2) ∧ (isChartSector (s.logicalSector n) = false) ∧ (s.chart.jobs = []) ∧ (s.chart.busy = none)) ∧
    (∃ (s : State), (3 ≤ s.g SYS_BOOT_STAGE) ∧ (s.pwr.inReset = none) ∧ (s.pwr.loss = none) ∧ (s.chart.half = []) ∧ (s.journalUsed 0) ∧ (s.chart.jobs = []) ∧ (s.chart.busy = none)) :=
  ⟨⟨{ wRun with chart := { busy := some { prio := 6, erase := true, addr := 0, why := .half, phase := 2 } } }, 0, true, { prio := 6, erase := true, addr := 0, why := .half, phase := 2 }, by decide⟩,
    ⟨{ wRun with chart := { busy := some { prio := 6, erase := false, addr := 0, why := .gaz } } }, true, 0, { prio := 6, erase := false, addr := 0, why := .gaz }, by decide⟩,
    ⟨{ wRun with chart := { busy := some { prio := 6, erase := true, addr := 0, why := .half } } }, true, 0, { prio := 6, erase := true, addr := 0, why := .half }, by decide⟩,
    ⟨{ wRun.p SYS_BOOT_STAGE 4 with chart := { half := [600] } }, 600, by decide⟩,
    ⟨{ wRun.p SYS_BOOT_STAGE 4 with chart := { jslots := (List.range 16).map fun i => (i, .consumed) } }, by decide⟩⟩

theorem test_witness_GazetteerCommandsComplete :
    (∃ (s : State) (c : Option Nat), (s.slotOpen 13) ∧ (s.chart.applied) ∧ (bitAt s.clk.slots 15 = false)) ∧
    (∃ (s : State), (s.slotOpen 7)) ∧
    (∃ (s : State), (s.running) ∧ (s.gaz.paged) ∧ (s.pageTicks ≤ s.gaz.pageEdges)) ∧
    (∃ (s : State), (s.running) ∧ (s.on GAZ_STAT_PREADY) ∧ (250000 ≤ s.gaz.edges)) ∧
    (∃ (s : State) (e : PRec) (rest : List PRec), (s.pqueue = e :: rest) ∧ (s.running) ∧ (s.on GAZ_STAT_PREADY) ∧ (s.on GAZ_STAT_PDIS = false) ∧ (s.pwr.loss = none) ∧ (s.gazWriting = false) ∧ (s.sectorRoom e.r.len)) ∧
    (∃ (s : State) (e : PRec) (rest : List PRec), (s.pqueue = e :: rest) ∧ (s.running) ∧ (s.on GAZ_STAT_PREADY) ∧ (s.on GAZ_STAT_PDIS = false) ∧ (s.pwr.loss = none) ∧ (s.gazWriting = false) ∧ (s.sectorRoom e.r.len = false) ∧ (s.on GAZ_STAT_SEALED = false) ∧ (s.gaz.nextReady)) ∧
    (∃ (s : State) (n x e : Nat), (s.gaz.xfer = some (x, e)) ∧ (s.running) ∧ (x ≤ n) ∧ (n < e)) :=
  ⟨⟨wApp, none, by decide⟩,
    ⟨wRun, by decide⟩,
    ⟨{ wRun with gaz := { paged := true, pageEdges := 1000000000000 } }, by decide⟩,
    ⟨{ wRun.p GAZ_STAT_PREADY 1 with gaz := { edges := 250000 } }, by decide⟩,
    ⟨{ wRun.p GAZ_STAT_PREADY 1 with gaz := { pq := [{ r := { typ := 1, len := 32, body := [] }, opsec := 0, pcycle := 0 }], inUse := true } }, { r := { typ := 1, len := 32, body := [] }, opsec := 0, pcycle := 0 }, [], by decide⟩,
    ⟨{ wRun.p GAZ_STAT_PREADY 1 with gaz := { pq := [{ r := { typ := 1, len := 32, body := [] }, opsec := 0, pcycle := 0 }], nextReady := true } }, { r := { typ := 1, len := 32, body := [] }, opsec := 0, pcycle := 0 }, [], by decide⟩,
    ⟨{ wRun with gaz := { xfer := some (0, 64) } }, 32, 0, 64, by decide⟩⟩

theorem test_witness_EngineCommandsComplete :
    (∃ (s : State) (k : Fin 4) (x : CtlIn), (s.slotOpen k.val) ∧ (k.val < s.nAct) ∧ ((Tbl.getD s.eng k {}).stop = none)) ∧
    (∃ (s : State) (k : Fin 4) (h : Safe), ((Tbl.getD s.eng k {}).safe = some h) ∧ (s.running) ∧ (s.secLe 0x12 k 2 2 25 ≤ h.clean) ∧ ((Tbl.getD s.eng k {}).endHold = false)) ∧
    (∃ (s : State) (k : Fin 4), (s.barOpen) ∧ ((s.trcBench k).isSome)) ∧
    (∃ (s : State) (k : Fin 4), (s.barOpen) ∧ (s.gk CTL_TRCSTAT_STATE k = 1)) ∧
    (∃ (s : State) (k : Fin 4), (s.running) ∧ (s.gk CTL_TRCSTAT_STATE k = 2) ∧ (Tbl.getD s.trcLeft k 0 = 0)) :=
  ⟨⟨{ wApp with chart := { applied := true, secs := [⟨0x10, 0, [1]⟩] } }, 0, {}, by decide⟩,
    ⟨{ wRun with eng := [(0, { safe := some { ts := 0, cause := 1, set := 0, clean := 25 } })] }, 0, { ts := 0, cause := 1, set := 0, clean := 25 }, by decide⟩,
    ⟨(wBar.p BEN_CFG_MODE 1).pki BEN_OWN 0 0 1, 0, by decide⟩,
    ⟨wBar.pk CTL_TRCSTAT_STATE 0 1, 0, by decide⟩,
    ⟨wRun.pk CTL_TRCSTAT_STATE 0 2, 0, by decide⟩⟩

theorem test_witness_TestPortCommandsComplete :
    (∃ (s : State) (cells pins : BitVec 968), (s.on PIN_STRAP_SCANHOLD)) ∧
    (∃ (s : State) (cells pins : BitVec 968), (s.on PIN_STRAP_SCANHOLD = false)) ∧
    (∃ (s : State), (s.on PIN_STRAP_SCANHOLD)) ∧
    (∃ (s : State), (s.on PIN_STRAP_SCANHOLD = false)) ∧
    (∃ (s : State) (op : BitVec 8), (op.toNat = 3 ∨ 8 ≤ op.toNat)) :=
  ⟨⟨State.reset.p PIN_STRAP_SCANHOLD 1, 0, 0, by decide⟩,
    ⟨State.reset, 0, 0, by decide⟩,
    ⟨State.reset.p PIN_STRAP_SCANHOLD 1, by decide⟩,
    ⟨State.reset, by decide⟩,
    ⟨State.reset, 255, by decide⟩⟩

theorem test_witness_DebugCommandsComplete :
    (∃ (s : State), (s.barOpen) ∧ (bitAt (s.secLe 0xA0 0 6 1 0) 0) ∧ (s.on TST_FUSE_LOCK = false) ∧ (s.on TST_DBGCTL_OPEN = false)) ∧
    (∃ (s : State), (s.barOpen)) ∧
    (∃ (s : State) (i : Fin 1024) (v : BitVec 32), (s.barOpen) ∧ (s.on TST_DBGCTL_OPEN) ∧ (s.on TST_FUSE_DEVMODE) ∧ (s.solidAt (s.dbgAddr i) = none)) ∧
    (∃ (s : State) (i : Fin 1024), (s.barOpen) ∧ (s.on TST_DBGCTL_OPEN) ∧ (s.solidAt (s.dbgAddr i) = none)) ∧
    (∃ (s : State) (m : BitVec 16), (s.barOpen)) :=
  ⟨⟨{ wBar with chart := { secs := [⟨0xA0, 0, [0, 0, 0, 0, 0, 0, 1]⟩] } }, by decide⟩,
    ⟨wBar, by decide⟩,
    ⟨(wBar.p TST_DBGCTL_OPEN 1).p TST_FUSE_DEVMODE 1, 0, 0, by decide⟩,
    ⟨wBar.p TST_DBGCTL_OPEN 1, 0, by decide⟩,
    ⟨wBar, 1, by decide⟩⟩

theorem test_witness_EndpointCommandsComplete :
    (∃ (s : State) (sp : Fin 5) (l : Fin 4), (s.running) ∧ (s.boot.perst = false) ∧ (2 ≤ s.g SYS_BOOT_STAGE)) ∧
    (∃ (s : State) (fn : Fin 16) (dc : Option DevCtl), (s.running) ∧ (s.boot.perst = false) ∧ (s.on MQP_PCIE_UP) ∧ (s.g SYS_BOOT_STAGE < 3 ∨ s.fnOn fn = false ∨ dc = none)) ∧
    (∃ (s : State) (fn : Fin 16) (d : DevCtl), (s.running) ∧ (s.boot.perst = false) ∧ (s.on MQP_PCIE_UP) ∧ (3 ≤ s.g SYS_BOOT_STAGE) ∧ (s.fnOn fn)) ∧
    (∃ (s : State) (a : BitVec 7), (s.running) ∧ (s.gki PIN_FUNC 0 0 = 3) ∧ (s.gki PIN_FUNC 0 1 = 3) ∧ (s.g SVY_I2CCFG_TADDR = a.toNat)) :=
  ⟨⟨wBar, 0, 0, by decide⟩,
    ⟨wBar.p MQP_PCIE_UP 1, 0, none, by decide⟩,
    ⟨wBar.p MQP_PCIE_UP 1, 0, {}, by decide⟩,
    ⟨((wRun.pki PIN_FUNC 0 0 3).pki PIN_FUNC 0 1 3).p SVY_I2CCFG_TADDR 0x20, 0x20, by decide⟩⟩

theorem test_witness_MemorySystemCommandsComplete :
    (∃ (s : State) (m : Fin 26) (o : BenchOwner), (s.running) ∧ (((Tbl.find s.bench.last m).any (·.2)) = false)) ∧
    (∃ (s : State) (m : Fin 26) (o : BenchOwner), (s.running) ∧ ((Tbl.find s.bench.last m).any (·.2))) ∧
    (∃ (s : State) (r l v : Nat) (n : Fin 64) (o : Bool), (s.readerVol r = some v) ∧ (s.running) ∧ (3 ≤ s.g DRM_STAT_STATE) ∧ (s.dreads.contains (r, l)) ∧ (s.slabBad v l = false) ∧ (s.slabOf false v (l / 256) = none)) ∧
    (∃ (s : State) (r l v : Nat) (n : Fin 64) (o : Bool) (e : Nat × Slab), (s.readerVol r = some v) ∧ (s.running) ∧ (3 ≤ s.g DRM_STAT_STATE) ∧ (s.dreads.contains (r, l)) ∧ (s.slabBad v l = false) ∧ (s.slabOf false v (l / 256) = some e)) ∧
    (∃ (s : State) (i : Nat) (p : OPiece) (e : Nat × Slab), (Tbl.find s.pieces i = some p) ∧ (s.running) ∧ (p.phase = 2) ∧ (p.read = false) ∧ (p.staged ≠ []) ∧ (3 ≤ s.g DRM_STAT_STATE) ∧ (s.slabOf false p.vol p.ext = some e)) ∧
    (∃ (s : State) (u : TableUse) (o : Bool), (s.scrubMay) ∧ (s.scrubLine ≠ 0)) ∧
    (∃ (s : State) (c : DramCls) (u : TableUse) (o : Bool), (s.scrubMay) ∧ (s.scrubLine ≠ 0) ∧ (c ≠ .corrected ∨ o = true)) ∧
    (∃ (s : State) (m : Fin 2), (s.running) ∧ (3 ≤ s.g DRM_STAT_STATE) ∧ (bitAt (s.g DRM_STAT_FAULT) m = false)) ∧
    (∃ (s : State) (c : List (List BReq)), (s.running)) ∧
    (∃ (s : State) (a b : Nat), (s.slotOpen 6) ∧ (s.chart.applied)) :=
  ⟨⟨wRun, 0, .solid, by decide⟩,
    ⟨{ wRun with bench := { last := [(0, (0, true))] } }, 0, .solid, by decide⟩,
    ⟨{ wRun.p DRM_STAT_STATE 3 with dreads := [(65536, 0)], pieces := [(0, { vol := 0, lba := 0, n := 1, modes := 0, slot := none })] }, 65536, 0, 0, 0, false, by decide⟩,
    ⟨{ wRun.p DRM_STAT_STATE 3 with dreads := [(65536, 0)], pieces := [(0, { vol := 0, lba := 0, n := 1, modes := 0, slot := none })], slabs := [(0, { vol := 0, ext := 0, twin := false })] }, 65536, 0, 0, 0, false, (0, { vol := 0, ext := 0, twin := false }), by decide⟩,
    ⟨{ wRun.p DRM_STAT_STATE 3 with pieces := [(0, { vol := 0, lba := 0, n := 1, modes := 0, slot := none, phase := 2, staged := [(0, { bytes := [] })] })], slabs := [(0, { vol := 0, ext := 0, twin := false })] }, 0, { vol := 0, lba := 0, n := 1, modes := 0, slot := none, phase := 2, staged := [(0, { bytes := [] })] }, (0, { vol := 0, ext := 0, twin := false }), by decide⟩,
    ⟨{ wRun.p DRM_STAT_STATE 3 with scrubLine := 1 }, .free, false, by decide⟩,
    ⟨{ wRun.p DRM_STAT_STATE 3 with scrubLine := 1 }, .link, .free, false, by decide⟩,
    ⟨wRun.p DRM_STAT_STATE 3, 0, by decide⟩,
    ⟨wRun, [], by decide⟩,
    ⟨wApp, 0, 0, by decide⟩⟩

theorem test_witness_SpindleStartCommandsComplete :
    (∃ (s : State) (src : Nat), (s.spn.order = some src) ∧ (s.running) ∧ (s.on SPN_STAT_RECT = false) ∧ (s.g SPN_STAT_STATE ≠ 10) ∧ ((s.g SPN_STAT_STATE ≠ 2 ∧ s.g SPN_STAT_STATE ≠ 9) ∨ s.spn.orderEdge < s.clk.edges)) ∧
    (∃ (s : State) (i c n : Nat) (v : Int), ((s.atCycle (min i (s.tickLen - 1))).listenCase = some (c, n, v)) ∧ ((s.atCycle (min i (s.tickLen - 1))).running) ∧ ((s.atCycle (min i (s.tickLen - 1))).g SPN_STAT_STATE = 1)) ∧
    (∃ (s : State) (i : Nat), ((s.atCycle (min i (s.tickLen - 1))).listenCase = none)) ∧
    (∃ (s : State) (a b : Nat), (s.running) ∧ (s.g SPN_STAT_STATE = 2) ∧ (2 ≤ s.spn.winRun) ∧ (a < 30 * s.ke) ∧ (b < 30 * s.ke) ∧ (s.spn.brakeWhy = 0)) ∧
    (∃ (s : State) (a b : Nat), (s.running) ∧ (s.g SPN_STAT_STATE = 2) ∧ (2 ≤ s.spn.winRun) ∧ (a < 30 * s.ke) ∧ (b < 30 * s.ke) ∧ (s.spn.brakeWhy = 1)) ∧
    (∃ (s : State) (a b : Nat), (s.running) ∧ (s.g SPN_STAT_STATE = 2) ∧ (2 ≤ s.spn.winRun) ∧ (a < 30 * s.ke) ∧ (b < 30 * s.ke) ∧ (s.spn.brakeWhy = 2)) ∧
    (∃ (s : State), (s.running) ∧ (s.g SPN_STAT_STATE = 3) ∧ (250 * s.spnLe 16 2 ≤ s.spnFor)) ∧
    (∃ (s : State), (s.running) ∧ (s.atHandoff) ∧ (64 ≤ s.spn.confRun)) ∧
    (∃ (s : State), (s.running) ∧ (s.atHandoff) ∧ (s.spn.confRun < 64) ∧ ((if s.g SPN_STAT_STATE = 5 then 250 else s.handoffTicks + 62500) ≤ s.spnFor)) ∧
    (∃ (s : State), (s.running) ∧ (s.g SPN_STAT_STATE = 6) ∧ (s.inR s.speed)) ∧
    (∃ (s : State), (s.running) ∧ (s.g SPN_STAT_STATE = 7) ∧ (s.on SPN_STAT_AT_SPEED = false) ∧ (250 ≤ s.spn.bandRun) ∧ (s.spn.source = none)) ∧
    (∃ (s : State) (src : Nat), (s.running) ∧ (s.g SPN_STAT_STATE = 7) ∧ (s.on SPN_STAT_AT_SPEED = false) ∧ (250 ≤ s.spn.bandRun) ∧ (s.spn.source = some src)) ∧
    (∃ (s : State), (s.running) ∧ (s.spn.source.isSome) ∧ (25000 * s.spnLe 24 2 ≤ s.clk.edges - s.spn.orderEdge)) :=
  ⟨⟨{ wRun with spn := { order := some 0 } }, 0, by decide⟩,
    ⟨{ wRun.p SPN_STAT_STATE 1 with clk := { wRun.clk with edges := 5000 } }, 0, 4, 100000000, 0, by decide⟩,
    ⟨wRun.p SPN_STAT_STATE 1, 0, by decide⟩,
    ⟨{ (wKe.p SPN_STAT_STATE 2) with spn := { winRun := 2 } }, 0, 0, by decide⟩,
    ⟨{ (wKe.p SPN_STAT_STATE 2) with spn := { brakeWhy := 1, winRun := 2 } }, 0, 0, by decide⟩,
    ⟨{ (wKe.p SPN_STAT_STATE 2) with spn := { brakeWhy := 2, winRun := 2 } }, 0, 0, by decide⟩,
    ⟨wRun.p SPN_STAT_STATE 3, by decide⟩,
    ⟨{ wRun.p SPN_STAT_STATE 5 with spn := { confRun := 64 } }, by decide⟩,
    ⟨{ wRun.p SPN_STAT_STATE 5 with clk := { wRun.clk with edges := 250 } }, by decide⟩,
    ⟨wRun.p SPN_STAT_STATE 6, by decide⟩,
    ⟨{ wRun.p SPN_STAT_STATE 7 with spn := { bandRun := 250 } }, by decide⟩,
    ⟨{ wRun.p SPN_STAT_STATE 7 with spn := { bandRun := 250, source := some 0 } }, 0, by decide⟩,
    ⟨{ wRun with spn := { source := some 0 } }, by decide⟩⟩

theorem test_witness_SpindleRunCommandsComplete :
    (∃ (s : State), (s.slotOpen 4)) ∧
    (∃ (s : State) (x : ObsIn), (s.running) ∧ (s.g SPN_STAT_STATE ≠ 6) ∧ (s.g SPN_STAT_STATE ≠ 7)) ∧
    (∃ (s : State) (x : ObsIn), (s.running) ∧ (s.g SPN_STAT_STATE = 6 ∨ s.g SPN_STAT_STATE = 7)) ∧
    (∃ (s : State), (s.running) ∧ (s.g SPN_STAT_STATE = 7) ∧ (s.on SPN_STAT_WB_OK = false) ∧ (25 ≤ s.spn.wbRun) ∧ (s.spn.wbOut = false)) ∧
    (∃ (s : State), (s.running) ∧ (s.g SPN_STAT_STATE = 7) ∧ (s.on SPN_STAT_WB_OK = false) ∧ (25 ≤ s.spn.wbRun) ∧ (s.spn.wbOut)) ∧
    (∃ (s : State) (i : Nat), (s.running) ∧ (3 * max (s.spnLe 10 2) (max (s.spnLe 12 2) (s.spnLe 14 2)) < 2 * i) ∧ ((s.gateDropAll.setSpn fun p => { p with bridge := .off }).g SPN_STAT_STATE = 6 ∨ (s.gateDropAll.setSpn fun p => { p with bridge := .off }).g SPN_STAT_STATE = 7)) ∧
    (∃ (s : State) (l : Loss), (s.spn.loss = some l) ∧ (s.running) ∧ (s.g SPN_STAT_STATE = 8) ∧ ((l.periods + 1) * coastPeriod ≤ (s.instant - l.at_) * l.fc) ∧ (s.g SPN_OBS_CONF < s.spnLe 22 1 + s.spnLe 23 1)) ∧
    (∃ (s : State) (l : Loss), (s.spn.loss = some l) ∧ (s.running) ∧ (s.g SPN_STAT_STATE = 8) ∧ ((l.periods + 1) * coastPeriod ≤ (s.instant - l.at_) * l.fc) ∧ (s.spnLe 22 1 + s.spnLe 23 1 ≤ s.g SPN_OBS_CONF)) ∧
    (∃ (s : State) (l : Loss), (s.spn.loss = some l) ∧ (s.running) ∧ (s.g SPN_STAT_STATE = 8) ∧ (16 ≤ l.periods) ∧ (l.back = false)) ∧
    (∃ (s : State), (s.running) ∧ (s.g SPN_STAT_STATE = 9) ∧ (s.spn.restart.isSome) ∧ (s.allParked) ∧ (s.spn.order = none)) ∧
    (∃ (s : State), (s.running) ∧ (250000 ≤ s.spn.atRun)) ∧
    (∃ (s : State), (s.running) ∧ (s.pwr.entering.isSome) ∧ (s.allParked) ∧ (s.g SPN_STAT_STATE = 7 ∨ s.g SPN_STAT_STATE = 9)) ∧
    (∃ (s : State), (s.running) ∧ (s.pwr.entering.isSome) ∧ (s.allParked) ∧ (s.g SPN_STAT_STATE = 0 ∨ s.g SPN_STAT_STATE = 10)) ∧
    (∃ (s : State), (s.running) ∧ (s.g SPN_STAT_STATE = 2) ∧ (25000 * s.spnLe 26 2 ≤ s.spnFor) ∧ (s.spn.brakeWhy = 1)) ∧
    (∃ (s : State), (s.running) ∧ (s.g SPN_STAT_STATE = 2) ∧ (25000 * s.spnLe 26 2 ≤ s.spnFor) ∧ (s.spn.brakeWhy ≠ 1)) ∧
    (∃ (s : State), (s.on SPN_STAT_RECT) ∧ (s.retr = [])) :=
  ⟨⟨wRun, by decide⟩,
    ⟨wRun, { emf := 0, speed := 0, resid := 0, iamp := 0, angle := 0 }, by decide⟩,
    ⟨wRun.p SPN_STAT_STATE 6, { emf := 0, speed := 0, resid := 0, iamp := 0, angle := 0 }, by decide⟩,
    ⟨{ wRun.p SPN_STAT_STATE 7 with spn := { wbRun := 25 } }, by decide⟩,
    ⟨{ wRun.p SPN_STAT_STATE 7 with spn := { wbRun := 25, wbOut := true } }, by decide⟩,
    ⟨wRun.p SPN_STAT_STATE 6, 1, by decide⟩,
    ⟨{ wRun.p SPN_STAT_STATE 8 with clk := { wRun.clk with edges := 1 }, spn := { loss := some { cause := 1, ts := 0, at_ := 0, speed := 0, fc := 500000000000 } }, chart := { secs := [⟨0x20, 0, List.replicate 64 1⟩] } }, { cause := 1, ts := 0, at_ := 0, speed := 0, fc := 500000000000 }, by decide⟩,
    ⟨{ wRun.p SPN_STAT_STATE 8 with clk := { wRun.clk with edges := 1 }, spn := { loss := some { cause := 1, ts := 0, at_ := 0, speed := 0, fc := 500000000000 } } }, { cause := 1, ts := 0, at_ := 0, speed := 0, fc := 500000000000 }, by decide⟩,
    ⟨{ wRun.p SPN_STAT_STATE 8 with spn := { loss := some { cause := 1, ts := 0, at_ := 0, speed := 0, fc := 500000000000, periods := 16 } } }, { cause := 1, ts := 0, at_ := 0, speed := 0, fc := 500000000000, periods := 16 }, by decide⟩,
    ⟨{ wRun.p SPN_STAT_STATE 9 with spn := { restart := some [] } }, by decide⟩,
    ⟨{ wRun with spn := { atRun := 250000 } }, by decide⟩,
    ⟨{ wRun.p SPN_STAT_STATE 9 with pwr := { entering := some 2 } }, by decide⟩,
    ⟨{ wRun with pwr := { entering := some 2 } }, by decide⟩,
    ⟨{ wRun.p SPN_STAT_STATE 2 with spn := { brakeWhy := 1 } }, by decide⟩,
    ⟨{ wRun.p SPN_STAT_STATE 2 with spn := { brakeWhy := 2 } }, by decide⟩,
    ⟨wRun.p SPN_STAT_RECT 1, by decide⟩⟩

theorem test_witness_ServoCommandsComplete :
    (∃ (s : State) (k : Fin 4) (j : Fin 16) (x : DemodIn), (s.running) ∧ (k.val < s.nAct)) ∧
    (∃ (s : State) (k : Fin 4) (g : Guard), ((s.act k).guard = some g) ∧ (s.running) ∧ (s.wgN k ≤ g.run)) ∧
    (∃ (s : State) (k : Fin 4), (s.running) ∧ (2 ≤ s.actSt k) ∧ (s.actSt k ≤ 5) ∧ (64 ≤ (s.act k).inv)) ∧
    (∃ (s : State) (k : Fin 4) (h : Fin 20) (tr : BitVec 24) (w : Bool), (s.maySeek k h tr.toNat w)) ∧
    (∃ (s : State) (k : Fin 4) (h : Fin 20) (tr : BitVec 24) (w : Bool), (s.maySeek k h tr.toNat w) ∧ (h.val ≠ s.gk SRV_TGT_HEAD k)) ∧
    (∃ (s : State) (k : Fin 4), (s.running) ∧ (s.actSt k = 3 ∨ (s.actSt k = 1 ∧ (s.act k).arriving)) ∧ ((s.prof k (s.act k).row).reached (s.act k).len (s.clk.edges - (s.act k).seekEdge))) ∧
    (∃ (s : State) (k : Fin 4) (m : Motion), (s.running) ∧ (s.actSt k = 6) ∧ ((s.act k).motion = some m) ∧ ((s.prof k (s.profRow k m.track)).reached m.track (s.clk.edges - m.edge))) ∧
    (∃ (s : State) (k : Fin 4), (s.running) ∧ (s.actSt k = 4 ∨ (s.actSt k = 2 ∧ (s.act k).chg = false)) ∧ (s.onk SRV_STAT_RREADY k = false) ∧ ((s.prof k (s.act k).row).n ≤ (s.act k).rd) ∧ ((Tbl.getD s.eng k.val {}).safe = none)) ∧
    (∃ (s : State) (k : Fin 4), (s.running) ∧ (s.actSt k = 2) ∧ (s.onk SRV_STAT_RREADY k) ∧ ((s.act k).chg = false) ∧ (s.wsettleN k ≤ (s.act k).wr)) ∧
    (∃ (s : State) (k : Fin 4) (q : Seek), ((s.act k).seek = some q) ∧ (s.running) ∧ ((s.act k).arriving = false) ∧ (s.actSt k = 3 ∨ s.actSt k = 4 ∨ (s.actSt k = 2 ∧ s.onk SRV_STAT_RREADY k = false)) ∧ ((s.prof k (s.act k).row).tmax ≤ s.clk.edges - (s.act k).seekEdge) ∧ ((s.act k).again) ∧ ((Tbl.getD s.eng k.val {}).safe = none) ∧ ((s.act k).go = false)) ∧
    (∃ (s : State) (k : Fin 4) (q : Seek), ((s.act k).seek = some q) ∧ (s.running) ∧ ((s.act k).arriving = false) ∧ (s.actSt k = 3 ∨ s.actSt k = 4 ∨ (s.actSt k = 2 ∧ s.onk SRV_STAT_RREADY k = false)) ∧ ((s.prof k (s.act k).row).tmax ≤ s.clk.edges - (s.act k).seekEdge) ∧ ((s.act k).again = false) ∧ ((Tbl.getD s.eng k.val {}).safe = none) ∧ ((s.act k).go = false)) ∧
    (∃ (s : State) (k : Fin 4) (q : Seek), (s.running) ∧ (16 ≤ (s.act k).acq) ∧ (s.actSt k = 5) ∧ ((s.act k).seek = some q)) ∧
    (∃ (s : State) (k : Fin 4), (s.running) ∧ (16 ≤ (s.act k).acq) ∧ (s.actSt k = 1) ∧ ((s.act k).arriving = false)) ∧
    (∃ (s : State) (k : Fin 4), (s.running) ∧ (s.actSt k = 5) ∧ (64 ≤ (s.act k).seen) ∧ ((s.act k).acq < 16)) :=
  ⟨⟨wMed, 0, 0, { frac := 0, vel := 0, qual := 0, above := false, legal := false }, by decide⟩,
    ⟨wAct 2 { guard := some { ts := 0, cause := 1, peak := 0, run := 100 } }, 0, { ts := 0, cause := 1, peak := 0, run := 100 }, by decide⟩,
    ⟨wAct 2 { inv := 64 }, 0, by decide⟩,
    ⟨wMed, 0, 0, 5, false, by decide⟩,
    ⟨{ wMed.pk SRV_TGT_HEAD 0 1 with clk := wRun.clk }, 0, 0, 5, false, by decide⟩,
    ⟨wAct 3 {  }, 0, by decide⟩,
    ⟨wAct 6 { motion := some { kind := 1 } }, 0, { kind := 1 }, by decide⟩,
    ⟨wAct 4 { rd := 100 }, 0, by decide⟩,
    ⟨(wAct 2 { wr := 1000 }).pk SRV_STAT_RREADY 0 1, 0, by decide⟩,
    ⟨wAct 3 { seek := some { head := 0, track := 0, write := false }, again := true }, 0, { head := 0, track := 0, write := false }, by decide⟩,
    ⟨wAct 3 { seek := some { head := 0, track := 0, write := false } }, 0, { head := 0, track := 0, write := false }, by decide⟩,
    ⟨wAct 5 { acq := 16, seek := some { head := 0, track := 0, write := false } }, 0, { head := 0, track := 0, write := false }, by decide⟩,
    ⟨wAct 1 { acq := 16 }, 0, by decide⟩,
    ⟨wAct 5 { seen := 64 }, 0, by decide⟩⟩

theorem test_witness_RampCommandsComplete :
    (∃ (s : State) (k : Fin 4) (r : BitVec 16) (m : Motion), ((s.act k).motion = some m) ∧ (s.mediaOk) ∧ (m.kind = 0) ∧ (s.actSt k = 0) ∧ (s.on SVY_SHOCK_INH = false) ∧ (Tbl.has s.retr k = false)) ∧
    (∃ (s : State) (k : Fin 4) (m : Motion), ((s.act k).motion = some m) ∧ (s.running) ∧ (s.actSt k = 1 ∨ (s.act k).arriving) ∧ (250 * s.actLe k 16 2 ≤ s.clk.edges - m.edge) ∧ ((s.act k).tries < 2)) ∧
    (∃ (s : State) (k : Fin 4) (m : Motion), ((s.act k).motion = some m) ∧ (s.running) ∧ (s.actSt k = 1 ∨ (s.act k).arriving) ∧ (250 * s.actLe k 16 2 ≤ s.clk.edges - m.edge) ∧ (2 ≤ (s.act k).tries)) ∧
    (∃ (s : State) (k : Fin 4) (a b : Nat) (m : Motion), ((s.act k).motion = some m) ∧ (s.running) ∧ ((s.actSt k = 6 ∧ m.under) ∨ s.actSt k = 7) ∧ (20 * a < s.actLe k 10 2) ∧ (20 * b < s.actLe k 10 2) ∧ (m.kind ≠ 2)) ∧
    (∃ (s : State) (k : Fin 4) (a b : Nat) (m : Motion), ((s.act k).motion = some m) ∧ (s.running) ∧ (s.actSt k = 7) ∧ (20 * a < s.actLe k 10 2) ∧ (20 * b < s.actLe k 10 2) ∧ (m.kind = 2) ∧ (m.trig = 21 ∨ m.trig = 22) ∧ ((((s.parkRecord k m 0).raise 106).endMotion k 0).on SPN_STAT_AT_SPEED) ∧ (((((s.parkRecord k m 0).raise 106).endMotion k 0).act k).motion = none)) ∧
    (∃ (s : State) (k : Fin 4) (m : Motion), ((s.act k).motion = some m) ∧ (s.running) ∧ (s.actSt k = 7) ∧ (250 * s.actLe k 20 1 ≤ s.clk.edges - m.edge)) ∧
    (∃ (s : State) (k : Fin 4) (v : Nat) (r : Retract), (Tbl.find s.retr k = some r) ∧ (s.actSt k ≠ 8) ∧ (r.rect = false) ∧ ((r.due.all fun e => decide (e ≤ s.clk.edges)) = true)) ∧
    (∃ (s : State) (k : Fin 4) (v : Nat) (r : Retract), (Tbl.find s.retr k = some r) ∧ (s.actSt k = 8) ∧ (r.rect = false) ∧ ((r.due.all fun e => decide (e ≤ s.clk.edges)) = true)) :=
  ⟨⟨{ wAct 0 { motion := some { kind := 0 } } with clk := wRun.clk }, 0, 0, { kind := 0 }, by decide⟩,
    ⟨wAct 1 { motion := some { kind := 0 } }, 0, { kind := 0 }, by decide⟩,
    ⟨wAct 1 { motion := some { kind := 0 }, tries := 2 }, 0, { kind := 0 }, by decide⟩,
    ⟨{ wAct 6 { motion := some { kind := 1, under := true } } with chart := { secs := [⟨0x10, 0, List.replicate 100 1⟩] } }, 0, 0, 0, { kind := 1, under := true }, by decide⟩,
    ⟨{ (wAct 7 { motion := some { kind := 2, trig := 21 } }).p SPN_STAT_AT_SPEED 1 with chart := { secs := [⟨0x10, 0, List.replicate 100 1⟩] } }, 0, 0, 0, { kind := 2, trig := 21 }, by decide⟩,
    ⟨wAct 7 { motion := some { kind := 2 } }, 0, { kind := 2 }, by decide⟩,
    ⟨{ wMed with retr := [(0, { due := none, ke := 1, vmin := 1 })] }, 0, 0, { due := none, ke := 1, vmin := 1 }, by decide⟩,
    ⟨{ wAct 8 {} with retr := [(0, { due := none, ke := 1, vmin := 1 })] }, 0, 0, { due := none, ke := 1, vmin := 1 }, by decide⟩⟩

theorem test_witness_ChannelCommandsComplete :
    (∃ (s : State) (k : Fin 4) (w : BitVec 32) (d crc : BitVec 16) (hit : Bool) (f : LFrame), (s.running) ∧ (k.val < s.nAct) ∧ (s.onk CHN_PLINK_FAIL k = false) ∧ (nextFrame (s.chn k).link = some f) ∧ (w.toNat = f.word) ∧ (f.rd = false) ∧ (f.back = false)) ∧
    (∃ (s : State) (k : Fin 4) (w : BitVec 32) (d crc : BitVec 16) (hit : Bool) (f : LFrame), (s.running) ∧ (k.val < s.nAct) ∧ (s.onk CHN_PLINK_FAIL k = false) ∧ (nextFrame (s.chn k).link = some f) ∧ (w.toNat = f.word) ∧ (f.rd ∨ f.back) ∧ (crc.toNat ≠ responseCrc f.word d.toNat ∨ (f.back ∧ d.toNat ≠ f.data))) ∧
    (∃ (s : State) (k : Fin 4) (w : BitVec 32) (d crc : BitVec 16) (hit : Bool) (f : LFrame), (s.running) ∧ (k.val < s.nAct) ∧ (s.onk CHN_PLINK_FAIL k = false) ∧ (nextFrame (s.chn k).link = some f) ∧ (w.toNat = f.word) ∧ (f.rd) ∧ (f.back = false) ∧ (crc.toNat = responseCrc f.word d.toNat)) ∧
    (∃ (s : State) (k : Fin 4) (w : BitVec 32) (d crc : BitVec 16) (hit : Bool), (nextFrame (s.chn k).link = none)) ∧
    (∃ (s : State) (k : Fin 4) (w : BitVec 32) (d crc : BitVec 16) (hit : Bool) (f : LFrame), (nextFrame (s.chn k).link = some f) ∧ (w.toNat ≠ f.word)) ∧
    (∃ (s : State) (h : Fin 20) (n : Nat), ((s.hd h).contact = some n) ∧ (s.running) ∧ (n + 250 ≤ s.clk.edges)) ∧
    (∃ (s : State) (k : Fin 4) (n : Nat), (s.running) ∧ (k.val < s.nAct) ∧ ((s.chn k).fault = none) ∧ (16 ≤ n)) ∧
    (∃ (s : State) (k : Fin 4) (n : Nat), ((s.chn k).fault = some n) ∧ (s.instant ≤ n + 20000)) ∧
    (∃ (s : State) (k : Fin 4) (n : Nat), ((s.chn k).fault = some n) ∧ (n + 20000 < s.instant)) ∧
    (∃ (s : State) (k : Fin 4) (a : Option (BitVec 16)) (b : Option (BitVec 8)), (s.running) ∧ (k.val < s.nAct) ∧ ((s.chn k).sbEdge + 25000 ≤ s.clk.edges)) ∧
    (∃ (s : State) (x : List (Option ChanSums)), (s.slotOpen 10) ∧ (s.chart.applied)) ∧
    (∃ (s : State) (x : List (Option ClearIn)), (s.slotOpen 11) ∧ (s.chart.applied)) ∧
    (∃ (s : State) (k : Fin 4) (c : Bool) (x : Touch), ((s.chn k).touch = some x) ∧ (s.running) ∧ (x.ended = none) ∧ (x.edge + 25 ≤ s.clk.edges) ∧ (s.actSt k = 2) ∧ (s.selHead k = x.head) ∧ ((s.chn k).slice = none)) ∧
    (∃ (s : State) (k : Fin 4) (c : Bool), ((s.chn k).touch = none)) ∧
    (∃ (s : State) (h : Fin 20) (x : CalIn), (s.calWanted h) ∧ (s.selHead (s.headAct h) ≠ h)) ∧
    (∃ (s : State) (h : Fin 20) (x : CalIn), (s.calWanted h) ∧ (s.selHead (s.headAct h) = h) ∧ ((s.chn (s.headAct h)).calAt.filter (fun b => b.1 == h.val) = none)) ∧
    (∃ (s : State) (h : Fin 20) (x : CalIn) (b : Nat × Nat), (s.calWanted h) ∧ (s.selHead (s.headAct h) = h) ∧ ((s.chn (s.headAct h)).calAt.filter (fun b => b.1 == h.val) = some b) ∧ (b.2 + 70000 ≤ s.clk.edges)) ∧
    (∃ (s : State) (h : Fin 20) (x : CalIn) (b : Nat × Nat), (s.calWanted h) ∧ (s.selHead (s.headAct h) = h) ∧ ((s.chn (s.headAct h)).calAt.filter (fun b => b.1 == h.val) = some b) ∧ (s.clk.edges < b.2 + 70000) ∧ ((s.chn (s.headAct h)).touch = none)) ∧
    (∃ (s : State) (h : Fin 20) (x : CalIn) (b : Nat × Nat) (u : Touch) (p : Nat), (s.calWanted h) ∧ (s.selHead (s.headAct h) = h) ∧ ((s.chn (s.headAct h)).calAt.filter (fun b => b.1 == h.val) = some b) ∧ (s.clk.edges < b.2 + 70000) ∧ ((s.chn (s.headAct h)).touch = some u) ∧ (u.ended = some (some p))) :=
  ⟨⟨wChn { link := [wFrame] }, 0, 0, 0, 0, false, wFrame, by decide⟩,
    ⟨wChn { link := [{ wFrame with rd := true }] }, 0, 0x80000000, 0, 0, false, { wFrame with rd := true }, by decide +kernel⟩,
    ⟨wChn { link := [{ wFrame with rd := true }] }, 0, 0x80000000, 0, 55856, false, { wFrame with rd := true }, by decide +kernel⟩,
    ⟨wMed, 0, 0, 0, 0, false, by decide⟩,
    ⟨wChn { link := [wFrame] }, 0, 1, 0, 0, false, wFrame, by decide⟩,
    ⟨wHd { contact := some 0 }, 0, 0, by decide⟩,
    ⟨wMed, 0, 16, by decide⟩,
    ⟨wChn { fault := some 20000000000 }, 0, 20000000000, by decide⟩,
    ⟨wChn { fault := some 0 }, 0, 0, by decide⟩,
    ⟨wChn {}, 0, some 0, some 0, by decide⟩,
    ⟨wMed, [], by decide⟩,
    ⟨wMed, [], by decide⟩,
    ⟨wChn { touch := some { head := 0, htr := 0, edge := 0 } }, 0, false, { head := 0, htr := 0, edge := 0 }, by decide⟩,
    ⟨wMed, 0, false, by decide⟩,
    ⟨((wMed.p SYS_BOOT_STAGE 3).p SYS_BOOT_MEDIA 3).pk SRV_TGT_HEAD 0 1, 0, wCal, by decide⟩,
    ⟨(wMed.p SYS_BOOT_STAGE 3).p SYS_BOOT_MEDIA 3, 0, wCal, by decide⟩,
    ⟨{ wCalS with clk := { wRun.clk with edges := 70000 } }, 0, wCal, (0, 0), by decide⟩,
    ⟨wCalS, 0, wCal, (0, 0), by decide⟩,
    ⟨{ wCalS with chan := [(0, { calAt := some (0, 0), touch := some { head := 0, htr := 0, edge := 0, ended := some (some 100) } })] }, 0, wCal, (0, 0), { head := 0, htr := 0, edge := 0, ended := some (some 100) }, 100, by decide⟩⟩

theorem test_witness_MediaCommandsComplete :
    (∃ (s : State) (k : Fin 4) (h : Fin 20) (tr : BitVec 24) (p : BitVec 12) (x : ReadIn) (j : RJob), ((s.jobsAt (mkLoc h tr.toNat p.toNat)).head? = some j) ∧ (s.readable k (mkLoc h tr.toNat p.toNat)) ∧ (((s.chn k).recov.any fun v => v.loc == mkLoc h tr.toNat p.toNat) = false)) ∧
    (∃ (s : State) (k : Fin 4) (x : ReadIn) (v : Recov) (j : RJob), (s.rcvHead k = some (v, j)) ∧ (s.running) ∧ (v.going) ∧ ((!s.reRead v.step || (s.on SPN_STAT_AT_SPEED && s.g SPN_STAT_STATE != 8 && (s.chn k).slice.isNone && s.onHead k v.loc false && !(s.act k).go && !(s.act k).chg))) ∧ (((s.rcvCmd j).any fun c => !c.2.aborter.isEmpty) = false)) ∧
    (∃ (s : State) (k : Fin 4) (v : Recov) (j : RJob) (i : Nat) (c : Cmd), (s.rcvHead k = some (v, j)) ∧ (s.rcvCmd j = some (i, c)) ∧ (s.running) ∧ (c.aborter ≠ []) ∧ (s.abortDue v c.abortAt)) ∧
    (∃ (s : State) (k : Fin 4) (h : Fin 20) (tr : BitVec 24) (p : BitVec 12) (b : Bool) (j : WJob), (Tbl.find s.wr (mkLoc h tr.toNat p.toNat) = some j) ∧ (j.phase = 0) ∧ (s.mayWrite k (mkLoc h tr.toNat p.toNat) j)) ∧
    (∃ (s : State) (k : Fin 4) (h : Fin 20) (tr : BitVec 24) (p : BitVec 12) (b : Bool) (j : WJob), (Tbl.find s.wr (mkLoc h tr.toNat p.toNat) = some j) ∧ (j.phase = 2 ∨ j.phase = 3) ∧ (s.mayWrite k (mkLoc h tr.toNat p.toNat) j)) ∧
    (∃ (s : State) (k : Fin 4) (h : Fin 20) (tr : BitVec 24) (p : BitVec 12) (x : ReadIn) (n : Nat) (j : WJob), (Tbl.find s.wr (mkLoc h tr.toNat p.toNat) = some j) ∧ (s.running) ∧ (s.locAct (mkLoc h tr.toNat p.toNat) = k) ∧ (s.locVerified (mkLoc h tr.toNat p.toNat)) ∧ (j.phase = 1) ∧ ((s.act k).gate = none)) ∧
    (∃ (s : State) (i a b : Nat) (p : OPiece) (pe : Nat) (e : Ent), (Tbl.find s.pieces i = some p) ∧ (s.writePe p.vol p.ext = some pe) ∧ (Tbl.find s.med.map pe = some e) ∧ (s.running) ∧ (s.onMedia p)) ∧
    (∃ (s : State) (k : Fin 4) (v l : Nat) (r : List (Nat × Nat)), ((s.chn k).refresh = (v, l) :: r) ∧ (s.mediaOk) ∧ (s.refreshOn) ∧ (s.hostWaits k = false) ∧ (((s.locks.table ++ s.locks.reqs ++ s.locks.queue).any fun l => decide (l.who = .refresh k.val)) = false) ∧ ((s.chn k).slice = none)) ∧
    (∃ (s : State), (s.slotOpen 9) ∧ (s.chart.applied)) ∧
    (∃ (s : State) (l : List (Nat × Nat × Nat)), (s.running) ∧ (s.g SYS_BOOT_STAGE = 3) ∧ (s.g SYS_BOOT_MEDIA = 3) ∧ (s.med.loaded = false)) :=
  ⟨⟨{ wFollow with med := { reads := [(mkLoc 0 0 0, { vol := 0, lba := 0, why := 0 })] } }, 0, 0, 0, 0, wRead, { vol := 0, lba := 0, why := 0 }, by decide⟩,
    ⟨{ wFollow with med := { reads := [(mkLoc 0 0 0, { vol := 0, lba := 0, why := 0 })] }, chan := [(0, { recov := [{ loc := mkLoc 0 0 0, lclass := 3, samples := true, going := true }] })] }, 0, wRead, { loc := mkLoc 0 0 0, lclass := 3, samples := true, going := true }, { vol := 0, lba := 0, why := 0 }, by decide⟩,
    ⟨{ wFollow with med := { reads := [(mkLoc 0 0 0, { vol := 0, lba := 0, why := 0, slot := some 0 })] }, chan := [(0, { recov := [{ loc := mkLoc 0 0 0, lclass := 3, samples := true }] })], cmds := [(0, { fn := 0, sq := 1, entry := [], seq := 0, ts := 0, aborter := [1] })] }, 0, { loc := mkLoc 0 0 0, lclass := 3, samples := true }, { vol := 0, lba := 0, why := 0, slot := some 0 }, 0, { fn := 0, sq := 1, entry := [], seq := 0, ts := 0, aborter := [1] }, by decide⟩,
    ⟨{ wFollow with wr := [(mkLoc 0 0 0, { vol := 0, lba := 0, why := 0 })] }, 0, 0, 0, 0, false, { vol := 0, lba := 0, why := 0 }, by decide⟩,
    ⟨{ wFollow with wr := [(mkLoc 0 0 0, { vol := 0, lba := 0, why := 0, phase := 3 })] }, 0, 0, 0, 0, false, { vol := 0, lba := 0, why := 0, phase := 3 }, by decide⟩,
    ⟨wVerify, 0, 0, 0, 0, wRead, 0, { vol := 0, lba := 0, why := 0, phase := 1 }, by decide⟩,
    ⟨wLand, 0, 0, 0, wPiece, 0, { vol := 0, ext := 0, stored := true }, by decide⟩,
    ⟨{ wFollow with chan := [(0, { refresh := [(0, 0)] })] }, 0, 0, 0, [], by decide⟩,
    ⟨wMed, by decide⟩,
    ⟨(wMed.p SYS_BOOT_STAGE 3).p SYS_BOOT_MEDIA 3, [], by decide⟩⟩

theorem test_witness_QueueRegisterCommandsComplete :
    (∃ (s : State) (fn : Fin 16), (s.fnOpen fn) ∧ (s.gk MQP_CTL_EN fn = 0)) ∧
    (∃ (s : State) (fn : Fin 16) (e : Nat), (Tbl.find s.enEdge fn = some e) ∧ (s.fnOpen fn) ∧ (e + 2 ≤ s.clk.edges) ∧ (s.stopped = false)) ∧
    (∃ (s : State) (fn : Fin 16), (s.fnOpen fn) ∧ (s.gk MQP_CTL_EN fn = 1)) ∧
    (∃ (s : State) (fn : Fin 16), (s.fnOpen fn) ∧ (fn ≠ 0)) ∧
    (∃ (s : State), (s.barOpen)) ∧
    (∃ (s : State) (fn : Fin 16) (q : Fin 4096) (t : BitVec 32) (x : Sq), (s.fnOpen fn) ∧ (s.sq fn q = some x) ∧ (t.toNat < x.depth) ∧ (¬ (t.toNat + x.depth - x.head) % x.depth < (x.tail + x.depth - x.head) % x.depth)) ∧
    (∃ (s : State) (fn : Fin 16) (q : Fin 4096) (h : BitVec 32) (x : Cq), (s.fnOpen fn) ∧ (s.cq fn q = some x) ∧ (h.toNat < x.depth) ∧ (¬ (x.tail + x.depth - x.head) % x.depth < (h.toNat + x.depth - x.head) % x.depth)) ∧
    (∃ (s : State) (fn : Fin 16) (q : Fin 4096) (b : List Byte) (x : Sq), (s.fnOpen fn) ∧ (s.sq fn q = some x) ∧ (x.push) ∧ (b.length = 64) ∧ (¬ ((x.tail + 1) % x.depth + x.depth - x.head) % x.depth < (x.tail + x.depth - x.head) % x.depth)) ∧
    (∃ (s : State) (fn : Fin 16) (v : Fin 256), (s.fnOpen fn) ∧ ((s.msixAt fn v).pend) ∧ (s.msixFnMask.contains fn.val = false)) ∧
    (∃ (s : State) (fn : Fin 16), (s.fnOpen fn)) ∧
    (∃ (s : State) (fn : Fin 16) (q : Fin 4096) (x : Cq), (s.cq fn q = some x) ∧ (s.running) ∧ (0 < x.unsig) ∧ (0 < x.ctime) ∧ (x.oldest + x.ctime ≤ s.clk.tick) ∧ (x.vec ≠ 0xFFFF)) :=
  ⟨⟨wQ, 0, by decide⟩,
    ⟨{ wQ with enEdge := [(0, 7)] }, 0, 7, by decide⟩,
    ⟨wQ.pk MQP_CTL_EN 0 1, 0, by decide⟩,
    ⟨{ wQ with chart := { secs := [⟨0x60, 0, [2]⟩] } }, 1, by decide⟩,
    ⟨wQ, by decide⟩,
    ⟨wQ, 0, 1, 3, { depth := 16, cq := 1, push := true }, by decide⟩,
    ⟨wQ, 0, 1, 0, { depth := 16 }, by decide⟩,
    ⟨wQ, 0, 1, zeros 64, { depth := 16, cq := 1, push := true }, by decide⟩,
    ⟨{ wQ with msix := [(0, { pend := true })] }, 0, 0, by decide⟩,
    ⟨wQ, 0, by decide⟩,
    ⟨{ wQ with cqs := [(0, { unsig := 1, ctime := 1 })], clk := { wRun.clk with tick := 5 } }, 0, 0, { unsig := 1, ctime := 1 }, by decide⟩⟩

theorem test_witness_QueueFlowCommandsComplete :
    (∃ (s : State) (b : List Byte) (fn : Nat) (q : Nat) (v : List Nat) (burst slot : Nat) (x : Sq), (s.fetchNext = some (fn, q :: v, burst)) ∧ (s.running) ∧ (s.barOpen) ∧ (s.hostStopped = false) ∧ (s.sq fn q = some x) ∧ (s.freeSlot q = some slot) ∧ (q = 0) ∧ (Tbl.find x.buf x.head = none)) ∧
    (∃ (s : State) (fn : Fin 16) (q : Fin 4096) (x : Cq), (s.running) ∧ (s.barOpen) ∧ (s.hostStopped = false) ∧ (s.cq fn q = some x) ∧ (x.isFull = false)) ∧
    (∃ (s : State) (i : Nat) (c : Cmd), (s.cmd i = some c) ∧ (s.starts i c) ∧ (c.sq ≠ 0) ∧ (2 < c.opc)) ∧
    (∃ (s : State) (i : Nat) (c : Cmd), (s.cmd i = some c) ∧ (s.starts i c) ∧ (c.sq = 0) ∧ ((adminTable.any fun r => r.1 == c.opc) = false)) ∧
    (∃ (s : State) (fn : Fin 16) (q : Fin 4096) (x : Sq) (i : Nat), (s.sq fn q = some x) ∧ (s.running) ∧ (x.st = 3) ∧ ((s.inFlight fn q).isEmpty) ∧ (x.deleter = some i)) ∧
    (∃ (s : State) (i : Nat) (a : Bool) (c : Cmd), (s.cmd i = some c) ∧ (s.running) ∧ (c.phase = 0)) ∧
    (∃ (s : State) (a : Bool) (fn : Nat) (q : Nat) (v : List Nat) (burst slot : Nat) (x : Sq), (s.fetchNext = some (fn, q :: v, burst)) ∧ (s.running) ∧ (s.barOpen) ∧ (s.hostStopped = false) ∧ (s.sq fn q = some x) ∧ (s.freeSlot q = some slot) ∧ (q = 0) ∧ (Tbl.find x.buf x.head = none)) ∧
    (∃ (s : State) (i : Nat) (c : Cmd), (s.cmd i = some c) ∧ (s.running) ∧ (c.sq ≠ 0) ∧ (c.phase ≠ 3) ∧ (s.overdue i)) :=
  ⟨⟨{ (wQ.pk MQP_STS_RDY 0 1).pk MQP_CTL_EN 0 1 with sqs := [(0, { depth := 16, tail := 1 })] }, zeros 64, 0, 0, (wfetch).1, (wfetch).2, 32768, { depth := 16, tail := 1 }, by decide⟩,
    ⟨wQ, 0, 0, { depth := 16 }, by decide⟩,
    ⟨wCmd (wC 1 3 []), 0, wC 1 3 [], by decide⟩,
    ⟨wCmd (wC 0 0xFF []), 32768, wC 0 0xFF [], by decide⟩,
    ⟨{ wQ with sqs := [(1, { st := 3, deleter := some 32768 })] }, 0, 1, { st := 3, deleter := some 32768 }, 32768, by decide⟩,
    ⟨wCmd (wC 1 1 []), 0, false, wC 1 1 [], by decide⟩,
    ⟨{ (wQ.pk MQP_STS_RDY 0 1).pk MQP_CTL_EN 0 1 with sqs := [(0, { depth := 16, tail := 1 })] }, false, 0, 0, (wfetch).1, (wfetch).2, 32768, { depth := 16, tail := 1 }, by decide⟩,
    ⟨{ wCmd { wC 1 1 [] with dl := some 5 } with clk := { wRun.clk with tick := 9, edges := 10 } }, 0, { wC 1 1 [] with dl := some 5 }, by decide⟩⟩

theorem test_witness_IoCommandsComplete :
    (∃ (s : State) (i : Nat) (d : DescIn) (c : Cmd) (v : Nat) (l : List (Nat × Nat)), (s.cmd i = some c) ∧ (s.starts i c) ∧ (c.sq ≠ 0) ∧ (c.opc = 1) ∧ (s.testBlocks c = false) ∧ (s.rwCheck c true = none) ∧ (volCode c.vol = some v) ∧ (v < 64) ∧ (c.dptr d = .segs l) ∧ (segSum l = 4112 * c.nlb)) ∧
    (∃ (s : State) (i : Nat) (d : DescIn) (c : Cmd) (v : Nat) (l : List (Nat × Nat)), (s.cmd i = some c) ∧ (s.starts i c) ∧ (c.sq ≠ 0) ∧ (c.opc = 2) ∧ (s.testBlocks c = false) ∧ (s.rwCheck c false = none) ∧ (volCode c.vol = some v) ∧ (v < 64) ∧ (c.dptr d = .segs l) ∧ (segSum l = 4112 * c.nlb)) ∧
    (∃ (s : State) (i : Nat) (c : Cmd), (s.cmd i = some c) ∧ (s.starts i c) ∧ (c.sq ≠ 0) ∧ (c.opc = 0) ∧ (s.testBlocks c = false) ∧ (c.reserved [] = false) ∧ (c.badDeadline = false) ∧ (c.vol = 0xFFFF) ∧ (c.noData)) ∧
    (∃ (s : State) (i : Nat) (c : Cmd), (s.cmd i = some c) ∧ (s.running) ∧ (c.sq ≠ 0) ∧ (c.opc = 0) ∧ (c.phase = 2) ∧ (s.flushed c)) ∧
    (∃ (s : State) (i : Nat) (b : List Byte) (c : Cmd) (v : Nat), (s.cmd i = some c) ∧ (volCode c.vol = some v) ∧ (s.running) ∧ (s.hostStopped = false) ∧ (c.sq ≠ 0) ∧ (c.opc = 1) ∧ (c.phase = 2) ∧ (c.cut = false) ∧ (c.moved < c.nlb) ∧ (s.stagingRoom) ∧ (c.chainShort c.moved = none)) ∧
    (∃ (s : State) (l : Lock), (lowestReq s.locks.reqs = some l) ∧ (s.running) ∧ (s.locks.room l) ∧ (s.locks.queue.isEmpty) ∧ ((s.locks.table.any fun b => b.conflicts l) = false) ∧ (({ s with locks := { s.locks with reqs := s.locks.reqs.erase l, table := s.locks.table ++ [l] } } : State).lockLate l = false)) ∧
    (∃ (s : State) (l : Lock), (lowestReq s.locks.reqs = some l) ∧ (s.running) ∧ (s.locks.room l) ∧ (s.locks.queue.isEmpty) ∧ ((s.locks.table.any fun b => b.conflicts l) = true)) ∧
    (∃ (s : State) (l : Lock), (grantable [] s.locks.table = some l) ∧ (s.running) ∧ (s.lockLate l = false)) ∧
    (∃ (s : State) (w k : Nat) (r : List Nat) (p : OPiece), (s.slabWait = w :: r) ∧ (s.freeSlab = some k) ∧ (w < 2 ^ 32) ∧ (Tbl.find s.pieces w = some p) ∧ ((({ s with slabWait := r, poolFull := !r.isEmpty } : State).modPiece w fun p => { p with wantSlab := false }).slabOf false p.vol p.ext = none)) ∧
    (∃ (s : State) (v : Fin 80), (s.running) ∧ (s.hasKey v)) :=
  ⟨⟨wCmd (wC 1 1 [(1, 1, 1), (24, 4, 4112)]), 0, {}, wC 1 1 [(1, 1, 1), (24, 4, 4112)], 0, [(0, 4112)], by decide⟩,
    ⟨wCmd (wC 1 2 [(1, 1, 1), (24, 4, 4112)]), 0, {}, wC 1 2 [(1, 1, 1), (24, 4, 4112)], 0, [(0, 4112)], by decide⟩,
    ⟨wCmd (wC 1 0 [(4, 2, 0xFFFF)]), 0, wC 1 0 [(4, 2, 0xFFFF)], by decide⟩,
    ⟨wCmd { wC 1 0 [(4, 2, 0xFFFF)] with phase := 2 }, 0, { wC 1 0 [(4, 2, 0xFFFF)] with phase := 2 }, by decide⟩,
    ⟨wCmd { wC 1 1 [] with phase := 2 }, 0, [], { wC 1 1 [] with phase := 2 }, 0, by decide⟩,
    ⟨{ wRun with locks := { reqs := [{ vol := 0, lba := 0, n := 1, excl := true, req := 20, who := .refresh 0 }] } }, { vol := 0, lba := 0, n := 1, excl := true, req := 20, who := .refresh 0 }, by decide⟩,
    ⟨{ wRun with locks := { table := [{ vol := 0, lba := 0, n := 1, excl := true, req := 20, who := .refresh 0 }], reqs := [{ vol := 0, lba := 0, n := 1, excl := true, req := 20, who := .refresh 0 }] } }, { vol := 0, lba := 0, n := 1, excl := true, req := 20, who := .refresh 0 }, by decide⟩,
    ⟨{ wRun with locks := { table := [{ vol := 0, lba := 0, n := 1, excl := true, req := 20, who := .refresh 0 }] } }, { vol := 0, lba := 0, n := 1, excl := true, req := 20, who := .refresh 0 }, by decide⟩,
    ⟨{ wRun with chart := { secs := [⟨0x51, 0, [0, 0, 0, 0, 4, 0, 0, 0]⟩] }, slabWait := [0], pieces := [(0, { vol := 0, lba := 0, n := 1, modes := 0, slot := none })] }, 0, 0, [], { vol := 0, lba := 0, n := 1, modes := 0, slot := none }, by decide⟩,
    ⟨{ wRun with keys := [(0, [])] }, 0, by decide⟩⟩

theorem test_witness_AdminQueueCommandsComplete :
    (∃ (s : State) (i : Nat) (c : Cmd) (x : Sq), (s.adminRuns i 0 c [(32, 2)]) ∧ (s.sq c.fn (c.le 32 2) = some x) ∧ ((s.badQid c (c.le 32 2)) = false) ∧ (c.noData)) ∧
    (∃ (s : State) (i : Nat) (c : Cmd), (s.adminRuns i 1 c [(32, 7), (40, 12)]) ∧ ((decide (2 ≤ c.le 38 1)) = false) ∧ ((s.badQid c (c.le 32 2)) = false) ∧ (((s.sq c.fn (c.le 32 2)).isSome) = false) ∧ ((c.le 34 2 == 0) = false) ∧ ((c.le 40 8 % 4096 != 0 || (decide (1 ≤ c.le 48 4) && decide (c.le 48 4 < 250))) = false) ∧ ((c.le 36 2 == 0 || (s.cq c.fn (c.le 36 2)).isNone) = false) ∧ (c.noData)) ∧
    (∃ (s : State) (i : Nat) (c : Cmd), (s.adminRuns i 4 c [(32, 2)]) ∧ ((s.badQid c (c.le 32 2) || (s.cq c.fn (c.le 32 2)).isNone) = false) ∧ ((s.sqs.any fun e => e.1 / 65536 == c.fn && e.1 % 65536 != 0 && e.2.cq == c.le 32 2) = false) ∧ (c.noData)) ∧
    (∃ (s : State) (i : Nat) (c : Cmd), (s.adminRuns i 5 c [(32, 16)]) ∧ ((s.badQid c (c.le 32 2)) = false) ∧ (((s.cq c.fn (c.le 32 2)).isSome) = false) ∧ ((c.le 34 2 == 0) = false) ∧ ((c.le 40 8 % 4096 != 0) = false) ∧ ((c.le 36 2 != 0xFFFF && decide (s.gk MQP_CAP_VECN c.fn ≤ c.le 36 2)) = false) ∧ (c.noData)) ∧
    (∃ (s : State) (i : Nat) (c : Cmd), (s.adminRuns i 8 c [(32, 4)]) ∧ (((s.begun i c).inFlight c.fn (c.le 32 2)).find? (fun e => e.2.cid == c.le 34 2 && e.1 != i) = none) ∧ ((decide (s.gk MQP_CAP_QMAX c.fn < c.le 32 2) || (s.sq c.fn (c.le 32 2)).isNone) = false) ∧ (c.noData)) ∧
    (∃ (s : State) (i : Nat) (c : Cmd) (j : Nat) (u : Cmd), (s.adminRuns i 8 c [(32, 4)]) ∧ (((s.begun i c).inFlight c.fn (c.le 32 2)).find? (fun e => e.2.cid == c.le 34 2 && e.1 != i) = some (j, u)) ∧ (abortOutcome u = 0) ∧ ((decide (s.gk MQP_CAP_QMAX c.fn < c.le 32 2) || (s.sq c.fn (c.le 32 2)).isNone) = false) ∧ (c.noData)) ∧
    (∃ (s : State) (i : Nat) (c : Cmd), (s.adminRuns i 9 c [(32, 3)]) ∧ (c.le 34 1 = 0) ∧ ((s.badQid c (c.le 32 2)) = false) ∧ ((!s.sqFrozen c.fn (c.le 32 2)) = false) ∧ ((s.unsettled c.fn (c.le 32 2)) = false) ∧ (c.noData)) ∧
    (∃ (s : State) (i : Nat) (c : Cmd), (s.adminRuns i 9 c [(32, 3)]) ∧ (c.le 34 1 = 1) ∧ ((s.badQid c (c.le 32 2)) = false) ∧ ((!s.sqFrozen c.fn (c.le 32 2)) = false) ∧ ((s.unsettled c.fn (c.le 32 2)) = false) ∧ (c.noData)) ∧
    (∃ (s : State) (fn : Fin 16), (s.fnOpen fn) ∧ (s.sqFrozen fn 0) ∧ (s.unsettled fn 0 = false)) :=
  ⟨⟨wAdm (wA 0 [(32, 2, 1)]), 32768, (wA 0 [(32, 2, 1)]), { depth := 16, cq := 1 }, by decide⟩,
    ⟨wAdm (wA 1 [(32, 2, 2), (34, 2, 15), (36, 2, 2)]), 32768, (wA 1 [(32, 2, 2), (34, 2, 15), (36, 2, 2)]), by decide⟩,
    ⟨wAdm (wA 4 [(32, 2, 2)]), 32768, (wA 4 [(32, 2, 2)]), by decide⟩,
    ⟨wAdm (wA 5 [(32, 2, 3), (34, 2, 15)]), 32768, (wA 5 [(32, 2, 3), (34, 2, 15)]), by decide⟩,
    ⟨wAdm (wA 8 [(32, 2, 1), (34, 2, 7)]), 32768, (wA 8 [(32, 2, 1), (34, 2, 7)]), by decide⟩,
    ⟨{ wAdm (wA 8 [(32, 2, 1), (34, 2, 7)]) with cmds := [(0, wC 1 2 [(2, 2, 7)]), (32768, wA 8 [(32, 2, 1), (34, 2, 7)])] }, 32768, (wA 8 [(32, 2, 1), (34, 2, 7)]), 0, wC 1 2 [(2, 2, 7)], by decide⟩,
    ⟨{ wAdm (wA 9 [(32, 2, 1), (34, 1, 0)]) with sqs := [(0, {}), (1, { st := 2 })] }, 32768, (wA 9 [(32, 2, 1), (34, 1, 0)]), by decide⟩,
    ⟨{ wAdm (wA 9 [(32, 2, 1), (34, 1, 1)]) with sqs := [(0, {}), (1, { st := 2 })] }, 32768, (wA 9 [(32, 2, 1), (34, 1, 1)]), by decide⟩,
    ⟨{ wQ with sqs := [(0, { st := 2 })] }, 0, by decide⟩⟩

theorem test_witness_IdentifyAndLogCommandsComplete :
    (∃ (s : State) (i : Nat) (c : Cmd) (d : DescIn) (l : List (Nat × Nat)), (s.adminRuns i 6 c [(32, 1)]) ∧ (c.le 32 1 = 0) ∧ (c.dkind = 1) ∧ (c.dptr d = .segs l) ∧ (segSum l = 4096)) ∧
    (∃ (s : State) (i : Nat) (c : Cmd) (d : DescIn) (l : List (Nat × Nat)), (s.adminRuns i 6 c [(32, 1)]) ∧ (c.le 32 1 = 1) ∧ (c.dkind = 1) ∧ (c.dptr d = .segs l) ∧ (segSum l = 4096)) ∧
    (∃ (s : State) (i : Nat) (c : Cmd) (d : DescIn) (l : List (Nat × Nat)), (s.adminRuns i 6 c [(32, 1)]) ∧ (c.le 32 1 = 2) ∧ ((s.volUnknown c.vol) = false) ∧ (c.dkind = 1) ∧ (c.dptr d = .segs l) ∧ (segSum l = 4096)) ∧
    (∃ (s : State) (i : Nat) (c : Cmd) (d : DescIn) (l : List (Nat × Nat)), (s.adminRuns i 2 c [(32, 8)]) ∧ (c.le 32 1 = 1) ∧ (((s.sq c.fn c.lsp).isNone) = false) ∧ (c.le 33 1 < 2) ∧ (c.off % 4 = 0) ∧ (c.clear = false) ∧ (c.dptr d = .segs l) ∧ (segSum l % 4 = 0) ∧ (segSum l ≤ 2 ^ 20)) ∧
    (∃ (s : State) (i : Nat) (c : Cmd) (d : DescIn) (l : List (Nat × Nat)), (s.adminRuns i 2 c [(32, 8)]) ∧ (c.le 32 1 = 2) ∧ ((c.lsp != 0) = false) ∧ (c.le 33 1 < 2) ∧ (c.off % 4 = 0) ∧ (c.clear = false) ∧ (c.dptr d = .segs l) ∧ (segSum l % 4 = 0) ∧ (segSum l ≤ 2 ^ 20)) ∧
    (∃ (s : State) (i : Nat) (c : Cmd) (d : DescIn) (l : List (Nat × Nat)), (s.adminRuns i 2 c [(32, 8)]) ∧ (c.le 32 1 = 2) ∧ ((c.lsp != 0) = false) ∧ (c.le 33 1 < 2) ∧ (c.off % 4 = 0) ∧ (c.clear = true) ∧ (c.dptr d = .segs l) ∧ (segSum l % 4 = 0) ∧ (segSum l ≤ 2 ^ 20) ∧ (c.fn = 0) ∧ (c.off = 0) ∧ (s.lostPage.length ≤ c.asked d)) ∧
    (∃ (s : State) (i : Nat) (c : Cmd) (d : DescIn) (l : List (Nat × Nat)), (s.adminRuns i 2 c [(32, 8)]) ∧ (c.le 32 1 = 3) ∧ ((c.lsp != 0) = false) ∧ (c.le 33 1 < 2) ∧ (c.off % 4 = 0) ∧ (c.clear = false) ∧ (c.dptr d = .segs l) ∧ (segSum l % 4 = 0) ∧ (segSum l ≤ 2 ^ 20)) ∧
    (∃ (s : State) (i : Nat) (c : Cmd) (d : DescIn) (l : List (Nat × Nat)), (s.adminRuns i 2 c [(32, 8)]) ∧ (c.le 32 1 = 4) ∧ ((s.volUnknown c.lsp) = false) ∧ ((s.volHidden c.fn ((volCode c.lsp).getD 0)) = false) ∧ (c.le 33 1 < 2) ∧ (c.off % 4 = 0) ∧ (c.clear = false) ∧ (c.dptr d = .segs l) ∧ (segSum l % 4 = 0) ∧ (segSum l ≤ 2 ^ 20)) ∧
    (∃ (s : State) (i : Nat) (c : Cmd) (d : DescIn) (l : List (Nat × Nat)), (s.adminRuns i 2 c [(32, 8)]) ∧ (c.le 32 1 = 16) ∧ ((c.lsp != 0) = false) ∧ (c.le 33 1 < 2) ∧ (c.off % 4 = 0) ∧ (c.clear = false) ∧ (c.dptr d = .segs l) ∧ (segSum l % 4 = 0) ∧ (segSum l ≤ 2 ^ 20)) ∧
    (∃ (s : State) (i : Nat) (c : Cmd) (d : DescIn) (l : List (Nat × Nat)), (s.adminRuns i 2 c [(32, 8)]) ∧ (c.le 32 1 = 17) ∧ ((decide (496 ≤ c.lsp)) = false) ∧ (c.le 33 1 < 2) ∧ (c.off % 4 = 0) ∧ (c.clear = false) ∧ (c.dptr d = .segs l) ∧ (segSum l % 4 = 0) ∧ (segSum l ≤ 2 ^ 20)) ∧
    (∃ (s : State) (i : Nat) (c : Cmd) (d : DescIn) (l : List (Nat × Nat)), (s.adminRuns i 2 c [(32, 8)]) ∧ (c.le 32 1 = 18) ∧ ((decide (s.nHist ≤ c.lsp % 128) || c.lsp / 128 % 256 != 0) = false) ∧ (c.le 33 1 < 2) ∧ (c.off % 4 = 0) ∧ (c.clear = false) ∧ (c.dptr d = .segs l) ∧ (segSum l % 4 = 0) ∧ (segSum l ≤ 2 ^ 20)) ∧
    (∃ (s : State) (i : Nat) (c : Cmd) (d : DescIn) (l : List (Nat × Nat)), (s.adminRuns i 2 c [(32, 8)]) ∧ (c.le 32 1 = 19) ∧ ((decide (s.nExt ≤ c.lsp % 128) || c.lsp / 128 != 0) = false) ∧ (c.le 33 1 < 2) ∧ (c.off % 4 = 0) ∧ (c.clear = false) ∧ (c.dptr d = .segs l) ∧ (segSum l % 4 = 0) ∧ (segSum l ≤ 2 ^ 20)) :=
  ⟨⟨wAdm (wA 6 [(1, 1, 1), (24, 4, 4096), (32, 1, 0)]), 32768, (wA 6 [(1, 1, 1), (24, 4, 4096), (32, 1, 0)]), {}, [(0, 4096)], by decide⟩,
    ⟨wAdm (wA 6 [(1, 1, 1), (24, 4, 4096), (32, 1, 1)]), 32768, (wA 6 [(1, 1, 1), (24, 4, 4096), (32, 1, 1)]), {}, [(0, 4096)], by decide⟩,
    ⟨wAdm (wA 6 [(1, 1, 1), (24, 4, 4096), (32, 1, 2)]), 32768, (wA 6 [(1, 1, 1), (24, 4, 4096), (32, 1, 2)]), {}, [(0, 4096)], by decide⟩,
    ⟨wAdm (wA 2 [(1, 1, 1), (24, 4, 128), (32, 1, 1), (34, 2, 1)]), 32768, (wA 2 [(1, 1, 1), (24, 4, 128), (32, 1, 1), (34, 2, 1)]), {}, [(0, 128)], by decide⟩,
    ⟨wAdm (wA 2 [(1, 1, 1), (24, 4, 128), (32, 1, 2)]), 32768, (wA 2 [(1, 1, 1), (24, 4, 128), (32, 1, 2)]), {}, [(0, 128)], by decide⟩,
    ⟨wAdm (wA 2 [(1, 1, 1), (24, 4, 128), (32, 1, 2), (33, 1, 1)]), 32768, (wA 2 [(1, 1, 1), (24, 4, 128), (32, 1, 2), (33, 1, 1)]), {}, [(0, 128)], by decide⟩,
    ⟨wAdm (wA 2 [(1, 1, 1), (24, 4, 128), (32, 1, 3)]), 32768, (wA 2 [(1, 1, 1), (24, 4, 128), (32, 1, 3)]), {}, [(0, 128)], by decide⟩,
    ⟨wAdm (wA 2 [(1, 1, 1), (24, 4, 128), (32, 1, 4)]), 32768, (wA 2 [(1, 1, 1), (24, 4, 128), (32, 1, 4)]), {}, [(0, 128)], by decide⟩,
    ⟨wAdm (wA 2 [(1, 1, 1), (24, 4, 128), (32, 1, 16)]), 32768, (wA 2 [(1, 1, 1), (24, 4, 128), (32, 1, 16)]), {}, [(0, 128)], by decide⟩,
    ⟨wAdm (wA 2 [(1, 1, 1), (24, 4, 128), (32, 1, 17)]), 32768, (wA 2 [(1, 1, 1), (24, 4, 128), (32, 1, 17)]), {}, [(0, 128)], by decide⟩,
    ⟨wAdm (wA 2 [(1, 1, 1), (24, 4, 128), (32, 1, 18)]), 32768, (wA 2 [(1, 1, 1), (24, 4, 128), (32, 1, 18)]), {}, [(0, 128)], by decide⟩,
    ⟨wAdm (wA 2 [(1, 1, 1), (24, 4, 128), (32, 1, 19)]), 32768, (wA 2 [(1, 1, 1), (24, 4, 128), (32, 1, 19)]), {}, [(0, 128)], by decide⟩⟩

theorem test_witness_ChartAndTunableCommandsComplete :
    (∃ (s : State) (i : Nat) (c : Cmd) (d : DescIn) (b : List Byte) (l : List (Nat × Nat)), (s.adminRuns i 0x20 c [(32, 4)]) ∧ ((c.le 32 4 != 0 && (s.g CHT_UPD_STATE != 1 || c.le 32 4 != s.g CHT_UPDOFF)) = false) ∧ (c.dptr d = .segs l) ∧ (256 ≤ segSum l) ∧ (segSum l ≤ 1048576) ∧ (segSum l % 256 = 0) ∧ (c.le 32 4 + segSum l ≤ 0x1000000)) ∧
    (∃ (s : State) (i : Nat) (c : Cmd), (s.adminRuns i 0x21 c []) ∧ ((s.g CHT_UPD_STATE != 1) = false) ∧ (c.noData)) ∧
    (∃ (s : State) (i : Nat) (c : Cmd), (s.adminRuns i 0x0A c [(32, 5), (40, 8)]) ∧ ((decide (2 ≤ c.le 36 1) || badSubset c) = false) ∧ ((s.tunUnknown c true) = false) ∧ ((c.tunIns != 0xFFFF && s.tunNoVol c.tunId c.tunIns) = false) ∧ (c.noData)) ∧
    (∃ (s : State) (i : Nat) (c : Cmd) (l : List (Nat × Nat)), (s.adminRuns i 0x0B c [(32, 5), (40, 8)]) ∧ ((c.le 36 1 != 0 || s.tunUnknown c false) = false) ∧ ((s.tunNoVol c.tunId c.tunIns) = false) ∧ ((c.dkind != 1) = false) ∧ (c.dptr {} = .segs l) ∧ (segSum l = 32)) :=
  ⟨⟨wAdm (wA 0x20 [(1, 1, 1), (24, 4, 256)]), 32768, (wA 0x20 [(1, 1, 1), (24, 4, 256)]), {}, [], [(0, 256)], by decide⟩,
    ⟨(wAdm (wA 0x21 [])).p CHT_UPD_STATE 1, 32768, (wA 0x21 []), by decide⟩,
    ⟨wAdm (wA 0x0A [(32, 2, 1)]), 32768, (wA 0x0A [(32, 2, 1)]), by decide⟩,
    ⟨wAdm (wA 0x0B [(1, 1, 1), (24, 4, 32), (32, 2, 1)]), 32768, (wA 0x0B [(1, 1, 1), (24, 4, 32), (32, 2, 1)]), [(0, 32)], by decide⟩⟩

theorem test_witness_VolumeAndKeyCommandsComplete :
    (∃ (s : State) (i : Nat) (c : Cmd), (s.adminRuns i 0x10 c ([(32, 4)] ++ [(40, 8)])) ∧ (c.action = 0) ∧ ((decide (64 ≤ c.vol)) = false) ∧ ((badModes c.vmodes || c.badCap) = false) ∧ (((s.volAt c.vol).isSome) = false) ∧ ((decide (s.forReserve < c.capExt)) = false) ∧ (c.noData) ∧ (firstFail (s.modeChecks c.vmodes s.hasTwin) = none)) ∧
    (∃ (s : State) (i : Nat) (c : Cmd), (s.adminRuns i 0x10 c ([(32, 4)] ++ [])) ∧ (c.action = 1) ∧ ((decide (64 ≤ c.vol)) = false) ∧ (((s.volAt c.vol).isNone) = false) ∧ ((s.volBusy c.vol i) = false) ∧ (c.noData)) ∧
    (∃ (s : State) (i : Nat) (c : Cmd), (s.adminRuns i 0x10 c ([(32, 4)] ++ [(40, 8)])) ∧ (c.action = 2) ∧ ((decide (64 ≤ c.vol)) = false) ∧ (((s.volAt c.vol).isNone) = false) ∧ ((c.badCap || decide (c.capExt ≤ s.capOf c.vol)) = false) ∧ ((decide (s.forReserve < c.capExt - s.capOf c.vol)) = false) ∧ (c.noData)) ∧
    (∃ (s : State) (i : Nat) (c : Cmd), (s.adminRuns i 0x10 c ([(32, 4)] ++ [])) ∧ (c.action = 3) ∧ ((decide (64 ≤ c.vol)) = false) ∧ (((s.volAt c.vol).isNone) = false) ∧ ((badModes c.vmodes || encOf c.vmodes != encOf (s.modesOf c.vol)) = false) ∧ (c.noData) ∧ (firstFail (s.modeChecks c.vmodes s.hasTwin) = none)) ∧
    (∃ (s : State) (i : Nat) (c : Cmd), (s.adminRuns i 0x11 c [(32, 4)]) ∧ (c.action = 0) ∧ ((decide (c.vol < 64)) = false) ∧ ((s.volUnknown c.vol) = false) ∧ ((badModes c.vmodes || (s.attachedOn c.spanCode && encOf c.vmodes != encOf (s.modesOf c.spanCode))) = false) ∧ ((!s.spanMember (c.spanCode - 64) || s.g SYS_BOOT_FAB == 6) = false) ∧ (c.noData) ∧ (firstFail (s.modeChecks c.vmodes (s.spanTwinned (c.spanCode - 64))) = none)) ∧
    (∃ (s : State) (i : Nat) (c : Cmd), (s.adminRuns i 0x11 c [(32, 4)]) ∧ (c.action = 1) ∧ ((decide (c.vol < 64)) = false) ∧ ((s.volUnknown c.vol) = false) ∧ ((!s.attachedOn c.spanCode) = false) ∧ ((s.cmds.any fun e => e.2.sq != 0 && volCode e.2.vol == some c.spanCode) = false) ∧ (c.noData)) ∧
    (∃ (s : State) (i : Nat) (c : Cmd), (s.adminRuns i 0x11 c [(32, 4)]) ∧ (c.action = 2) ∧ ((decide (c.vol < 64)) = false) ∧ ((s.volUnknown c.vol) = false) ∧ ((!s.attachedOn c.spanCode) = false) ∧ ((badModes c.vmodes || encOf c.vmodes != encOf (s.modesOf c.spanCode)) = false) ∧ (c.noData) ∧ (firstFail (s.modeChecks c.vmodes (s.spanTwinned (c.spanCode - 64))) = none)) ∧
    (∃ (s : State) (i : Nat) (c : Cmd) (b : List Byte) (l : List (Nat × Nat)), (s.adminRuns i 0x14 c [(32, 4)]) ∧ ((s.volUnknown c.vol) = false) ∧ ((!s.hasEnc ((volCode c.vol).getD 0)) = false) ∧ ((c.dkind != 1) = false) ∧ (c.dptr {} = .segs l) ∧ (segSum l = 64)) ∧
    (∃ (s : State) (i : Nat) (c : Cmd), (s.adminRuns i 0x15 c []) ∧ ((s.volUnknown c.vol) = false) ∧ ((s.cmds.any fun e => e.2.sq != 0 && (volCode e.2.vol).isSome && volCode e.2.vol == volCode c.vol) = false) ∧ (c.noData)) :=
  ⟨⟨wAdm (wA 0x10 [(32, 1, 0), (4, 2, 1), (33, 1, 1), (34, 2, 1), (40, 8, 1)]), 32768, (wA 0x10 [(32, 1, 0), (4, 2, 1), (33, 1, 1), (34, 2, 1), (40, 8, 1)]), by decide⟩,
    ⟨wAdm (wA 0x10 [(32, 1, 1)]), 32768, (wA 0x10 [(32, 1, 1)]), by decide⟩,
    ⟨wAdm (wA 0x10 [(32, 1, 2), (40, 8, 2)]), 32768, (wA 0x10 [(32, 1, 2), (40, 8, 2)]), by decide⟩,
    ⟨wAdm (wA 0x10 [(32, 1, 3), (33, 1, 1), (34, 2, 1)]), 32768, (wA 0x10 [(32, 1, 3), (33, 1, 1), (34, 2, 1)]), by decide⟩,
    ⟨(wSpan (wA 0x11 [(4, 2, 0x8000), (32, 1, 0), (33, 1, 17), (34, 2, 1)])).p SYS_BOOT_FAB 5, 32768, (wA 0x11 [(4, 2, 0x8000), (32, 1, 0), (33, 1, 17), (34, 2, 1)]), by decide⟩,
    ⟨(wSpan (wA 0x11 [(4, 2, 0x8000), (32, 1, 1)])).p SYS_BOOT_FAB 5, 32768, (wA 0x11 [(4, 2, 0x8000), (32, 1, 1)]), by decide⟩,
    ⟨(wSpan (wA 0x11 [(4, 2, 0x8000), (32, 1, 2), (33, 1, 17), (34, 2, 1)])).p SYS_BOOT_FAB 5, 32768, (wA 0x11 [(4, 2, 0x8000), (32, 1, 2), (33, 1, 17), (34, 2, 1)]), by decide⟩,
    ⟨wSpan (wA 0x14 [(1, 1, 1), (4, 2, 0x8000), (24, 4, 64)]), 32768, (wA 0x14 [(1, 1, 1), (4, 2, 0x8000), (24, 4, 64)]), [], [(0, 64)], by decide⟩,
    ⟨wAdm (wA 0x15 []), 32768, (wA 0x15 []), by decide⟩⟩

theorem test_witness_PowerAndTestCommandsComplete :
    (∃ (s : State) (i : Nat) (c : Cmd), (s.adminRuns i 0x18 c [(32, 1)]) ∧ (c.le 32 1 = 0) ∧ (c.noData)) ∧
    (∃ (s : State) (i : Nat) (c : Cmd), (s.adminRuns i 0x18 c [(32, 1)]) ∧ (c.le 32 1 = 2) ∧ (c.noData)) ∧
    (∃ (s : State) (i : Nat) (c : Cmd), (s.adminRuns i 0x18 c [(32, 1)]) ∧ (c.le 32 1 = 3) ∧ (c.noData)) ∧
    (∃ (s : State) (i : Nat) (c : Cmd), (s.adminRuns i 0x19 c []) ∧ (c.noData)) ∧
    (∃ (s : State) (i : Nat) (c : Cmd), (s.adminRuns i 0x1C c [(32, 2)]) ∧ (c.test = 0x01) ∧ (c.actmask ≠ 0) ∧ ((decide (2 ^ s.nAct ≤ c.actmask)) = false) ∧ ((s.testMasked c.test) = false) ∧ (c.noData)) ∧
    (∃ (s : State) (i : Nat) (c : Cmd), (s.adminRuns i 0x1C c [(32, 2)]) ∧ (c.test = 0x02) ∧ (c.actmask ≠ 0) ∧ ((decide (2 ^ s.nAct ≤ c.actmask)) = false) ∧ ((s.testMasked c.test) = false) ∧ (c.noData)) ∧
    (∃ (s : State) (i : Nat) (c : Cmd), (s.adminRuns i 0x1C c [(32, 2)]) ∧ (c.test = 0x10) ∧ (c.actmask ≠ 0) ∧ ((decide (2 ^ s.nAct ≤ c.actmask)) = false) ∧ ((s.testMasked c.test) = false) ∧ ((!s.quiesced c.actmask) = false) ∧ (c.noData)) ∧
    (∃ (s : State) (i : Nat) (c : Cmd), (s.adminRuns i 0x1C c [(32, 2)]) ∧ (c.test = 0x11) ∧ (c.actmask ≠ 0) ∧ ((decide (2 ^ s.nAct ≤ c.actmask)) = false) ∧ ((s.testMasked c.test) = false) ∧ ((!s.quiesced c.actmask) = false) ∧ (c.noData)) ∧
    (∃ (s : State) (i : Nat) (c : Cmd), (s.adminRuns i 0x1C c [(32, 2)]) ∧ (c.test = 0x12) ∧ (c.actmask ≠ 0) ∧ ((decide (2 ^ s.nAct ≤ c.actmask)) = false) ∧ ((s.testMasked c.test) = false) ∧ ((!s.quiesced c.actmask) = false) ∧ (c.noData)) ∧
    (∃ (s : State) (i : Nat) (c : Cmd), (s.adminRuns i 0x1C c [(32, 2)]) ∧ (c.test = 0x20) ∧ (c.actmask = 0) ∧ ((decide (2 ^ s.nAct ≤ c.actmask)) = false) ∧ ((s.testMasked c.test) = false) ∧ (c.noData)) ∧
    (∃ (s : State) (n : Nat) (r : TestRun), (s.tst.run = some r) ∧ (s.running) ∧ (s.sliceOn r.mask = false) ∧ (r.abort ∨ s.testDone r)) ∧
    (∃ (s : State) (h : Fin 20) (b : Bool), (s.sliceMay h b)) ∧
    (∃ (s : State) (k : Fin 4) (d : Int) (x : Slice), ((s.chn k).slice = some x) ∧ (s.running) ∧ (x.kind = 2)) ∧
    (∃ (s : State) (k : Fin 4) (x : Slice) (t : Touch) (r : Option Nat), ((s.chn k).slice = some x) ∧ (s.running) ∧ (x.kind = 1) ∧ ((s.chn k).touch = some t) ∧ (t.ended = some r) ∧ (t.again = false)) ∧
    (∃ (s : State) (k : Fin 4) (x : Slice), ((s.chn k).slice = some x) ∧ (s.running) ∧ (x.kind = 3) ∧ (x.start + 500 ≤ s.clk.edges)) :=
  ⟨⟨wAdm (wA 0x18 [(32, 1, 0)]), 32768, (wA 0x18 [(32, 1, 0)]), by decide⟩,
    ⟨wAdm (wA 0x18 [(32, 1, 2)]), 32768, (wA 0x18 [(32, 1, 2)]), by decide⟩,
    ⟨wAdm (wA 0x18 [(32, 1, 3)]), 32768, (wA 0x18 [(32, 1, 3)]), by decide⟩,
    ⟨wAdm (wA 0x19 []), 32768, (wA 0x19 []), by decide⟩,
    ⟨wAdm (wA 0x1C [(32, 1, 1), (33, 1, 1)]), 32768, (wA 0x1C [(32, 1, 1), (33, 1, 1)]), by decide⟩,
    ⟨wAdm (wA 0x1C [(32, 1, 2), (33, 1, 1)]), 32768, (wA 0x1C [(32, 1, 2), (33, 1, 1)]), by decide⟩,
    ⟨wAdm (wA 0x1C [(32, 1, 16), (33, 1, 1)]), 32768, (wA 0x1C [(32, 1, 16), (33, 1, 1)]), by decide⟩,
    ⟨wAdm (wA 0x1C [(32, 1, 17), (33, 1, 1)]), 32768, (wA 0x1C [(32, 1, 17), (33, 1, 1)]), by decide⟩,
    ⟨wAdm (wA 0x1C [(32, 1, 18), (33, 1, 1)]), 32768, (wA 0x1C [(32, 1, 18), (33, 1, 1)]), by decide⟩,
    ⟨wAdm (wA 0x1C [(32, 1, 32)]), 32768, (wA 0x1C [(32, 1, 32)]), by decide⟩,
    ⟨{ wRun with tst := { run := some wRun1 } }, 0, wRun1, by decide⟩,
    ⟨{ wHd { tdDue := some 0 } with acts := [(0, {})] }, 0, false, by decide⟩,
    ⟨wChn { slice := some { start := 0, head := 0, kind := 2 } }, 0, 0, { start := 0, head := 0, kind := 2 }, by decide⟩,
    ⟨wChn { slice := some { start := 0, head := 0, kind := 1 }, touch := some { head := 0, htr := 0, edge := 0, ended := some none } }, 0, { start := 0, head := 0, kind := 1 }, { head := 0, htr := 0, edge := 0, ended := some none }, none, by decide⟩,
    ⟨wChn { slice := some { start := 0, head := 0, kind := 3 } }, 0, { start := 0, head := 0, kind := 3 }, by decide⟩⟩

theorem test_witness_FabricPortCommandsComplete :
    (∃ (s : State) (p : Fin 4) (f : FlitIn), (s.running) ∧ (s.portUp p) ∧ (f.decoded) ∧ (f.fcrc)) ∧
    (∃ (s : State) (p : Fin 4) (f : FlitIn), (s.running) ∧ (s.portUp p) ∧ (f.decoded = false) ∧ (f.idle = false)) ∧
    (∃ (s : State) (p : Fin 4) (c : Fin 5), (s.running) ∧ (s.linkDead p c)) ∧
    (∃ (s : State) (p : Fin 4), (s.running) ∧ (s.pwr.loss.isNone) ∧ (s.g SYS_BOOT_STAGE = 3 ∨ s.g SYS_BOOT_STAGE = 4) ∧ (1 ≤ s.g SYS_BOOT_FAB) ∧ (s.portOn p) ∧ (s.gk FAB_PSTAT_STATE p = 0 ∨ s.gk FAB_PSTAT_STATE p = 4) ∧ ((s.port p).again ≤ s.clk.edges)) ∧
    (∃ (s : State) (p : Fin 4) (b : Bool) (l : List (Int × Int)), (s.running) ∧ (s.pwr.loss.isNone) ∧ (s.gk FAB_PSTAT_STATE p = 1) ∧ ((s.port p).peerSerial.isSome) ∧ ((s.port p).delays.length = 16) ∧ (s.clk.edges < (s.port p).trainEdge + 7500)) ∧
    (∃ (s : State) (p : Fin 4), (s.running) ∧ (s.gk FAB_PSTAT_STATE p = 1) ∧ ((s.port p).trainEdge + 7500 ≤ s.clk.edges)) ∧
    (∃ (s : State) (p : Fin 4) (e : Nat), (s.running) ∧ (s.gk FAB_PSTAT_STATE p = 5) ∧ ((s.port p).heldGood = false) ∧ ((s.port p).heldUntil = some e) ∧ (e ≤ s.clk.edges)) ∧
    (∃ (s : State) (p : Fin 4) (b : List Byte) (q id m : Nat), (s.running) ∧ (s.gk FAB_PSTAT_STATE p ≠ 1) ∧ (s.portUp p) ∧ ((s.port p).peerSerial = some b) ∧ (s.gk FAB_PSTAT_NPORT p = q)) ∧
    (∃ (s : State) (p : Fin 4) (b : List Byte) (q id m : Nat), (s.running) ∧ (s.gk FAB_PSTAT_STATE p = 1) ∧ (q = farPort p) ∧ (m = s.g FAB_CFG_MODE) ∧ (m ≠ 0) ∧ ((s.port p).peerSerial.isSome)) ∧
    (∃ (s : State) (p : Fin 4) (a b c d : Int), (s.running) ∧ (s.portUp p) ∧ ((s.port p).delays.length < 15)) ∧
    (∃ (s : State) (p : Fin 4), (s.running) ∧ (s.portUp p) ∧ ((s.port p).delays.length = 16) ∧ ((s.port p).dlyEdge + 25000 ≤ s.clk.edges)) ∧
    (∃ (s : State) (x : List (Option EyeIn)), (s.slotOpen 12)) :=
  ⟨⟨wFab, 0, wFlit true, ⟨by decide, by decide, by decide, wFlitGood⟩⟩,
    ⟨wFab, 0, wFlit false, by decide⟩,
    ⟨wFab, 0, 0, by decide⟩,
    ⟨((wRun.p SYS_BOOT_STAGE 3).p SYS_BOOT_FAB 1).p FAB_CFG_PORT_EN 1, 0, by decide⟩,
    ⟨wPort { peerSerial := some [], delays := List.replicate 16 0, trainEdge := 1000000 }, 0, false, [], by decide⟩,
    ⟨wPort {}, 0, by decide⟩,
    ⟨(wPort { heldUntil := some 7 }).pk FAB_PSTAT_STATE 0 5, 0, 7, by decide⟩,
    ⟨((wPort { peerSerial := some [] }).pk FAB_PSTAT_STATE 0 2), 0, [], 0, 0, 0, by decide⟩,
    ⟨(wPort { peerSerial := some [] }).p FAB_CFG_MODE 1, 0, [], 1, 0, 1, by decide⟩,
    ⟨wFab, 0, 0, 0, 0, 0, by decide⟩,
    ⟨(wPort { delays := List.replicate 16 0 }).pk FAB_PSTAT_STATE 0 2, 0, by decide⟩,
    ⟨wRun, [], by decide⟩⟩

theorem test_witness_FabricTimeCommandsComplete :
    (∃ (s : State) (p : Fin 4) (a b r : Int), (s.running) ∧ (s.portUp p) ∧ (s.g FAB_TIME_UP = p) ∧ (s.g FAB_DISC_ROOT ≠ 0x3FF) ∧ (s.on FAB_TIME_ISROOT = false) ∧ (4 ≤ s.g FAB_DISC_STATE) ∧ (s.on CLK_STAT_TICK_LOADED)) ∧
    (∃ (s : State), (s.running) ∧ (s.on FAB_TIME_ISROOT = false) ∧ (16 ≤ s.fab.quiet)) ∧
    (∃ (s : State) (p : Fin 4) (b : List Byte), (s.running) ∧ (s.portUp p) ∧ (s.g FAB_DISC_STATE = 2) ∧ (serialLt b s.lowest)) ∧
    (∃ (s : State), (s.running) ∧ (s.g FAB_DISC_STATE = 2) ∧ (s.fab.lowEdge + 250 ≤ s.clk.edges)) ∧
    (∃ (s : State) (p : Fin 4) (d : Fin 2) (n : Nat) (e : Nat), (s.running) ∧ (s.portUp p) ∧ (s.fab.walk = some (d.val, e)) ∧ (p.val = 2 * d.val + 1)) ∧
    (∃ (s : State) (p : Fin 4) (d : Fin 2) (n : Nat), (s.running) ∧ (s.portUp p) ∧ (s.fab.walk = none) ∧ (s.g FAB_DISC_STATE = 3)) ∧
    (∃ (s : State) (d e : Nat), (s.fab.walk = some (d, e)) ∧ (s.running) ∧ (s.g FAB_DISC_STATE = 3) ∧ (e + 250 ≤ s.clk.edges)) ∧
    (∃ (s : State) (p : Fin 4) (w h x y : Nat), (s.running) ∧ (s.portUp p) ∧ (s.g FAB_CFG_MODE = 1) ∧ (s.node = 0x3FF) ∧ (s.g FAB_DISC_STATE = 3)) ∧
    (∃ (s : State) (p : Fin 4) (id : Nat) (x : Lsr), (s.running) ∧ (s.portUp p) ∧ (s.g FAB_DISC_STATE = 4) ∧ (id ≠ s.node) ∧ (Tbl.find s.fab.view id = none)) ∧
    (∃ (s : State), (s.running) ∧ (s.g FAB_DISC_STATE = 4) ∧ (s.node ≠ 0x3FF) ∧ (s.fab.viewEdge + 250 ≤ s.clk.edges) ∧ (s.fab.switch = none) ∧ (s.fab.tabled) ∧ (s.on CLK_STAT_TICK_LOADED)) ∧
    (∃ (s : State), (s.running) ∧ (s.g FAB_DISC_STATE = 2) ∧ (s.fab.began + 250 * s.secLe 0x70 0 8 2 100 ≤ s.clk.edges)) ∧
    (∃ (s : State) (n : Nat), (s.fab.switch = some n) ∧ (s.running) ∧ (n ≤ s.clk.tick) ∧ (s.node ≠ 0x3FF) ∧ (s.g FAB_DISC_STATE = 5)) ∧
    (∃ (s : State) (p : Parcel), (s.running) ∧ (p.dst ≠ s.node) ∧ (8 ≤ p.kind) ∧ (p.hops < 63) ∧ (s.fab.tabled)) :=
  ⟨⟨(((wFab.p FAB_TIME_UP 0).p FAB_DISC_ROOT 1).p FAB_DISC_STATE 5).p CLK_STAT_TICK_LOADED 1, 0, 0, 0, 0, by decide⟩,
    ⟨{ wFab with fab := { quiet := 16 } }, by decide⟩,
    ⟨{ wFab.p FAB_DISC_STATE 2 with fab := { low := [5] } }, 0, [1], by decide⟩,
    ⟨wFab.p FAB_DISC_STATE 2, by decide⟩,
    ⟨{ wFab.pk FAB_PSTAT_STATE 1 2 with fab := { walk := some (0, 5) } }, 1, 0, 3, 5, by decide⟩,
    ⟨wFab.p FAB_DISC_STATE 3, 0, 0, 3, by decide⟩,
    ⟨{ wFab.p FAB_DISC_STATE 3 with fab := { walk := some (0, 5) } }, 0, 5, by decide⟩,
    ⟨((wFab.p FAB_CFG_MODE 1).p FAB_NODE_ID 0x3FF).p FAB_DISC_STATE 3, 0, 4, 4, 1, 1, by decide⟩,
    ⟨wFab.p FAB_DISC_STATE 4, 0, 7, {}, by decide⟩,
    ⟨{ (wFab.p FAB_DISC_STATE 4).p CLK_STAT_TICK_LOADED 1 with fab := { tabled := true } }, by decide⟩,
    ⟨wFab.p FAB_DISC_STATE 2, by decide⟩,
    ⟨{ wFab.p FAB_DISC_STATE 5 with fab := { switch := some 0 } }, 0, by decide⟩,
    ⟨{ wFab with fab := { tabled := true } }, { kind := 8, dst := 7 }, by decide⟩⟩

theorem test_witness_TwinCommandsComplete :
    (∃ (s : State), (s.running) ∧ (s.hasTwin) ∧ (s.g SYS_BOOT_DRAM = 3) ∧ (s.dramFaulted = false) ∧ (s.clk.tick % 8 = 0) ∧ (s.twn.hbSent ≠ some s.clk.tick)) ∧
    (∃ (s : State) (p : Parcel), (s.consumes p 0x08)) ∧
    (∃ (s : State) (c : Nat), (s.twinLost = some c) ∧ (s.running)) ∧
    (∃ (s : State), (s.running) ∧ (s.g TWN_STAT_STATE = 3) ∧ (s.twn.dirty.isEmpty) ∧ ((s.twn.await.any fun t => t.2.kind == 0x20 || t.2.kind == 0x21) = false) ∧ (s.twn.solo = none)) ∧
    (∃ (s : State) (p : Parcel), (s.consumes p 0x15) ∧ ((s.received p).twin = p.src) ∧ (p.src ≠ 0x3FF) ∧ ((s.received p).known p = false)) ∧
    (∃ (s : State) (p : Parcel) (u : TwinSent), (s.consumes p 0x1B) ∧ (Tbl.find (s.received p).twn.await p.xid = some u) ∧ ((s.received p).twin = p.src) ∧ (u.kind = 0x20)) ∧
    (∃ (s : State) (p : Parcel) (u : TwinSent), (s.consumes p 0x1E) ∧ (Tbl.find (s.received p).twn.await p.xid = some u) ∧ ((s.received p).twin = p.src) ∧ (u.kind = 0x15) ∧ (Tbl.find (s.received p).twn.dirty (dirtyKey u.vol u.ext) = none)) ∧
    (∃ (s : State) (p : Parcel), (s.consumes p 0x20)) ∧
    (∃ (s : State) (p : Parcel), (s.consumes p 0x21)) ∧
    (∃ (s : State) (p : Parcel), (s.consumes p 0x22)) ∧
    (∃ (s : State) (p : Parcel) (e : Nat × Slab) (u : Unit4k), (s.consumes p 0x13) ∧ ((s.received p).twin = p.src) ∧ (p.src ≠ 0x3FF) ∧ ((s.received p).known p = false) ∧ ((s.received p).slabOf true p.volc (p.lba / 256) = some e) ∧ (Tbl.find e.2.blocks (p.lba % 256) = some u)) :=
  ⟨⟨wPair, by decide⟩,
    ⟨wPair, wTwin 0x08, wConsumes _ _ (by decide)⟩,
    ⟨(wPair.p TWN_STAT_STATE 1).p SYS_BOOT_FAB 4, 1, by decide⟩,
    ⟨wPair.p TWN_STAT_STATE 3, by decide⟩,
    ⟨wPair, wTwin 0x15, ⟨wConsumes _ _ (by decide), by decide⟩⟩,
    ⟨{ wPair with twn := { await := [(0, { kind := 0x20, vol := 0, ext := 0, blk := 0 })] } }, wTwin 0x1B, { kind := 0x20, vol := 0, ext := 0, blk := 0 }, ⟨wConsumes _ _ (by decide), by decide⟩⟩,
    ⟨{ wPair with twn := { await := [(0, { kind := 0x15, vol := 0, ext := 0, blk := 0 })] } }, wTwin 0x1E, { kind := 0x15, vol := 0, ext := 0, blk := 0 }, ⟨wConsumes _ _ (by decide), by decide⟩⟩,
    ⟨wPair, wTwin 0x20, wConsumes _ _ (by decide)⟩,
    ⟨wPair, wTwin 0x21, wConsumes _ _ (by decide)⟩,
    ⟨wPair, wTwin 0x22, wConsumes _ _ (by decide)⟩,
    ⟨{ wPair with slabs := [(0, { vol := 0xFF, ext := 0, twin := true, blocks := [(0, { bytes := [] })] })] }, wTwin 0x13, (0, { vol := 0xFF, ext := 0, twin := true, blocks := [(0, { bytes := [] })] }), { bytes := [] }, ⟨wConsumes _ _ (by decide), by decide⟩⟩⟩

theorem test_witness_SpanCommandsComplete :
    (∃ (s : State) (i : Nat) (j : Nat) (c : Cmd) (q : IPiece), (s.cmd i = some c) ∧ (c.pieces[j]? = some q) ∧ (s.running) ∧ (s.hostStopped = false) ∧ (c.phase = 2) ∧ (c.sq ≠ 0) ∧ (q.phase = 0) ∧ (s.keyClash i c q = false)) ∧
    (∃ (s : State) (i : Nat) (j : Nat) (c : Cmd) (q : IPiece), (s.cmd i = some c) ∧ (c.pieces[j]? = some q) ∧ (s.running) ∧ (s.hostStopped = false) ∧ (c.phase = 2) ∧ (c.sq ≠ 0) ∧ (q.phase = 1) ∧ (c.opc = 1)) ∧
    (∃ (s : State) (i : Nat) (j : Nat) (c : Cmd) (q : IPiece), (s.cmd i = some c) ∧ (c.pieces[j]? = some q) ∧ (s.running) ∧ (s.hostStopped = false) ∧ (c.phase = 2) ∧ (q.phase = 3) ∧ (q.retry ≤ s.clk.edges)) ∧
    (∃ (s : State) (e : Nat × OPiece), (lowestKey (s.pieces.filter fun e => e.2.phase == 0 && decide (e.2.keyTick + 2 ≤ s.clk.tick)) = some e) ∧ (s.running)) ∧
    (∃ (s : State) (p : Parcel) (e : Nat × OPiece), (s.consumes p 0x10) ∧ (s.stagingRoom) ∧ ((s.received p).known p = false) ∧ ((s.received p).pieceFor p false = some e)) ∧
    (∃ (s : State) (p : Parcel), (s.consumes p 0x10) ∧ (s.stagingRoom)) ∧
    (∃ (s : State) (p : Parcel), (s.consumes p 0x11)) ∧
    (∃ (s : State) (p : Parcel) (st : Nat), (s.consumes p 0x12) ∧ ((s.received p).redirOf p.span (p.lba / 256) = none) ∧ ((s.received p).statusOf p = some st)) ∧
    (∃ (s : State) (p : Parcel), (s.consumes p 0x12) ∧ ((s.received p).redirOf p.span (p.lba / 256) = none) ∧ ((s.received p).statusOf p = none)) ∧
    (∃ (s : State) (p : Parcel), (s.consumes p 0x14)) ∧
    (∃ (s : State) (p : Parcel) (r : Remap), (s.consumes p 0x1F) ∧ (Tbl.find (s.received p).twn.remaps (stripeKey p.span (p.lba / 256)) = some r) ∧ (r.peer = p.src) ∧ (r.step = 2) ∧ (leAt p.body 0 1 = 0)) ∧
    (∃ (s : State) (p : Parcel), (s.consumes p 0x18) ∧ ((s.received p).hasPiece p)) ∧
    (∃ (s : State) (p : Parcel), (s.consumes p 0x19)) ∧
    (∃ (s : State) (p : Parcel), (s.consumes p 0x1A)) ∧
    (∃ (s : State) (p : Parcel), (s.consumes p 0x1C) ∧ ((s.received p).hasPiece p)) ∧
    (∃ (s : State) (p : Parcel) (x : Sent), (s.consumes p 0x1D) ∧ (((s.received p).fab.await.find? fun x => x.p.dst == p.src && x.p.xid == p.xid && x.p.keyTick == p.keyTick && x.p.lba == p.lba && x.p.volc == p.volc && x.p.span == p.span && (x.p.kind == 0x10 || decide (0x20 ≤ x.p.kind))) = some x)) ∧
    (∃ (s : State) (p : Parcel), (s.consumes p 0x1D)) :=
  ⟨⟨wIngress 2 0, 0, 0, wIng 2 0, { lba := 0, n := 1 }, by decide⟩,
    ⟨wIngress 1 1, 0, 0, wIng 1 1, { lba := 0, n := 1, phase := 1 }, by decide⟩,
    ⟨wIngress 2 3, 0, 0, wIng 2 3, { lba := 0, n := 1, phase := 3 }, by decide⟩,
    ⟨{ wIngress 2 0 with pieces := [(0, { vol := 0, lba := 0, n := 1, modes := 0, slot := none })] }, (0, { vol := 0, lba := 0, n := 1, modes := 0, slot := none }), by decide⟩,
    ⟨{ wPair with pieces := [(0, { vol := 64, lba := 0, n := 1, modes := 0, slot := none, src := 6 })] }, wTwin 0x10, (0, { vol := 64, lba := 0, n := 1, modes := 0, slot := none, src := 6 }), ⟨wConsumes _ _ (by decide), by decide⟩⟩,
    ⟨wPair, wTwin 0x10, ⟨wConsumes _ _ (by decide), by decide⟩⟩,
    ⟨wPair, wTwin 0x11, wConsumes _ _ (by decide)⟩,
    ⟨{ wPair with fab := { done := [({ src := 6, kind := 64, xid := 0, keyTick := 0, lba := 0 }, 0)] } }, wTwin 0x12, 0, ⟨wConsumes _ _ (by decide), by decide⟩⟩,
    ⟨wPair, wTwin 0x12, ⟨wConsumes _ _ (by decide), by decide⟩⟩,
    ⟨wPair, wTwin 0x14, wConsumes _ _ (by decide)⟩,
    ⟨{ wPair with twn := { remaps := [(0, { span := 0, stripe := 0, lba := 0, peer := 6, step := 2 })] } }, wTwin 0x1F, { span := 0, stripe := 0, lba := 0, peer := 6, step := 2 }, ⟨wConsumes _ _ (by decide), by decide⟩⟩,
    ⟨wIngress 1 1, wTwin 0x18, ⟨wConsumes _ _ (by decide), by decide⟩⟩,
    ⟨wPair, wTwin 0x19, wConsumes _ _ (by decide)⟩,
    ⟨wPair, wTwin 0x1A, wConsumes _ _ (by decide)⟩,
    ⟨wIngress 1 1, wTwin 0x1C, ⟨wConsumes _ _ (by decide), by decide⟩⟩,
    ⟨{ wPair with fab := { await := [{ p := { kind := 0x10, dst := 6 } }] } }, wTwin 0x1D, { p := { kind := 0x10, dst := 6 } }, ⟨wConsumes _ _ (by decide), by decide⟩⟩,
    ⟨wPair, wTwin 0x1D, wConsumes _ _ (by decide)⟩⟩

theorem test_witness_StepRunsFrontCommand :
    ∃ (s : State) (c : Instr) (rest : List Instr), s.pending = c :: rest :=
  ⟨{ State.reset with pending := [.pllLock] }, .pllLock, [], rfl⟩

theorem test_witness_IdleStepPassesACycle :
    (∃ s : State, s.pending = [] ∧ s.running = false) ∧
    (∃ s : State, s.pending = [] ∧ s.running ∧ s.clk.cycle + 1 < s.tickLen) ∧
    (∃ s : State, s.pending = [] ∧ s.running ∧ s.tickLen ≤ s.clk.cycle + 1) :=
  ⟨⟨State.reset, by decide⟩,
    ⟨wRun, by decide⟩,
    ⟨{ wRun with clk := { wRun.clk with cycle := 4999 } }, by decide⟩⟩

theorem test_witness_WriteOneToClearYieldsToTheHardware :
    ∃ (F : Fld) (b : Nat), F.acc = .w1c ∧ b < F.w :=
  ⟨EVT_PEND, 31, by decide⟩

theorem test_witness_WideRegistersHaveALatchAndAStagingDwordPerFunction :
    (∃ (s : State) (fn : Fin 16) (a : BitVec 26) (b : Nat), s.fnOpen fn ∧ a.toNat % 4 = 0 ∧ blockAddr fn a.toNat = some b ∧ blockAddr fn (a + 4).toNat = some (b + 4) ∧ isWide b) ∧
    (∃ (s : State) (fn : Fin 16) (a : BitVec 26) (b : Nat), s.fnOpen fn ∧ a.toNat % 4 = 0 ∧ blockAddr fn a.toNat = some b ∧ blockAddr fn (a + 4).toNat = some (b + 4) ∧ isWide b ∧ b / 0x1000 = 1) :=
  ⟨⟨wBar, 0, 0x1020, 0x1020, by decide⟩,
    ⟨wBar, 0, 0x1008, 0x1008, by decide⟩⟩

theorem test_witness_StripeOwnerComesFromTheStripeTable :
    ∃ (s : State) (n o : Nat) (b : List Byte), s.spanRec n = some (b, o) ∧ 0 < leAt b (o + 2) 2 :=
  ⟨wSpan (wA 4 []), 0, 16, ([0, 0, 1, 0, 0, 0, 0, 0, 0, 0, 0, 0, 0, 0, 0, 0, 0, 0, 1, 0] ++ List.replicate 12 0 ++ [0xFF, 3] ++ List.replicate 14 0), by decide⟩

theorem test_witness_ClkNowReturnsTheTimestamp :
    ∃ (s : State) (fn : Fin 16) (h : Nat), s.fnOpen fn ∧ Tbl.find s.rdLatch (wideKey fn 0x1008) = some h :=
  ⟨{ wBar with rdLatch := [(0x1008, 5)] }, 0, 5, by decide⟩

theorem test_witness_SupplyWarningDropsTheGatesAndHolds :
    (∃ (s : State) (mv ns : Nat), s.running ∧ lasting ns ∧ mv ≤ s.vinWarnMv ∧ mv ≤ s.vmWarnMv) ∧
    (∃ (s : State) (mv ns : Nat), s.running ∧ lasting ns ∧ 5750 ≤ mv) :=
  ⟨⟨wRun, 0, 20, by decide⟩,
    ⟨wRun, 5750, 20, by decide⟩⟩

theorem test_witness_IgnoredDoorbellsAreRecorded :
    (∃ (s : State) (fn : Fin 16) (q : Fin 4096), s.fnOpen fn ∧ s.sq fn q = none ∧ s.cq fn q = none) ∧
    (∃ (s : State) (fn : Fin 16) (q : Fin 4096) (x : Sq) (v : BitVec 32), s.fnOpen fn ∧ s.sq fn q = some x ∧ x.depth ≤ v.toNat) ∧
    (∃ (s : State) (fn : Fin 16) (q : Fin 4096) (x : Sq) (v : BitVec 32), s.fnOpen fn ∧ s.sq fn q = some x ∧ v.toNat < x.depth ∧ (v.toNat + x.depth - x.head) % x.depth < (x.tail + x.depth - x.head) % x.depth) ∧
    (∃ (s : State) (fn : Fin 16) (q : Fin 4096) (x : Cq) (v : BitVec 32), s.fnOpen fn ∧ s.cq fn q = some x ∧ v.toNat < x.depth ∧ (x.tail + x.depth - x.head) % x.depth < (v.toNat + x.depth - x.head) % x.depth) ∧
    (∃ (s : State) (fn : Fin 16) (q : Fin 4096) (x : Cq) (v : BitVec 32), s.fnOpen fn ∧ s.cq fn q = some x ∧ x.depth ≤ v.toNat) ∧
    (∃ (s : State) (fn : Fin 16) (q : Fin 4096) (x : Sq), s.fnOpen fn ∧ s.sq fn q = some x ∧ x.push = false) ∧
    (∃ (s : State) (fn : Fin 16) (q : Fin 4096) (x : Sq) (b : List Byte), s.fnOpen fn ∧ s.sq fn q = some x ∧ x.push = true ∧ b.length = 64 ∧ ((x.tail + 1) % x.depth + x.depth - x.head) % x.depth < (x.tail + x.depth - x.head) % x.depth) ∧
    (∃ (len : Fin 5) (o : Nat), o < 8 ∧ ((len : Nat) ≠ 4 ∨ o % 4 ≠ 0)) :=
  ⟨⟨wBar, 0, 1, by decide⟩,
    ⟨{ wBar with sqs := [(1, { base := 0, depth := 4, cq := 1, head := 2, tail := 3 })] }, 0, 1, { base := 0, depth := 4, cq := 1, head := 2, tail := 3 }, 4, by decide⟩,
    ⟨{ wBar with sqs := [(1, { base := 0, depth := 4, cq := 1, head := 2, tail := 3 })] }, 0, 1, { base := 0, depth := 4, cq := 1, head := 2, tail := 3 }, 2, by decide⟩,
    ⟨{ wBar with cqs := [(1, { base := 0, depth := 4, vec := 0, head := 2, tail := 3 })] }, 0, 1, { base := 0, depth := 4, vec := 0, head := 2, tail := 3 }, 0, by decide⟩,
    ⟨{ wBar with cqs := [(1, { base := 0, depth := 4, vec := 0, head := 2, tail := 3 })] }, 0, 1, { base := 0, depth := 4, vec := 0, head := 2, tail := 3 }, 4, by decide⟩,
    ⟨{ wBar with sqs := [(1, { base := 0, depth := 4, cq := 1 })] }, 0, 1, { base := 0, depth := 4, cq := 1 }, by decide⟩,
    ⟨{ wBar with sqs := [(1, { base := 0, depth := 4, cq := 1, push := true, head := 0, tail := 3 })] }, 0, 1, { base := 0, depth := 4, cq := 1, push := true, head := 0, tail := 3 }, List.replicate 64 0, by decide⟩,
    ⟨2, 4, by decide⟩⟩

theorem test_witness_DeleteIoCqNeedsNoSqOnIt :
    (∃ (s : State) (i : Nat) (c : Cmd), s.adminRuns i 4 c [(32, 2)] ∧ c.noData ∧ c.silent = false ∧ s.badQid c (c.le 32 2) = false ∧ (s.cq c.fn (c.le 32 2)).isSome ∧ (∃ e ∈ s.sqs, e.1 / 65536 = c.fn ∧ e.1 % 65536 ≠ 0 ∧ e.2.cq = c.le 32 2)) ∧
    (∃ (s : State) (i : Nat) (c : Cmd), s.adminRuns i 4 c [(32, 2)] ∧ c.noData ∧ c.silent = false ∧ s.badQid c (c.le 32 2) = false ∧ (s.cq c.fn (c.le 32 2)).isSome ∧ ¬ (∃ e ∈ s.sqs, e.1 / 65536 = c.fn ∧ e.1 % 65536 ≠ 0 ∧ e.2.cq = c.le 32 2)) :=
  ⟨⟨wAdm (wA 4 [(32, 2, 1)]), 32768, wA 4 [(32, 2, 1)], by decide⟩,
    ⟨wAdm (wA 4 [(32, 2, 2)]), 32768, wA 4 [(32, 2, 2)], by decide⟩⟩

theorem test_witness_EventGroupBitsFollowPendingAndMask :
    ∃ s : State, s.fnOpen 0 :=
  ⟨wBar, by decide⟩

theorem test_witness_FabricEventsQueueForTheHost :
    (∃ s : State, s.running ∧ s.evt.recvQ.length < 16) ∧
    (∃ s : State, s.running ∧ 16 ≤ s.evt.recvQ.length ∧ s.evt.fullEpi = false) ∧
    (∃ s : State, s.running ∧ 16 ≤ s.evt.recvQ.length ∧ s.evt.fullEpi = true) ∧
    (∃ s : State, s.fnOpen 0 ∧ s.barOpen) :=
  ⟨⟨wRun, by decide⟩,
    ⟨{ wRun with evt := { recvQ := List.replicate 16 [] } }, by decide⟩,
    ⟨{ wRun with evt := { recvQ := List.replicate 16 [], fullEpi := true } }, by decide⟩,
    ⟨wBar, by decide⟩⟩

theorem test_witness_ComplianceEnableGatesTheTestInstructions :
    (∃ (s : State) (x : ReleaseIn) (cause : Nat), s.pwr.inReset = some cause ∧ (x.die.foldl State.filterDie s).releaseOk x cause ∧ x.straps / 8 % 2 = 1) ∧
    (∃ s : State, s.on PIN_STRAP_SCANHOLD) ∧
    (∃ (s : State) (op : BitVec 8), s.on PIN_STRAP_SCANHOLD = false ∧ op.toNat ∉ [0, 1, 2, 4, 5, 6, 7]) :=
  ⟨⟨{ State.reset with pwr := { inReset := some 1 } }, { vin := List.replicate 25 3300, refMs := 10, pwrfailHigh := true, die := [], resetHigh := true, straps := 8 }, 1, by decide⟩,
    ⟨State.reset.p PIN_STRAP_SCANHOLD 1, by decide⟩,
    ⟨State.reset, 0xFF, by decide⟩⟩

theorem test_witness_DebugWindowOpensByChartFuseAndKey :
    (∃ (s : State) (v : BitVec 32), s.fnOpen 0 ∧ bitAt v.toNat 0 = true ∧ v.toNat / 65536 = 0x0DB6 ∧ bitAt (s.secLe 0xA0 0 6 1 0) 0 = true ∧ s.on TST_FUSE_LOCK = false ∧ s.on TST_DBGCTL_OPEN = false) ∧
    (∃ (s : State) (v : BitVec 32), s.fnOpen 0 ∧ s.on TST_DBGCTL_OPEN = false ∧ ¬ (bitAt v.toNat 0 = true ∧ v.toNat / 65536 = 0x0DB6 ∧ bitAt (s.secLe 0xA0 0 6 1 0) 0 = true ∧ s.on TST_FUSE_LOCK = false)) ∧
    (∃ (s : State) (v : BitVec 32), s.fnOpen 0 ∧ s.on TST_DBGCTL_OPEN = true ∧ bitAt v.toNat 0 = false) :=
  ⟨⟨{ wBar with chart := { secs := [⟨0xA0, 0, [0, 0, 0, 0, 0, 0, 1]⟩] } }, 0xDB60001, by decide⟩,
    ⟨wBar, 0xDB60001, by decide⟩,
    ⟨wBar.p TST_DBGCTL_OPEN 1, 0, by decide⟩⟩

theorem test_witness_ReservedRegistersReadZeroAndIgnoreWrites :
    ∃ (s : State) (a : BitVec 26), s.fnOpen 0 ∧ a.toNat % 4 = 0 ∧ a.toNat < 0xC0000 ∧ a.toNat / 0x1000 ∉ [0x21, 0x23, 0x25, 0x27, 0x29] ∧ isRegister a.toNat = false :=
  ⟨wBar, 0xE080, by decide⟩

theorem test_witness_RegisterWritesReachTheirFieldsAlone :
    ∃ (s : State) (a : BitVec 26), s.fnOpen 0 ∧ a.toNat % 4 = 0 ∧ a.toNat < 0x100000 ∧ isWide a.toNat = false ∧ isWide (a.toNat - 4) = false ∧ actsOnWrite a.toNat = false :=
  ⟨wBar, 0xE044, by decide⟩

theorem test_witness_DebugWindowWritesReachFourBytes :
    (∃ (s : State) (i : Fin 1024), s.barOpen ∧ s.on TST_DBGCTL_OPEN ∧ s.on TST_FUSE_DEVMODE = false) ∧
    (∃ (s : State) (i : Fin 1024), s.barOpen ∧ s.on TST_DBGCTL_OPEN ∧ s.on TST_FUSE_DEVMODE ∧ s.solidAt (s.dbgAddr i) = none ∧ Memory.wf 0 s.buf = true) :=
  ⟨⟨wBar.p TST_DBGCTL_OPEN 1, 0, by decide⟩,
    ⟨(wBar.p TST_DBGCTL_OPEN 1).p TST_FUSE_DEVMODE 1, 1023, by decide⟩⟩

theorem test_witness_MsixPendingBitsCollectWhileMasked :
    (∃ (s : State) (fn : Fin 16) (v : Fin 256), s.fnOpen fn ∧ (s.msixAt fn v).masked = true) ∧
    (∃ (s : State) (fn : Fin 16) (v : Fin 256), s.fnOpen fn ∧ (fn : Nat) ∉ s.msixFnMask ∧ (s.msixAt fn v).pend) :=
  ⟨⟨{ wBar with msix := [(3, { masked := true })] }, 0, 3, by decide⟩,
    ⟨{ wBar with msix := [(3, { masked := true, pend := true })] }, 0, 3, by decide⟩⟩

theorem test_witness_StatisticsBinSamplesByTheirEdges :
    (∃ edges : List Int, edges.Pairwise (· < ·)) ∧
    (∃ (edges : List Int) (h : Hist), h.counts = [] ∨ h.counts.length = edges.length + 1) ∧
    (∃ e : Ext, e.min ≤ e.max) :=
  ⟨⟨[-1, 0, 5], by decide⟩,
    ⟨[0], { counts := [1, 2] }, by decide⟩,
    ⟨{ min := 0, max := 1, minTs := 0, maxTs := 0 }, by decide⟩⟩

theorem test_witness_ResetsRestoreTheRegisters :
    ∃ (F : Fld) (k i : Nat), F.key k i ∉ retainedKeys :=
  ⟨EVT_MASK, 0, 5, by decide⟩

theorem test_witness_KeyRamChangesByItsCommandsAlone :
    ∃ (c : Instr) (s t : State), exec c s = .next t ∧ entersReset c = false ∧ writesKeys c = false :=
  ⟨.tapReset, State.reset, _, rfl, rfl, rfl⟩

theorem test_witness_EdgeLatchAndFetchOrderHaveTheirCommands :
    (∃ (s : State) (x : TickIn), s.running ∧ bitAt (((s.missedPost x).benchEdge x.bench).overrunAt x) 13 = false) ∧
    (∃ (c : Instr) (s t : State), exec c s = .next t ∧ entersReset c = false ∧ passesEdge c = false ∧ takesEntry c = false) :=
  ⟨⟨wRun, {}, by decide⟩,
    ⟨.tapReset, State.reset, _, rfl, rfl, rfl, rfl⟩⟩

theorem test_witness_MemoriesStayCanonical :
    ∃ s t : State, s.memOk ∧ step s = .next t :=
  ⟨State.reset, State.reset, ⟨rfl, rfl⟩, rfl⟩

theorem test_witness_QueueIsFirstInFirstOut :
    ∃ (s : State) (c : Instr) (rest : List Instr), s.pending = c :: rest :=
  ⟨{ State.reset with pending := [.pllLock] }, .pllLock, [], rfl⟩

end Sys2Proof.Tests
end

section
/-! SUPPORT. A W1C bit that the hardware sets in the cycle of a host write stays set (R14): what setting and clearing one bit does to the others, what a
host write does to one bit of a W1C field, and the statement O39. -/

namespace Sys2Proof.Machine

/-! ### One bit of a number -/

/-- Taking 2^c from a number whose part from bit `c` up is odd leaves the part below bit `c` and half that part as they were. -/
theorem clrBit_testBit_ne (v : Nat) {b c : Nat} (h : b ≠ c) : (clrBit v c).testBit b = v.testBit b := by
  unfold clrBit
  split
  · next hc =>
    have hodd : v / 2 ^ c % 2 = 1 := by simpa [bitAt] using hc
    have hlow : v % 2 ^ c < 2 ^ c := Nat.mod_lt _ (Nat.two_pow_pos c)
    have hv : v = 2 ^ c * (v / 2 ^ c) + v % 2 ^ c := (Nat.div_add_mod v (2 ^ c)).symm
    generalize v / 2 ^ c = hi, v % 2 ^ c = lo at hodd hlow hv
    obtain ⟨n, rfl⟩ : ∃ n, hi = 2 * n + 1 := ⟨hi / 2, by omega⟩
    have hsub : v - 2 ^ c = 2 ^ c * (2 * n) + lo := by rw [hv, Nat.mul_add]; omega
    rw [hsub, hv, Nat.testBit_two_pow_mul_add _ hlow, Nat.testBit_two_pow_mul_add _ hlow]
    split
    · rfl
    · next hb =>
      obtain ⟨d, hd⟩ : ∃ d, b - c = d + 1 := ⟨b - c - 1, by omega⟩
      rw [hd, Nat.testBit_add_one, Nat.testBit_add_one]
      congr 1; omega
  · rfl

/-! ### One bit of a field -/

/-- A bit within the width of its field reads 1 once the hardware has set it. -/
theorem State.bitAt_hwSet_same (s : State) (F : Fld) (k i : Nat) {b : Nat} (hb : b < F.w) : bitAt ((s.hwSet F k i b).gki F k i) b = true := by
  have hg : (s.hwSet F k i b).gki F k i = setBit (s.gki F k i) b % 2 ^ F.w := State.gki_pki_same ..
  rw [hg, bitAt_testBit, Nat.testBit_mod_two_pow, setBit_testBit]
  simp [hb]

/-- Clearing a bit of a field leaves every other bit within its width alone. -/
theorem State.bitAt_hwClr_ne (s : State) (F : Fld) (k i : Nat) {b c : Nat} (hb : b < F.w) (h : b ≠ c) :
    bitAt ((s.hwClr F k i c).gki F k i) b = bitAt (s.gki F k i) b := by
  rw [State.hwClr, State.gki_pki_same, bitAt_testBit, bitAt_testBit, Nat.testBit_mod_two_pow, clrBit_testBit_ne _ h]
  simp [hb]

/-- The set of a bit holds it against the clears of its cycle. -/
theorem State.w1cHeld_hwSet_same (s : State) (F : Fld) (k i b : Nat) : (s.hwSet F k i b).w1cHeld F k i b = true := by
  simp [State.w1cHeld, State.hwSet]

/-- What holds a bit is no register: clearing bits changes nothing of it. -/
@[simp] theorem State.w1cHeld_hwClr (s : State) (F G : Fld) (k i b k' i' c : Nat) :
    (s.hwClr G k' i' c).w1cHeld F k i b = s.w1cHeld F k i b := rfl

/-! ### A host write of a W1C field -/

/-- Bit `c` of a W1C field takes bit `c` of the written value `x`. -/
def State.w1cWriteBit (s : State) (F : Fld) (k i x c : Nat) : State :=
  if bitAt x c && !s.w1cHeld F k i c then s.hwClr F k i c else s

/-- A host write of a W1C field takes its bits one by one. -/
theorem State.writeFld_w1c (s : State) {F : Fld} (k i v : Nat) (h : F.acc = .w1c) :
    s.writeFld F k i v = (List.range F.w).foldl (fun t c => t.w1cWriteBit F k i (bitsOf v (F.bit i) F.w) c) s := by
  simp only [State.writeFld, h, State.w1cWriteBit]

/-- Bit `b` of the field reads 1 and is held against the clears of this cycle. -/
def State.heldSet (s : State) (F : Fld) (k i b : Nat) : Prop :=
  s.w1cHeld F k i b = true ∧ bitAt (s.gki F k i) b = true

theorem State.hwSet_heldSet (s : State) (F : Fld) (k i : Nat) {b : Nat} (hb : b < F.w) : (s.hwSet F k i b).heldSet F k i b :=
  ⟨s.w1cHeld_hwSet_same F k i b, s.bitAt_hwSet_same F k i hb⟩

/-- A clear that goes through is of a bit that is not held, so of another bit than `b`. -/
theorem State.w1cWriteBit_heldSet {s : State} {F : Fld} {k i b : Nat} (x c : Nat) (hb : b < F.w) (h : s.heldSet F k i b) :
    (s.w1cWriteBit F k i x c).heldSet F k i b := by
  unfold State.w1cWriteBit
  split
  · next hclear =>
    obtain ⟨hheld, hset⟩ := h
    have hne : b ≠ c := by rintro rfl; simp [hheld] at hclear
    exact ⟨by rw [State.w1cHeld_hwClr, hheld], by rw [s.bitAt_hwClr_ne F k i hb hne, hset]⟩
  · exact h

/-- A bit that is set and held stays so through a host write of its field, whatever is written. -/
theorem State.writeFld_heldSet {s : State} {F : Fld} {k i b : Nat} (v : Nat) (hF : F.acc = .w1c) (hb : b < F.w) (h : s.heldSet F k i b) :
    (s.writeFld F k i v).heldSet F k i b := by
  rw [s.writeFld_w1c k i v hF]
  exact List.foldlRecOn (motive := fun t : State => t.heldSet F k i b) _ _ h fun _ ht c _ => State.w1cWriteBit_heldSet _ c hb ht

/-! ### The statement -/

/-- Settles O39 (R14): a set before the write holds the bit through it; a set after the write has the last word. -/
theorem writeOneToClearYieldsToTheHardware : Obligations.WriteOneToClearYieldsToTheHardware := by
  unfold Obligations.WriteOneToClearYieldsToTheHardware
  intro s F k i v b hF hb
  obtain ⟨-, hset⟩ := State.writeFld_heldSet v hF hb (s.hwSet_heldSet F k i hb)
  exact ⟨hset, (s.writeFld F k i v).bitAt_hwSet_same F k i hb⟩

end Sys2Proof.Machine
end

section
/-! SUPPORT. The owner of a stripe (R27): what the record of a span says of its stripe table, the stripe index of a block, and the statement O41. -/

namespace Sys2Proof.Machine

/-! ### A span whose record stands at offset `o` of the span section `b` -/

/-- The length of the stripe table is the L field of the record (Table TWN-1). -/
theorem State.spanL_of_spanRec {s : State} {n o : Nat} {b : List Byte} (h : s.spanRec n = some (b, o)) :
    s.spanL n = leAt b (o + 2) 2 := by
  simp only [State.spanL, h]

/-- The stripe table follows the 16 bytes of the record, two bytes to an entry (Table TWN-1). -/
theorem State.spanEntry_of_spanRec {s : State} {n o : Nat} {b : List Byte} (h : s.spanRec n = some (b, o)) (i : Nat) :
    s.spanEntry n i = leAt b (o + 16 + 2 * i) 2 := by
  simp only [State.spanEntry, h]

/-- The owner of stripe `k` is an entry of the stripe table when the table is not empty: the model's `max 1` then has no effect. -/
theorem State.stripeOwner_of_spanL_pos {s : State} {n : Nat} (hpos : 0 < s.spanL n) (k : Nat) :
    s.stripeOwner n k = s.spanEntry n (k % s.spanL n) := by
  rw [State.stripeOwner, Nat.max_eq_right hpos]

/-! ### The stripe of a block -/

/-- A stripe of 1 048 576 bytes is 256 blocks of 4096: the span byte offset of a block and its LBA give the same stripe index. -/
theorem byteOffset_div_stripeBytes (lba : Nat) : lba * 4096 / 1048576 = lba / 256 :=
  Nat.mul_div_mul_right lba 256 (by decide : 0 < 4096)

/-! ### The statement -/

/-- Settles O41 (R27): the record gives the length and the entries of the table, and the LBA the stripe index of the byte offset. -/
theorem stripeOwnerComesFromTheStripeTable : Obligations.StripeOwnerComesFromTheStripeTable := by
  unfold Obligations.StripeOwnerComesFromTheStripeTable
  intro s n o b hrec hpos lba
  have hL : s.spanL n = leAt b (o + 2) 2 := State.spanL_of_spanRec hrec
  rw [State.stripeOwner_of_spanL_pos (hL ▸ hpos), State.spanEntry_of_spanRec hrec, hL, byteOffset_div_stripeBytes]

end Sys2Proof.Machine
end

section
/-! SUPPORT. CLK_NOW, the 64-bit register of the present cycle's timestamp (R72): what BAR0 accesses of a 64-bit register's two dwords do (R18), where
CLK_NOW stands, that no write stores anything in it, how a timestamp is laid out (R70), and the statement O42. -/

namespace Sys2Proof.Machine

/-! ### Aligned dword accesses of an open function -/

/-- An aligned dword read of an open function answers the dword, in the state that the read leaves (R17). -/
theorem exec_readLowDword_open {s : State} {fn : Fin 16} {a : BitVec 26} (hfn : s.fnOpen fn) (ha : a.toNat % 4 = 0) :
    exec (.readLowDword fn a) s = .next ((s.readDword fn a.toNat).2.emit (.bus fn (leBytes (s.readDword fn a.toNat).1 4))) := by
  have harm : exec (.readLowDword fn a) s = execReadLowDword fn a s := rfl
  simp only [harm, execReadLowDword, hfn, ha, beq_self_eq_true, Bool.and_self, if_true]

/-- A four-byte aligned write of an open function is a dword write (R17). -/
theorem exec_regWrite_open {s : State} {fn : Fin 16} {a : BitVec 26} (hfn : s.fnOpen fn) (ha : a.toNat % 4 = 0) (v : BitVec 32) :
    exec (.regWrite fn a 4 v) s = .next (s.writeDword fn a.toNat v.toNat) := by
  have harm : exec (.regWrite fn a 4 v) s = execRegWrite fn a 4 v s := rfl
  have hdword : ((4 : Fin 5) : Nat) = 4 ∧ a.toNat % 4 = 0 := ⟨rfl, ha⟩
  simp only [harm, execRegWrite, hfn, Bool.not_true, Bool.false_eq_true, if_false, if_pos hdword]

/-! ### The Graticule block, which every function reads (R693) -/

/-- Block 1 of BAR0 is the same block for every function. -/
theorem blockAddr_graticule (fn : Nat) {a : Nat} (ha : a / 0x1000 = 1) : blockAddr fn a = some a := by
  have hmqp : ¬ (0x10000 ≤ a ∧ a < 0x11000) := by omega
  have hin : ¬ 0x100000 ≤ a := by omega
  rw [blockAddr, if_neg hmqp, if_neg hin, if_pos (Or.inr ha)]

/-- The low dword of a 64-bit Graticule register loads the function's latch with the high dword (R18). -/
theorem State.readDword_graticuleLow (s : State) (fn : Nat) {a : Nat} (ha : a / 0x1000 = 1) (hw : isWide a = true) :
    s.readDword fn a =
      (s.regValue a % 2 ^ 32, { s with rdLatch := Tbl.put s.rdLatch (wideKey fn a) (s.regValue a / 2 ^ 32 % 2 ^ 32) }) := by
  have hmsix : ¬ 0x3000000 ≤ a := by omega
  have hdbg : ¬ (0x29000 ≤ a ∧ a < 0x2A000) := by omega
  simp only [State.readDword, if_neg hmsix, blockAddr_graticule fn ha, if_neg hdbg, if_pos hw]

/-- The high dword of a 64-bit Graticule register reads as the function's latch has it, and changes nothing (R18). -/
theorem State.readDword_graticuleHigh (s : State) (fn : Nat) {a : Nat} (ha : (a + 4) / 0x1000 = 1) (hw : isWide a = true)
    (hn : isWide (a + 4) = false) : s.readDword fn (a + 4) = (Tbl.getD s.rdLatch (wideKey fn a) (resetHigh a), s) := by
  have hmsix : ¬ 0x3000000 ≤ a + 4 := by omega
  have hdbg : ¬ (0x29000 ≤ a + 4 ∧ a + 4 < 0x2A000) := by omega
  have hhigh : 4 ≤ a + 4 ∧ isWide a = true := ⟨Nat.le_add_left .., hw⟩
  simp only [State.readDword, if_neg hmsix, blockAddr_graticule fn ha, if_neg hdbg, hn, Bool.false_eq_true, if_false, if_pos hhigh, Nat.add_sub_cancel]

/-- A dword write in the Graticule block is ignored from every function but 0; from function 0 the low dword of a 64-bit register commits it, the high
dword goes to the staging dword, and any other register takes it (R13, R18, R693). -/
theorem State.writeDword_graticule (s : State) (fn v : Nat) {a : Nat} (ha : a / 0x1000 = 1) :
    s.writeDword fn a v =
      if fn ≠ 0 then s
      else if isWide a then s.commitWide fn a (v + s.stagedHigh fn a * 2 ^ 32)
      else if 4 ≤ a ∧ isWide (a - 4) then s.writeHigh fn (a - 4) v
      else s.regWrite a v := by
  have hmsix : ¬ 0x3000000 ≤ a := by omega
  have htail : ¬ (0x1000000 ≤ a ∧ a < 0x1008000) := by omega
  have hpush : ¬ (0x1800000 ≤ a ∧ a < 0x1840000) := by omega
  simp only [State.writeDword, if_neg hmsix, if_neg htail, if_neg hpush, blockAddr_graticule fn ha, ha, and_true]

/-! ### Where CLK_NOW stands -/

/-- CLK_NOW holds no stored field: what it shows is the clock alone. -/
theorem fldsAt_clkNow : fldsAt clkNow = [] := rfl

theorem isWide_clkNow : isWide clkNow = true := rfl

/-- No register of its own stands at the high dword of CLK_NOW. -/
theorem isWide_clkNow_high : isWide (clkNow + 4) = false := rfl

/-- The Graticule responds whatever the chart declares (R694). -/
theorem State.declared_clkNow (s : State) : s.declared clkNow = true := rfl

/-- CLK_NOW shows the timestamp of the present cycle (R72). -/
theorem State.regValue_clkNow (s : State) : s.regValue clkNow = s.now := by
  simp only [State.regValue, s.declared_clkNow, Bool.not_true, Bool.false_eq_true, if_false, if_true]

/-- CLK_NOW is not among the admin queue registers that R416 locks. -/
theorem State.aqLocked_clkNow (s : State) : s.aqLocked clkNow = false := rfl

/-! ### CLK_NOW is read-only -/

/-- No register takes a commit to CLK_NOW. -/
theorem State.writeFlds_clkNow (s : State) (v : Nat) : s.writeFlds clkNow v = s := by
  simp only [State.writeFlds, s.aqLocked_clkNow, fldsAt_clkNow, Bool.false_eq_true, if_false, List.foldl_nil]

/-- A commit to CLK_NOW drops the function's staging dword and does nothing else. -/
theorem State.commitWide_clkNow (s : State) (fn v : Nat) :
    s.commitWide fn clkNow v = { s with staging := Tbl.del s.staging (wideKey fn clkNow) } := by
  simp only [State.commitWide, s.writeFlds_clkNow]

/-- A write of the high dword of CLK_NOW goes to the function's staging dword. -/
theorem State.writeHigh_clkNow (s : State) (fn v : Nat) :
    s.writeHigh fn clkNow v = { s with staging := Tbl.put s.staging (wideKey fn clkNow) v } := by
  simp only [State.writeHigh, s.aqLocked_clkNow, Bool.false_eq_true, if_false]

/-- The two states differ in their staging dwords alone. -/
def State.sameButStaging (s t : State) : Prop := t = { s with staging := t.staging }

/-- A write of either dword of CLK_NOW changes nothing but the staging dword. -/
theorem State.writeDword_clkNow (s : State) (fn v : Nat) : s.sameButStaging (s.writeDword fn clkNow v) := by
  rw [s.writeDword_graticule fn v (rfl : clkNow / 0x1000 = 1), if_pos isWide_clkNow, s.commitWide_clkNow]
  split
  · rfl
  · rfl

theorem State.writeDword_clkNow_high (s : State) (fn v : Nat) : s.sameButStaging (s.writeDword fn (clkNow + 4) v) := by
  have hhigh : 4 ≤ clkNow + 4 ∧ isWide (clkNow + 4 - 4) = true := ⟨Nat.le_add_left .., isWide_clkNow⟩
  rw [s.writeDword_graticule fn v (rfl : (clkNow + 4) / 0x1000 = 1), isWide_clkNow_high, if_pos hhigh, Nat.add_sub_cancel, s.writeHigh_clkNow]
  split
  · rfl
  · rfl

/-! ### The layout of a timestamp (Table CLK-8) -/

theorem bitsOf_mkTs_offset (t e c : Nat) : bitsOf (mkTs t e c) 0 13 = c % 2 ^ 13 := by
  simp only [bitsOf, mkTs]; omega

theorem bitsOf_mkTs_clk (t e c : Nat) : bitsOf (mkTs t e c) 13 1 = e % 2 := by
  simp only [bitsOf, mkTs]; omega

theorem bitsOf_mkTs_reserved (t e c : Nat) : bitsOf (mkTs t e c) 14 2 = 0 := by
  simp only [bitsOf, mkTs]; omega

theorem bitsOf_mkTs_tick (t e c : Nat) : bitsOf (mkTs t e c) 16 48 = t % 2 ^ 48 := by
  simp only [bitsOf, mkTs]; omega

theorem b2n_mod_two (b : Bool) : b2n b % 2 = b2n b := by cases b <;> rfl

/-! ### The statement -/

/-- Settles O42 (R72): a read of CLK_NOW is a read of a 64-bit Graticule register that shows the present timestamp, and with no field behind it a write
reaches the staging dword at most. -/
theorem clkNowReturnsTheTimestamp : Obligations.ClkNowReturnsTheTimestamp := by
  unfold Obligations.ClkNowReturnsTheTimestamp
  intro s
  refine ⟨fun fn hfn => ⟨?low, ?high, fun v => ⟨?writeLow, ?writeHigh⟩⟩, bitsOf_mkTs_offset .., ?clk, bitsOf_mkTs_reserved .., bitsOf_mkTs_tick ..⟩
  case low =>
    have hread := s.readDword_graticuleLow fn (rfl : clkNow / 0x1000 = 1) isWide_clkNow
    rw [s.regValue_clkNow] at hread
    rw [exec_readLowDword_open hfn rfl, show (0x1008#26).toNat = clkNow from rfl, hread, clkNow]
  case high =>
    intro h hlatch
    have hread := s.readDword_graticuleHigh fn (rfl : (clkNow + 4) / 0x1000 = 1) isWide_clkNow isWide_clkNow_high
    have hget : Tbl.getD s.rdLatch (wideKey fn clkNow) (resetHigh clkNow) = h := congrArg (Option.getD · _) hlatch
    rw [exec_readLowDword_open hfn rfl, show (0x100C#26).toNat = clkNow + 4 from rfl, hread, hget]
  case writeLow => exact ⟨_, exec_regWrite_open hfn rfl v, s.writeDword_clkNow fn v.toNat⟩
  case writeHigh => exact ⟨_, exec_regWrite_open hfn rfl v, s.writeDword_clkNow_high fn v.toNat⟩
  case clk => rw [State.now, bitsOf_mkTs_clk, b2n_mod_two]

end Sys2Proof.Machine
end

section
/-! SUPPORT. A supply crossing (R83): what the fall of a write gate does to the actuators, what a crossing leaves of the clock and of the register that
shows a hold, and the statement O43. -/

namespace Sys2Proof.Machine

/-! ### One actuator -/

theorem State.act_setAct_same (s : State) (k : Nat) (f : Act → Act) : (s.setAct k f).act k = f (s.act k) := by
  simp only [State.act, State.setAct, Tbl.getD, Tbl.find_put_same, Option.getD_some]

theorem State.act_setAct_ne (s : State) {k j : Nat} (f : Act → Act) (h : j ≠ k) : (s.setAct k f).act j = s.act j := by
  simp only [State.act, State.setAct, Tbl.getD, Tbl.find_put_ne _ _ h]

/-! ### The write gates fall -/

/-- The fall of an ACT output is noted among the pins, at most. -/
theorem State.actFalls_eq (s : State) (k : Nat) : ∃ pin, s.actFalls k = { s with pin := pin } := by
  unfold State.actFalls
  split
  · split
    · exact ⟨_, rfl⟩
    · exact ⟨s.pin, rfl⟩
  · exact ⟨_, rfl⟩

/-- What an actuator loses with its gate, and the sector that the guard's episode counts for it (R272, R277). -/
def Act.gateDown (a : Act) : Act :=
  { a with gate := none, guard := a.guard.map fun g => { g with abandoned := g.abandoned + 1 } }

theorem Act.gateDown_gate (a : Act) : a.gateDown.gate = none := rfl

/-- A write gate that drops was down already, or actuator `k` loses its gate and only the pins, the count of the hold and the sector writes change beside
it (R272). -/
theorem State.gateDrop_cases (s : State) (k : Nat) :
    (s.act k).gate = none ∧ s.gateDrop k = s ∨
      ∃ (pin : Pin) (pwr : Pwr) (wr : Tbl WJob), s.gateDrop k = { s.setAct k Act.gateDown with pin := pin, pwr := pwr, wr := wr } := by
  unfold State.gateDrop
  split
  · next hdown => exact .inl ⟨hdown, rfl⟩
  · obtain ⟨pin, hfall⟩ := s.actFalls_eq k
    rw [hfall]
    dsimp only
    split <;> split <;> exact .inr ⟨pin, _, _, rfl⟩

/-- The drop of gate `k` is the drop of that gate alone. -/
theorem State.gateDrop_gate (s : State) (k j : Nat) :
    ((s.gateDrop k).act j).gate = if j = k then none else (s.act j).gate := by
  obtain ⟨hdown, hsame⟩ | ⟨pin, pwr, wr, hdrop⟩ := s.gateDrop_cases k
  · rw [hsame]
    split
    · next hj => rw [hj, hdown]
    · rfl
  · have hact : (s.gateDrop k).act j = (s.setAct k Act.gateDown).act j := by rw [hdrop]; rfl
    rw [hact]
    split
    · next hj => rw [hj, s.act_setAct_same, Act.gateDown_gate]
    · next hj => rw [s.act_setAct_ne _ hj]

theorem State.gateDrop_clk (s : State) (k : Nat) : (s.gateDrop k).clk = s.clk := by
  obtain ⟨-, hsame⟩ | ⟨pin, pwr, wr, hdrop⟩ := s.gateDrop_cases k
  · rw [hsame]
  · rw [hdrop]; rfl

theorem State.gateDrop_regs (s : State) (k : Nat) : (s.gateDrop k).regs = s.regs := by
  obtain ⟨-, hsame⟩ | ⟨pin, pwr, wr, hdrop⟩ := s.gateDrop_cases k
  · rw [hsame]
  · rw [hdrop]; rfl

/-- Dropping the gates of a list of actuators leaves none of them a gate. -/
theorem State.foldl_gateDrop_gate (l : List Nat) (s : State) (j : Nat) :
    ((l.foldl State.gateDrop s).act j).gate = if j ∈ l then none else (s.act j).gate := by
  induction l generalizing s with
  | nil => rfl
  | cons k l ih =>
    rw [List.foldl_cons, ih, s.gateDrop_gate]
    by_cases hk : j = k <;> simp [hk]

/-- Of the four actuators, none keeps its gate. -/
theorem State.gateDropAll_gate (s : State) {k : Nat} (hk : k < 4) : (s.gateDropAll.act k).gate = none := by
  rw [State.gateDropAll, State.foldl_gateDrop_gate, if_pos (List.mem_range.mpr hk)]

theorem State.gateDropAll_clk (s : State) : s.gateDropAll.clk = s.clk :=
  List.foldlRecOn (motive := fun t : State => t.clk = s.clk) _ _ rfl fun t ht k _ => (t.gateDrop_clk k).trans ht

theorem State.gateDropAll_regs (s : State) : s.gateDropAll.regs = s.regs :=
  List.foldlRecOn (motive := fun t : State => t.regs = s.regs) _ _ rfl fun t ht k _ => (t.gateDrop_regs k).trans ht

/-! ### The calibration slices are abandoned (R652) -/

/-- A slice is abandoned in the channel and in TST_CAL.SLICE: no actuator and no clock takes part. -/
theorem State.abandonSlice_eq (s : State) (k : Nat) :
    s.abandonSlice k = s ∨ ∃ (chan : Tbl Chan) (v : Nat), s.abandonSlice k = ({ s with chan := chan } : State).p TST_CAL_SLICE v := by
  unfold State.abandonSlice
  dsimp only
  split
  · exact .inl rfl
  · exact .inr ⟨_, _, rfl⟩

theorem State.abandonSlice_acts (s : State) (k : Nat) : (s.abandonSlice k).acts = s.acts := by
  obtain hsame | ⟨chan, v, hslice⟩ := s.abandonSlice_eq k
  · rw [hsame]
  · rw [hslice]; rfl

theorem State.abandonSlice_clk (s : State) (k : Nat) : (s.abandonSlice k).clk = s.clk := by
  obtain hsame | ⟨chan, v, hslice⟩ := s.abandonSlice_eq k
  · rw [hsame]
  · rw [hslice]; rfl

theorem State.abandonSlice_holding (s : State) (k : Nat) : (s.abandonSlice k).holding = s.holding := by
  obtain hsame | ⟨chan, v, hslice⟩ := s.abandonSlice_eq k
  · rw [hsame]
  · rw [hslice, State.holding, State.on, State.g_p_ne _ v (by decide)]; rfl

theorem State.abandonSlices_acts (s : State) : s.abandonSlices.acts = s.acts :=
  List.foldlRecOn (motive := fun t : State => t.acts = s.acts) _ _ rfl fun t ht k _ => (t.abandonSlice_acts k).trans ht

theorem State.abandonSlices_clk (s : State) : s.abandonSlices.clk = s.clk :=
  List.foldlRecOn (motive := fun t : State => t.clk = s.clk) _ _ rfl fun t ht k _ => (t.abandonSlice_clk k).trans ht

theorem State.abandonSlices_holding (s : State) : s.abandonSlices.holding = s.holding :=
  List.foldlRecOn (motive := fun t : State => t.holding = s.holding) _ _ rfl fun t ht k _ => (t.abandonSlice_holding k).trans ht

/-! ### A hold begins, and gains a cause -/

theorem State.holdStart_clk (s : State) : s.holdStart.clk = s.clk := rfl

/-- A hold that begins is active: neither its elapsed time nor the count of dips stands in the same field. -/
theorem State.holdStart_holding (s : State) : s.holdStart.holding = true := by
  unfold State.holdStart State.bump State.bumpki
  rw [State.holding, State.on, ← State.p, State.g_p_ne _ _ (by decide), State.g_p_ne _ _ (by decide), State.g_p_same]
  rfl

/-- A cause is stored in the power unit, in a bit of PWR_HOLD other than ACTIVE, and in the recovery count. -/
theorem State.causeOn_eq (s : State) (i : Nat) :
    ∃ (F : Fld) (pwr pwr' : Pwr), PWR_HOLD_ACTIVE.key 0 0 ≠ F.key 0 0 ∧
      s.causeOn i = ({ ({ s with pwr := pwr } : State).p F 1 with pwr := pwr' } : State).p PWR_HOLD_RCVCNT 0 :=
  match i with
  | 0 => ⟨PWR_HOLD_VIN_LO, _, _, by decide, rfl⟩
  | 1 => ⟨PWR_HOLD_VIN_HI, _, _, by decide, rfl⟩
  | _ + 2 => ⟨PWR_HOLD_VM_LO, _, _, by decide, rfl⟩

theorem State.causeOn_clk (s : State) (i : Nat) : (s.causeOn i).clk = s.clk := by
  obtain ⟨F, pwr, pwr', -, hcause⟩ := s.causeOn_eq i
  rw [hcause]; rfl

/-- A further cause leaves the hold as active as it was. -/
theorem State.causeOn_holding (s : State) (i : Nat) : (s.causeOn i).holding = s.holding := by
  obtain ⟨F, pwr, pwr', hkey, hcause⟩ := s.causeOn_eq i
  rw [hcause, State.holding, State.on, State.g_p_ne _ 0 (by decide)]
  exact congrArg (· == 1) (State.g_p_ne { s with pwr := pwr } 1 hkey)

/-! ### The crossing -/

/-- Raising an event leaves the hold as active as it was, where the event's pending bit stands elsewhere. -/
theorem State.raise_holding (s : State) {e : Nat} (h : PWR_HOLD_ACTIVE.key 0 0 ∉ raiseKeys e) : (s.raise e).holding = s.holding := by
  rw [State.holding, State.on, s.raise_g e h]; rfl

/-- The state in which a crossing drops the gates: the hold is active and has its cause. -/
def State.heldFor (s : State) (i : Nat) : State := (if s.holding then s else s.holdStart).causeOn i

theorem State.heldFor_holding (s : State) (i : Nat) : (s.heldFor i).holding = true := by
  rw [State.heldFor, State.causeOn_holding]
  split
  · assumption
  · exact s.holdStart_holding

theorem State.heldFor_clk (s : State) (i : Nat) : (s.heldFor i).clk = s.clk := by
  rw [State.heldFor, State.causeOn_clk]
  split
  · rfl
  · exact s.holdStart_clk

theorem State.holdCross_eq (s : State) (i : Nat) :
    s.holdCross i = (s.heldFor i).gateDropAll.abandonSlices.raise (if i = 2 then 34 else 32) := rfl

/-- A crossing takes every write gate (R83). -/
theorem State.holdCross_gate (s : State) (i : Nat) {k : Nat} (hk : k < 4) : ((s.holdCross i).act k).gate = none := by
  have hacts : (s.holdCross i).acts = (s.heldFor i).gateDropAll.acts := by
    rw [s.holdCross_eq, State.raise_acts, State.abandonSlices_acts]
  rw [State.act, hacts]
  exact (s.heldFor i).gateDropAll_gate hk

/-- A crossing leaves a hold active, be it a new one or the one that it found (R83, R86). -/
theorem State.holdCross_holding (s : State) (i : Nat) : (s.holdCross i).holding = true := by
  have hevent : PWR_HOLD_ACTIVE.key 0 0 ∉ raiseKeys (if i = 2 then 34 else 32) := by split <;> decide
  rw [s.holdCross_eq, State.raise_holding _ hevent, State.abandonSlices_holding, State.holding, State.on, State.g, State.gateDropAll_regs]
  exact s.heldFor_holding i

/-- A crossing takes no time. -/
theorem State.holdCross_clk (s : State) (i : Nat) : (s.holdCross i).clk = s.clk := by
  rw [s.holdCross_eq, State.raise_clk, State.abandonSlices_clk, State.gateDropAll_clk, s.heldFor_clk]

/-- A VIN warning, VIN over or VM warning excursion of a running device that reaches its trip level and lasts is a crossing (R82, R83). -/
theorem exec_vinWarningCrossing_crosses {s : State} {mv ns : Nat} (hrun : s.running = true) (hns : lasting ns = true) (hmv : mv ≤ s.vinWarnMv) :
    exec (.vinWarningCrossing mv ns) s = .next (s.holdCross 0) := by
  have harm : exec (.vinWarningCrossing mv ns) s = execVinWarningCrossing s mv ns := rfl
  simp only [harm, execVinWarningCrossing, hrun, hns, hmv, decide_true, Bool.and_self, if_true]

theorem exec_vinOverCrossing_crosses {s : State} {mv ns : Nat} (hrun : s.running = true) (hns : lasting ns = true) (hmv : 5750 ≤ mv) :
    exec (.vinOverCrossing mv ns) s = .next (s.holdCross 1) := by
  have harm : exec (.vinOverCrossing mv ns) s = execVinOverCrossing s mv ns := rfl
  simp only [harm, execVinOverCrossing, hrun, hns, hmv, decide_true, Bool.and_self, if_true]

theorem exec_vmWarningCrossing_crosses {s : State} {mv ns : Nat} (hrun : s.running = true) (hns : lasting ns = true) (hmv : mv ≤ s.vmWarnMv) :
    exec (.vmWarningCrossing mv ns) s = .next (s.holdCross 2) := by
  have harm : exec (.vmWarningCrossing mv ns) s = execVmWarningCrossing s mv ns := rfl
  simp only [harm, execVmWarningCrossing, hrun, hns, hmv, decide_true, Bool.and_self, if_true]

/-! ### The statement -/

/-- Settles O43 (R83): each of the three commands is a crossing with its own cause, and every crossing takes the gates, holds, and leaves the clock. -/
theorem supplyWarningDropsTheGatesAndHolds : Obligations.SupplyWarningDropsTheGatesAndHolds := by
  unfold Obligations.SupplyWarningDropsTheGatesAndHolds
  intro s mv ns hrun hns
  have hcross (i : Nat) : (∀ k < 4, ((s.holdCross i).act k).gate = none) ∧ (s.holdCross i).holding = true ∧ (s.holdCross i).clk = s.clk :=
    ⟨fun _ hk => s.holdCross_gate i hk, s.holdCross_holding i, s.holdCross_clk i⟩
  refine ⟨fun hmv => ⟨_, ?vinWarning, hcross 0⟩, fun hmv => ⟨_, ?vinOver, hcross 1⟩, fun hmv => ⟨_, ?vmWarning, hcross 2⟩⟩
  case vinWarning => exact exec_vinWarningCrossing_crosses hrun hns hmv
  case vinOver => exact exec_vinOverCrossing_crosses hrun hns hmv
  case vmWarning => exact exec_vmWarningCrossing_crosses hrun hns hmv

end Sys2Proof.Machine
end

section
/-! SUPPORT. An ignored doorbell or push write (R426): what it leaves in MQP_DBERR and what it does not touch, which writes are ignored and with which
kind (R17, R425, R428), and the statement O44. -/

namespace Sys2Proof.Machine

/-! ### What an ignored write leaves -/

theorem State.dbError_sqs (s : State) (fn q kind : Nat) : (s.dbError fn q kind).sqs = s.sqs := State.raise_sqs ..

theorem State.dbError_cqs (s : State) (fn q kind : Nat) : (s.dbError fn q kind).cqs = s.cqs := State.raise_cqs ..

/-- An ignored write raises event 144. -/
theorem State.dbError_evtPend (s : State) (fn q kind : Nat) : (s.dbError fn q kind).evtPend 144 = true := State.raise_evtPend _ (by decide)

/-- What an ignored write stores beside the queue ID and the kind: the flag and the count of MQP_DBERR, and what the raising of event 144 stores. -/
def dbErrorSides (fn : Nat) : List Nat := MQP_DBERR_VALID.key fn 0 :: MQP_DBERR_COUNT.key fn 0 :: raiseKeys 144

/-- A field of other places reads after an ignored write as the queue ID and the kind leave it; for a fixed field the premise closes by `decide`. -/
theorem State.dbError_gk (s : State) (fn : Fin 16) (q kind : Nat) {F : Fld} (hF : ∀ fn : Fin 16, F.key fn 0 ∉ dbErrorSides fn) :
    (s.dbError fn q kind).gk F fn = ((s.pk MQP_DBERR_QID fn q).pk MQP_DBERR_KIND fn kind).gk F fn := by
  have hfn := hF fn
  simp only [dbErrorSides, List.mem_cons, not_or] at hfn
  obtain ⟨hvalid, hcount, hraise⟩ := hfn
  rw [State.dbError, State.raise_gk _ _ _ hraise, State.bumpk, State.bumpki, ← State.pk, State.gk_pk_ne _ _ hcount]
  exact State.gk_pk_ne _ _ hvalid

/-- MQP_DBERR.QID holds the queue of the ignored write, one of the 4096 that have a doorbell. -/
theorem State.dbError_qid (s : State) (fn : Fin 16) {q : Nat} (kind : Nat) (hq : q < 4096) : (s.dbError fn q kind).gk MQP_DBERR_QID fn = q := by
  have hkeys : ∀ fn : Fin 16, MQP_DBERR_QID.key fn 0 ≠ MQP_DBERR_KIND.key fn 0 := by decide
  rw [s.dbError_gk fn q kind (by decide), State.gk_pk_ne _ _ (hkeys fn), State.gk_pk_same]
  exact Nat.mod_eq_of_lt hq

/-- MQP_DBERR.KIND holds the kind of the ignored write, a code of three bits (Table MQP-9). -/
theorem State.dbError_kind (s : State) (fn : Fin 16) (q : Nat) {kind : Nat} (hkind : kind < 8) : (s.dbError fn q kind).gk MQP_DBERR_KIND fn = kind := by
  rw [s.dbError_gk fn q kind (by decide), State.gk_pk_same]
  exact Nat.mod_eq_of_lt hkind

/-! ### Tail writes that are ignored (R425) -/

theorem State.tailWrite_absent {s : State} {fn q : Nat} (hq : s.sq fn q = none) (t : Nat) : s.tailWrite fn q t = s.dbError fn q 1 := by
  simp only [State.tailWrite, hq]

theorem State.tailWrite_outside {s : State} {fn q t : Nat} {x : Sq} (hq : s.sq fn q = some x) (ht : x.depth ≤ t) :
    s.tailWrite fn q t = s.dbError fn q 2 := by
  simp only [State.tailWrite, hq, if_pos ht]

theorem State.tailWrite_backward {s : State} {fn q t : Nat} {x : Sq} (hq : s.sq fn q = some x) (ht : t < x.depth)
    (hback : (t + x.depth - x.head) % x.depth < (x.tail + x.depth - x.head) % x.depth) : s.tailWrite fn q t = s.dbError fn q 3 := by
  simp only [State.tailWrite, hq, if_neg (Nat.not_le.mpr ht), if_pos hback]

/-! ### Head writes that are ignored (R425) -/

theorem State.headWrite_absent {s : State} {fn q : Nat} (hq : s.cq fn q = none) (h : Nat) : s.headWrite fn q h = s.dbError fn q 1 := by
  simp only [State.headWrite, hq]

theorem State.headWrite_unwritten {s : State} {fn q h : Nat} {x : Cq} (hq : s.cq fn q = some x)
    (hh : x.depth ≤ h ∨ (x.tail + x.depth - x.head) % x.depth < (h + x.depth - x.head) % x.depth) : s.headWrite fn q h = s.dbError fn q 4 := by
  simp only [State.headWrite, hq, if_pos hh]

/-! ### Push writes that are ignored (R428) -/

theorem State.pushWrite_absent {s : State} {fn q : Nat} (hq : s.sq fn q = none) (b : List Byte) (al : Bool) :
    s.pushWrite fn q b al = s.dbError fn q 1 := by
  simp only [State.pushWrite, hq]

theorem State.pushWrite_malformed {s : State} {fn q : Nat} {x : Sq} {b : List Byte} {al : Bool} (hq : s.sq fn q = some x)
    (hbad : x.push = false ∨ al = false ∨ b.length ≠ 64) : s.pushWrite fn q b al = s.dbError fn q 5 := by
  have htest : (!x.push || !al || b.length != 64) = true := by simpa [or_assoc] using hbad
  simp only [State.pushWrite, hq, if_pos htest]

theorem State.pushWrite_full {s : State} {fn q : Nat} {x : Sq} {b : List Byte} (hq : s.sq fn q = some x) (hpush : x.push = true) (hb : b.length = 64)
    (hfull : ((x.tail + 1) % x.depth + x.depth - x.head) % x.depth < (x.tail + x.depth - x.head) % x.depth) :
    s.pushWrite fn q b true = s.dbError fn q 3 := by
  have htest : ¬ (!x.push || !true || b.length != 64) = true := by simp [hpush, hb]
  simp only [State.pushWrite, hq, if_neg htest, if_pos hfull]

/-! ### The commands of an open function -/

theorem exec_sqTailDoorbell_open {s : State} {fn : Fin 16} (hfn : s.fnOpen fn) (q : Fin 4096) (t : BitVec 32) :
    exec (.sqTailDoorbell fn q t) s = .next (s.tailWrite fn q t.toNat) := by
  have harm : exec (.sqTailDoorbell fn q t) s = execSqTailDoorbell fn q t s := rfl
  rw [harm, execSqTailDoorbell, if_pos hfn]

theorem exec_cqHeadDoorbell_open {s : State} {fn : Fin 16} (hfn : s.fnOpen fn) (q : Fin 4096) (h : BitVec 32) :
    exec (.cqHeadDoorbell fn q h) s = .next (s.headWrite fn q h.toNat) := by
  have harm : exec (.cqHeadDoorbell fn q h) s = execCqHeadDoorbell fn q h s := rfl
  rw [harm, execCqHeadDoorbell, if_pos hfn]

theorem exec_pushWrite_open {s : State} {fn : Fin 16} (hfn : s.fnOpen fn) (q : Fin 4096) (b : List Byte) (al : Bool) :
    exec (.pushWrite fn q b al) s = .next (s.pushWrite fn q b al) := by
  have harm : exec (.pushWrite fn q b al) s = execPushWrite fn q b al s := rfl
  rw [harm, execPushWrite, if_pos hfn]

/-- A narrow or unaligned write of an open function is no dword write (R17). -/
theorem exec_regWrite_bad {s : State} {fn : Fin 16} {a : BitVec 26} {len : Fin 5} (hfn : s.fnOpen fn) (hbad : (len : Nat) ≠ 4 ∨ a.toNat % 4 ≠ 0)
    (v : BitVec 32) : exec (.regWrite fn a len v) s = .next (s.writeBad fn a.toNat) := by
  have harm : exec (.regWrite fn a len v) s = execRegWrite fn a len v s := rfl
  have hdword : ¬ ((len : Nat) = 4 ∧ a.toNat % 4 = 0) := by omega
  simp only [harm, execRegWrite, hfn, Bool.not_true, Bool.false_eq_true, if_false, if_neg hdword]

/-! ### The doorbell region -/

/-- Byte `o` of the doorbell pair of queue `q`: the region holds all 4096 pairs, within the 26 bits of a BAR0 address. -/
theorem doorbell_toNat {q o : Nat} (hq : q < 4096) (ho : o < 8) : (0x1000000 + BitVec.ofNat 26 (8 * q + o)).toNat = 0x1000000 + (8 * q + o) := by
  have hbase : (0x1000000 : BitVec 26).toNat = 0x1000000 := rfl
  rw [BitVec.toNat_add, BitVec.toNat_ofNat, hbase]
  omega

/-- A narrow or unaligned write at a doorbell pair is an ignored write of its queue (R17, R426). -/
theorem State.writeBad_doorbell (s : State) (fn : Nat) {q o : Nat} (hq : q < 4096) (ho : o < 8) :
    s.writeBad fn (0x1000000 + (8 * q + o)) = s.dbError fn q 6 := by
  have hin : 0x1000000 ≤ 0x1000000 + (8 * q + o) ∧ 0x1000000 + (8 * q + o) < 0x1008000 := by omega
  have hqueue : (0x1000000 + (8 * q + o) - 0x1000000) / 8 = q := by omega
  rw [State.writeBad, if_pos hin, hqueue]

theorem exec_regWrite_badDoorbell {s : State} {fn : Fin 16} (hfn : s.fnOpen fn) {len : Fin 5} {q o : Nat} (hq : q < 4096) (ho : o < 8)
    (hbad : (len : Nat) ≠ 4 ∨ o % 4 ≠ 0) (v : BitVec 32) :
    exec (.regWrite fn (0x1000000 + BitVec.ofNat 26 (8 * q + o)) len v) s = .next (s.dbError fn q 6) := by
  have ha := doorbell_toNat hq ho
  rw [exec_regWrite_bad hfn (by omega), ha, s.writeBad_doorbell fn hq ho]

/-! ### The statement -/

/-- Settles O44 (R426): each of these writes is an ignored write, and every ignored write is recorded and leaves the queues as they were. -/
theorem ignoredDoorbellsAreRecorded : Obligations.IgnoredDoorbellsAreRecorded := by
  unfold Obligations.IgnoredDoorbellsAreRecorded
  intro s fn q hfn ignored
  have hrecorded {c : Instr} {kind : Nat} (hkind : kind < 8) (hc : exec c s = .next (s.dbError fn q kind)) : ignored c kind :=
    ⟨_, hc, s.dbError_sqs .., s.dbError_cqs .., s.dbError_qid fn kind q.isLt, s.dbError_kind fn q hkind, s.dbError_evtPend ..⟩
  refine ⟨fun hq => ⟨fun v => hrecorded (by decide) ?tailAbsent, fun b al => hrecorded (by decide) ?pushAbsent⟩,
    fun hq v => hrecorded (by decide) ?headAbsent, fun x hq v ht => hrecorded (by decide) ?tailOutside,
    fun x hq v ht hback => hrecorded (by decide) ?tailBackward, fun x hq v hh => hrecorded (by decide) ?headUnwritten,
    fun x hq b al hbad => hrecorded (by decide) ?pushMalformed, fun x hq hpush b hb hfull => hrecorded (by decide) ?pushFull,
    fun len v o ho hbad => hrecorded (by decide) ?badDoorbell⟩
  case tailAbsent => rw [exec_sqTailDoorbell_open hfn, State.tailWrite_absent hq]
  case pushAbsent => rw [exec_pushWrite_open hfn, State.pushWrite_absent hq]
  case headAbsent => rw [exec_cqHeadDoorbell_open hfn, State.headWrite_absent hq]
  case tailOutside => rw [exec_sqTailDoorbell_open hfn, State.tailWrite_outside hq ht]
  case tailBackward => rw [exec_sqTailDoorbell_open hfn, State.tailWrite_backward hq ht hback]
  case headUnwritten => rw [exec_cqHeadDoorbell_open hfn, State.headWrite_unwritten hq hh]
  case pushMalformed => rw [exec_pushWrite_open hfn, State.pushWrite_malformed hq hbad]
  case pushFull => rw [exec_pushWrite_open hfn, State.pushWrite_full hq hpush hb hfull]
  case badDoorbell => exact exec_regWrite_badDoorbell hfn q.isLt ho hbad v

end Sys2Proof.Machine
end

section
/-! SUPPORT. Delete I/O CQ (R459): what a completing command leaves of the commands and of the completion queues, how an admin command ends at the first
of its own checks that fails, and the statement O45. -/

namespace Sys2Proof.Machine

theorem Tbl.find_del_same {α : Type} (t : Tbl α) (k : Nat) : Tbl.find (Tbl.del t k) k = none := by
  induction t with
  | nil => rfl
  | cons e t ih =>
    obtain ⟨k', v⟩ := e
    by_cases hk : k' = k
    · simpa [Tbl.del, hk] using ih
    · simpa [Tbl.del, hk, Tbl.find] using ih

/-! ### The steps of a completion -/

theorem State.cmd_setCmd_same (s : State) (i : Nat) (c : Cmd) : (s.setCmd i c).cmd i = some c := Tbl.find_put_same ..

theorem State.setCmd_cq (s : State) (i : Nat) (c : Cmd) (fn q : Nat) : (s.setCmd i c).cq fn q = s.cq fn q := rfl

theorem State.setCq_cmd (s : State) (fn q : Nat) (x : Cq) (i : Nat) : (s.setCq fn q x).cmd i = s.cmd i := rfl

/-- Storing a CQ that exists creates and removes none. -/
theorem State.setCq_cq_isSome {s : State} {fn q : Nat} (h : (s.cq fn q).isSome) (x : Cq) (fn' q' : Nat) :
    ((s.setCq fn q x).cq fn' q').isSome = (s.cq fn' q').isSome := by
  unfold State.cq State.setCq at *
  by_cases hk : qKey fn' q' = qKey fn q
  · rw [hk, Tbl.find_put_same, h, Option.isSome_some]
  · rw [Tbl.find_put_ne _ _ hk]

theorem State.raise_cmd (s : State) (e i : Nat) : (s.raise e).cmd i = s.cmd i := by rw [State.cmd, State.raise_cmds, State.cmd]

theorem State.raise_cq (s : State) (e fn q : Nat) : (s.raise e).cq fn q = s.cq fn q := by rw [State.cq, State.raise_cqs, State.cq]

theorem State.cqWait_cmd (s : State) (fn q : Nat) (w : CqWait) (i : Nat) : (s.cqWait fn q w).cmd i = s.cmd i := by
  unfold State.cqWait
  split
  · rfl
  · dsimp only
    split
    · rw [State.raise_cmd, State.setCq_cmd]
    · rfl

/-- A completion entry joins a CQ that exists, and creates none. -/
theorem State.cqWait_cq_isSome (s : State) (fn q : Nat) (w : CqWait) (fn' q' : Nat) :
    ((s.cqWait fn q w).cq fn' q').isSome = (s.cq fn' q').isSome := by
  unfold State.cqWait
  split
  · rfl
  · next x hx =>
    have hset (y : Cq) : ((s.setCq fn q y).cq fn' q').isSome = (s.cq fn' q').isSome := State.setCq_cq_isSome (by rw [hx]; rfl) y fn' q'
    dsimp only
    split
    · rw [State.raise_cq, hset]
    · rw [hset]

theorem State.unfreezeEntry_cmd (s : State) (fn cq q i : Nat) : (s.unfreezeEntry fn cq q).cmd i = s.cmd i := by
  unfold State.unfreezeEntry
  split <;> rfl

theorem State.unfreezeEntry_cq_isSome (s : State) (fn cq q fn' q' : Nat) :
    ((s.unfreezeEntry fn cq q).cq fn' q').isSome = (s.cq fn' q').isSome := by
  unfold State.unfreezeEntry
  split
  · rfl
  · next x hx => exact State.setCq_cq_isSome (by rw [hx]; rfl) _ fn' q'

/-- An error goes to the SQ, the registers, the events and the records: to no command and no CQ. -/
theorem State.sqError_frame (s : State) (c : Cmd) (st : Nat) : (s.sqError c st).cmds = s.cmds ∧ (s.sqError c st).cqs = s.cqs := by
  unfold State.sqError
  (repeat' split) <;> simp [State.setSq, apply_ite State.cmds, apply_ite State.cqs]

theorem State.sqError_cmd (s : State) (c : Cmd) (st i : Nat) : (s.sqError c st).cmd i = s.cmd i := by
  rw [State.cmd, (s.sqError_frame c st).1, State.cmd]

theorem State.sqError_cq (s : State) (c : Cmd) (st fn q : Nat) : (s.sqError c st).cq fn q = s.cq fn q := by
  rw [State.cq, (s.sqError_frame c st).2, State.cq]

/-- Completing a command creates and removes no CQ. -/
theorem State.complete_cq_isSome (s : State) (i st fn q : Nat) : ((s.complete i st).cq fn q).isSome = (s.cq fn q).isSome := by
  unfold State.complete
  split
  · rfl
  · dsimp only
    split
    · rfl
    · split
      · rfl
      · rw [State.cqWait_cq_isSome]
        (repeat' split) <;> simp only [State.sqError_cq, State.unfreezeEntry_cq_isSome, State.setCmd_cq] <;> rfl

/-- A command that has no status yet and whose function was not reset stays in its slot with the status it completes with, its entry waiting (phase 3). -/
theorem State.complete_cmd {s : State} {i : Nat} {c : Cmd} (hc : s.cmd i = some c) (hp : c.phase ≠ 3) (hs : c.silent = false) (st : Nat) :
    ((s.complete i st).cmd i).map (·.status) = some st ∧ ((s.complete i st).cmd i).map (·.phase) = some 3 := by
  simp only [State.complete, hc, hp, hs, Bool.false_eq_true, if_false, State.cqWait_cmd]
  (repeat' split) <;> simp only [State.sqError_cmd, State.unfreezeEntry_cmd, State.cmd_setCmd_same, Option.map_some, and_self]

/-! ### An admin command whose own checks fail -/

theorem firstFail_append {l : List (Bool × Nat)} {st : Nat} (h : firstFail l = some st) (l' : List (Bool × Nat)) : firstFail (l ++ l') = some st := by
  induction l with
  | nil => cases h
  | cons e t ih =>
    obtain ⟨b, n⟩ := e
    cases b
    · exact ih h
    · exact h

/-- What the checks before a command's own ask of it (R450 to R452). -/
theorem State.adminRuns_iff (s : State) (i opc : Nat) (c : Cmd) (used : List (Nat × Nat)) :
    s.adminRuns i opc c used = true ↔
      s.cmd i = some c ∧ s.starts i c = true ∧ c.sq = 0 ∧ c.opc = opc ∧ s.adminGate c = none ∧ c.reserved used = false := by
  simp [State.adminRuns, and_assoc]

/-- A command that may start has no status yet. -/
theorem State.starts_phase {s : State} {i : Nat} {c : Cmd} (h : s.starts i c = true) : c.phase = 0 := by
  simp only [State.starts, Bool.and_eq_true, beq_iff_eq] at h
  obtain ⟨⟨-, hphase⟩, -⟩ := h
  exact hphase

/-- An admin command that starts and fails some of its own checks completes with the status of the first of them (R452). -/
theorem State.adminPlain_fails {s : State} {i opc : Nat} {c : Cmd} {sel : Cmd → Bool} {used : List (Nat × Nat)} {checks : Cmd → List (Bool × Nat)}
    {st : Nat} (f : Cmd → State → State) (h : s.adminRuns i opc c used = true) (hsel : sel c = true) (hst : firstFail (checks c) = some st) :
    s.adminPlain i opc sel used checks f = s.complete i st := by
  obtain ⟨hcmd, hstarts, hsq, hopc, hgate, hres⟩ := (s.adminRuns_iff i opc c used).mp h
  have hfirst : firstFail ((c.reserved used, 0x0101) :: (checks c ++ [(!c.noData, 0x0112)])) = some st := by
    rw [hres]; exact firstFail_append hst _
  simp [State.adminPlain, State.admin, hcmd, hstarts, hsq, hopc, hsel, hgate, hfirst]

/-! ### Delete I/O CQ -/

/-- Some I/O SQ of function `fn` names CQ `q` (R459). -/
def State.namesCq (s : State) (fn q : Nat) : Bool := s.sqs.any fun e => e.1 / 65536 == fn && e.1 % 65536 != 0 && e.2.cq == q

theorem State.namesCq_iff (s : State) (fn q : Nat) :
    s.namesCq fn q = true ↔ ∃ e ∈ s.sqs, e.1 / 65536 = fn ∧ e.1 % 65536 ≠ 0 ∧ e.2.cq = q := by
  simp [State.namesCq, and_assoc]

theorem exec_deleteIoCq (i : Nat) (s : State) : exec (.deleteIoCq i) s = execDeleteIoCq i s := rfl

/-- CQ `q` of function `fn` becomes ABSENT. -/
def State.dropCq (s : State) (fn q : Nat) : State := { s with cqs := Tbl.del s.cqs (qKey fn q) }

theorem State.dropCq_cmd (s : State) (fn q i : Nat) : (s.dropCq fn q).cmd i = s.cmd i := rfl

theorem State.dropCq_cq_same (s : State) (fn q : Nat) : (s.dropCq fn q).cq fn q = none := Tbl.find_del_same ..

section
variable {s : State} {i : Nat} {c : Cmd} (hrun : s.adminRuns i 4 c [(32, 2)] = true) (hqid : s.badQid c (c.le 32 2) = false)
  (hcq : (s.cq c.fn (c.le 32 2)).isSome = true)
include hrun hqid hcq

/-- While an I/O SQ names the CQ, the command completes with 0x0109 and does nothing else. -/
theorem exec_deleteIoCq_named (hnames : s.namesCq c.fn (c.le 32 2) = true) : exec (.deleteIoCq i) s = .next (s.complete i 0x0109) := by
  unfold State.namesCq at hnames
  rw [exec_deleteIoCq, execDeleteIoCq, State.adminPlain_fails _ hrun rfl]
  simp only [firstFail, hqid, Option.isNone_eq_false_iff.mpr hcq, Bool.or_self, Bool.false_eq_true, if_false, if_true, hnames]

/-- While none does, the command removes the CQ and completes with success. -/
theorem exec_deleteIoCq_unnamed (hdata : c.noData = true) (hnames : s.namesCq c.fn (c.le 32 2) = false) :
    exec (.deleteIoCq i) s = .next (((s.begun i c).dropCq c.fn (c.le 32 2)).complete i 0) := by
  unfold State.namesCq at hnames
  rw [exec_deleteIoCq, execDeleteIoCq, State.adminPlain_runs _ hrun rfl ?checks hdata]
  case checks => simp only [firstFail, hqid, Option.isNone_eq_false_iff.mpr hcq, Bool.or_self, Bool.false_eq_true, if_false, hnames]
  rfl

end

/-- Settles O45 (R459): either way the command ends in a completion, which keeps the command with its status and creates and removes no CQ; the CQ that is
removed before it stays removed. -/
theorem deleteIoCqNeedsNoSqOnIt : Obligations.DeleteIoCqNeedsNoSqOnIt := by
  unfold Obligations.DeleteIoCqNeedsNoSqOnIt
  intro s i c hrun hdata hsilent hqid hcq
  obtain ⟨hcmd, hstarts, -⟩ := (s.adminRuns_iff ..).mp hrun
  rw [← State.namesCq_iff]
  refine ⟨fun hnames => ?named, fun hnames => ?unnamed⟩
  case named =>
    have hphase : c.phase ≠ 3 := by rw [State.starts_phase hstarts]; decide
    obtain ⟨hst, hph⟩ := State.complete_cmd hcmd hphase hsilent 0x0109
    exact ⟨_, exec_deleteIoCq_named hrun hqid hcq hnames, hst, hph, by rw [State.complete_cq_isSome, hcq]⟩
  case unnamed =>
    have hbegun : ((s.begun i c).dropCq c.fn (c.le 32 2)).cmd i = some { c with phase := 2 } := by
      rw [State.dropCq_cmd, State.begun, State.cmd_setCmd_same]
    obtain ⟨hst, hph⟩ := State.complete_cmd hbegun (show 2 ≠ 3 by decide) hsilent 0
    refine ⟨_, exec_deleteIoCq_unnamed hrun hqid hcq hdata (Bool.eq_false_iff.mpr hnames), hst, hph, ?absent⟩
    rw [← Option.not_isSome_iff_eq_none, State.complete_cq_isSome, State.dropCq_cq_same]
    decide

end Sys2Proof.Machine
end

section
/-! SUPPORT. EVT_GRP (R635): the bits of a mask of tests, what BAR0 accesses of the PF's 32-bit registers do, the value of a register that shows a part of
the state, and the statement O46. -/

namespace Sys2Proof.Machine

/-! ### A mask of tests -/

/-- The mask of `n + 1` tests is the mask of the first `n` below the last. -/
theorem maskOf_succ (n : Nat) (f : Nat → Bool) : maskOf (n + 1) f = 2 ^ n * b2n (f n) + maskOf n f := by
  simp only [maskOf, List.range_succ, List.foldl_append, List.foldl_cons, List.foldl_nil]
  cases f n <;> simp [b2n, Nat.add_comm]

theorem maskOf_lt (n : Nat) (f : Nat → Bool) : maskOf n f < 2 ^ n := by
  induction n with
  | zero => exact Nat.one_pos
  | succ n ih =>
    have hbit : b2n (f n) ≤ 1 := by cases f n <;> decide
    have hlast : 2 ^ n * b2n (f n) ≤ 2 ^ n * 1 := Nat.mul_le_mul_left _ hbit
    rw [maskOf_succ]
    omega

theorem b2n_testBit (b : Bool) (i : Nat) : (b2n b).testBit i = (decide (i = 0) && b) := by
  cases b with
  | false => simp [b2n]
  | true => rw [b2n, if_pos rfl, Bool.and_true, Bool.eq_iff_iff, Nat.testBit_one_eq_true_iff_self_eq_zero, decide_eq_true_iff]

/-- Bit `g` of a mask is test `g`. -/
theorem maskOf_testBit (n : Nat) (f : Nat → Bool) (g : Nat) : (maskOf n f).testBit g = (decide (g < n) && f g) := by
  induction n with
  | zero => simp [maskOf]
  | succ n ih =>
    rw [maskOf_succ, Nat.testBit_two_pow_mul_add _ (maskOf_lt n f), b2n_testBit]
    rcases Nat.lt_trichotomy g n with hlt | rfl | hgt
    · simp [hlt, ih, Nat.lt_succ_of_lt hlt]
    · simp
    · have hout : ¬ g < n + 1 := by omega
      simp [hout, Nat.not_lt_of_gt hgt, Nat.sub_ne_zero_of_lt hgt]

theorem bitAt_maskOf {n g : Nat} (f : Nat → Bool) (hg : g < n) : bitAt (maskOf n f) g = f g := by
  rw [bitAt_testBit, maskOf_testBit]
  simp [hg]

/-! ### 32-bit registers of the PF (R13, R17) -/

/-- `a` is the BAR0 address of a dword below the windows that is neither in the debug window nor half of a 64-bit register. -/
def plainReg (a : Nat) : Prop := a < 0x100000 ∧ ¬ (0x29000 ≤ a ∧ a < 0x2A000) ∧ isWide a = false ∧ isWide (a - 4) = false

/-- The PF sees every register block at its own address. -/
theorem blockAddr_pf {a : Nat} (ha : a < 0x100000) : blockAddr 0 a = some a := by
  have hin : ¬ 0x100000 ≤ a := by omega
  simp [blockAddr, hin]

/-- A read of a plain 32-bit register of the PF returns its value and changes nothing. -/
theorem State.readDword_plainReg (s : State) {a : Nat} (ha : plainReg a) : s.readDword 0 a = (s.regValue a % 2 ^ 32, s) := by
  obtain ⟨hblock, hdbg, hlow, hhigh⟩ := ha
  have hmsix : ¬ 0x3000000 ≤ a := by omega
  simp only [State.readDword, if_neg hmsix, blockAddr_pf hblock, if_neg hdbg, hlow, hhigh, Bool.false_eq_true, and_false, if_false]

/-- A write of a plain 32-bit register of the PF is the register's write. -/
theorem State.writeDword_plainReg (s : State) (v : Nat) {a : Nat} (ha : plainReg a) : s.writeDword 0 a v = s.regWrite a v := by
  obtain ⟨hblock, -, hlow, hhigh⟩ := ha
  have hmsix : ¬ 0x3000000 ≤ a := by omega
  have htail : ¬ (0x1000000 ≤ a ∧ a < 0x1008000) := by omega
  have hpush : ¬ (0x1800000 ≤ a ∧ a < 0x1840000) := by omega
  simp only [State.writeDword, if_neg hmsix, if_neg htail, if_neg hpush, blockAddr_pf hblock, hlow, hhigh, ne_eq, not_true, false_and, and_false,
    Bool.false_eq_true, if_false]

theorem exec_readLowDword_plainReg {s : State} (hfn : s.fnOpen 0) {a : BitVec 26} (hal : a.toNat % 4 = 0) (ha : plainReg a.toNat) :
    exec (.readLowDword 0 a) s = .next (s.emit (.bus 0 (leBytes (s.regValue a.toNat % 2 ^ 32) 4))) := by
  have hread : s.readDword (0 : Fin 16) a.toNat = (s.regValue a.toNat % 2 ^ 32, s) := s.readDword_plainReg ha
  rw [exec_readLowDword_open hfn hal, hread]
  rfl

theorem exec_regWrite_plainReg {s : State} (hfn : s.fnOpen 0) {a : BitVec 26} (hal : a.toNat % 4 = 0) (ha : plainReg a.toNat) (v : BitVec 32) :
    exec (.regWrite 0 a 4 v) s = .next (s.regWrite a.toNat v.toNat) := by
  have hwrite : s.writeDword (0 : Fin 16) a.toNat v.toNat = s.regWrite a.toNat v.toNat := s.writeDword_plainReg _ ha
  rw [exec_regWrite_open hfn hal, hwrite]

/-- A register that shows a part of the state reads as it shows it. -/
theorem State.regValue_shown {s : State} {a v : Nat} (hd : s.declared a = true) (hclk : a ≠ clkNow) (hv : s.shown a = some v) : s.regValue a = v := by
  simp only [State.regValue, hd, hv, if_neg hclk, Bool.not_true, Bool.false_eq_true, if_false]

/-- The event unit, block 14, responds whatever the chart declares (R694). -/
theorem State.declared_evt (s : State) {o : Nat} (ho : o < 4096) : s.declared (0xE000 + o) = true := by
  have hblock : (0xE000 + o) / 4096 = 14 := by omega
  simp [State.declared, hblock]

/-! ### The groups -/

/-- Some event of group `g` is both pending and unmasked. -/
def State.groupUp (s : State) (g : Nat) : Bool := (List.range 16).any fun j => s.evtPend (16 * g + j) && !s.evtMasked (16 * g + j)

theorem State.groupUp_iff (s : State) (g : Nat) :
    s.groupUp g = true ↔ ∃ j < 16, s.evtPend (16 * g + j) = true ∧ s.evtMasked (16 * g + j) = false := by
  simp [State.groupUp]

/-- EVT_GRP shows the twelve groups, one to a bit. -/
theorem State.regValue_evtGrp (s : State) : s.regValue 0xE040 = maskOf 12 s.groupUp :=
  State.regValue_shown (s.declared_evt (o := 0x40) (by decide)) (by decide) rfl

theorem plainReg_evtGrp : plainReg 0xE040 := ⟨by decide, by decide, rfl, rfl⟩

/-! ### The statement -/

/-- Settles O46 (R635): the read returns the mask of the groups, which fits in its dword, and bit g of that mask is group g's test. -/
theorem eventGroupBitsFollowPendingAndMask : Obligations.EventGroupBitsFollowPendingAndMask := by
  unfold Obligations.EventGroupBitsFollowPendingAndMask
  intro s hfn
  refine ⟨maskOf 12 s.groupUp, ?read, fun g hg => ?bit⟩
  case read =>
    have hfits : maskOf 12 s.groupUp % 2 ^ 32 = maskOf 12 s.groupUp :=
      Nat.mod_eq_of_lt (Nat.lt_trans (maskOf_lt 12 s.groupUp) (by decide))
    have hread := exec_readLowDword_plainReg hfn (a := 0xE040#26) rfl plainReg_evtGrp
    rw [show (0xE040#26).toNat = 0xE040 from rfl, s.regValue_evtGrp, hfits] at hread
    exact hread
  case bit => rw [bitAt_maskOf _ hg, s.groupUp_iff]

end Sys2Proof.Machine
end

section
/-! SUPPORT. The receive queue of the event unit (R640): that raising an event leaves it alone, what an EVENT parcel and a POP do to it, what EVT_FABIN
shows of it, and the statement O47. -/

namespace Sys2Proof.Machine

/-! ### A raising leaves the receive queue alone -/

/-- The receive side of the event unit: its queue, and whether event 188 has been raised in the current episode of a full one (R640). -/
def State.fabIn (s : State) : List (List Byte) × Bool := (s.evt.recvQ, s.evt.fullEpi)

theorem State.fabIn_of_evt {s t : State} (h : t.evt = s.evt) : t.fabIn = s.fabIn := by rw [State.fabIn, h, State.fabIn]

theorem State.sendMsix_evt (s : State) (fn vec : Nat) : (s.sendMsix fn vec).evt = s.evt := by
  simp only [State.sendMsix]
  (repeat' split) <;> rfl

theorem State.tracePush_evt (s : State) (m : List Byte) : (s.tracePush m).evt = s.evt := by
  simp only [State.tracePush]
  (repeat' split) <;> rfl

theorem State.trcTrigger_evt (s : State) (k post : Nat) : (s.trcTrigger k post).evt = s.evt := by
  simp only [State.trcTrigger]
  (repeat' split) <;> rfl

theorem State.trcSource_evt (s : State) (k src : Nat) : (s.trcSource k src).evt = s.evt := by
  unfold State.trcSource
  split
  · exact s.trcTrigger_evt ..
  · rfl

theorem State.trcEvent_evt (s : State) (e : Nat) : (s.trcEvent e).evt = s.evt := by
  refine List.foldlRecOn (motive := fun t : State => t.evt = s.evt) _ _ rfl fun t ht k _ => ?_
  dsimp only
  (repeat' split) <;> simp only [State.trcSource_evt, ht]

theorem State.evtTrace_evt (s : State) (e : Nat) : (s.evtTrace e).evt = s.evt := by
  unfold State.evtTrace
  split
  · exact s.tracePush_evt _
  · rfl

theorem State.snapTrig_evt (s : State) (e : Nat) : (s.snapTrig e).evt = s.evt := by
  refine List.foldlRecOn (motive := fun t : State => t.evt = s.evt) _ _ rfl fun t ht l _ => ?_
  split
  · exact ht
  · exact ht

theorem State.evoPulse_evt (s : State) (e : Nat) : (s.evoPulse e).evt = s.evt := by
  simp only [State.evoPulse]
  split <;> rfl

theorem State.evtDue_fabIn (s : State) (e : Nat) : (s.evtDue e).fabIn = s.fabIn := by
  unfold State.evtDue
  (repeat' split) <;> rfl

theorem State.evtMsg_fabIn (s : State) (e : Nat) : (s.evtMsg e).fabIn = s.fabIn := by
  simp only [State.evtMsg]
  (repeat' split)
  · rfl
  · rfl
  · rfl
  · rw [State.fabIn_of_evt (State.sendMsix_evt ..)]
    rfl

theorem State.evtQueue_fabIn (s : State) (p : EvtParcel) : (s.evtQueue p).fabIn = s.fabIn := by
  unfold State.evtQueue
  split <;> rfl

theorem State.evtFab_fabIn (s : State) (e : Nat) : (s.evtFab e).fabIn = s.fabIn := by
  simp only [State.evtFab]
  (repeat' split)
  · rfl
  · rfl
  · rfl
  · rw [State.evtQueue_fabIn]
    rfl

theorem State.evtRoutes_fabIn (s : State) (e : Nat) : (s.evtRoutes e).fabIn = s.fabIn := by
  unfold State.evtRoutes
  split
  · rw [State.evtFab_fabIn, State.fabIn_of_evt (State.evoPulse_evt ..), State.evtMsg_fabIn]
  · rfl

/-- Raising an event neither takes a payload from the receive queue nor puts one in, and begins and ends no episode. -/
theorem State.raise_fabIn (s : State) (e : Nat) : (s.raise e).fabIn = s.fabIn := by
  rw [State.raise, State.evtRoutes_fabIn, State.fabIn_of_evt (State.evtTrace_evt ..), State.fabIn_of_evt (State.trcEvent_evt ..),
    State.fabIn_of_evt (State.snapTrig_evt ..), State.evtDue_fabIn]
  rfl

theorem State.raise_recvQ (s : State) (e : Nat) : (s.raise e).evt.recvQ = s.evt.recvQ := congrArg Prod.fst (s.raise_fabIn e)

theorem State.raise_fullEpi (s : State) (e : Nat) : (s.raise e).evt.fullEpi = s.evt.fullEpi := congrArg Prod.snd (s.raise_fabIn e)

/-! ### A consumed EVENT parcel -/

theorem exec_event_running {s : State} (hrun : s.running) (b : List Byte) : exec (.event b) s = .next (s.evtReceive b) := by
  have harm : exec (.event b) s = execEvent b s := rfl
  rw [harm, execEvent, if_pos hrun]

/-- A payload that finds room joins the queue, with event 187. -/
theorem State.evtReceive_room {s : State} (b : List Byte) (hroom : s.evt.recvQ.length < 16) :
    (s.evtReceive b).evt.recvQ = s.evt.recvQ ++ [b] ∧ (s.evtReceive b).evtPend 187 = true := by
  simp only [State.evtReceive, if_pos hroom]
  exact ⟨State.raise_recvQ .., State.raise_evtPend _ (by decide)⟩

theorem satAdd_lt (w v d : Nat) : satAdd w v d < 2 ^ w := by
  have hpos : 0 < 2 ^ w := Nat.two_pow_pos w
  unfold satAdd
  split <;> omega

/-- A saturating count reads as it was raised: it stays within its field. -/
theorem State.bump_g_same (s : State) (F : Fld) (d : Nat) : (s.bump F d).g F = satAdd F.w (s.g F) d :=
  (State.g_p_same s F _).trans (Nat.mod_eq_of_lt (satAdd_lt ..))

theorem State.bump_evt (s : State) (F : Fld) (d : Nat) : (s.bump F d).evt = s.evt := rfl

/-- A payload that finds the queue full is discarded and counted; within an episode that is all. -/
theorem State.evtReceive_again {s : State} (b : List Byte) (hfull : 16 ≤ s.evt.recvQ.length) (hepi : s.evt.fullEpi = true) :
    s.evtReceive b = s.bump EVT_FABCTL_DROPIN 1 := by
  simp only [State.evtReceive, if_neg (Nat.not_lt.mpr hfull), State.bump_evt, hepi, if_true]

/-- The first payload of an episode that finds the queue full begins it, with event 188. -/
theorem State.evtReceive_first {s : State} (b : List Byte) (hfull : 16 ≤ s.evt.recvQ.length) (hepi : s.evt.fullEpi = false) :
    s.evtReceive b = ({ s.bump EVT_FABCTL_DROPIN 1 with evt := { s.evt with fullEpi := true } } : State).raise 188 := by
  simp only [State.evtReceive, if_neg (Nat.not_lt.mpr hfull), State.bump_evt, hepi, Bool.false_eq_true, if_false]

/-- Event 188 touches no count of discarded parcels. -/
theorem dropIn_notRaised : EVT_FABCTL_DROPIN.key 0 0 ∉ raiseKeys 188 := by decide

/-! ### The host's side of the queue -/

theorem exec_evtFabctlPop_open {s : State} (hbar : s.barOpen) : exec .evtFabctlPop s = .next s.evtPop := by
  have harm : exec .evtFabctlPop s = execEvtFabctlPop s := rfl
  rw [harm, execEvtFabctlPop, if_pos hbar]

/-- A function responds only while BAR0 does. -/
theorem State.barOpen_of_fnOpen {s : State} {fn : Nat} (h : s.fnOpen fn) : s.barOpen := by
  rw [State.fnOpen, Bool.and_eq_true] at h
  obtain ⟨hbar, -⟩ := h
  exact hbar

/-- A write of EVT_FABCTL pops where it writes 1 to POP. -/
theorem State.regWrite_evtFabctl (s : State) (v : Nat) : s.regWrite 0xE070 v = if bitAt v 0 then s.evtPop else s := by
  have hd : s.declared 0xE070 = true := s.declared_evt (o := 0x70) (by decide)
  simp [State.regWrite, hd]

theorem plainReg_evtFabctl : plainReg 0xE070 := ⟨by decide, by decide, rfl, rfl⟩

/-- The dword of EVT_FABIN at byte `o` of the oldest payload, 0 where the queue is empty. -/
def State.fabInDword (s : State) (o : Nat) : Nat := match s.evt.recvQ with | p :: _ => leAt p o 4 | [] => 0

/-- EVT_FABIN shows the first 16 bytes of the oldest payload. -/
theorem State.regValue_evtFabin (s : State) {o : Nat} (ho : o < 16) : s.regValue (0xE060 + o) = s.fabInDword o := by
  have hblock : (0xE060 + o) / 4096 = 14 := by omega
  have hoff : (0xE060 + o) % 4096 = 0x60 + o := by omega
  have hd : s.declared (0xE060 + o) = true := by rw [show 0xE060 + o = 0xE000 + (0x60 + o) by omega]; exact s.declared_evt (by omega)
  refine State.regValue_shown hd (by unfold clkNow; omega) ?_
  have hgrp : ¬ 0x60 + o = 0x40 := by omega
  have hroute : ¬ 0x60 + o = 0x48 := by omega
  have hcnt : ¬ 0x60 + o = 0x4C := by omega
  have hin : 0x60 ≤ 0x60 + o ∧ 0x60 + o < 0x70 := by omega
  simp only [State.shown, hblock, hoff, if_neg hgrp, if_neg hroute, if_neg hcnt, if_pos hin, Nat.add_sub_cancel_left]
  rfl

theorem plainReg_evtFabin {k : Nat} (hk : k < 4) : plainReg (0xE060 + 4 * k) := by
  have hwide : ∀ k < 4, isWide (0xE060 + 4 * k) = false ∧ isWide (0xE060 + 4 * k - 4) = false := by decide
  exact ⟨by omega, by omega, hwide k hk⟩

theorem evtFabin_toNat {k : Nat} (hk : k < 4) : (0xE060 + BitVec.ofNat 26 (4 * k)).toNat = 0xE060 + 4 * k := by
  have hbase : (0xE060 : BitVec 26).toNat = 0xE060 := rfl
  rw [BitVec.toNat_add, BitVec.toNat_ofNat, hbase]
  omega

/-! ### The statement -/

/-- Settles O47 (R640): a parcel joins the queue or is discarded, by the room it finds, and its event leaves the queue alone; POP and EVT_FABIN are plain
registers of the PF. -/
theorem fabricEventsQueueForTheHost : Obligations.FabricEventsQueueForTheHost := by
  unfold Obligations.FabricEventsQueueForTheHost
  intro s
  refine ⟨fun b hrun hroom => ⟨_, exec_event_running hrun b, State.evtReceive_room b hroom⟩,
    fun b hrun hfull => ⟨_, exec_event_running hrun b, ?full⟩, fun hbar => ⟨_, exec_evtFabctlPop_open hbar, rfl, rfl⟩,
    fun hfn => ⟨?pop, fun k hk => ?fabin⟩⟩
  case full =>
    have hcount : (s.bump EVT_FABCTL_DROPIN 1).g EVT_FABCTL_DROPIN = satAdd 8 (s.g EVT_FABCTL_DROPIN) 1 := s.bump_g_same _ 1
    cases hepi : s.evt.fullEpi with
    | true =>
      rw [State.evtReceive_again b hfull hepi]
      exact ⟨rfl, hcount, hepi, fun h => Bool.noConfusion h, fun _ => rfl⟩
    | false =>
      rw [State.evtReceive_first b hfull hepi]
      exact ⟨State.raise_recvQ .., (State.raise_g _ 188 dropIn_notRaised).trans hcount, State.raise_fullEpi ..,
        fun _ => State.raise_evtPend _ (by decide), fun h => Bool.noConfusion h⟩
  case pop =>
    have hwrite := exec_regWrite_plainReg hfn (a := 0xE070) rfl plainReg_evtFabctl 1
    rw [show (0xE070 : BitVec 26).toNat = 0xE070 from rfl, s.regWrite_evtFabctl] at hwrite
    rw [hwrite, exec_evtFabctlPop_open (State.barOpen_of_fnOpen hfn)]
    rfl
  case fabin =>
    have ha := evtFabin_toNat hk
    have hread := exec_readLowDword_plainReg hfn (by omega) (ha ▸ plainReg_evtFabin hk)
    rw [ha, s.regValue_evtFabin (by omega)] at hread
    exact hread

end Sys2Proof.Machine
end

section
/-! SUPPORT. The compliance enable (R659): what a release under strap 3 leaves, what the instructions that drive pins do with SCANHOLD at 1 and at 0, and the
statement O48. -/

namespace Sys2Proof.Machine

/-! ### A release with the compliance enable strapped -/

/-- The die filters go on without touching the supplies' part of the state. -/
theorem State.foldl_filterDie_pwr (l : List (List Int)) (s : State) : (l.foldl State.filterDie s).pwr = s.pwr := by
  induction l generalizing s with
  | nil => rfl
  | cons x l ih => exact (ih _).trans rfl

/-- The state in which the straps of a release stand in PIN_STRAP (R154). -/
def State.sampleStraps (s : State) (straps : Nat) : State :=
  ((s.p PIN_STRAP_XSPI1 (straps % 2)).p PIN_STRAP_PCIEW (straps / 2 % 4)).p PIN_STRAP_SCANHOLD (straps / 8 % 2)

theorem State.sampleStraps_pwr (s : State) (straps : Nat) : (s.sampleStraps straps).pwr = s.pwr := rfl

/-- Strap 3 reads in PIN_STRAP.SCANHOLD. -/
theorem State.sampleStraps_scanhold (s : State) {straps : Nat} (h : straps / 8 % 2 = 1) : (s.sampleStraps straps).on PIN_STRAP_SCANHOLD = true := by
  have hget : (s.sampleStraps straps).g PIN_STRAP_SCANHOLD = straps / 8 % 2 % 2 ^ PIN_STRAP_SCANHOLD.w := State.g_p_same ..
  rw [State.on, hget, h]
  rfl

/-- With strap 3 at 1 a release samples the straps and does nothing more. -/
theorem exec_resetRelease_held {s : State} {x : ReleaseIn} {cause : Nat} (hreset : s.pwr.inReset = some cause)
    (hok : (x.die.foldl State.filterDie s).releaseOk x cause) (hstrap : x.straps / 8 % 2 = 1) :
    exec (.resetRelease x) s = .next ((x.die.foldl State.filterDie s).sampleStraps x.straps) := by
  have harm : exec (.resetRelease x) s = execResetRelease x s := rfl
  have hheld := (x.die.foldl State.filterDie s).sampleStraps_scanhold hstrap
  simp only [State.sampleStraps] at hheld ⊢
  simp only [harm, execResetRelease, hreset, if_pos hok, if_pos hheld]

/-! ### The instructions that drive pins -/

/-- With SCANHOLD at 1 an instruction that drives the pins acts. -/
theorem State.tapDrive_held {s : State} (h : s.on PIN_STRAP_SCANHOLD) (op : Nat) (f : Tap → Tap) :
    s.tapDrive op f = s.setTap (f { s.tst.tap with ir := op, driven := 0 }) := by rw [State.tapDrive, if_pos h]

/-- With SCANHOLD at 0 it selects the bypass register. -/
theorem State.tapDrive_free {s : State} (h : s.on PIN_STRAP_SCANHOLD = false) (op : Nat) (f : Tap → Tap) :
    s.tapDrive op f = s.tapBypass op := by rw [State.tapDrive, h, if_neg Bool.false_ne_true]

/-- The three test instructions, with their opcodes (Table TST-7). -/
def pinTests (cells pins : BitVec 968) : List (Nat × Instr) := [(0, .extest cells pins), (6, .extestPulse cells pins), (7, .extestTrain cells pins)]

/-- The three test instructions are one operation under three opcodes. -/
theorem exec_pinTests (s : State) (cells pins : BitVec 968) :
    ∀ e ∈ pinTests cells pins, exec e.2 s = .next (s.tapTest e.1 cells.toNat pins.toNat) := by
  simp only [pinTests, List.forall_mem_cons]
  exact ⟨rfl, rfl, rfl, List.forall_mem_nil _⟩

/-- Every instruction that drives the pins does so through the gate of the compliance enable. -/
theorem exec_tapDrive (s : State) (cells pins : BitVec 968) :
    ∀ e ∈ pinTests cells pins ++ [(4, .highz), (5, .clamp)], ∃ f, exec e.2 s = .next (s.tapDrive e.1 f) := by
  simp only [pinTests, List.cons_append, List.nil_append, List.forall_mem_cons]
  exact ⟨⟨_, rfl⟩, ⟨_, rfl⟩, ⟨_, rfl⟩, ⟨_, rfl⟩, ⟨_, rfl⟩, List.forall_mem_nil _⟩

theorem exec_bypass_free {op : BitVec 8} (h : op.toNat ∉ [0, 1, 2, 4, 5, 6, 7]) (s : State) : exec (.bypass op) s = .next (s.tapBypass op.toNat) := by
  have harm : exec (.bypass op) s = execBypass op s := rfl
  rw [harm, execBypass, if_neg (fun hc => h (List.contains_iff_mem.mp hc))]

/-! ### The statement -/

/-- Settles O48 (R659): a release under strap 3 only samples the straps; an instruction that drives pins goes through the gate of SCANHOLD, the others do
not. -/
theorem complianceEnableGatesTheTestInstructions : Obligations.ComplianceEnableGatesTheTestInstructions := by
  unfold Obligations.ComplianceEnableGatesTheTestInstructions
  intro s
  refine ⟨fun x cause hreset hok hstrap => ⟨_, exec_resetRelease_held hreset hok hstrap, State.sampleStraps_scanhold _ hstrap, ?inReset⟩,
    fun cells pins => ⟨rfl, rfl, fun op hop => exec_bypass_free hop s, fun hheld => ⟨fun e he => ?tests, ?highz, ?clamp⟩, fun hfree e he => ?free⟩⟩
  case inReset => rw [State.sampleStraps_pwr, State.foldl_filterDie_pwr, hreset]
  case tests => rw [exec_pinTests s cells pins e he, State.tapTest, State.tapDrive_held hheld]
  case highz => exact congrArg Host.Outcome.next (State.tapDrive_held hheld 4 _)
  case clamp => exact congrArg Host.Outcome.next (State.tapDrive_held hheld 5 _)
  case free =>
    obtain ⟨f, hexec⟩ := exec_tapDrive s cells pins e he
    rw [hexec, State.tapDrive_free hfree, State.tapBypass]

end Sys2Proof.Machine
end

section
/-! SUPPORT. The debug window (R662, R663): what a write of TST_DBGCTL does, which register fields stand after a reset, what accesses of the closed window do
through BAR0 and by their own commands, and the statement O49. -/

namespace Sys2Proof.Machine

/-! ### TST_DBGCTL -/

theorem State.on_p_one (s : State) {F : Fld} (hw : F.w = 1) : (s.p F 1).on F = true := by simp [State.on, hw]

theorem State.on_p_zero (s : State) (F : Fld) : (s.p F 0).on F = false := by simp [State.on]

/-- The chart and the lock fuse let the window open (R662, R668). -/
def State.dbgAllowed (s : State) : Prop := bitAt (s.secLe 0xA0 0 6 1 0) 0 = true ∧ s.on TST_FUSE_LOCK = false

/-- A write with OPEN at 0 closes the window. -/
theorem State.dbgCtl_close (s : State) (key : Nat) : (s.dbgCtl false key).on TST_DBGCTL_OPEN = false := s.on_p_zero TST_DBGCTL_OPEN

/-- The write that opens the window raises event 27. -/
theorem State.dbgCtl_opens {s : State} (hallowed : s.dbgAllowed) (hclosed : s.on TST_DBGCTL_OPEN = false) :
    s.dbgCtl true 0x0DB6 = (s.p TST_DBGCTL_OPEN 1).raise 27 := by
  obtain ⟨hchart, hfuse⟩ := hallowed
  simp [State.dbgCtl, hchart, hfuse, hclosed]

/-- Without the key, the chart or the fuse, a write with OPEN at 1 changes nothing. -/
theorem State.dbgCtl_refused {s : State} {key : Nat} (h : ¬ (key = 0x0DB6 ∧ s.dbgAllowed)) : s.dbgCtl true key = s := by
  have hguard : ¬ (bitAt (s.secLe 0xA0 0 6 1 0) 0 && !s.on TST_FUSE_LOCK && key == 0x0DB6 && !s.on TST_DBGCTL_OPEN) = true := by
    intro hg
    simp only [Bool.and_eq_true, Bool.not_eq_true', beq_iff_eq] at hg
    obtain ⟨⟨⟨hchart, hfuse⟩, hkey⟩, -⟩ := hg
    exact h ⟨hkey, hchart, hfuse⟩
  rw [State.dbgCtl, Bool.not_true, if_neg Bool.false_ne_true, if_neg hguard]

/-- Event 27 touches no bit of TST_DBGCTL. -/
theorem dbgOpen_notRaised : TST_DBGCTL_OPEN.key 0 0 ∉ raiseKeys 27 := by decide

theorem State.dbgCtl_opens_on {s : State} (hallowed : s.dbgAllowed) (hclosed : s.on TST_DBGCTL_OPEN = false) :
    (s.dbgCtl true 0x0DB6).on TST_DBGCTL_OPEN = true ∧ (s.dbgCtl true 0x0DB6).evtPend 27 = true := by
  rw [State.dbgCtl_opens hallowed hclosed, State.on, State.raise_g _ 27 dbgOpen_notRaised]
  exact ⟨s.on_p_one rfl, State.raise_evtPend _ (by decide)⟩

/-- A closed window stays closed under a write that lacks OPEN, the key, the chart or the fuse. -/
theorem State.dbgCtl_staysClosed {s : State} {openIt : Bool} {key : Nat} (hclosed : s.on TST_DBGCTL_OPEN = false)
    (h : ¬ (openIt = true ∧ key = 0x0DB6 ∧ s.dbgAllowed)) : (s.dbgCtl openIt key).on TST_DBGCTL_OPEN = false := by
  cases openIt with
  | false => exact s.dbgCtl_close key
  | true => rw [State.dbgCtl_refused fun hk => h ⟨rfl, hk⟩, hclosed]

/-! ### The blocks of TST and of the window -/

/-- An address of a block without wide fields, outside the clock, is not a 64-bit register. -/
theorem isWide_of_blockFlds {a : Nat} (hclk : a ≠ clkNow) (h : ∀ F ∈ blockFlds a, F.wide = false) : isWide a = false := by
  rw [isWide, beq_eq_false_iff_ne.mpr hclk, Bool.false_or, List.any_eq_false]
  intro e he
  obtain ⟨F, hF, hm⟩ := List.mem_flatMap.mp he
  obtain ⟨m, -, rfl⟩ := List.mem_map.mp hm
  rw [h F hF]
  exact Bool.false_ne_true

/-- No register of 64 bits stands in the block of TST or in the window. -/
theorem isWide_tst {a : Nat} (ha : 0x28000 ≤ a ∧ a < 0x2A000) : isWide a = false := by
  refine isWide_of_blockFlds (by unfold clkNow; omega) ?_
  have hblock : a / 4096 = 0x28 ∨ a / 4096 = 0x29 := by omega
  cases hblock with
  | inl htst => simp only [blockFlds, htst]; decide
  | inr hwin => simp only [blockFlds, hwin]; decide

/-- The block of TST and the window respond whatever the chart declares (R694). -/
theorem State.declared_tst (s : State) {a : Nat} (ha : 0x28000 ≤ a ∧ a < 0x2A000) : s.declared a = true := by
  have hblock : a / 4096 = 0x28 ∨ a / 4096 = 0x29 := by omega
  cases hblock with
  | inl htst => simp [State.declared, htst]
  | inr hwin => simp [State.declared, hwin]

theorem plainReg_dbgctl : plainReg 0x28020 := ⟨by decide, by decide, isWide_tst (by decide), isWide_tst (by decide)⟩

/-- A write of TST_DBGCTL carries OPEN in bit 0 and KEY in the upper half. -/
theorem State.regWrite_dbgctl (s : State) (v : Nat) : s.regWrite 0x28020 v = s.dbgCtl (bitAt v 0) (v / 65536) := by
  simp [State.regWrite, s.declared_tst (a := 0x28020) (by decide)]

theorem exec_regWrite_dbgctl {s : State} (hfn : s.fnOpen 0) (v : BitVec 32) :
    exec (.regWrite 0 0x28020#26 4 v) s = .next (s.dbgCtl (bitAt v.toNat 0) (v.toNat / 65536)) := by
  rw [exec_regWrite_plainReg hfn (a := 0x28020#26) rfl plainReg_dbgctl, show (0x28020#26).toNat = 0x28020 from rfl, s.regWrite_dbgctl]

/-! ### The register file after a reset -/

/-- A run of stores that each leave a field alone leaves it alone. -/
theorem RegFile.get_foldl {α : Type} {F : Fld} {k i : Nat} (f : RegFile → α → RegFile) (l : List α)
    (h : ∀ r, ∀ a ∈ l, (f r a).get F k i = r.get F k i) (r : RegFile) : (l.foldl f r).get F k i = r.get F k i := by
  induction l generalizing r with
  | nil => rfl
  | cons a l ih => exact (ih (fun r b hb => h r b (List.mem_cons_of_mem _ hb)) _).trans (h r a (List.mem_cons_self ..))

theorem mem_retainedKeys_fld {G : Fld} (h : G ∈ retainedAll ++ retainedWarm ++ [PIN_OUT_OUT, PIN_OUT_OE, PIN_WAKEFILT_FILT]) :
    G.key 0 0 ∈ retainedKeys :=
  List.mem_append_left _ (List.mem_append_left _ (List.mem_map_of_mem h))

theorem mem_retainedKeys_hash {j : Nat} (h : j ∈ List.range 8) : CHT_KEYHASH.key 0 j ∈ retainedKeys :=
  List.mem_append_left _ (List.mem_append_right _ (List.mem_map_of_mem h))

/-- The fields of one pin of port A that a warm reset keeps (R142). -/
def retainedPin : List Fld := [PIN_FUNC, PIN_PAD, PIN_EVOCFG_POL, PIN_WAKECFG_EN, PIN_WAKECFG_MODE]

theorem mem_retainedKeys_pin {G : Fld} (hG : G ∈ retainedPin) {j : Nat} (h : j ∈ List.range 16) : G.key 0 j ∈ retainedKeys :=
  List.mem_append_right _ (List.mem_flatMap.mpr ⟨j, h, List.mem_map_of_mem (f := fun G : Fld => G.key 0 j) hG⟩)

section
variable {F : Fld} {k i : Nat}

/-- A store under a retained key leaves a field that is not retained alone. -/
theorem RegFile.get_put_retained (h : F.key k i ∉ retainedKeys) (r : RegFile) {G : Fld} {j : Nat} (hG : G.key 0 j ∈ retainedKeys) (v : Nat) :
    (r.put G 0 j v).get F k i = r.get F k i :=
  r.get_put_ne v fun e => h (e ▸ hG)

theorem copyFlds_get (h : F.key k i ∉ retainedKeys) {l : List Fld} (hl : ∀ G ∈ l, G.key 0 0 ∈ retainedKeys) (src dst : RegFile) :
    (copyFlds l src dst).get F k i = dst.get F k i :=
  RegFile.get_foldl _ l (fun r G hG => r.get_put_retained h (hl G hG) _) dst

theorem copyHash_get (h : F.key k i ∉ retainedKeys) (src dst : RegFile) : (copyHash src dst).get F k i = dst.get F k i :=
  RegFile.get_foldl _ _ (fun r _ hj => r.get_put_retained h (mem_retainedKeys_hash hj) _) dst

theorem copyPortA_get (h : F.key k i ∉ retainedKeys) (src dst : RegFile) : (copyPortA src dst).get F k i = dst.get F k i := by
  rw [copyPortA, RegFile.get_put_retained h _ (mem_retainedKeys_fld (by simp)), RegFile.get_put_retained h _ (mem_retainedKeys_fld (by simp))]
  refine RegFile.get_foldl _ _ (fun r j hj => ?_) dst
  rw [RegFile.get_put_retained h _ (mem_retainedKeys_pin (by simp [retainedPin]) hj),
    RegFile.get_put_retained h _ (mem_retainedKeys_pin (by simp [retainedPin]) hj),
    RegFile.get_put_retained h _ (mem_retainedKeys_pin (by simp [retainedPin]) hj)]

theorem copyWake_get (h : F.key k i ∉ retainedKeys) (src dst : RegFile) : (copyWake src dst).get F k i = dst.get F k i := by
  rw [copyWake]
  refine (RegFile.get_foldl _ _ (fun r j hj => ?_) _).trans (RegFile.get_put_retained h _ (mem_retainedKeys_fld (by simp)) _)
  rw [RegFile.get_put_retained h _ (mem_retainedKeys_pin (by simp [retainedPin]) hj),
    RegFile.get_put_retained h _ (mem_retainedKeys_pin (by simp [retainedPin]) hj)]

/-- The assertion of a reset takes every field that is not retained to its reset value (R195, R197). -/
theorem State.resetRegs_get (h : F.key k i ∉ retainedKeys) (s : State) (cold : Bool) : (s.resetRegs cold).get F k i = F.dflt := by
  have hcold : (copyHash s.regs (copyFlds retainedAll s.regs [])).get F k i = F.dflt := by
    rw [copyHash_get h, copyFlds_get h fun G hG => mem_retainedKeys_fld (List.mem_append_left _ (List.mem_append_left _ hG))]
    rfl
  cases cold with
  | true => exact hcold
  | false =>
    rw [State.resetRegs, if_neg Bool.false_ne_true, copyWake_get h, copyPortA_get h,
      copyFlds_get h fun G hG => mem_retainedKeys_fld (List.mem_append_left _ (List.mem_append_right _ hG)), hcold]

/-- The cause of a reset as it stands in SVY_RSTCAUSE, which is retained (R117). -/
theorem State.resetCause_gki (h : F.key k i ∉ retainedKeys) (s : State) (prev cause : Nat) :
    ((s.p SVY_RSTCAUSE_PREV prev).p SVY_RSTCAUSE_CAUSE cause).gki F k i = s.gki F k i :=
  (RegFile.get_put_retained h _ (mem_retainedKeys_fld (by simp [retainedWarm])) _).trans
    (RegFile.get_put_retained h _ (mem_retainedKeys_fld (by simp [retainedWarm])) _)

/-- Entering a reset takes every field to its reset value but the retained ones and those of the record that it may make (R91, R117, R195). -/
theorem State.enterReset_gki (h : F.key k i ∉ retainedKeys) (hrec : F.key k i ∉ recordKeys) (s : State) (cause : Nat) :
    (s.enterReset cause).gki F k i = F.dflt := by
  have hcore : ∀ (u : State) (cold : Bool), (u.resetCore cold).gki F k i = F.dflt := fun u cold => u.resetRegs_get h cold
  have hrecord : ∀ (u : State) (r : Rec), (u.record r).gki F k i = u.gki F k i := fun u r => u.record_regsBut r F k i hrec
  have hlast : ∀ (u : State) (p : Pwr) (o : Output), (({ u with pwr := p } : State).emit o).gki F k i = u.gki F k i := fun _ _ _ => rfl
  simp only [State.enterReset, hlast]
  split
  · split
    · exact hcore ..
    · rw [hrecord, State.resetCause_gki h, hcore]
  · split
    · exact hcore ..
    · rw [State.resetCause_gki h, hcore]

end

/-- TST_DBGCTL is not among the retained registers, nor does a record touch it. -/
theorem dbgOpen_notRetained : TST_DBGCTL_OPEN.key 0 0 ∉ retainedKeys := by decide

theorem dbgOpen_notRecorded : TST_DBGCTL_OPEN.key 0 0 ∉ recordKeys := by decide

theorem State.enterReset_dbgOpen (s : State) (cause : Nat) : (s.enterReset cause).on TST_DBGCTL_OPEN = false :=
  congrArg (· == 1) (s.enterReset_gki dbgOpen_notRetained dbgOpen_notRecorded cause)

/-! ### The closed window -/

/-- The dword of a closed window reads 0. -/
theorem leBytes_ofLe_zeros : leBytes (ofLe (zeros 4)) 4 = zeros 4 := by decide

theorem State.dbgRead_closed {s : State} (hclosed : s.on TST_DBGCTL_OPEN = false) (i : Nat) : s.dbgRead i = (zeros 4, s) := by
  rw [State.dbgRead, hclosed, Bool.not_false, if_pos rfl]

theorem State.dbgWrite_closed {s : State} (hclosed : s.on TST_DBGCTL_OPEN = false) (i v : Nat) : s.dbgWrite i v = s := by
  rw [State.dbgWrite, hclosed, Bool.not_false, if_pos rfl]

theorem exec_tstDbgwinRead_open {s : State} (hbar : s.barOpen) (i : Fin 1024) :
    exec (.tstDbgwinRead i) s = .next ((s.dbgRead i).2.emit (.bus 0 (s.dbgRead i).1)) := by
  have harm : exec (.tstDbgwinRead i) s = execTstDbgwinRead i s := rfl
  rw [harm, execTstDbgwinRead, if_pos hbar]

theorem exec_tstDbgwinWrite_open {s : State} (hbar : s.barOpen) (i : Fin 1024) (v : BitVec 32) :
    exec (.tstDbgwinWrite i v) s = .next (s.dbgWrite i v.toNat) := by
  have harm : exec (.tstDbgwinWrite i v) s = execTstDbgwinWrite i v s := rfl
  rw [harm, execTstDbgwinWrite, if_pos hbar]

/-- Dword `i` of the window lies within the 26 bits of a BAR0 address. -/
theorem dbgwin_toNat (i : Fin 1024) : (BitVec.ofNat 26 (0x29000 + 4 * i)).toNat = 0x29000 + 4 * i := by
  rw [BitVec.toNat_ofNat]
  omega

/-- A BAR0 read in the window is the window's read (R693). -/
theorem State.readDword_dbgwin (s : State) {i : Nat} (hi : i < 1024) :
    s.readDword 0 (0x29000 + 4 * i) = (ofLe (s.dbgRead i).1, (s.dbgRead i).2) := by
  have hmsix : ¬ 0x3000000 ≤ 0x29000 + 4 * i := by omega
  have hwin : 0x29000 ≤ 0x29000 + 4 * i ∧ 0x29000 + 4 * i < 0x2A000 := by omega
  have hindex : (0x29000 + 4 * i - 0x29000) / 4 = i := by omega
  simp only [State.readDword, if_neg hmsix, blockAddr_pf (a := 0x29000 + 4 * i) (by omega), if_pos hwin, hindex]

/-- A register write in the window is the window's write. -/
theorem State.regWrite_dbgwin (s : State) (v : Nat) {i : Nat} (hi : i < 1024) : s.regWrite (0x29000 + 4 * i) v = s.dbgWrite i v := by
  have hd : s.declared (0x29000 + 4 * i) = true := s.declared_tst (by omega)
  have hrst : ¬ 0x29000 + 4 * i = 0x84 := by omega
  have hmask : ¬ (0xE020 ≤ 0x29000 + 4 * i ∧ 0x29000 + 4 * i < 0xE038) := by omega
  have hfab : ¬ 0x29000 + 4 * i = 0xE070 := by omega
  have hctl : ¬ 0x29000 + 4 * i = 0x28020 := by omega
  have hsnap : ¬ 0x29000 + 4 * i = 0x28048 := by omega
  have hwin : 0x29000 ≤ 0x29000 + 4 * i ∧ 0x29000 + 4 * i < 0x2A000 := by omega
  have hindex : (0x29000 + 4 * i - 0x29000) / 4 = i := by omega
  rw [State.regWrite, hd, Bool.not_true, if_neg Bool.false_ne_true, if_neg hrst, if_neg hmask, if_neg hfab, if_neg hctl, if_neg hsnap, if_pos hwin, hindex]

/-- A BAR0 write in the window is the window's write (R693). -/
theorem State.writeDword_dbgwin (s : State) (v : Nat) {i : Nat} (hi : i < 1024) : s.writeDword 0 (0x29000 + 4 * i) v = s.dbgWrite i v := by
  have hmsix : ¬ 0x3000000 ≤ 0x29000 + 4 * i := by omega
  have htail : ¬ (0x1000000 ≤ 0x29000 + 4 * i ∧ 0x29000 + 4 * i < 0x1008000) := by omega
  have hpush : ¬ (0x1800000 ≤ 0x29000 + 4 * i ∧ 0x29000 + 4 * i < 0x1840000) := by omega
  have hlow : isWide (0x29000 + 4 * i) = false := isWide_tst (by omega)
  have hhigh : isWide (0x29000 + 4 * i - 4) = false := isWide_tst (by omega)
  simp only [State.writeDword, if_neg hmsix, if_neg htail, if_neg hpush, blockAddr_pf (a := 0x29000 + 4 * i) (by omega), hlow, hhigh, ne_eq, not_true,
    false_and, and_false, Bool.false_eq_true, if_false, s.regWrite_dbgwin v hi]

theorem exec_readLowDword_dbgwin {s : State} (hfn : s.fnOpen 0) (i : Fin 1024) :
    exec (.readLowDword 0 (BitVec.ofNat 26 (0x29000 + 4 * i))) s = .next ((s.dbgRead i).2.emit (.bus 0 (leBytes (ofLe (s.dbgRead i).1) 4))) := by
  have ha := dbgwin_toNat i
  have hread : s.readDword (0 : Fin 16) (0x29000 + 4 * i) = (ofLe (s.dbgRead i).1, (s.dbgRead i).2) := s.readDword_dbgwin i.isLt
  rw [exec_readLowDword_open hfn (by omega), ha, hread]
  rfl

theorem exec_regWrite_dbgwin {s : State} (hfn : s.fnOpen 0) (i : Fin 1024) (v : BitVec 32) :
    exec (.regWrite 0 (BitVec.ofNat 26 (0x29000 + 4 * i)) 4 v) s = .next (s.dbgWrite i v.toNat) := by
  have ha := dbgwin_toNat i
  have hwrite : s.writeDword (0 : Fin 16) (0x29000 + 4 * i) v.toNat = s.dbgWrite i v.toNat := s.writeDword_dbgwin _ i.isLt
  rw [exec_regWrite_open hfn (by omega), ha, hwrite]

/-! ### The statement -/

/-- Settles O49 (R662): a write of TST_DBGCTL is `dbgCtl` of its OPEN and KEY, a reset takes OPEN to its reset value, and all accesses of the window,
through BAR0 or by their own commands, are its reads and writes, which do nothing while it is closed. -/
theorem debugWindowOpensByChartFuseAndKey : Obligations.DebugWindowOpensByChartFuseAndKey := by
  unfold Obligations.DebugWindowOpensByChartFuseAndKey
  intro s
  refine ⟨fun v hfn => ⟨_, exec_regWrite_dbgctl hfn v, ?opens, ?stays, ?closes⟩, s.enterReset_dbgOpen, fun hclosed hfn i v => ?window⟩
  case opens =>
    intro hopen hkey hchart hfuse hclosed
    rw [hopen, hkey]
    exact State.dbgCtl_opens_on ⟨hchart, hfuse⟩ hclosed
  case stays => exact fun hclosed hlacks => State.dbgCtl_staysClosed hclosed hlacks
  case closes =>
    intro hopen
    rw [hopen]
    exact s.dbgCtl_close _
  case window =>
    have hbar := State.barOpen_of_fnOpen hfn
    rw [exec_readLowDword_dbgwin hfn, exec_regWrite_dbgwin hfn, exec_tstDbgwinRead_open hbar, exec_tstDbgwinWrite_open hbar,
      State.dbgRead_closed hclosed, State.dbgWrite_closed hclosed, leBytes_ofLe_zeros]
    exact ⟨rfl, rfl, rfl, rfl⟩

end Sys2Proof.Machine
end

section
/-! SUPPORT. The answer of a command, and what shared operations keep: the canonical form of both byte memories, and what `State.still` lists (the queue, the key
RAM, the edge latch and the place of the fetch engine). -/

namespace Sys2Proof.Machine

/-! ### The answer of a command -/

/-- The command answers a next state, and the state has the property `P`. -/
def Answers (o : Out) (P : State → Prop) : Prop := ∃ t, o = .next t ∧ P t

@[simp] theorem answers_next (t : State) (P : State → Prop) : Answers (.next t) P ↔ P t := by simp [Answers]

@[simp] theorem answers_ite (c : Prop) [Decidable c] (a b : Out) (P : State → Prop) :
    Answers (if c then a else b) P ↔ (c → Answers a P) ∧ (¬ c → Answers b P) := by
  split <;> simp [*]

theorem Answers.mono {o : Out} {P Q : State → Prop} (h : Answers o P) (hPQ : ∀ t, P t → Q t) : Answers o Q := by
  obtain ⟨t, ho, hP⟩ := h
  exact ⟨t, ho, hPQ t hP⟩

theorem Answers.of_next {o : Out} {P : State → Prop} {t : State} (h : Answers o P) (ho : o = .next t) : P t := by
  subst ho
  exact (answers_next t P).mp h

/-- `t` keeps the canonical form that `s` has, and the queue, the key RAM, the edge latch and the place of the fetch engine are as in `s`. -/
def State.KeepsStill (s t : State) : Prop := (s.memOk → t.memOk) ∧ t.still = s.still

/-- `t` keeps the canonical form that `s` has, and the queue is as in `s`. -/
def State.KeepsQueue (s t : State) : Prop := (s.memOk → t.memOk) ∧ t.still.1 = s.still.1

/-! ### Shared operations -/

theorem State.landCuts_memOk (s : State) (vol lba : Nat) (hm : s.memOk) : (s.landCuts vol lba).memOk := by
  refine foldl_memOk _ _ s (fun u c hu => ?_) hm
  split
  · simp [hu, State.raise_memOk, State.endIo_memOk]
  · exact hu

@[simp] theorem State.landCuts_still (s : State) (vol lba : Nat) : (s.landCuts vol lba).still = s.still := by
  refine foldl_still' _ _ s fun u c => ?_
  split <;> simp

/-- The slot selection of the chart stage leaves more than the queue alone. -/
theorem State.selectSlot_keepsStill (s : State) (differs : List Bool) : (s.selectSlot differs).still = s.still := by
  unfold State.selectSlot
  dsimp only
  rw [State.trySlots_still, foldl_still', foldl_still']
  · simp
  · intro u i
    (repeat' split) <;> simp

@[simp] theorem State.chartScan_keepsStill (s : State) (differs : List Bool) : (s.chartScan differs).still = s.still := by
  simp [State.chartScan, State.selectSlot_keepsStill]

/-- A consumed parcel keeps what its work keeps. -/
theorem State.consume_keeps {p : Parcel} {kind : Nat} {f : State → State} (h : ∀ t : State, t.KeepsStill (f t)) (s : State) :
    Answers (s.consume p kind f) s.KeepsStill := by
  obtain ⟨hmem, hstill⟩ := h ((s.leaveBuffer p).landPayload p)
  unfold State.consume
  dsimp only
  rw [answers_next]
  (repeat' split)
  · exact ⟨id, rfl⟩
  · exact ⟨fun hm => State.dropParcel_memOk _ (State.leaveBuffer_memOk _ _ hm), by simp⟩
  · exact ⟨fun hm => hmem (State.landPayload_memOk _ _ (State.leaveBuffer_memOk _ _ hm)), by rw [hstill]; simp⟩

/-- What an admin command can end in: nothing, a completion, or its own work on the state with the command running. -/
theorem State.admin_cases (s : State) (slot opc : Nat) (sel : Cmd → Bool) (used : List (Nat × Nat)) (checks : Cmd → List (Bool × Nat))
    (f : Cmd → State → State) :
    s.admin slot opc sel used checks f = s ∨ (∃ st, s.admin slot opc sel used checks f = s.complete slot st) ∨
      ∃ c, s.admin slot opc sel used checks f = f c (s.setCmd slot { c with phase := 2 }) := by
  unfold State.admin
  (repeat' split)
  · exact Or.inl rfl
  · exact Or.inr (Or.inl ⟨_, rfl⟩)
  · exact Or.inr (Or.inl ⟨_, rfl⟩)
  · exact Or.inr (Or.inr ⟨_, rfl⟩)
  · exact Or.inl rfl

/-- An admin command leaves alone what of `still` its own work leaves alone. -/
theorem State.admin_still_of {α : Type} (π : List Instr × Tbl (List Byte) × RegFile × RegFile × Nat × Nat × Tbl Nat × List Nat × Nat → α) (s : State)
    (slot opc : Nat) (sel : Cmd → Bool) (used : List (Nat × Nat)) (checks : Cmd → List (Bool × Nat)) {f : Cmd → State → State}
    (h : ∀ c (t : State), π (f c t).still = π t.still) : π (s.admin slot opc sel used checks f).still = π s.still := by
  rcases s.admin_cases slot opc sel used checks f with e | ⟨st, e⟩ | ⟨c, e⟩ <;> rw [e]
  · rw [State.complete_still]
  · rw [h, State.setCmd_still]

end Sys2Proof.Machine
end

section
/-! SUPPORT. What each ordinary command keeps: the canonical form and all of `State.still`; a command that may enter a reset keeps the queue. -/

namespace Sys2Proof.Machine

/-! ### The commands of Clock.lean -/

theorem execCommitSlot_keeps (s : State) : Answers (execCommitSlot s) s.KeepsStill := by
  simp (maxDischargeDepth := 12) +contextual [execCommitSlot, State.KeepsStill, State.atCycle_memOk, State.slotDone_memOk, State.commitReq_memOk]

theorem execReferenceLoss_keeps (s : State) (ns : Nat) : Answers (execReferenceLoss s ns) s.KeepsStill := by
  simp +contextual [execReferenceLoss, State.KeepsStill, State.p_memOk, State.clockFault_memOk]

theorem execPllUnlock_keeps (s : State) (periods : Nat) : Answers (execPllUnlock s periods) s.KeepsStill := by
  simp +contextual [execPllUnlock, State.KeepsStill, State.p_memOk, State.clockFault_memOk]

theorem execClockFaultReset_keeps (s : State) : Answers (execClockFaultReset s) s.KeepsQueue := by
  unfold execClockFaultReset
  split <;> simp +contextual [State.KeepsQueue, State.enterReset_memOk]

theorem execPllLock_keeps (s : State) : Answers (execPllLock s) s.KeepsStill := by
  simp +contextual [execPllLock, State.KeepsStill, State.p_memOk, State.stageEndAt_memOk]

theorem execTrimLimitEpisode_keeps (s : State) : Answers (execTrimLimitEpisode s) s.KeepsStill := by
  simp +contextual [execTrimLimitEpisode, State.KeepsStill, State.raise_memOk]

theorem execPinnedEpisodeEvent_keeps (kind : Fin 5) (i : Nat) (s : State) : Answers (execPinnedEpisodeEvent kind i s) s.KeepsStill := by
  simp +contextual [execPinnedEpisodeEvent, State.KeepsStill, State.hwSet_memOk, State.raise_memOk]

theorem execEvtMaskWrite_keeps (r : Fin 6) (v : BitVec 32) (s : State) : Answers (execEvtMaskWrite r v s) s.KeepsStill := by
  simp +contextual [execEvtMaskWrite, State.KeepsStill, State.evtMaskWrite_memOk]

theorem execEvtFabctlPop_keeps (s : State) : Answers (execEvtFabctlPop s) s.KeepsStill := by
  simp +contextual [execEvtFabctlPop, State.KeepsStill, State.evtPop_memOk]

theorem execEvent_keeps (payload : List Byte) (s : State) : Answers (execEvent payload s) s.KeepsStill := by
  simp +contextual [execEvent, State.KeepsStill, State.evtReceive_memOk]

/-! ### The commands of Supply.lean -/

theorem execVinWarningCrossing_keeps (s : State) (mv : Nat) (ns : Nat) : Answers (execVinWarningCrossing s mv ns) s.KeepsStill := by
  simp +contextual [execVinWarningCrossing, State.KeepsStill, State.holdCross_memOk]

theorem execVinOverCrossing_keeps (s : State) (mv : Nat) (ns : Nat) : Answers (execVinOverCrossing s mv ns) s.KeepsStill := by
  simp +contextual [execVinOverCrossing, State.KeepsStill, State.holdCross_memOk]

theorem execVmWarningCrossing_keeps (s : State) (mv : Nat) (ns : Nat) : Answers (execVmWarningCrossing s mv ns) s.KeepsStill := by
  simp +contextual [execVmWarningCrossing, State.KeepsStill, State.holdCross_memOk]

theorem execHoldCauseClear_keeps (cause : Fin 3) (s : State) : Answers (execHoldCauseClear cause s) s.KeepsStill := by
  unfold execHoldCauseClear
  split <;> simp (maxDischargeDepth := 12) +contextual [State.KeepsStill, State.p_memOk, State.raise_memOk, State.holdEnd_memOk]

theorem execHoldUnload_keeps (s : State) : Answers (execHoldUnload s) s.KeepsStill := by
  simp (maxDischargeDepth := 12) +contextual [execHoldUnload, State.KeepsStill, State.deadlineStop_memOk, State.holdDown_memOk, State.unloadAll_memOk,
    State.p_memOk, State.raise_memOk]

theorem execVmLossCrossing_keeps (s : State) (mv : Nat) (ns : Nat) : Answers (execVmLossCrossing s mv ns) s.KeepsStill := by
  simp (maxDischargeDepth := 12) +contextual [execVmLossCrossing, State.KeepsStill, State.deadlineStop_memOk, State.holdDown_memOk, State.p_memOk,
    State.retractAll_memOk, State.spindleCoast_memOk, State.raise_memOk]

theorem execPowerGoodFailure_keeps (s : State) (rail : Fin 3) (v : Nat) (ns : Nat) : Answers (execPowerGoodFailure s rail v ns) s.KeepsQueue := by
  simp +contextual [execPowerGoodFailure, State.KeepsQueue, State.enterReset_memOk]

theorem execVinResetCrossing_keeps (s : State) (mv : Nat) (ns : Nat) : Answers (execVinResetCrossing s mv ns) s.KeepsQueue := by
  unfold execVinResetCrossing
  (repeat' split) <;> simp +contextual [State.KeepsQueue, State.enterReset_memOk]

theorem execAlwaysOnReset_keeps (s : State) (mv : Nat) : Answers (execAlwaysOnReset s mv) s.KeepsQueue := by
  simp +contextual [execAlwaysOnReset, State.KeepsQueue, State.enterReset_memOk]

theorem execResetNAssert_keeps (s : State) (ns : Nat) : Answers (execResetNAssert s ns) s.KeepsQueue := by
  simp +contextual [execResetNAssert, State.KeepsQueue, State.enterReset_memOk, State.free_memOk]

theorem execResetRelease_keeps (x : ReleaseIn) (s : State) : Answers (execResetRelease x s) s.KeepsStill := by
  unfold execResetRelease
  split <;> simp (maxDischargeDepth := 12) +contextual [State.KeepsStill, State.filterDie_memOk, State.p_memOk]

theorem execPowerLossDeclared_keeps (byPin : Bool) (s : State) : Answers (execPowerLossDeclared byPin s) s.KeepsStill := by
  simp +contextual [execPowerLossDeclared, State.KeepsStill, State.powerLoss_memOk]

theorem execJournalComplete_keeps (s : State) : Answers (execJournalComplete s) s.KeepsQueue := by
  simp +contextual [execJournalComplete, State.KeepsQueue, State.enterReset_memOk]

theorem execIdleTimer_keeps (s : State) : Answers (execIdleTimer s) s.KeepsStill := by
  simp +contextual [execIdleTimer, State.KeepsStill, State.powerState_memOk]

theorem execStandbyTimer_keeps (s : State) : Answers (execStandbyTimer s) s.KeepsStill := by
  simp +contextual [execStandbyTimer, State.KeepsStill, State.orderPower_memOk]

theorem execPendingTransitionProceed_keeps (s : State) : Answers (execPendingTransitionProceed s) s.KeepsQueue := by
  unfold execPendingTransitionProceed
  (repeat' split) <;> simp +contextual [State.KeepsQueue, State.vigilBegin_memOk, State.vigilEnter_memOk, State.orderPower_memOk]

/-! ### The commands of Sq.lean -/

theorem execAdminEnable_keeps (fn : Fin 16) (s : State) : Answers (execAdminEnable fn s) s.KeepsStill := by
  simp +contextual [execAdminEnable, State.KeepsStill, State.adminEnable_memOk]

theorem execAdminReady_keeps (fn : Fin 16) (s : State) : Answers (execAdminReady fn s) s.KeepsStill := by
  unfold execAdminReady
  split <;> simp (maxDischargeDepth := 12) +contextual [State.KeepsStill, State.setSq_memOk, State.setCq_memOk, State.pk_memOk]

theorem execFunctionDisable_keeps (fn : Fin 16) (s : State) : Answers (execFunctionDisable fn s) s.KeepsStill := by
  simp +contextual [execFunctionDisable, State.KeepsStill, State.fnReset_memOk]

theorem execFunctionLevelReset_keeps (fn : Fin 16) (s : State) : Answers (execFunctionLevelReset fn s) s.KeepsStill := by
  simp (maxDischargeDepth := 12) +contextual [execFunctionLevelReset, State.KeepsStill, State.clearFn_memOk, State.raise_memOk, State.fnReset_memOk]

theorem execSqTailDoorbell_keeps (fn : Fin 16) (q : Fin 4096) (t : BitVec 32) (s : State) : Answers (execSqTailDoorbell fn q t s) s.KeepsStill := by
  simp +contextual [execSqTailDoorbell, State.KeepsStill, State.tailWrite_memOk]

theorem execCqHeadDoorbell_keeps (fn : Fin 16) (q : Fin 4096) (h : BitVec 32) (s : State) : Answers (execCqHeadDoorbell fn q h s) s.KeepsStill := by
  simp +contextual [execCqHeadDoorbell, State.KeepsStill, State.headWrite_memOk]

theorem execPushWrite_keeps (fn : Fin 16) (q : Fin 4096) (b : List Byte) (aligned : Bool) (s : State) :
    Answers (execPushWrite fn q b aligned s) s.KeepsStill := by
  simp +contextual [execPushWrite, State.KeepsStill, State.pushWrite_memOk]

theorem execCqEntryPost_keeps (fn : Fin 16) (q : Fin 4096) (s : State) : Answers (execCqEntryPost fn q s) s.KeepsStill := by
  unfold execCqEntryPost
  (repeat' split) <;> simp (maxDischargeDepth := 12) +contextual [State.KeepsStill, State.postEntry_memOk, State.latencySample_memOk, State.aborterDone_memOk]

theorem execCoalesceTimer_keeps (fn : Fin 16) (q : Fin 4096) (s : State) : Answers (execCoalesceTimer fn q s) s.KeepsStill := by
  unfold execCoalesceTimer
  split <;> simp +contextual [State.KeepsStill, State.cqSignal_memOk]

theorem execMsixUnmask_keeps (fn : Fin 16) (vec : Option (Fin 256)) (s : State) : Answers (execMsixUnmask fn vec s) s.KeepsStill := by
  unfold execMsixUnmask
  (repeat' split) <;> simp +contextual [State.KeepsStill, State.unmask_memOk, State.unmaskFn_memOk]

theorem execSqDrained_keeps (fn : Fin 16) (q : Fin 4096) (s : State) : Answers (execSqDrained fn q s) s.KeepsStill := by
  unfold execSqDrained
  (repeat' split) <;> simp +contextual [State.KeepsStill, State.complete_memOk]

/-! ### The commands of Entry.lean -/

theorem execUnknownOpcode_keeps (slot : Nat) (s : State) : Answers (execUnknownOpcode slot s) s.KeepsStill := by
  unfold execUnknownOpcode
  split <;> simp +contextual [State.KeepsStill, State.complete_memOk]

/-! ### The commands of Io.lean -/

theorem execWrite_keeps (slot : Nat) (d : DescIn) (s : State) : Answers (execWrite slot d s) s.KeepsStill := by
  simp +contextual [execWrite, State.KeepsStill, State.rw_memOk]

theorem execRead_keeps (slot : Nat) (d : DescIn) (s : State) : Answers (execRead slot d s) s.KeepsStill := by
  simp +contextual [execRead, State.KeepsStill, State.rw_memOk]

theorem execFlush_keeps (slot : Nat) (s : State) : Answers (execFlush slot s) s.KeepsStill := by
  unfold execFlush
  (repeat' split) <;> simp +contextual [State.KeepsStill, State.complete_memOk, State.setCmd_memOk]

theorem execFlushComplete_keeps (slot : Nat) (remoteLanded : Bool) (s : State) : Answers (execFlushComplete slot remoteLanded s) s.KeepsStill := by
  unfold execFlushComplete
  split <;> simp +contextual [State.KeepsStill, State.complete_memOk]

theorem execLockRequest_keeps (s : State) : Answers (execLockRequest s) s.KeepsStill := by
  unfold execLockRequest
  split <;> simp +contextual [State.KeepsStill, State.headWord_memOk, State.granted_memOk, State.raise_memOk]

theorem execLockGrant_keeps (s : State) : Answers (execLockGrant s) s.KeepsStill := by
  unfold execLockGrant
  split <;> simp +contextual [State.KeepsStill, State.granted_memOk]

theorem execHostDataBlock_keeps (slot : Nat) (r : HRead) (s : State) : Answers (execHostDataBlock slot r s) s.KeepsStill := by
  unfold execHostDataBlock
  (repeat' split) <;> simp +contextual [State.KeepsStill, State.discardSlot_memOk, State.chainFail_memOk, State.ingest_memOk, State.hostReadError_memOk]

theorem execDramWriteComplete_keeps (id : Nat) (s : State) : Answers (execDramWriteComplete id s) s.KeepsStill := by
  unfold execDramWriteComplete
  (repeat' split) <;> simp +contextual [State.KeepsStill, State.commit_memOk, State.newSlab_memOk, State.modPiece_memOk, State.waitSlab_memOk]

theorem execSlabGrant_keeps (s : State) : Answers (execSlabGrant s) s.KeepsStill := by
  unfold execSlabGrant
  dsimp only
  (repeat' split) <;> simp +contextual [State.KeepsStill, State.modPiece_memOk, State.newSlab_memOk, State.storeCopy_memOk]

theorem execDeadlineExpiry_keeps (slot : Nat) (s : State) : Answers (execDeadlineExpiry slot s) s.KeepsStill := by
  unfold execDeadlineExpiry
  split <;> simp +contextual [State.KeepsStill, State.modCmd_memOk, State.endIo_memOk]

/-! ### The commands of AdmQueue.lean -/

theorem execCreateIoCq_keeps (slot : Nat) (s : State) : Answers (execCreateIoCq slot s) s.KeepsStill := by
  simp (maxDischargeDepth := 12) +contextual [execCreateIoCq, State.KeepsStill, State.adminPlain_memOk, State.setCq_memOk, State.complete_memOk]

theorem execCreateIoSq_keeps (slot : Nat) (s : State) : Answers (execCreateIoSq slot s) s.KeepsStill := by
  simp (maxDischargeDepth := 12) +contextual [execCreateIoSq, State.KeepsStill, State.adminPlain_memOk, State.setSq_memOk, State.complete_memOk]

theorem execDeleteIoSq_keeps (slot : Nat) (s : State) : Answers (execDeleteIoSq slot s) s.KeepsStill := by
  refine (answers_next _ _).mpr ⟨State.adminPlain_memOk _ _ _ _ _ _ _ fun c t ht => ?_, State.adminPlain_still _ _ _ _ _ _ _ (eq_true fun c t => ?_)⟩
  · split
    · exact State.setSq_memOk _ _ _ _ ht
    · exact ht
  · split <;> simp

theorem execDeleteIoCq_keeps (slot : Nat) (s : State) : Answers (execDeleteIoCq slot s) s.KeepsStill := by
  simp +contextual [execDeleteIoCq, State.KeepsStill, State.adminPlain_memOk, State.complete_memOk]

theorem execAbort_keeps (slot : Nat) (s : State) : Answers (execAbort slot s) s.KeepsStill := by
  refine (answers_next _ _).mpr ⟨State.adminPlain_memOk _ _ _ _ _ _ _ fun c t ht => ?_, State.adminPlain_still _ _ _ _ _ _ _ (eq_true fun c t => ?_)⟩
  · split
    · exact State.completeWith_memOk _ _ _ _ ht
    · dsimp only
      split
      · exact State.abortTarget_memOk _ _ _ (State.modCmd_memOk _ _ _ (State.modCmd_memOk _ _ _ ht))
      · exact State.modCmd_memOk _ _ _ (State.modCmd_memOk _ _ _ ht)
  · split
    · simp
    · dsimp only
      split <;> simp

theorem execThawResume_keeps (slot : Nat) (s : State) : Answers (execThawResume slot s) s.KeepsStill := by
  simp +contextual [execThawResume, State.KeepsStill, State.thawCmd_memOk]

theorem execThawDiscard_keeps (slot : Nat) (s : State) : Answers (execThawDiscard slot s) s.KeepsStill := by
  simp +contextual [execThawDiscard, State.KeepsStill, State.thawCmd_memOk]

theorem execAdminThawResume_keeps (fn : Fin 16) (s : State) : Answers (execAdminThawResume fn s) s.KeepsStill := by
  simp +contextual [execAdminThawResume, State.KeepsStill, State.admThaw_memOk]

theorem execAdminThawDiscard_keeps (fn : Fin 16) (s : State) : Answers (execAdminThawDiscard fn s) s.KeepsStill := by
  simp +contextual [execAdminThawDiscard, State.KeepsStill, State.admThaw_memOk]

/-! ### The commands of AdmInfo.lean -/

theorem execIdentifyNode_keeps (slot : Nat) (d : DescIn) (s : State) : Answers (execIdentifyNode slot d s) s.KeepsStill := by
  simp +contextual [execIdentifyNode, State.KeepsStill, State.identify_memOk]

theorem execIdentifyFunction_keeps (slot : Nat) (d : DescIn) (s : State) : Answers (execIdentifyFunction slot d s) s.KeepsStill := by
  simp +contextual [execIdentifyFunction, State.KeepsStill, State.identify_memOk]

theorem execIdentifyVolume_keeps (slot : Nat) (d : DescIn) (s : State) : Answers (execIdentifyVolume slot d s) s.KeepsStill := by
  simp +contextual [execIdentifyVolume, State.KeepsStill, State.identify_memOk]

theorem execQueueErrorLog_keeps (slot : Nat) (d : DescIn) (s : State) : Answers (execQueueErrorLog slot d s) s.KeepsStill := by
  simp +contextual [execQueueErrorLog, State.KeepsStill, State.logPage_memOk, State.complete_memOk]

theorem execLostRanges_keeps (slot : Nat) (d : DescIn) (s : State) : Answers (execLostRanges slot d s) s.KeepsStill := by
  simp (maxDischargeDepth := 12) +contextual [execLostRanges, State.KeepsStill, State.logPage_memOk, State.clearLost_memOk, State.complete_memOk]

theorem execSelfTestResults_keeps (slot : Nat) (d : DescIn) (s : State) : Answers (execSelfTestResults slot d s) s.KeepsStill := by
  simp +contextual [execSelfTestResults, State.KeepsStill, State.logPage_memOk, State.complete_memOk]

theorem execVolumeStatistics_keeps (slot : Nat) (d : DescIn) (s : State) : Answers (execVolumeStatistics slot d s) s.KeepsStill := by
  simp +contextual [execVolumeStatistics, State.KeepsStill, State.logPage_memOk, State.complete_memOk]

theorem execGazetteerRingPage_keeps (slot : Nat) (d : DescIn) (s : State) : Answers (execGazetteerRingPage slot d s) s.KeepsStill := by
  simp +contextual [execGazetteerRingPage, State.KeepsStill, State.logPage_memOk, State.complete_memOk]

theorem execRingHoldRelease_keeps (upTo : Nat) (s : State) : Answers (execRingHoldRelease upTo s) s.KeepsStill := by
  unfold execRingHoldRelease
  dsimp only
  (repeat' split) <;> simp (maxDischargeDepth := 12) +contextual [State.KeepsStill, State.holdDrain_memOk, State.dropRecord_memOk, State.complete_memOk]

theorem execGazetteerSectorPage_keeps (slot : Nat) (d : DescIn) (s : State) : Answers (execGazetteerSectorPage slot d s) s.KeepsStill := by
  simp (maxDischargeDepth := 12) +contextual [execGazetteerSectorPage, State.KeepsStill, State.logPage_memOk, State.complete_memOk, State.fresh_memOk]

theorem execHistogramPage_keeps (slot : Nat) (d : DescIn) (s : State) : Answers (execHistogramPage slot d s) s.KeepsStill := by
  simp +contextual [execHistogramPage, State.KeepsStill, State.logPage_memOk, State.complete_memOk]

theorem execExtremesPage_keeps (slot : Nat) (d : DescIn) (s : State) : Answers (execExtremesPage slot d s) s.KeepsStill := by
  simp (maxDischargeDepth := 12) +contextual [execExtremesPage, State.KeepsStill, State.logPage_memOk, State.complete_memOk, State.fresh_memOk]

/-! ### The commands of EngTrace.lean -/

theorem execCtlTraceArm_keeps (k : Fin 4) (s : State) : Answers (execCtlTraceArm k s) s.KeepsStill := by
  simp +contextual [execCtlTraceArm, State.KeepsStill, State.traceArm_memOk]

theorem execCtlTraceStop_keeps (k : Fin 4) (s : State) : Answers (execCtlTraceStop k s) s.KeepsStill := by
  simp +contextual [execCtlTraceStop, State.KeepsStill, State.traceStop_memOk]

theorem execCtlTraceTrig_keeps (k : Fin 4) (s : State) : Answers (execCtlTraceTrig k s) s.KeepsStill := by
  simp +contextual [execCtlTraceTrig, State.KeepsStill, State.traceTrig_memOk]

theorem execTraceCaptureStop_keeps (k : Fin 4) (s : State) : Answers (execTraceCaptureStop k s) s.KeepsStill := by
  simp +contextual [execTraceCaptureStop, State.KeepsStill, State.pk_memOk, State.raise_memOk]

/-! ### The commands of Servo.lean -/

theorem execDemodEstimate_keeps (k : Fin 4) (j : Fin 16) (x : DemodIn) (s : State) : Answers (execDemodEstimate k j x s) s.KeepsStill := by
  simp +contextual [execDemodEstimate, State.KeepsStill, State.setAct_memOk, State.estimate_memOk]

theorem execGuardReenable_keeps (k : Fin 4) (s : State) : Answers (execGuardReenable k s) s.KeepsStill := by
  unfold execGuardReenable
  split <;> simp (maxDischargeDepth := 12) +contextual [State.KeepsStill, State.setAct_memOk, State.pk_memOk, State.fresh_memOk, State.record_memOk]

theorem execServoLoss_keeps (k : Fin 4) (s : State) : Answers (execServoLoss k s) s.KeepsStill := by
  simp +contextual [execServoLoss, State.KeepsStill, State.servoLoss_memOk]

theorem execSeekDispatch_keeps (k : Fin 4) (head : Fin 20) (track : BitVec 24) (write : Bool) (s : State) :
    Answers (execSeekDispatch k head track write s) s.KeepsStill := by
  simp +contextual [execSeekDispatch, State.KeepsStill, State.orderSeek_memOk]

theorem execHeadSwitch_keeps (k : Fin 4) (head : Fin 20) (track : BitVec 24) (write : Bool) (s : State) :
    Answers (execHeadSwitch k head track write s) s.KeepsStill := by
  simp +contextual [execHeadSwitch, State.KeepsStill, State.gateDrop_memOk, State.orderSeek_memOk]

theorem execSeekSettleEntry_keeps (k : Fin 4) (s : State) : Answers (execSeekSettleEntry k s) s.KeepsStill := by
  unfold execSeekSettleEntry
  dsimp only
  (repeat' split) <;> simp +contextual [State.KeepsStill, State.setActSt_memOk, State.setAct_memOk]

theorem execReadReady_keeps (k : Fin 4) (s : State) : Answers (execReadReady k s) s.KeepsStill := by
  simp +contextual [execReadReady, State.KeepsStill, State.readReadyNow_memOk]

theorem execWriteReady_keeps (k : Fin 4) (s : State) : Answers (execWriteReady k s) s.KeepsStill := by
  simp +contextual [execWriteReady, State.KeepsStill, State.pk_memOk]

theorem execSeekTimeout_keeps (k : Fin 4) (s : State) : Answers (execSeekTimeout k s) s.KeepsStill := by
  unfold execSeekTimeout
  dsimp only
  split <;> simp (maxDischargeDepth := 12) +contextual [State.KeepsStill, State.seekFail_memOk, State.testSeek_memOk, State.raise_memOk, State.record_memOk,
    State.setAct_memOk]

theorem execHeadSwitchAcquire_keeps (k : Fin 4) (s : State) : Answers (execHeadSwitchAcquire k s) s.KeepsStill := by
  unfold execHeadSwitchAcquire
  dsimp only
  (repeat' split) <;> simp +contextual [State.KeepsStill, State.startSeek_memOk, State.setAct_memOk]

theorem execHeadSwitchAcquireFail_keeps (k : Fin 4) (s : State) : Answers (execHeadSwitchAcquireFail k s) s.KeepsStill := by
  simp +contextual [execHeadSwitchAcquireFail, State.KeepsStill, State.servoLoss_memOk]

/-! ### The commands of Park.lean -/

theorem execLoadStart_keeps (k : Fin 4) (rcoil : BitVec 16) (moved : Bool) (s : State) : Answers (execLoadStart k rcoil moved s) s.KeepsStill := by
  unfold execLoadStart
  split <;> simp (maxDischargeDepth := 12) +contextual [State.KeepsStill, State.pk_memOk, State.setAct_memOk, State.beginMotion_memOk, State.setActSt_memOk]

theorem execLoadTimeout_keeps (k : Fin 4) (s : State) : Answers (execLoadTimeout k s) s.KeepsStill := by
  unfold execLoadTimeout
  split <;> simp +contextual [State.KeepsStill, State.loadFail_memOk, State.setAct_memOk, State.orderMotion_memOk]

theorem execParkComplete_keeps (k : Fin 4) (a b : Nat) (s : State) : Answers (execParkComplete k a b s) s.KeepsStill := by
  unfold execParkComplete
  split <;> simp (maxDischargeDepth := 12) +contextual [State.KeepsStill, State.parkRecord_memOk, State.raise_memOk, State.endMotion_memOk,
    State.loadAct_memOk]

theorem execEparkTimeout_keeps (k : Fin 4) (s : State) : Answers (execEparkTimeout k s) s.KeepsStill := by
  unfold execEparkTimeout
  split <;> simp (maxDischargeDepth := 12) +contextual [State.KeepsStill, State.parkRecord_memOk, State.raise_memOk, State.endMotion_memOk]

theorem execRetractEnd_keeps (k : Fin 4) (speed : Nat) (s : State) : Answers (execRetractEnd k speed s) s.KeepsStill := by
  unfold execRetractEnd
  split <;> simp +contextual [State.KeepsStill, State.endMotion_memOk, State.escReload_memOk]

/-! ### The commands of Engine.lean -/

theorem execControlRun_keeps (k : Fin 4) (x : CtlIn) (s : State) : Answers (execControlRun k x s) s.KeepsStill := by
  simp +contextual [execControlRun, State.KeepsStill, State.engineRun_memOk]

theorem execSafeHoldEnd_keeps (k : Fin 4) (s : State) : Answers (execSafeHoldEnd k s) s.KeepsStill := by
  unfold execSafeHoldEnd
  split <;> simp +contextual [State.KeepsStill, State.holdExit_memOk, State.latchRun_memOk]

/-! ### The commands of Chart.lean -/

theorem execChartStage_keeps (differs : List Bool) (s : State) : Answers (execChartStage differs s) s.KeepsStill := by
  unfold execChartStage
  split
  · rw [answers_next]
    split
    · exact ⟨fun hm => State.chartAbsent_memOk _ (State.chartScan_memOk _ _ hm), by simp⟩
    · exact ⟨fun hm => State.applyChart_memOk _ (State.chartScan_memOk _ _ hm), by simp⟩
  · simp [State.KeepsStill]

theorem execFlashEraseComplete_keeps (t : Nat) (blank : Bool) (s : State) : Answers (execFlashEraseComplete t blank s) s.KeepsStill := by
  unfold execFlashEraseComplete
  split <;> simp +contextual [State.KeepsStill, State.eraseEnd_memOk]

theorem execFlashProgramComplete_keeps (same : Bool) (s : State) (us : Nat) : Answers (execFlashProgramComplete same s us) s.KeepsStill := by
  unfold execFlashProgramComplete
  split <;> simp +contextual [State.KeepsStill, State.markEnd_memOk, State.pageEnd_memOk]

theorem execFlashBackgroundErase_keeps (s : State) : Answers (execFlashBackgroundErase s) s.KeepsStill := by
  unfold execFlashBackgroundErase
  dsimp only
  (repeat' split) <;> simp +contextual [State.KeepsStill, State.flashAsk_memOk]

/-! ### The commands of Surveyor.lean -/

theorem execSurveyorPost_keeps (x : SurveyIn) (s : State) : Answers (execSurveyorPost x s) s.KeepsStill := by
  simp (maxDischargeDepth := 12) +contextual [execSurveyorPost, State.KeepsStill, State.atCycle_memOk, State.slotDone_memOk, State.surveyTake_memOk,
    State.postSurvey_memOk, State.thermalStep_memOk]

theorem execThermalThrottleEnd_keeps (s : State) : Answers (execThermalThrottleEnd s) s.KeepsStill := by
  simp +contextual [execThermalThrottleEnd, State.KeepsStill, State.p_memOk, State.raise_memOk]

theorem execCriticalTempReset_keeps (s : State) : Answers (execCriticalTempReset s) s.KeepsQueue := by
  unfold execCriticalTempReset
  split <;> simp +contextual [State.KeepsQueue, State.enterReset_memOk]

theorem execShockCrossing_keeps (s : State) (mg : Nat) : Answers (execShockCrossing s mg) s.KeepsStill := by
  simp (maxDischargeDepth := 12) +contextual [execShockCrossing, State.KeepsStill, State.gateDropAll_memOk, State.abandonSlices_memOk,
    State.shockLoads_memOk, State.raise_memOk]

theorem execWriteInhibitEnd_keeps (s : State) : Answers (execWriteInhibitEnd s) s.KeepsStill := by
  simp (maxDischargeDepth := 12) +contextual [execWriteInhibitEnd, State.KeepsStill, State.p_memOk, State.reissue_memOk, State.shockRestart_memOk]

theorem execBoardSensorRead_keeps (k : Fin 4) (b : Option (List Byte)) (s : State) : Answers (execBoardSensorRead k b s) s.KeepsStill := by
  simp +contextual [execBoardSensorRead, State.KeepsStill, State.sensorRead_memOk]

theorem execSensorAlertRead_keeps (k : Fin 4) (b : Option (List Byte)) (s : State) : Answers (execSensorAlertRead k b s) s.KeepsStill := by
  simp +contextual [execSensorAlertRead, State.KeepsStill, State.sensorRead_memOk]

theorem execAvsStep_keeps (m : Nat) (s : State) : Answers (execAvsStep m s) s.KeepsStill := by
  simp (maxDischargeDepth := 12) +contextual [execAvsStep, State.KeepsStill, State.avsMargin_memOk, State.marginThrottle_memOk, State.loopHold_memOk,
    State.avsFree_memOk]

theorem execMarginThrottleEnd_keeps (s : State) : Answers (execMarginThrottleEnd s) s.KeepsStill := by
  simp (maxDischargeDepth := 12) +contextual [execMarginThrottleEnd, State.KeepsStill, State.p_memOk, State.raise_memOk]

/-! ### The commands of Boot.lean -/

theorem execHandoverEnd_keeps (s : State) : Answers (execHandoverEnd s) s.KeepsStill := by
  simp (maxDischargeDepth := 12) +contextual [execHandoverEnd, State.KeepsStill, State.stageEndAt_memOk, State.p_memOk, State.stageBegin_memOk,
    State.spindleStart_memOk]

theorem execStageBoundExpiry_keeps (st : Stage) (s : State) (us : Nat) : Answers (execStageBoundExpiry st s us) s.KeepsQueue := by
  simp +contextual [execStageBoundExpiry, State.KeepsQueue, State.stageExit_memOk]

theorem execReady_keeps (s : State) : Answers (execReady s) s.KeepsStill := by
  simp +contextual [execReady, State.KeepsStill, State.enterReady_memOk]

theorem execSysRstctlGo_keeps (key : BitVec 16) (s : State) : Answers (execSysRstctlGo key s) s.KeepsStill := by
  simp +contextual [execSysRstctlGo, State.KeepsStill, State.hostReset_memOk]

theorem execHostResetEnter_keeps (s : State) : Answers (execHostResetEnter s) s.KeepsQueue := by
  unfold execHostResetEnter
  split <;> simp +contextual [State.KeepsQueue, State.enterReset_memOk]

/-! ### The commands of AdmVol.lean -/

theorem execVolumeCreate_keeps (slot : Nat) (s : State) : Answers (execVolumeCreate slot s) s.KeepsStill := by
  simp +contextual [execVolumeCreate, State.KeepsStill, State.volManage_memOk, State.setMed_memOk]

theorem execVolumeGrow_keeps (slot : Nat) (s : State) : Answers (execVolumeGrow slot s) s.KeepsStill := by
  simp +contextual [execVolumeGrow, State.KeepsStill, State.volManage_memOk, State.modVol_memOk]

theorem execVolumeSetModes_keeps (slot : Nat) (s : State) : Answers (execVolumeSetModes slot s) s.KeepsStill := by
  simp +contextual [execVolumeSetModes, State.KeepsStill, State.volManage_memOk, State.modVol_memOk]

theorem execSpanAttach_keeps (slot : Nat) (s : State) : Answers (execSpanAttach slot s) s.KeepsStill := by
  simp +contextual [execSpanAttach, State.KeepsStill, State.spanManage_memOk, State.setMed_memOk]

theorem execSpanDetach_keeps (slot : Nat) (s : State) : Answers (execSpanDetach slot s) s.KeepsStill := by
  simp +contextual [execSpanDetach, State.KeepsStill, State.spanManage_memOk, State.modVol_memOk]

theorem execSpanSetModes_keeps (slot : Nat) (s : State) : Answers (execSpanSetModes slot s) s.KeepsStill := by
  simp +contextual [execSpanSetModes, State.KeepsStill, State.spanManage_memOk, State.modVol_memOk]

theorem execPowerStateRun_keeps (slot : Nat) (s : State) : Answers (execPowerStateRun slot s) s.KeepsStill := by
  simp (maxDischargeDepth := 12) +contextual [execPowerStateRun, State.KeepsStill, State.powerCmd_memOk, State.leaveStandby_memOk, State.complete_memOk]

theorem execPowerStateStandby_keeps (slot : Nat) (s : State) : Answers (execPowerStateStandby slot s) s.KeepsStill := by
  simp (maxDischargeDepth := 12) +contextual [execPowerStateStandby, State.KeepsStill, State.powerCmd_memOk, State.orderPower_memOk, State.complete_memOk]

theorem execPowerStateVigil_keeps (slot : Nat) (s : State) : Answers (execPowerStateVigil slot s) s.KeepsStill := by
  simp (maxDischargeDepth := 12) +contextual [execPowerStateVigil, State.KeepsStill, State.powerCmd_memOk, State.orderPower_memOk, State.complete_memOk]

theorem execReset_keeps (slot : Nat) (s : State) : Answers (execReset slot s) s.KeepsStill := by
  simp +contextual [execReset, State.KeepsStill, State.adminPlain_memOk, State.hostReset_memOk]

/-! ### The commands of AdmChart.lean -/

theorem execChartWrite_keeps (slot : Nat) (d : DescIn) (r : HRead) (s : State) : Answers (execChartWrite slot d r s) s.KeepsStill := by
  unfold execChartWrite
  split <;> simp (maxDischargeDepth := 12) +contextual [State.KeepsStill, State.admin_memOk, State.withSegs_memOk, State.complete_memOk,
    State.hostReadError_memOk, State.chartData_memOk]

theorem execChartCommit_keeps (slot : Nat) (s : State) : Answers (execChartCommit slot s) s.KeepsStill := by
  simp (maxDischargeDepth := 12) +contextual [execChartCommit, State.KeepsStill, State.adminPlain_memOk, State.p_memOk, State.flashAsk_memOk,
    State.raise_memOk, State.completeWith_memOk]

/-! ### The commands of AdmTun.lean -/

theorem execSetTunable_keeps (slot : Nat) (s : State) : Answers (execSetTunable slot s) s.KeepsStill := by
  simp +contextual [execSetTunable, State.KeepsStill, State.adminPlain_memOk, State.setTunable_memOk]

theorem execGetTunable_keeps (slot : Nat) (s : State) : Answers (execGetTunable slot s) s.KeepsStill := by
  simp (maxDischargeDepth := 12) +contextual [execGetTunable, State.KeepsStill, State.admin_memOk, State.withSegs_memOk, State.toHost_memOk,
    State.complete_memOk, State.fresh_memOk]

/-! ### The commands of Channel.lean -/

theorem execLinkFrame_keeps (k : Fin 4) (word : BitVec 32) (data crc : BitVec 16) (hit : Bool) (s : State) :
    Answers (execLinkFrame k word data crc hit s) s.KeepsStill := by
  unfold execLinkFrame
  (repeat' split) <;> simp (maxDischargeDepth := 12) +contextual [State.KeepsStill, State.setChn_memOk, State.linkWrite_memOk, State.linkEmit_memOk,
    State.linkError_memOk, State.statusRead_memOk]

theorem execContactHoldEnd_keeps (head : Fin 20) (s : State) : Answers (execContactHoldEnd head s) s.KeepsStill := by
  unfold execContactHoldEnd
  split <;> simp +contextual [State.KeepsStill, State.setHd_memOk]

theorem execPreampFault_keeps (k : Fin 4) (s : State) (cycles : Nat) : Answers (execPreampFault k s cycles) s.KeepsStill := by
  simp (maxDischargeDepth := 12) +contextual [execPreampFault, State.KeepsStill, State.gateDrop_memOk, State.raise_memOk, State.pk_memOk, State.setChn_memOk,
    State.linkWait_memOk, State.setHd_memOk, State.disableHead_memOk]

theorem execPreampFaultClear_keeps (k : Fin 4) (s : State) : Answers (execPreampFaultClear k s) s.KeepsStill := by
  unfold execPreampFaultClear
  split <;> simp +contextual [State.KeepsStill, State.setChn_memOk]

theorem execSidebandRead_keeps (k : Fin 4) (id : Option (BitVec 16)) (temp : Option (BitVec 8)) (s : State) :
    Answers (execSidebandRead k id temp s) s.KeepsStill := by
  simp (maxDischargeDepth := 12) +contextual [execSidebandRead, State.KeepsStill, State.setChn_memOk, State.sidebandGo_memOk, State.sidebandGot_memOk]

theorem execChannelStep_keeps (x : List (Option ChanSums)) (s : State) : Answers (execChannelStep x s) s.KeepsStill := by
  simp (maxDischargeDepth := 12) +contextual [execChannelStep, State.KeepsStill, State.atCycle_memOk, State.slotDone_memOk, State.chanLoop_memOk,
    State.fresh_memOk]

theorem execFlyHeightStep_keeps (x : List (Option ClearIn)) (s : State) : Answers (execFlyHeightStep x s) s.KeepsStill := by
  simp (maxDischargeDepth := 12) +contextual [execFlyHeightStep, State.KeepsStill, State.atCycle_memOk, State.slotDone_memOk, State.flyHead_memOk,
    State.clearance_memOk, State.fresh_memOk]

theorem execTouchdownStep_keeps (k : Fin 4) (contact : Bool) (s : State) : Answers (execTouchdownStep k contact s) s.KeepsStill := by
  unfold execTouchdownStep
  split <;> simp +contextual [State.KeepsStill, State.setChn_memOk, State.pk_memOk]

theorem execHeadCalibration_keeps (head : Fin 20) (x : CalIn) (s : State) : Answers (execHeadCalibration head x s) s.KeepsStill := by
  unfold execHeadCalibration
  dsimp only
  (repeat' split) <;> simp (maxDischargeDepth := 12) +contextual [State.KeepsStill, State.orderSeek_memOk, State.setChn_memOk, State.sidebandGo_memOk,
    State.configFrames_memOk, State.calFail_memOk, State.calTouch_memOk, State.calPass_memOk]

/-! ### The commands of BistTap.lean -/

theorem execBistEnd_keeps (fail : Option (BitVec 8 × BitVec 16)) (s : State) : Answers (execBistEnd fail s) s.KeepsStill := by
  simp (maxDischargeDepth := 12) +contextual [execBistEnd, State.KeepsStill, State.p_memOk, State.bistRecord_memOk, State.result_memOk,
    State.faultMode_memOk, State.stageEndAt_memOk, State.stageBegin_memOk]

theorem execTapReset_keeps (s : State) : Answers (execTapReset s) s.KeepsStill := by
  simp +contextual [execTapReset, State.KeepsStill, State.setTap_memOk]

theorem execExtest_keeps (cells pins : BitVec 968) (s : State) : Answers (execExtest cells pins s) s.KeepsStill := by
  simp +contextual [execExtest, State.KeepsStill, State.tapTest_memOk]

theorem execExtestPulse_keeps (cells pins : BitVec 968) (s : State) : Answers (execExtestPulse cells pins s) s.KeepsStill := by
  simp +contextual [execExtestPulse, State.KeepsStill, State.tapTest_memOk]

theorem execExtestTrain_keeps (cells pins : BitVec 968) (s : State) : Answers (execExtestTrain cells pins s) s.KeepsStill := by
  simp +contextual [execExtestTrain, State.KeepsStill, State.tapTest_memOk]

theorem execIdcode_keeps (s : State) : Answers (execIdcode s) s.KeepsStill := by
  simp +contextual [execIdcode, State.KeepsStill, State.setTap_memOk]

theorem execSamplePreload_keeps (cells pins : BitVec 968) (s : State) : Answers (execSamplePreload cells pins s) s.KeepsStill := by
  simp +contextual [execSamplePreload, State.KeepsStill, State.setTap_memOk]

theorem execHighz_keeps (s : State) : Answers (execHighz s) s.KeepsStill := by
  simp +contextual [execHighz, State.KeepsStill, State.tapDrive_memOk]

theorem execClamp_keeps (s : State) : Answers (execClamp s) s.KeepsStill := by
  simp +contextual [execClamp, State.KeepsStill, State.tapDrive_memOk]

theorem execBypass_keeps (op : BitVec 8) (s : State) : Answers (execBypass op s) s.KeepsStill := by
  simp +contextual [execBypass, State.KeepsStill, State.tapBypass_memOk]

theorem execTstDbgctlOpen_keeps (key : BitVec 16) (s : State) : Answers (execTstDbgctlOpen key s) s.KeepsStill := by
  simp +contextual [execTstDbgctlOpen, State.KeepsStill, State.dbgCtl_memOk]

theorem execTstDbgctlClose_keeps (s : State) : Answers (execTstDbgctlClose s) s.KeepsStill := by
  simp +contextual [execTstDbgctlClose, State.KeepsStill, State.dbgCtl_memOk]

theorem execTstDbgwinWrite_keeps (i : Fin 1024) (v : BitVec 32) (s : State) : Answers (execTstDbgwinWrite i v s) s.KeepsStill := by
  simp +contextual [execTstDbgwinWrite, State.KeepsStill, State.dbgWrite_memOk]

theorem execTstDbgwinRead_keeps (i : Fin 1024) (s : State) : Answers (execTstDbgwinRead i s) s.KeepsStill := by
  simp +contextual [execTstDbgwinRead, State.KeepsStill, State.dbgRead_memOk, State.emit_memOk]

theorem execTstSnaparm_keeps (m : BitVec 16) (s : State) : Answers (execTstSnaparm m s) s.KeepsStill := by
  simp +contextual [execTstSnaparm, State.KeepsStill, State.snapHost_memOk]

/-! ### The commands of MapRegion.lean -/

theorem execMapLoad_keeps (bad : List (Nat × Nat × Nat)) (s : State) : Answers (execMapLoad bad s) s.KeepsStill := by
  simp (maxDischargeDepth := 12) +contextual [execMapLoad, State.KeepsStill, State.mapLost_memOk, State.setMed_memOk]

/-! ### The commands of Recovery.lean -/

theorem execSectorDecode_keeps (k : Fin 4) (head : Fin 20) (track : BitVec 24) (pos : BitVec 12) (x : ReadIn) (s : State) :
    Answers (execSectorDecode k head track pos x s) s.KeepsStill := by
  unfold execSectorDecode
  dsimp only
  split <;> simp +contextual [State.KeepsStill, State.firstDecode_memOk]

theorem execRecoveryStepEnd_keeps (k : Fin 4) (x : ReadIn) (s : State) : Answers (execRecoveryStepEnd k x s) s.KeepsStill := by
  unfold execRecoveryStepEnd
  split <;> simp +contextual [State.KeepsStill, State.rcvStepDone_memOk]

theorem execRecoveryAbortEnd_keeps (k : Fin 4) (s : State) : Answers (execRecoveryAbortEnd k s) s.KeepsStill := by
  unfold execRecoveryAbortEnd
  (repeat' split) <;> simp (maxDischargeDepth := 12) +contextual [State.KeepsStill, State.bumpk_memOk, State.raise_memOk, State.stepClear_memOk,
    State.rcvRecord_memOk, State.rcvDrop_memOk, State.endIo_memOk, State.rcvGo_memOk]

/-! ### The commands of Dram.lean -/

theorem execDramInitComplete_keeps (ok : Bool) (s : State) (gib0 : Nat) (gib1 : Nat) : Answers (execDramInitComplete ok s gib0 gib1) s.KeepsStill := by
  simp +contextual [execDramInitComplete, State.KeepsStill, State.dramTrained_memOk, State.dramReady_memOk]

theorem execDramReadComplete_keeps (reader lba : Nat) (line : Fin 64) (c : DramCls) (s : State) (late : Bool) :
    Answers (execDramReadComplete reader lba line c s late) s.KeepsStill := by
  unfold execDramReadComplete
  (repeat' split) <;> simp (maxDischargeDepth := 12) +contextual [State.KeepsStill, State.dramFetch_memOk, State.lineCheck_memOk, State.dramServed_memOk]

theorem execScrubRead_keeps (c : DramCls) (t : TableUse) (s : State) (late : Bool) : Answers (execScrubRead c t s late) s.KeepsStill := by
  simp (maxDischargeDepth := 12) +contextual [execScrubRead, State.KeepsStill, State.dramCount_memOk, State.dramWrite_memOk, State.lineCheck_memOk,
    State.scrubNext_memOk]

theorem execDramPeriodicTraining_keeps (m : Fin 2) (ok : Bool) (s : State) : Answers (execDramPeriodicTraining m ok s) s.KeepsStill := by
  simp +contextual [execDramPeriodicTraining, State.KeepsStill, State.channelFault_memOk]

theorem execStallPromotion_keeps (cycles : List (List BReq)) (s : State) : Answers (execStallPromotion cycles s) s.KeepsStill := by
  simp +contextual [execStallPromotion, State.KeepsStill, State.benchRun_memOk]

theorem execCreditRefresh_keeps (corrA corrB : Nat) (s : State) : Answers (execCreditRefresh corrA corrB s) s.KeepsStill := by
  simp (maxDischargeDepth := 12) +contextual [execCreditRefresh, State.KeepsStill, State.atCycle_memOk, State.benchPublish_memOk, State.pk_memOk]

/-! ### The commands of Twin.lean -/

theorem execTwinLoss_keeps (s : State) : Answers (execTwinLoss s) s.KeepsStill := by
  unfold execTwinLoss
  split <;> simp (maxDischargeDepth := 12) +contextual [State.KeepsStill, State.gather_memOk, State.enterSolo_memOk, State.inOrder_memOk]

theorem execResyncComplete_keeps (s : State) : Answers (execResyncComplete s) s.KeepsStill := by
  unfold execResyncComplete
  split
  · refine (answers_next _ _).mpr ?_
    dsimp only
    split
    · exact ⟨fun hm => State.record_memOk _ _ (State.raise_memOk _ _ hm), by simp⟩
    · exact ⟨fun hm => State.raise_memOk _ _ hm, by simp⟩
  · simp [State.KeepsStill]

theorem execHeartbeatSend_keeps (s : State) : Answers (execHeartbeatSend s) s.KeepsStill := by
  simp +contextual [execHeartbeatSend, State.KeepsStill, State.send_memOk]

theorem execHeartbeat_keeps (p : Parcel) (s : State) : Answers (execHeartbeat p s) s.KeepsStill := by
  refine State.consume_keeps (fun t => ?_) s
  simp (maxDischargeDepth := 4) +contextual [State.KeepsStill, State.gather_memOk, State.parcelHeartbeat_memOk, State.inOrder_memOk]

theorem execCopy_keeps (p : Parcel) (s : State) : Answers (execCopy p s) s.KeepsStill :=
  State.consume_keeps (fun t => ⟨State.copyIn_memOk t p, State.copyIn_still t p⟩) s

theorem execResync_keeps (p : Parcel) (s : State) : Answers (execResync p s) s.KeepsStill :=
  State.consume_keeps (fun t => ⟨State.copyIn_memOk t p, State.copyIn_still t p⟩) s

theorem execReclaim_keeps (p : Parcel) (s : State) : Answers (execReclaim p s) s.KeepsStill :=
  State.consume_keeps (fun t => ⟨State.copyIn_memOk t p, State.copyIn_still t p⟩) s

theorem execLanded_keeps (p : Parcel) (s : State) : Answers (execLanded p s) s.KeepsStill :=
  State.consume_keeps (fun t => ⟨State.parcelLanded_memOk t p, State.parcelLanded_still t p⟩) s

theorem execRestore_keeps (p : Parcel) (s : State) : Answers (execRestore p s) s.KeepsStill :=
  State.consume_keeps (fun t => ⟨State.parcelRestore_memOk t p, State.parcelRestore_still t p⟩) s

theorem execConfirm_keeps (p : Parcel) (s : State) : Answers (execConfirm p s) s.KeepsStill :=
  State.consume_keeps (fun t => ⟨State.parcelConfirm_memOk t p, State.parcelConfirm_still t p⟩) s

theorem execAck_keeps (p : Parcel) (s : State) : Answers (execAck p s) s.KeepsStill :=
  State.consume_keeps (fun t => ⟨State.parcelAck_memOk t p, State.parcelAck_still t p⟩) s

/-! ### The commands of Span.lean -/

theorem execPieceSend_keeps (slot i : Nat) (s : State) : Answers (execPieceSend slot i s) s.KeepsStill := by
  unfold execPieceSend
  (repeat' split) <;> simp +contextual [State.KeepsStill, State.pieceGo_memOk, State.sendBlocks_memOk]

theorem execPieceRetry_keeps (slot i : Nat) (s : State) : Answers (execPieceRetry slot i s) s.KeepsStill := by
  unfold execPieceRetry
  (repeat' split) <;> simp +contextual [State.KeepsStill, State.pieceGo_memOk]

theorem execSettleRelease_keeps (s : State) : Answers (execSettleRelease s) s.KeepsStill := by
  unfold execSettleRelease
  split <;> simp +contextual [State.KeepsStill, State.presentPiece_memOk]

theorem execPiece_keeps (p : Parcel) (s : State) : Answers (execPiece p s) s.KeepsStill := by
  unfold execPiece
  split
  · exact State.consume_keeps (fun t => ⟨State.parcelPiece_memOk t p, State.parcelPiece_still t p⟩) s
  · simp [State.KeepsStill]

theorem execReadParcel_keeps (p : Parcel) (s : State) : Answers (execReadParcel p s) s.KeepsStill :=
  State.consume_keeps (fun t => ⟨State.parcelReadParcel_memOk t p, State.parcelReadParcel_still t p⟩) s

theorem execQuery_keeps (p : Parcel) (s : State) : Answers (execQuery p s) s.KeepsStill :=
  State.consume_keeps (fun t => ⟨State.parcelQuery_memOk t p, State.parcelQuery_still t p⟩) s

theorem execAccept_keeps (p : Parcel) (s : State) : Answers (execAccept p s) s.KeepsStill :=
  State.consume_keeps (fun t => ⟨State.parcelAccept_memOk t p, State.parcelAccept_still t p⟩) s

theorem execDone_keeps (p : Parcel) (s : State) : Answers (execDone p s) s.KeepsStill := by
  refine State.consume_keeps (fun t => ?_) s
  simp (maxDischargeDepth := 4) +contextual [State.KeepsStill, State.gather_memOk, State.parcelDone_memOk, State.inOrder_memOk]

theorem execNotready_keeps (p : Parcel) (s : State) : Answers (execNotready p s) s.KeepsStill :=
  State.consume_keeps (fun t => ⟨State.parcelNotready_memOk t p, State.parcelNotready_still t p⟩) s

theorem execRdata_keeps (p : Parcel) (s : State) : Answers (execRdata p s) s.KeepsStill :=
  State.consume_keeps (fun t => ⟨State.parcelRdata_memOk t p, State.parcelRdata_still t p⟩) s

theorem execResendq_keeps (p : Parcel) (s : State) : Answers (execResendq p s) s.KeepsStill :=
  State.consume_keeps (fun t => ⟨State.parcelResendq_memOk t p, State.parcelResendq_still t p⟩) s

theorem execRemap_keeps (p : Parcel) (s : State) : Answers (execRemap p s) s.KeepsStill :=
  State.consume_keeps (fun t => ⟨State.parcelRemap_memOk t p, State.parcelRemap_still t p⟩) s

theorem execRemapr_keeps (p : Parcel) (s : State) : Answers (execRemapr p s) s.KeepsStill :=
  State.consume_keeps (fun t => ⟨State.parcelRemapr_memOk t p, State.parcelRemapr_still t p⟩) s

/-! ### The commands of MediaCmd.lean -/

theorem execSectorWrite_keeps (k : Fin 4) (head : Fin 20) (track : BitVec 24) (pos : BitVec 12) (bad : Bool) (s : State) :
    Answers (execSectorWrite k head track pos bad s) s.KeepsStill := by
  unfold execSectorWrite
  dsimp only
  split <;> simp +contextual [State.KeepsStill, State.sectorWrite_memOk]

theorem execSectorRewrite_keeps (k : Fin 4) (head : Fin 20) (track : BitVec 24) (pos : BitVec 12) (bad : Bool) (s : State) :
    Answers (execSectorRewrite k head track pos bad s) s.KeepsStill := by
  unfold execSectorRewrite
  dsimp only
  split <;> simp +contextual [State.KeepsStill, State.sectorWrite_memOk]

theorem execVerifyResult_keeps (k : Fin 4) (head : Fin 20) (track : BitVec 24) (pos : BitVec 12) (x : ReadIn) (unsat : Nat) (s : State) :
    Answers (execVerifyResult k head track pos x unsat s) s.KeepsStill := by
  unfold execVerifyResult
  dsimp only
  split
  · simp [State.KeepsStill]
  · split
    · rw [answers_next]
      split <;> split <;> simp (maxDischargeDepth := 4) +contextual [State.KeepsStill, State.actFalls_memOk, State.setAct_memOk, State.jobDone_memOk,
        State.verifyFail_memOk, State.landCuts_memOk]
    · simp [State.KeepsStill]

theorem execPieceLanded_keeps (id failA : Nat) (s : State) (failB : Nat) : Answers (execPieceLanded id failA s failB) s.KeepsStill := by
  unfold execPieceLanded
  (repeat' split) <;> simp +contextual [State.KeepsStill, State.pieceLand_memOk, State.strictGo_memOk, State.landMap_memOk]

theorem execMarginalRefresh_keeps (k : Fin 4) (s : State) : Answers (execMarginalRefresh k s) s.KeepsStill := by
  unfold execMarginalRefresh
  split <;> simp +contextual [State.KeepsStill, State.setChn_memOk, State.present_memOk]

theorem execPlacementStep_keeps (s : State) : Answers (execPlacementStep s) s.KeepsStill := by
  simp +contextual [execPlacementStep, State.KeepsStill, State.placementRun_memOk]

/-! ### The commands of SelfTest.lean -/

theorem execTouchdownNow_keeps (slot : Nat) (s : State) : Answers (execTouchdownNow slot s) s.KeepsStill := by
  simp +contextual [execTouchdownNow, State.KeepsStill, State.selfTest_memOk, State.testDue_memOk]

theorem execSeparationNow_keeps (slot : Nat) (s : State) : Answers (execSeparationNow slot s) s.KeepsStill := by
  simp +contextual [execSeparationNow, State.KeepsStill, State.selfTest_memOk, State.testDue_memOk]

theorem execSeekSweep_keeps (slot : Nat) (s : State) : Answers (execSeekSweep slot s) s.KeepsStill := by
  simp +contextual [execSeekSweep, State.KeepsStill, State.selfTest_memOk, State.modRun_memOk]

theorem execSurfaceScan_keeps (slot : Nat) (s : State) : Answers (execSurfaceScan slot s) s.KeepsStill := by
  simp +contextual [execSurfaceScan, State.KeepsStill, State.selfTest_memOk, State.setMed_memOk]

theorem execRecalibrate_keeps (slot : Nat) (s : State) : Answers (execRecalibrate slot s) s.KeepsStill := by
  simp +contextual [execRecalibrate, State.KeepsStill, State.selfTest_memOk, State.modRun_memOk]

theorem execFreeSlabTest_keeps (slot : Nat) (s : State) : Answers (execFreeSlabTest slot s) s.KeepsStill := by
  simp +contextual [execFreeSlabTest, State.KeepsStill, State.selfTest_memOk, State.modRun_memOk]

theorem execSelfTestComplete_keeps (slabs : Nat) (s : State) : Answers (execSelfTestComplete slabs s) s.KeepsStill := by
  unfold execSelfTestComplete
  split <;> simp +contextual [State.KeepsStill, State.testFinish_memOk]

theorem execCalSliceStart_keeps (head : Fin 20) (sep : Bool) (s : State) : Answers (execCalSliceStart head sep s) s.KeepsStill := by
  simp +contextual [execCalSliceStart, State.KeepsStill, State.sliceBegin_memOk]

theorem execCalSliceEnd_keeps (k : Fin 4) (sep : Option Int) (s : State) : Answers (execCalSliceEnd k sep s) s.KeepsStill := by
  unfold execCalSliceEnd
  (repeat' split) <;> simp +contextual [State.KeepsStill, State.sliceRelease_memOk, State.sepEnd_memOk, State.setHd_memOk, State.touchEnd_memOk]

/-! ### The commands of Fabric.lean -/

theorem execFlitReceive_keeps (p : Fin 4) (f : FlitIn) (s : State) : Answers (execFlitReceive p f s) s.KeepsStill := by
  simp (maxDischargeDepth := 12) +contextual [execFlitReceive, State.KeepsStill, State.bumpk_memOk, State.setPort_memOk, State.flitAnswer_memOk,
    State.flitControl_memOk, State.flitData_memOk]

theorem execLinkFailure_keeps (p : Fin 4) (cause : Fin 5) (s : State) : Answers (execLinkFailure p cause s) s.KeepsStill := by
  simp +contextual [execLinkFailure, State.KeepsStill, State.linkFail_memOk]

theorem execPortTraining_keeps (p : Fin 4) (s : State) : Answers (execPortTraining p s) s.KeepsStill := by
  simp +contextual [execPortTraining, State.KeepsStill, State.pk_memOk, State.setPort_memOk]

theorem execPortTrainingTimeout_keeps (p : Fin 4) (s : State) : Answers (execPortTrainingTimeout p s) s.KeepsStill := by
  simp (maxDischargeDepth := 12) +contextual [execPortTrainingTimeout, State.KeepsStill, State.pk_memOk, State.setPort_memOk, State.trainingCheck_memOk]

theorem execPortHoldExpiry_keeps (p : Fin 4) (s : State) : Answers (execPortHoldExpiry p s) s.KeepsStill := by
  simp +contextual [execPortHoldExpiry, State.KeepsStill, State.pk_memOk, State.setPort_memOk]

theorem execHello_keeps (p : Fin 4) (serial : List Byte) (port id mode : Nat) (s : State) : Answers (execHello p serial port id mode s) s.KeepsStill := by
  simp (maxDischargeDepth := 12) +contextual [execHello, State.KeepsStill, State.holdPort_memOk, State.trainingCheck_memOk, State.setPort_memOk,
    State.pk_memOk, State.parcelOut_memOk, State.linkFail_memOk]

theorem execDelay_keeps (p : Fin 4) (t1 t2 t3 t4 : Int) (s : State) : Answers (execDelay p t1 t2 t3 t4 s) s.KeepsStill := by
  simp (maxDischargeDepth := 12) +contextual [execDelay, State.KeepsStill, State.setPort_memOk, State.parcelOut_memOk, State.free_memOk, State.pk_memOk]

theorem execDelayMeasure_keeps (p : Fin 4) (s : State) : Answers (execDelayMeasure p s) s.KeepsStill := by
  simp +contextual [execDelayMeasure, State.KeepsStill, State.setPort_memOk, State.linkSend_memOk]

theorem execPortUp_keeps (p : Fin 4) (half : Bool) (lanes : List (Int × Int)) (s : State) : Answers (execPortUp p half lanes s) s.KeepsStill := by
  simp +contextual [execPortUp, State.KeepsStill, State.portRise_memOk]

/-! ### The commands of Discovery.lean -/

theorem execElect_keeps (p : Fin 4) (serial : List Byte) (s : State) : Answers (execElect p serial s) s.KeepsStill := by
  simp +contextual [execElect, State.KeepsStill, State.elect_memOk]

theorem execElectionEnd_keeps (s : State) : Answers (execElectionEnd s) s.KeepsStill := by
  simp +contextual [execElectionEnd, State.KeepsStill, State.discFail_memOk, State.ringStart_memOk]

theorem execRing_keeps (p : Fin 4) (dim : Fin 2) (count : Nat) (s : State) : Answers (execRing p dim count s) s.KeepsStill := by
  unfold execRing
  (repeat' split) <;> simp +contextual [State.KeepsStill, State.ringStart_memOk, State.linkSend_memOk]

theorem execRingWalkTimeout_keeps (s : State) : Answers (execRingWalkTimeout s) s.KeepsStill := by
  unfold execRingWalkTimeout
  split <;> simp +contextual [State.KeepsStill, State.discFail_memOk]

theorem execAssign_keeps (p : Fin 4) (w h x y : Nat) (s : State) : Answers (execAssign p w h x y s) s.KeepsStill := by
  simp (maxDischargeDepth := 12) +contextual [execAssign, State.KeepsStill, State.nodeKnown_memOk, State.p_memOk, State.assign_memOk, State.originate_memOk,
    State.discFail_memOk]

theorem execLsr_keeps (p : Fin 4) (id : Nat) (x : Lsr) (s : State) : Answers (execLsr p id x s) s.KeepsStill := by
  simp +contextual [execLsr, State.KeepsStill, State.idConflict_memOk, State.viewPut_memOk, State.flood_memOk]

theorem execDiscoveryEnd_keeps (s : State) : Answers (execDiscoveryEnd s) s.KeepsStill := by
  simp +contextual [execDiscoveryEnd, State.KeepsStill, State.discEnd_memOk]

theorem execDiscoveryTimeout_keeps (s : State) : Answers (execDiscoveryTimeout s) s.KeepsStill := by
  simp +contextual [execDiscoveryTimeout, State.KeepsStill, State.discFail_memOk]

theorem execRouteEpochSwitch_keeps (s : State) : Answers (execRouteEpochSwitch s) s.KeepsStill := by
  unfold execRouteEpochSwitch
  split <;> simp (maxDischargeDepth := 12) +contextual [State.KeepsStill, State.gather_memOk, State.epochSwitch_memOk, State.inOrder_memOk]

theorem execParcelForward_keeps (p : Parcel) (s : State) : Answers (execParcelForward p s) s.KeepsStill := by
  simp +contextual [execParcelForward, State.KeepsStill, State.leaveBuffer_memOk, State.dropParcel_memOk, State.setPort_memOk, State.routeOut_memOk]

/-! ### The commands of TimeSync.lean -/

theorem execTime_keeps (p : Fin 4) (tx es rx : Int) (s : State) : Answers (execTime p tx es rx s) s.KeepsStill := by
  simp +contextual [execTime, State.KeepsStill, State.p_memOk, State.timeStep_memOk, State.free_memOk]

theorem execAlignedTimeout_keeps (s : State) : Answers (execAlignedTimeout s) s.KeepsStill := by
  simp +contextual [execAlignedTimeout, State.KeepsStill, State.alignFall_memOk, State.setTrim_memOk]

theorem execSerdesStep_keeps (x : List (Option EyeIn)) (s : State) : Answers (execSerdesStep x s) s.KeepsStill := by
  simp (maxDischargeDepth := 12) +contextual [execSerdesStep, State.KeepsStill, State.atCycle_memOk, State.laneStep_memOk, State.slotDone_memOk]

/-! ### The commands of Bus.lean -/

theorem execReadLowDword_keeps (fn : Fin 16) (a : BitVec 26) (s : State) : Answers (execReadLowDword fn a s) s.KeepsStill := by
  simp +contextual [execReadLowDword, State.KeepsStill, State.readDword_memOk, State.emit_memOk]

theorem execRegWrite_keeps (fn : Fin 16) (a : BitVec 26) (len : Fin 5) (v : BitVec 32) (s : State) : Answers (execRegWrite fn a len v s) s.KeepsStill := by
  simp +contextual [execRegWrite, State.KeepsStill, State.writeDword_memOk, State.writeBad_memOk]

theorem execWriteHighDword_keeps (fn : Fin 16) (a : BitVec 26) (v : BitVec 32) (s : State) : Answers (execWriteHighDword fn a v s) s.KeepsStill := by
  unfold execWriteHighDword
  (repeat' split) <;> simp +contextual [State.KeepsStill, State.writeHigh_memOk]

theorem execWriteLowDword_keeps (fn : Fin 16) (a : BitVec 26) (v : BitVec 32) (s : State) : Answers (execWriteLowDword fn a v s) s.KeepsStill := by
  unfold execWriteLowDword
  (repeat' split) <;> simp +contextual [State.KeepsStill, State.commitWide_memOk]

theorem execWideAccess_keeps (fn : Fin 16) (a : BitVec 26) (n : Nat) (w : Option (List Byte)) (s : State) :
    Answers (execWideAccess fn a n w s) s.KeepsStill := by
  unfold execWideAccess
  (repeat' split) <;> simp +contextual [State.KeepsStill, State.pushWrite_memOk, State.writeBad_memOk, State.writeWide_memOk, State.readWide_memOk,
    State.emit_memOk]

/-! ### The commands of Pins.lean -/

theorem execExtintEdge_keeps (n : Fin 16) (rising : Bool) (s : State) (held : Nat) : Answers (execExtintEdge n rising s held) s.KeepsStill := by
  simp (maxDischargeDepth := 12) +contextual [execExtintEdge, State.KeepsStill, State.extTake_memOk, State.extStamp_memOk, State.hwSet_memOk,
    State.raise_memOk]

theorem execExtintLevel_keeps (n : Fin 16) (high : Bool) (s : State) (held : Nat) : Answers (execExtintLevel n high s held) s.KeepsStill := by
  simp (maxDischargeDepth := 12) +contextual [execExtintLevel, State.KeepsStill, State.extTake_memOk, State.hwSet_memOk, State.extStamp_memOk,
    State.raise_memOk, State.hwClr_memOk]

theorem execEvoPulseEnd_keeps (n : Fin 16) (s : State) : Answers (execEvoPulseEnd n s) s.KeepsStill := by
  unfold execEvoPulseEnd
  split <;> simp +contextual [State.KeepsStill]

theorem execPinConfigApply_keeps (s : State) : Answers (execPinConfigApply s) s.KeepsStill := by
  simp (maxDischargeDepth := 12) +contextual [execPinConfigApply, State.KeepsStill, State.pki_memOk, State.atCycle_memOk, State.clearImage_memOk,
    State.applyImage_memOk]

theorem execWakeQualify_keeps (levels : BitVec 16) (perst : Bool) (s : State) : Answers (execWakeQualify levels perst s) s.KeepsQueue := by
  simp +contextual [execWakeQualify, State.KeepsQueue, State.wake_memOk]

theorem execPerstNAssert_keeps (s : State) : Answers (execPerstNAssert s) s.KeepsStill := by
  simp +contextual [execPerstNAssert, State.KeepsStill, State.perstQueues_memOk, State.linkDown_memOk]

theorem execPerstNDeassert_keeps (s : State) : Answers (execPerstNDeassert s) s.KeepsStill := by
  simp [execPerstNDeassert, State.KeepsStill]

/-! ### The commands of Endpoint.lean -/

theorem execPcieLinkUp_keeps (speed : Fin 5) (lanes : Fin 4) (s : State) : Answers (execPcieLinkUp speed lanes s) s.KeepsStill := by
  simp +contextual [execPcieLinkUp, State.KeepsStill, State.linkTrained_memOk]

theorem execPcieConfigRequest_keeps (fn : Fin 16) (s : State) (dc : Option DevCtl) : Answers (execPcieConfigRequest fn s dc) s.KeepsStill := by
  unfold execPcieConfigRequest
  (repeat' split) <;> simp +contextual [State.KeepsStill, State.emit_memOk]

theorem execI2cTargetTransaction_keeps (addr : BitVec 7) (s : State) : Answers (execI2cTargetTransaction addr s) s.KeepsStill := by
  simp +contextual [execI2cTargetTransaction, State.KeepsStill, State.emit_memOk]

theorem execBenchUncorrectable_keeps (m : Fin 26) (o : BenchOwner) (s : State) : Answers (execBenchUncorrectable m o s) s.KeepsStill := by
  simp (maxDischargeDepth := 12) +contextual [execBenchUncorrectable, State.KeepsStill, State.bump_memOk, State.p_memOk, State.raise_memOk,
    State.benchLost_memOk]

/-! ### The commands of GazSlots.lean -/

theorem execStatisticsSlot_keeps (s : State) : Answers (execStatisticsSlot s) s.KeepsStill := by
  simp (maxDischargeDepth := 12) +contextual [execStatisticsSlot, State.KeepsStill, State.atCycle_memOk, State.tickSamples_memOk, State.eventRecords_memOk,
    State.slotDone_memOk]

theorem execStatisticsPageEdge_keeps (s : State) : Answers (execStatisticsPageEdge s) s.KeepsStill := by
  simp +contextual [execStatisticsPageEdge, State.KeepsStill, State.pageEdge_memOk]

theorem execOpsecTick_keeps (s : State) : Answers (execOpsecTick s) s.KeepsStill := by
  simp +contextual [execOpsecTick, State.KeepsStill, State.opsecTick_memOk]

theorem execPersistentWrite_keeps (s : State) : Answers (execPersistentWrite s) s.KeepsStill := by
  unfold execPersistentWrite
  split <;> simp +contextual [State.KeepsStill, State.programRecord_memOk, State.gazTakeNext_memOk]

/-! ### The commands of Spindle.lean -/

theorem execSpindleStartOrder_keeps (s : State) : Answers (execSpindleStartOrder s) s.KeepsStill := by
  unfold execSpindleStartOrder
  split <;> simp (maxDischargeDepth := 12) +contextual [State.KeepsStill, State.p_memOk, State.enterSpn_memOk, State.setSpn_memOk]

theorem execListenEnd_keeps (c : Nat) (s : State) : Answers (execListenEnd c s) s.KeepsStill := by
  unfold execListenEnd
  dsimp only
  split <;> simp +contextual [State.KeepsStill, State.atCycle_memOk, State.listened_memOk]

theorem execBrakeEnd_keeps (a b : Nat) (s : State) : Answers (execBrakeEnd a b s) s.KeepsStill := by
  unfold execBrakeEnd
  (repeat' split) <;> simp +contextual [State.KeepsStill, State.setSpn_memOk, State.attempt_memOk, State.enterSpn_memOk, State.standbyReached_memOk,
    State.lossRecord_memOk, State.spindleFail_memOk]

theorem execAlignEnd_keeps (s : State) : Answers (execAlignEnd s) s.KeepsStill := by
  simp +contextual [execAlignEnd, State.KeepsStill, State.enterSpn_memOk]

theorem execAttemptSuccess_keeps (s : State) : Answers (execAttemptSuccess s) s.KeepsStill := by
  simp +contextual [execAttemptSuccess, State.KeepsStill, State.enterSpn_memOk]

theorem execAttemptFail_keeps (s : State) : Answers (execAttemptFail s) s.KeepsStill := by
  simp +contextual [execAttemptFail, State.KeepsStill, State.attemptFail_memOk]

theorem execAccelInBand_keeps (s : State) : Answers (execAccelInBand s) s.KeepsStill := by
  simp +contextual [execAccelInBand, State.KeepsStill, State.enterSpn_memOk]

theorem execAtSpeed_keeps (s : State) : Answers (execAtSpeed s) s.KeepsStill := by
  unfold execAtSpeed
  dsimp only
  (repeat' split) <;> simp (maxDischargeDepth := 12) +contextual [State.KeepsStill, State.p_memOk, State.raise_memOk, State.orderDone_memOk]

theorem execSpinupLimit_keeps (s : State) : Answers (execSpinupLimit s) s.KeepsStill := by
  simp +contextual [execSpinupLimit, State.KeepsStill, State.startFailed_memOk]

theorem execBrakeMaxExpiry_keeps (s : State) : Answers (execBrakeMaxExpiry s) s.KeepsStill := by
  simp (maxDischargeDepth := 12) +contextual [execBrakeMaxExpiry, State.KeepsStill, State.enterSpn_memOk, State.raise_memOk, State.standbyReached_memOk,
    State.lossRecord_memOk, State.spindleFail_memOk]

theorem execCommutatorSlot_keeps (s : State) : Answers (execCommutatorSlot s) s.KeepsStill := by
  simp +contextual [execCommutatorSlot, State.KeepsStill, State.commutate_memOk, State.bandExit_memOk]

theorem execWriteBandResume_keeps (s : State) : Answers (execWriteBandResume s) s.KeepsStill := by
  simp (maxDischargeDepth := 12) +contextual [execWriteBandResume, State.KeepsStill, State.p_memOk, State.setSpn_memOk, State.reissue_memOk,
    State.raise_memOk]

theorem execObserverUpdate_keeps (x : ObsIn) (s : State) : Answers (execObserverUpdate x s) s.KeepsStill := by
  simp +contextual [execObserverUpdate, State.KeepsStill, State.observed_memOk, State.rotorLoss_memOk]

theorem execOvercurrentTrip_keeps (i : Nat) (s : State) : Answers (execOvercurrentTrip i s) s.KeepsStill := by
  simp (maxDischargeDepth := 12) +contextual [execOvercurrentTrip, State.KeepsStill, State.gateDropAll_memOk, State.setSpn_memOk, State.attemptFail_memOk,
    State.rotorLoss_memOk]

theorem execRecoverListenWindow_keeps (s : State) : Answers (execRecoverListenWindow s) s.KeepsStill := by
  unfold execRecoverListenWindow
  split <;> simp +contextual [State.KeepsStill, State.setSpn_memOk]

theorem execReacquisitionFail_keeps (s : State) : Answers (execReacquisitionFail s) s.KeepsStill := by
  unfold execReacquisitionFail
  split <;> simp (maxDischargeDepth := 12) +contextual [State.KeepsStill, State.raise_memOk, State.eparkAll_memOk, State.lossRecord_memOk,
    State.enterSpn_memOk, State.setSpn_memOk]

theorem execRotorRestartOrder_keeps (s : State) : Answers (execRotorRestartOrder s) s.KeepsStill := by
  simp +contextual [execRotorRestartOrder, State.KeepsStill, State.spindleStart_memOk]

theorem execRelockCountReset_keeps (s : State) : Answers (execRelockCountReset s) s.KeepsStill := by
  simp +contextual [execRelockCountReset, State.KeepsStill, State.p_memOk]

theorem execStandbyBrakeStart_keeps (s : State) : Answers (execStandbyBrakeStart s) s.KeepsStill := by
  simp +contextual [execStandbyBrakeStart, State.KeepsStill, State.spindleBrakeFor_memOk, State.standbyReached_memOk]

theorem execRetractComplete_keeps (s : State) : Answers (execRetractComplete s) s.KeepsStill := by
  simp +contextual [execRetractComplete, State.KeepsStill, State.p_memOk]

/-! ### The commands of Tick.lean -/

theorem execSnapshotSlot_keeps (captured : Option Nat) (s : State) : Answers (execSnapshotSlot captured s) s.KeepsStill := by
  simp (maxDischargeDepth := 12) +contextual [execSnapshotSlot, State.KeepsStill, State.atCycle_memOk, State.snapshot_memOk, State.slotDone_memOk]

end Sys2Proof.Machine
end

section
/-! SUPPORT. What the commands of edges, of fetches and of keys keep: the canonical form, and `State.still` but for the part that is theirs. -/

namespace Sys2Proof.Machine

/-! ### Edges: all but the two latches (R58) -/

/-- The state at which an edge latches its values: the tick's missed samples and bench requests are done, and a snapshot slot that overran has run. -/
def State.beforeEdge (s : State) (x : TickIn) : State :=
  let u := (s.missedPost x).benchEdge x.bench
  if bitAt (u.overrunAt x) 13 ∧ !bitAt u.clk.slots 15 then u.snapshot (some 0) else u

theorem State.beforeEdge_still (s : State) (x : TickIn) : (s.beforeEdge x).still = s.still := by
  unfold State.beforeEdge
  dsimp only
  split <;> simp

/-- An edge leaves what its start leaves. -/
theorem State.tickEdge_still_eq (s : State) (x : TickIn) : (s.tickEdge x).still = (s.beforeEdge x).edgeStart.still := by
  unfold State.tickEdge State.beforeEdge
  simp

/-- An edge latches the values that stand at it, keeps those of the edge before, and touches nothing else of `still`. -/
theorem State.tickEdge_still_latch (s : State) (x : TickIn) :
    (s.tickEdge x).still = ({ s with latch := (s.beforeEdge x).live, latchPrev := s.latch } : State).still := by
  have h := s.beforeEdge_still x
  rw [State.tickEdge_still_eq]
  simp only [State.still, State.edgeStart, Prod.mk.injEq] at h ⊢
  simp [h]

/-! ### Fetches: all but the place of the fetch engine (R429) -/

theorem State.takeEntry_still_eq (s : State) (fn q slot : Nat) (x : Sq) (b : List Byte) (pushed : Bool) :
    (s.takeEntry fn q slot x b pushed).still = ({ s with fetchSeq := s.fetchSeq + 1 } : State).still := by
  have h := s.deadlineFlush_still
  simp only [State.takeEntry, ite_still, State.mediaArrives_still, State.setCmd_still, State.setSq_still, ite_self]
  simp only [State.still, Prod.mk.injEq] at h ⊢
  simp [h]

/-! ### The commands that touch the place of the fetch engine -/

/-- `t` keeps the canonical form that `s` has, and the queue, the key RAM and the edge latch are as in `s`. -/
def State.KeepsButPlace (s t : State) : Prop :=
  (s.memOk → t.memOk) ∧ t.pending = s.pending ∧ t.keys = s.keys ∧ t.latch = s.latch ∧ t.latchPrev = s.latchPrev

theorem State.KeepsStill.butPlace {s t : State} (h : s.KeepsStill t) : s.KeepsButPlace t := by
  obtain ⟨hm, hs⟩ := h
  simp only [State.still, Prod.mk.injEq] at hs
  obtain ⟨hpending, hkeys, hlatch, hprev, -⟩ := hs
  exact ⟨hm, hpending, hkeys, hlatch, hprev⟩

theorem State.KeepsButPlace.trans {s t u : State} (h : s.KeepsButPlace t) (h' : t.KeepsButPlace u) : s.KeepsButPlace u := by
  obtain ⟨hm, hpending, hkeys, hlatch, hprev⟩ := h
  obtain ⟨hm', hpending', hkeys', hlatch', hprev'⟩ := h'
  exact ⟨hm' ∘ hm, hpending'.trans hpending, hkeys'.trans hkeys, hlatch'.trans hlatch, hprev'.trans hprev⟩

theorem State.takeEntry_keeps (s : State) (fn q slot : Nat) (x : Sq) (b : List Byte) (pushed : Bool) :
    s.KeepsButPlace (s.takeEntry fn q slot x b pushed) := by
  have h := s.takeEntry_still_eq fn q slot x b pushed
  simp only [State.still, Prod.mk.injEq] at h
  obtain ⟨hpending, hkeys, hlatch, hprev, -⟩ := h
  exact ⟨State.takeEntry_memOk s fn q slot x b pushed, hpending, hkeys, hlatch, hprev⟩

/-- What a fetch does with the entry that it finds. -/
theorem State.fetched_keeps (s : State) (fn q slot : Nat) (x : Sq) (p : Option (List Byte)) (r : HRead) :
    s.KeepsButPlace (match p, r with
      | some b, _ => s.takeEntry fn q slot x b true
      | none, .ok b => s.takeEntry fn q slot x (b.take 64 ++ zeros (64 - b.length)) false
      | none, .err aer => s.entryError fn q x aer) := by
  split
  · exact s.takeEntry_keeps ..
  · exact s.takeEntry_keeps ..
  · exact State.KeepsStill.butPlace ⟨State.entryError_memOk s _ _ _ _, s.entryError_still _ _ _ _⟩

theorem execSqEntryFetch_keeps (r : HRead) (s : State) : Answers (execSqEntryFetch r s) s.KeepsButPlace := by
  have hself : s.KeepsButPlace s := ⟨id, rfl, rfl, rfl, rfl⟩
  unfold execSqEntryFetch
  split
  · split
    · simpa using hself
    · dsimp only
      split
      · rw [answers_next]
        refine State.KeepsButPlace.trans ?_ (State.fetched_keeps ..)
        split <;> exact hself
      · simpa using hself
  · simpa using hself

theorem execCompletionTimeout_keeps (slot : Option Nat) (aer : Bool) (s : State) :
    Answers (execCompletionTimeout slot aer s) s.KeepsButPlace := by
  unfold execCompletionTimeout
  split
  · exact execSqEntryFetch_keeps (.err aer) s
  · split
    · exact (answers_next _ _).mpr ⟨id, rfl, rfl, rfl, rfl⟩
    · refine Answers.mono (P := s.KeepsStill) ?_ fun _ => State.KeepsStill.butPlace
      simp (maxDischargeDepth := 4) +contextual [State.KeepsStill, State.complete_memOk, State.discardSlot_memOk, State.raise_memOk]

/-! ### The commands that touch the key RAM -/

/-- `t` keeps the canonical form that `s` has, and the queue, the edge latch and the place of the fetch engine are as in `s`. -/
def State.KeepsButKeys (s t : State) : Prop := (s.memOk → t.memOk) ∧ t.still.1 = s.still.1 ∧ t.still.2.2 = s.still.2.2

/-- An admin command keeps what its own work keeps. -/
theorem State.admin_keepsButKeys (s : State) (slot opc : Nat) (sel : Cmd → Bool) (used : List (Nat × Nat)) (checks : Cmd → List (Bool × Nat))
    {f : Cmd → State → State} (h : ∀ c (t : State), t.KeepsButKeys (f c t)) : s.KeepsButKeys (s.admin slot opc sel used checks f) :=
  ⟨State.admin_memOk s slot opc sel used checks f fun c t => (h c t).1, s.admin_still_of (·.1) slot opc sel used checks fun c t => (h c t).2.1,
    s.admin_still_of (·.2.2) slot opc sel used checks fun c t => (h c t).2.2⟩

theorem execVolumeDelete_keeps (slot : Nat) (s : State) : Answers (execVolumeDelete slot s) s.KeepsButKeys := by
  refine (answers_next _ _).mpr (s.admin_keepsButKeys _ _ _ _ _ fun c t => ⟨fun ht => ?_, ?_, ?_⟩)
  · exact State.complete_memOk _ _ _ (State.volRemove_memOk _ _ ht)
  · rw [State.complete_still]; rfl
  · rw [State.complete_still]; rfl

theorem execKeyClear_keeps (slot : Nat) (s : State) : Answers (execKeyClear slot s) s.KeepsButKeys := by
  refine (answers_next _ _).mpr (s.admin_keepsButKeys _ _ _ _ _ fun c t => ⟨fun ht => ?_, ?_, ?_⟩)
  · exact State.complete_memOk _ _ _ ht
  · rw [State.complete_still]; rfl
  · rw [State.complete_still]; rfl

theorem State.KeepsStill.butKeys {s t : State} (h : s.KeepsStill t) : s.KeepsButKeys t := ⟨h.1, congrArg (·.1) h.2, congrArg (·.2.2) h.2⟩

theorem execKeyLoad_keeps (slot : Nat) (r : HRead) (s : State) : Answers (execKeyLoad slot r s) s.KeepsButKeys := by
  refine (answers_next _ _).mpr (s.admin_keepsButKeys _ _ _ _ _ fun c t => ?_)
  unfold State.withSegs
  split
  · exact State.KeepsStill.butKeys ⟨State.badPtr_memOk _ _ _, State.badPtr_still ..⟩
  · exact State.KeepsStill.butKeys ⟨State.hostReadError_memOk _ _ _, State.hostReadError_still ..⟩
  · exact State.KeepsStill.butKeys ⟨State.chainFail_memOk _ _ _, State.chainFail_still ..⟩
  · split
    · split
      · exact State.KeepsStill.butKeys ⟨State.hostReadError_memOk _ _ _, State.hostReadError_still ..⟩
      · refine ⟨fun ht => State.complete_memOk _ _ _ ?_, ?_, ?_⟩
        · split
          · exact State.putKey_memOk _ _ _ ht
          · exact ht
        · rw [State.complete_still]; split <;> rfl
        · rw [State.complete_still]; split <;> rfl
    · exact State.KeepsStill.butKeys ⟨State.badPtr_memOk _ _ _, State.badPtr_still ..⟩

theorem State.keyLost_still_place (s : State) (code : Nat) : (s.keyLost code).still.2.2 = s.still.2.2 := by
  simp only [State.keyLost, State.record_still, State.raise_still, State.bump_still]
  rfl

theorem execKeyRamParity_keeps (code : Fin 80) (s : State) : Answers (execKeyRamParity code s) s.KeepsButKeys := by
  unfold execKeyRamParity
  rw [answers_next]
  split
  · refine ⟨fun hm => ?_, by simp, by simp [State.keyLost_still_place]⟩
    exact State.inOrder_memOk _ (foldl_memOk _ _ _ (fun u e => State.keyFail_memOk u e.1) (State.keyLost_memOk _ _ hm))
  · exact ⟨id, rfl, rfl⟩

/-! ### The edges of the tick -/

/-- `t` keeps the canonical form that `s` has, and the queue, the key RAM and the place of the fetch engine are as in `s`. -/
def State.KeepsButLatch (s t : State) : Prop := (s.memOk → t.memOk) ∧ ∃ l p : RegFile, t.still = ({ s with latch := l, latchPrev := p } : State).still

theorem State.KeepsStill.butLatch {s t : State} (h : s.KeepsStill t) : s.KeepsButLatch t := ⟨h.1, s.latch, s.latchPrev, h.2⟩

theorem State.tickEdge_keeps (s : State) (x : TickIn) : s.KeepsButLatch (s.tickEdge x) :=
  ⟨State.tickEdge_memOk s x, _, _, s.tickEdge_still_latch x⟩

theorem execTickEdge_keeps (x : TickIn) (s : State) : Answers (execTickEdge x s) s.KeepsButLatch := by
  refine (answers_next _ _).mpr ?_
  unfold State.anyEdge
  split
  · exact s.tickEdge_keeps x
  · split
    · exact State.KeepsStill.butLatch ⟨fun hm => State.wakeEdge_memOk _ _ _ hm, by simp⟩
    · exact State.KeepsStill.butLatch ⟨id, rfl⟩

theorem execTickNumberLoad_keeps (x : TickIn) (s : State) : Answers (execTickNumberLoad x s) s.KeepsButLatch := by
  refine (answers_next _ _).mpr ?_
  split
  · exact s.tickEdge_keeps x
  · exact State.KeepsStill.butLatch ⟨id, rfl⟩

end Sys2Proof.Machine
end

section
/-! SUPPORT. The frame of every command, and the statements that follow from it: O35 to O38 and O56 to O60. -/

namespace Sys2Proof.Machine

/-! ### Every command -/

/-- What the command `c` leaves alone where it takes `s` to `t`. -/
structure Frame (c : Instr) (s t : State) : Prop where
  memOk : s.memOk → t.memOk
  pending : t.pending = s.pending
  keys : entersReset c = false → writesKeys c = false → t.keys = s.keys
  latch : entersReset c = false → passesEdge c = false → t.latch = s.latch ∧ t.latchPrev = s.latchPrev
  place : entersReset c = false → takesEntry c = false →
    t.fetchSeq = s.fetchSeq ∧ t.lastFn = s.lastFn ∧ t.lastSq = s.lastSq ∧ t.visit = s.visit ∧ t.burst = s.burst

section
variable {c : Instr} {s : State} {o : Out}

theorem Answers.ordinary (h : Answers o s.KeepsStill) : Answers o (Frame c s) :=
  h.mono fun t ⟨hm, hs⟩ => by
    simp only [State.still, Prod.mk.injEq] at hs
    obtain ⟨hpending, hkeys, hlatch, hprev, hplace⟩ := hs
    exact ⟨hm, hpending, fun _ _ => hkeys, fun _ _ => ⟨hlatch, hprev⟩, fun _ _ => hplace⟩

theorem Answers.reset (hc : entersReset c = true) (h : Answers o s.KeepsQueue) : Answers o (Frame c s) :=
  h.mono fun t ⟨hm, hs⟩ => ⟨hm, hs, by simp [hc], by simp [hc], by simp [hc]⟩

theorem Answers.butKeys (hc : writesKeys c = true) (h : Answers o s.KeepsButKeys) : Answers o (Frame c s) :=
  h.mono fun t ⟨hm, hpending, hs⟩ => by
    simp only [State.still, Prod.mk.injEq] at hs
    obtain ⟨hlatch, hprev, hplace⟩ := hs
    exact ⟨hm, hpending, by simp [hc], fun _ _ => ⟨hlatch, hprev⟩, fun _ _ => hplace⟩

theorem Answers.butLatch (hc : passesEdge c = true) (h : Answers o s.KeepsButLatch) : Answers o (Frame c s) :=
  h.mono fun t ⟨hm, l, p, hs⟩ => by
    simp only [State.still, Prod.mk.injEq] at hs
    obtain ⟨hpending, hkeys, -, -, hplace⟩ := hs
    exact ⟨hm, hpending, fun _ _ => hkeys, by simp [hc], fun _ _ => hplace⟩

theorem Answers.butPlace (hc : takesEntry c = true) (h : Answers o s.KeepsButPlace) : Answers o (Frame c s) :=
  h.mono fun t ⟨hm, hpending, hkeys, hlatch, hprev⟩ => ⟨hm, hpending, fun _ _ => hkeys, fun _ _ => ⟨hlatch, hprev⟩, by simp [hc]⟩

end

/-- Every command answers a next state and keeps to its frame. -/
theorem exec_frame (c : Instr) (s : State) : Answers (exec c s) (Frame c s) := by
  cases c with
  | regWrite fn a len v => exact Answers.ordinary (execRegWrite_keeps fn a len v s)
  | readLowDword fn a => exact Answers.ordinary (execReadLowDword_keeps fn a s)
  | writeHighDword fn a v => exact Answers.ordinary (execWriteHighDword_keeps fn a v s)
  | writeLowDword fn a v => exact Answers.ordinary (execWriteLowDword_keeps fn a v s)
  | wideAccess fn a n w => exact Answers.ordinary (execWideAccess_keeps fn a n w s)
  | tickEdge x => exact Answers.butLatch rfl (execTickEdge_keeps x s)
  | controlRun k x => exact Answers.ordinary (execControlRun_keeps k x s)
  | surveyorPost x => exact Answers.ordinary (execSurveyorPost_keeps x s)
  | creditRefresh corrA corrB => exact Answers.ordinary (execCreditRefresh_keeps corrA corrB s)
  | avsStep m => exact Answers.ordinary (execAvsStep_keeps m s)
  | channelStep x => exact Answers.ordinary (execChannelStep_keeps x s)
  | flyHeightStep x => exact Answers.ordinary (execFlyHeightStep_keeps x s)
  | serdesStep x => exact Answers.ordinary (execSerdesStep_keeps x s)
  | snapshotSlot captured => exact Answers.ordinary (execSnapshotSlot_keeps captured s)
  | pinnedEpisodeEvent kind place => exact Answers.ordinary (execPinnedEpisodeEvent_keeps kind place s)
  | referenceLoss ns => exact Answers.ordinary (execReferenceLoss_keeps s ns)
  | pllUnlock periods => exact Answers.ordinary (execPllUnlock_keeps s periods)
  | tickNumberLoad x => exact Answers.butLatch rfl (execTickNumberLoad_keeps x s)
  | powerGoodFailure rail v ns => exact Answers.reset rfl (execPowerGoodFailure_keeps s rail v ns)
  | alwaysOnReset mv => exact Answers.reset rfl (execAlwaysOnReset_keeps s mv)
  | vinWarningCrossing mv ns => exact Answers.ordinary (execVinWarningCrossing_keeps s mv ns)
  | vinOverCrossing mv ns => exact Answers.ordinary (execVinOverCrossing_keeps s mv ns)
  | vmWarningCrossing mv ns => exact Answers.ordinary (execVmWarningCrossing_keeps s mv ns)
  | vinResetCrossing mv ns => exact Answers.reset rfl (execVinResetCrossing_keeps s mv ns)
  | vmLossCrossing mv ns => exact Answers.ordinary (execVmLossCrossing_keeps s mv ns)
  | holdCauseClear cause => exact Answers.ordinary (execHoldCauseClear_keeps cause s)
  | resetRelease x => exact Answers.ordinary (execResetRelease_keeps x s)
  | powerLossDeclared byPin => exact Answers.ordinary (execPowerLossDeclared_keeps byPin s)
  | shockCrossing mg => exact Answers.ordinary (execShockCrossing_keeps s mg)
  | boardSensorRead k b => exact Answers.ordinary (execBoardSensorRead_keeps k b s)
  | sensorAlertRead k b => exact Answers.ordinary (execSensorAlertRead_keeps k b s)
  | wakeQualify levels perst => exact Answers.reset rfl (execWakeQualify_keeps levels perst s)
  | extintEdge n rising held => exact Answers.ordinary (execExtintEdge_keeps n rising s held)
  | extintLevel n high held => exact Answers.ordinary (execExtintLevel_keeps n high s held)
  | evoPulseEnd n => exact Answers.ordinary (execEvoPulseEnd_keeps n s)
  | resetNAssert ns => exact Answers.reset rfl (execResetNAssert_keeps s ns)
  | bistEnd fail => exact Answers.ordinary (execBistEnd_keeps fail s)
  | chartStage differs => exact Answers.ordinary (execChartStage_keeps differs s)
  | flashEraseComplete t blank => exact Answers.ordinary (execFlashEraseComplete_keeps t blank s)
  | flashProgramComplete same us => exact Answers.ordinary (execFlashProgramComplete_keeps same s us)
  | dramInitComplete ok gib0 gib1 => exact Answers.ordinary (execDramInitComplete_keeps ok s gib0 gib1)
  | stageBoundExpiry st us => exact Answers.reset rfl (execStageBoundExpiry_keeps st s us)
  | headCalibration head x => exact Answers.ordinary (execHeadCalibration_keeps head x s)
  | sysRstctlGo key => exact Answers.ordinary (execSysRstctlGo_keeps key s)
  | pcieLinkUp speed lanes => exact Answers.ordinary (execPcieLinkUp_keeps speed lanes s)
  | listenEnd c => exact Answers.ordinary (execListenEnd_keeps c s)
  | brakeEnd a b => exact Answers.ordinary (execBrakeEnd_keeps a b s)
  | observerUpdate x => exact Answers.ordinary (execObserverUpdate_keeps x s)
  | overcurrentTrip gate => exact Answers.ordinary (execOvercurrentTrip_keeps gate s)
  | demodEstimate k j x => exact Answers.ordinary (execDemodEstimate_keeps k j x s)
  | guardReenable k => exact Answers.ordinary (execGuardReenable_keeps k s)
  | servoLoss k => exact Answers.ordinary (execServoLoss_keeps k s)
  | seekDispatch k head track write => exact Answers.ordinary (execSeekDispatch_keeps k head track write s)
  | seekSettleEntry k => exact Answers.ordinary (execSeekSettleEntry_keeps k s)
  | readReady k => exact Answers.ordinary (execReadReady_keeps k s)
  | writeReady k => exact Answers.ordinary (execWriteReady_keeps k s)
  | seekTimeout k => exact Answers.ordinary (execSeekTimeout_keeps k s)
  | headSwitch k head track write => exact Answers.ordinary (execHeadSwitch_keeps k head track write s)
  | headSwitchAcquire k => exact Answers.ordinary (execHeadSwitchAcquire_keeps k s)
  | headSwitchAcquireFail k => exact Answers.ordinary (execHeadSwitchAcquireFail_keeps k s)
  | loadStart k rcoil moved => exact Answers.ordinary (execLoadStart_keeps k rcoil moved s)
  | loadTimeout k => exact Answers.ordinary (execLoadTimeout_keeps k s)
  | parkComplete k a b => exact Answers.ordinary (execParkComplete_keeps k a b s)
  | eparkTimeout k => exact Answers.ordinary (execEparkTimeout_keeps k s)
  | retractEnd k speed => exact Answers.ordinary (execRetractEnd_keeps k speed s)
  | safeHoldEnd k => exact Answers.ordinary (execSafeHoldEnd_keeps k s)
  | ctlTraceArm k => exact Answers.ordinary (execCtlTraceArm_keeps k s)
  | ctlTraceStop k => exact Answers.ordinary (execCtlTraceStop_keeps k s)
  | ctlTraceTrig k => exact Answers.ordinary (execCtlTraceTrig_keeps k s)
  | traceCaptureStop k => exact Answers.ordinary (execTraceCaptureStop_keeps k s)
  | linkFrame k word data crc hit => exact Answers.ordinary (execLinkFrame_keeps k word data crc hit s)
  | contactHoldEnd head => exact Answers.ordinary (execContactHoldEnd_keeps head s)
  | preampFault k cycles => exact Answers.ordinary (execPreampFault_keeps k s cycles)
  | sidebandRead k id temp => exact Answers.ordinary (execSidebandRead_keeps k id temp s)
  | touchdownStep k contact => exact Answers.ordinary (execTouchdownStep_keeps k contact s)
  | sectorDecode k head track pos x => exact Answers.ordinary (execSectorDecode_keeps k head track pos x s)
  | recoveryStepEnd k x => exact Answers.ordinary (execRecoveryStepEnd_keeps k x s)
  | recoveryAbortEnd k => exact Answers.ordinary (execRecoveryAbortEnd_keeps k s)
  | sectorWrite k head track pos bad => exact Answers.ordinary (execSectorWrite_keeps k head track pos bad s)
  | sectorRewrite k head track pos bad => exact Answers.ordinary (execSectorRewrite_keeps k head track pos bad s)
  | verifyResult k head track pos x unsat => exact Answers.ordinary (execVerifyResult_keeps k head track pos x unsat s)
  | mapLoad bad => exact Answers.ordinary (execMapLoad_keeps bad s)
  | pieceLanded id failA failB => exact Answers.ordinary (execPieceLanded_keeps id failA s failB)
  | marginalRefresh k => exact Answers.ordinary (execMarginalRefresh_keeps k s)
  | stallPromotion cycles => exact Answers.ordinary (execStallPromotion_keeps cycles s)
  | dramReadComplete reader lba line c late => exact Answers.ordinary (execDramReadComplete_keeps reader lba line c s late)
  | benchUncorrectable m o => exact Answers.ordinary (execBenchUncorrectable_keeps m o s)
  | scrubRead c t late => exact Answers.ordinary (execScrubRead_keeps c t s late)
  | adminEnable fn => exact Answers.ordinary (execAdminEnable_keeps fn s)
  | adminReady fn => exact Answers.ordinary (execAdminReady_keeps fn s)
  | functionDisable fn => exact Answers.ordinary (execFunctionDisable_keeps fn s)
  | functionLevelReset fn => exact Answers.ordinary (execFunctionLevelReset_keeps fn s)
  | sqTailDoorbell fn q t => exact Answers.ordinary (execSqTailDoorbell_keeps fn q t s)
  | cqHeadDoorbell fn q h => exact Answers.ordinary (execCqHeadDoorbell_keeps fn q h s)
  | pushWrite fn q b aligned => exact Answers.ordinary (execPushWrite_keeps fn q b aligned s)
  | sqEntryFetch r => exact Answers.butPlace rfl (execSqEntryFetch_keeps r s)
  | hostDataBlock slot r => exact Answers.ordinary (execHostDataBlock_keeps slot r s)
  | deadlineExpiry slot => exact Answers.ordinary (execDeadlineExpiry_keeps slot s)
  | cqEntryPost fn q => exact Answers.ordinary (execCqEntryPost_keeps fn q s)
  | coalesceTimer fn q => exact Answers.ordinary (execCoalesceTimer_keeps fn q s)
  | msixUnmask fn vec => exact Answers.ordinary (execMsixUnmask_keeps fn vec s)
  | unknownOpcode slot => exact Answers.ordinary (execUnknownOpcode_keeps slot s)
  | deleteIoSq slot => exact Answers.ordinary (execDeleteIoSq_keeps slot s)
  | sqDrained fn q => exact Answers.ordinary (execSqDrained_keeps fn q s)
  | createIoSq slot => exact Answers.ordinary (execCreateIoSq_keeps slot s)
  | deleteIoCq slot => exact Answers.ordinary (execDeleteIoCq_keeps slot s)
  | createIoCq slot => exact Answers.ordinary (execCreateIoCq_keeps slot s)
  | identifyNode slot d => exact Answers.ordinary (execIdentifyNode_keeps slot d s)
  | identifyFunction slot d => exact Answers.ordinary (execIdentifyFunction_keeps slot d s)
  | identifyVolume slot d => exact Answers.ordinary (execIdentifyVolume_keeps slot d s)
  | queueErrorLog slot d => exact Answers.ordinary (execQueueErrorLog_keeps slot d s)
  | lostRanges slot d => exact Answers.ordinary (execLostRanges_keeps slot d s)
  | selfTestResults slot d => exact Answers.ordinary (execSelfTestResults_keeps slot d s)
  | volumeStatistics slot d => exact Answers.ordinary (execVolumeStatistics_keeps slot d s)
  | gazetteerRingPage slot d => exact Answers.ordinary (execGazetteerRingPage_keeps slot d s)
  | gazetteerSectorPage slot d => exact Answers.ordinary (execGazetteerSectorPage_keeps slot d s)
  | histogramPage slot d => exact Answers.ordinary (execHistogramPage_keeps slot d s)
  | extremesPage slot d => exact Answers.ordinary (execExtremesPage_keeps slot d s)
  | abort slot => exact Answers.ordinary (execAbort_keeps slot s)
  | thawResume slot => exact Answers.ordinary (execThawResume_keeps slot s)
  | thawDiscard slot => exact Answers.ordinary (execThawDiscard_keeps slot s)
  | adminThawResume fn => exact Answers.ordinary (execAdminThawResume_keeps fn s)
  | adminThawDiscard fn => exact Answers.ordinary (execAdminThawDiscard_keeps fn s)
  | setTunable slot => exact Answers.ordinary (execSetTunable_keeps slot s)
  | getTunable slot => exact Answers.ordinary (execGetTunable_keeps slot s)
  | volumeCreate slot => exact Answers.ordinary (execVolumeCreate_keeps slot s)
  | volumeDelete slot => exact Answers.butKeys rfl (execVolumeDelete_keeps slot s)
  | volumeGrow slot => exact Answers.ordinary (execVolumeGrow_keeps slot s)
  | volumeSetModes slot => exact Answers.ordinary (execVolumeSetModes_keeps slot s)
  | spanAttach slot => exact Answers.ordinary (execSpanAttach_keeps slot s)
  | spanDetach slot => exact Answers.ordinary (execSpanDetach_keeps slot s)
  | spanSetModes slot => exact Answers.ordinary (execSpanSetModes_keeps slot s)
  | keyLoad slot r => exact Answers.butKeys rfl (execKeyLoad_keeps slot r s)
  | keyClear slot => exact Answers.butKeys rfl (execKeyClear_keeps slot s)
  | powerStateRun slot => exact Answers.ordinary (execPowerStateRun_keeps slot s)
  | powerStateStandby slot => exact Answers.ordinary (execPowerStateStandby_keeps slot s)
  | powerStateVigil slot => exact Answers.ordinary (execPowerStateVigil_keeps slot s)
  | reset slot => exact Answers.ordinary (execReset_keeps slot s)
  | touchdownNow slot => exact Answers.ordinary (execTouchdownNow_keeps slot s)
  | separationNow slot => exact Answers.ordinary (execSeparationNow_keeps slot s)
  | seekSweep slot => exact Answers.ordinary (execSeekSweep_keeps slot s)
  | surfaceScan slot => exact Answers.ordinary (execSurfaceScan_keeps slot s)
  | recalibrate slot => exact Answers.ordinary (execRecalibrate_keeps slot s)
  | freeSlabTest slot => exact Answers.ordinary (execFreeSlabTest_keeps slot s)
  | selfTestComplete slabs => exact Answers.ordinary (execSelfTestComplete_keeps slabs s)
  | chartWrite slot d r => exact Answers.ordinary (execChartWrite_keeps slot d r s)
  | chartCommit slot => exact Answers.ordinary (execChartCommit_keeps slot s)
  | write slot d => exact Answers.ordinary (execWrite_keeps slot d s)
  | read slot d => exact Answers.ordinary (execRead_keeps slot d s)
  | flush slot => exact Answers.ordinary (execFlush_keeps slot s)
  | flushComplete slot remoteLanded => exact Answers.ordinary (execFlushComplete_keeps slot remoteLanded s)
  | keyRamParity code => exact Answers.butKeys rfl (execKeyRamParity_keeps code s)
  | flitReceive p f => exact Answers.ordinary (execFlitReceive_keeps p f s)
  | linkFailure p cause => exact Answers.ordinary (execLinkFailure_keeps p cause s)
  | portTraining p => exact Answers.ordinary (execPortTraining_keeps p s)
  | portUp p half lanes => exact Answers.ordinary (execPortUp_keeps p half lanes s)
  | portTrainingTimeout p => exact Answers.ordinary (execPortTrainingTimeout_keeps p s)
  | portHoldExpiry p => exact Answers.ordinary (execPortHoldExpiry_keeps p s)
  | hello p serial port id mode => exact Answers.ordinary (execHello_keeps p serial port id mode s)
  | delay p t1 t2 t3 t4 => exact Answers.ordinary (execDelay_keeps p t1 t2 t3 t4 s)
  | delayMeasure p => exact Answers.ordinary (execDelayMeasure_keeps p s)
  | time p tx es rx => exact Answers.ordinary (execTime_keeps p tx es rx s)
  | elect p serial => exact Answers.ordinary (execElect_keeps p serial s)
  | ring p dim count => exact Answers.ordinary (execRing_keeps p dim count s)
  | assign p w h x y => exact Answers.ordinary (execAssign_keeps p w h x y s)
  | lsr p id x => exact Answers.ordinary (execLsr_keeps p id x s)
  | parcelForward p => exact Answers.ordinary (execParcelForward_keeps p s)
  | heartbeat p => exact Answers.ordinary (execHeartbeat_keeps p s)
  | piece p => exact Answers.ordinary (execPiece_keeps p s)
  | pieceSend slot k => exact Answers.ordinary (execPieceSend_keeps slot k s)
  | pieceRetry slot k => exact Answers.ordinary (execPieceRetry_keeps slot k s)
  | readParcel p => exact Answers.ordinary (execReadParcel_keeps p s)
  | query p => exact Answers.ordinary (execQuery_keeps p s)
  | restore p => exact Answers.ordinary (execRestore_keeps p s)
  | remap p => exact Answers.ordinary (execRemap_keeps p s)
  | remapr p => exact Answers.ordinary (execRemapr_keeps p s)
  | landed p => exact Answers.ordinary (execLanded_keeps p s)
  | accept p => exact Answers.ordinary (execAccept_keeps p s)
  | done p => exact Answers.ordinary (execDone_keeps p s)
  | rdata p => exact Answers.ordinary (execRdata_keeps p s)
  | confirm p => exact Answers.ordinary (execConfirm_keeps p s)
  | notready p => exact Answers.ordinary (execNotready_keeps p s)
  | resendq p => exact Answers.ordinary (execResendq_keeps p s)
  | ack p => exact Answers.ordinary (execAck_keeps p s)
  | copy p => exact Answers.ordinary (execCopy_keeps p s)
  | resync p => exact Answers.ordinary (execResync_keeps p s)
  | reclaim p => exact Answers.ordinary (execReclaim_keeps p s)
  | event payload => exact Answers.ordinary (execEvent_keeps payload s)
  | evtMaskWrite r v => exact Answers.ordinary (execEvtMaskWrite_keeps r v s)
  | ringHoldRelease upTo => exact Answers.ordinary (execRingHoldRelease_keeps upTo s)
  | calSliceStart head sep => exact Answers.ordinary (execCalSliceStart_keeps head sep s)
  | calSliceEnd k sep => exact Answers.ordinary (execCalSliceEnd_keeps k sep s)
  | tstDbgctlOpen key => exact Answers.ordinary (execTstDbgctlOpen_keeps key s)
  | tstDbgwinWrite index v => exact Answers.ordinary (execTstDbgwinWrite_keeps index v s)
  | tstDbgwinRead index => exact Answers.ordinary (execTstDbgwinRead_keeps index s)
  | tstSnaparm m => exact Answers.ordinary (execTstSnaparm_keeps m s)
  | extest cells pins => exact Answers.ordinary (execExtest_keeps cells pins s)
  | samplePreload cells pins => exact Answers.ordinary (execSamplePreload_keeps cells pins s)
  | extestPulse cells pins => exact Answers.ordinary (execExtestPulse_keeps cells pins s)
  | extestTrain cells pins => exact Answers.ordinary (execExtestTrain_keeps cells pins s)
  | bypass op => exact Answers.ordinary (execBypass_keeps op s)
  | dramWriteComplete id => exact Answers.ordinary (execDramWriteComplete_keeps id s)
  | dramPeriodicTraining m ok => exact Answers.ordinary (execDramPeriodicTraining_keeps m ok s)
  | preampFaultClear k => exact Answers.ordinary (execPreampFaultClear_keeps k s)
  | completionTimeout slot aer => exact Answers.butPlace rfl (execCompletionTimeout_keeps slot aer s)
  | pcieConfigRequest fn dc => exact Answers.ordinary (execPcieConfigRequest_keeps fn s dc)
  | i2cTargetTransaction addr => exact Answers.ordinary (execI2cTargetTransaction_keeps addr s)
  | commutatorSlot => exact Answers.ordinary (execCommutatorSlot_keeps s)
  | statisticsSlot => exact Answers.ordinary (execStatisticsSlot_keeps s)
  | marginThrottleEnd => exact Answers.ordinary (execMarginThrottleEnd_keeps s)
  | placementStep => exact Answers.ordinary (execPlacementStep_keeps s)
  | commitSlot => exact Answers.ordinary (execCommitSlot_keeps s)
  | clockFaultReset => exact Answers.reset rfl (execClockFaultReset_keeps s)
  | pllLock => exact Answers.ordinary (execPllLock_keeps s)
  | trimLimitEpisode => exact Answers.ordinary (execTrimLimitEpisode_keeps s)
  | holdUnload => exact Answers.ordinary (execHoldUnload_keeps s)
  | journalComplete => exact Answers.reset rfl (execJournalComplete_keeps s)
  | writeInhibitEnd => exact Answers.ordinary (execWriteInhibitEnd_keeps s)
  | thermalThrottleEnd => exact Answers.ordinary (execThermalThrottleEnd_keeps s)
  | criticalTempReset => exact Answers.reset rfl (execCriticalTempReset_keeps s)
  | idleTimer => exact Answers.ordinary (execIdleTimer_keeps s)
  | standbyTimer => exact Answers.ordinary (execStandbyTimer_keeps s)
  | pendingTransitionProceed => exact Answers.reset rfl (execPendingTransitionProceed_keeps s)
  | pinConfigApply => exact Answers.ordinary (execPinConfigApply_keeps s)
  | flashBackgroundErase => exact Answers.ordinary (execFlashBackgroundErase_keeps s)
  | handoverEnd => exact Answers.ordinary (execHandoverEnd_keeps s)
  | ready => exact Answers.ordinary (execReady_keeps s)
  | hostResetEnter => exact Answers.reset rfl (execHostResetEnter_keeps s)
  | perstNAssert => exact Answers.ordinary (execPerstNAssert_keeps s)
  | perstNDeassert => exact Answers.ordinary (execPerstNDeassert_keeps s)
  | spindleStartOrder => exact Answers.ordinary (execSpindleStartOrder_keeps s)
  | alignEnd => exact Answers.ordinary (execAlignEnd_keeps s)
  | attemptSuccess => exact Answers.ordinary (execAttemptSuccess_keeps s)
  | attemptFail => exact Answers.ordinary (execAttemptFail_keeps s)
  | accelInBand => exact Answers.ordinary (execAccelInBand_keeps s)
  | atSpeed => exact Answers.ordinary (execAtSpeed_keeps s)
  | spinupLimit => exact Answers.ordinary (execSpinupLimit_keeps s)
  | brakeMaxExpiry => exact Answers.ordinary (execBrakeMaxExpiry_keeps s)
  | writeBandResume => exact Answers.ordinary (execWriteBandResume_keeps s)
  | recoverListenWindow => exact Answers.ordinary (execRecoverListenWindow_keeps s)
  | reacquisitionFail => exact Answers.ordinary (execReacquisitionFail_keeps s)
  | rotorRestartOrder => exact Answers.ordinary (execRotorRestartOrder_keeps s)
  | relockCountReset => exact Answers.ordinary (execRelockCountReset_keeps s)
  | standbyBrakeStart => exact Answers.ordinary (execStandbyBrakeStart_keeps s)
  | retractComplete => exact Answers.ordinary (execRetractComplete_keeps s)
  | slabGrant => exact Answers.ordinary (execSlabGrant_keeps s)
  | lockRequest => exact Answers.ordinary (execLockRequest_keeps s)
  | lockGrant => exact Answers.ordinary (execLockGrant_keeps s)
  | alignedTimeout => exact Answers.ordinary (execAlignedTimeout_keeps s)
  | electionEnd => exact Answers.ordinary (execElectionEnd_keeps s)
  | ringWalkTimeout => exact Answers.ordinary (execRingWalkTimeout_keeps s)
  | discoveryEnd => exact Answers.ordinary (execDiscoveryEnd_keeps s)
  | discoveryTimeout => exact Answers.ordinary (execDiscoveryTimeout_keeps s)
  | routeEpochSwitch => exact Answers.ordinary (execRouteEpochSwitch_keeps s)
  | heartbeatSend => exact Answers.ordinary (execHeartbeatSend_keeps s)
  | twinLoss => exact Answers.ordinary (execTwinLoss_keeps s)
  | resyncComplete => exact Answers.ordinary (execResyncComplete_keeps s)
  | settleRelease => exact Answers.ordinary (execSettleRelease_keeps s)
  | evtFabctlPop => exact Answers.ordinary (execEvtFabctlPop_keeps s)
  | statisticsPageEdge => exact Answers.ordinary (execStatisticsPageEdge_keeps s)
  | opsecTick => exact Answers.ordinary (execOpsecTick_keeps s)
  | persistentWrite => exact Answers.ordinary (execPersistentWrite_keeps s)
  | tstDbgctlClose => exact Answers.ordinary (execTstDbgctlClose_keeps s)
  | tapReset => exact Answers.ordinary (execTapReset_keeps s)
  | idcode => exact Answers.ordinary (execIdcode_keeps s)
  | highz => exact Answers.ordinary (execHighz_keeps s)
  | clamp => exact Answers.ordinary (execClamp_keeps s)

theorem frame_of_exec {c : Instr} {s t : State} (h : exec c s = .next t) : Frame c s t := (exec_frame c s).of_next h

/-! ### The statements -/

/-- Settles O37. -/
theorem everyCommandAnswers : Obligations.EveryCommandAnswers := by
  unfold Obligations.EveryCommandAnswers
  intro c s
  obtain ⟨t, ht, -⟩ := exec_frame c s
  exact ⟨t, ht⟩

/-- Settles O35. -/
theorem stepRunsFrontCommand : Obligations.StepRunsFrontCommand := by
  unfold Obligations.StepRunsFrontCommand
  intro s c rest h
  rw [step, h]

/-- Settles O36. -/
theorem idleStepPassesACycle : Obligations.IdleStepPassesACycle := by
  unfold Obligations.IdleStepPassesACycle
  intro s hempty
  have hstep : step s = .next s.idle := by rw [step, hempty]
  rw [hstep, State.idle]
  refine ⟨fun hstopped => ?_, fun hrun hlt => ?_, fun hrun hend => ?_⟩
  · rw [hstopped, if_neg Bool.false_ne_true]
  · rw [if_pos hrun, State.nextCycle, if_pos hlt, State.atCycle, if_pos (Nat.lt_succ_self _)]
  · rw [if_pos hrun, State.nextCycle, if_neg (by omega)]

/-- Settles O38. -/
theorem crcsGiveTheirCheckValues : Obligations.CrcsGiveTheirCheckValues := by
  unfold Obligations.CrcsGiveTheirCheckValues
  decide +kernel

/-- Settles O59: the step takes the front command off, and no command touches the queue. -/
theorem queueIsFirstInFirstOut : Obligations.QueueIsFirstInFirstOut := by
  unfold Obligations.QueueIsFirstInFirstOut
  intro s c rest h
  obtain ⟨t, ht, hframe⟩ := exec_frame c { s with pending := rest }
  exact ⟨t, (stepRunsFrontCommand s c rest h).trans ht, hframe.pending⟩

theorem core_run_succ {M : Host.Core} {s u : M.State} (n : Nat) (h : M.step s = .next u) : M.run (n + 1) s = M.run n u := by
  rw [Host.Core.run, h]

/-- As many steps of the core as commands wait empty the queue, by induction on the queue. -/
theorem run_drains (q : List Instr) : ∀ s : State, s.pending = q → ∃ t : State, Host.Core.run Sys2Proof.core q.length s = .next t ∧ t.pending = [] := by
  induction q with
  | nil => exact fun s h => ⟨s, rfl, h⟩
  | cons c rest ih =>
    intro s h
    obtain ⟨u, hu, hrest⟩ := queueIsFirstInFirstOut s c rest h
    obtain ⟨t, ht, hempty⟩ := ih u hrest
    exact ⟨t, (core_run_succ rest.length hu).trans ht, hempty⟩

/-- Settles O60. -/
theorem waitingCommandsDrain : Obligations.WaitingCommandsDrain := by
  unfold Obligations.WaitingCommandsDrain
  exact fun s => run_drains s.pending s rfl

/-- Settles O58: on an empty queue only the cycle moves, and every command keeps the canonical form. -/
theorem memoriesStayCanonical : Obligations.MemoriesStayCanonical := by
  unfold Obligations.MemoriesStayCanonical
  intro s t hm h
  unfold step at h
  split at h
  · obtain rfl := Host.Outcome.next.inj h
    exact State.idle_memOk s hm
  · exact (frame_of_exec h).memOk hm

/-- Settles O56. -/
theorem keyRamChangesByItsCommandsAlone : Obligations.KeyRamChangesByItsCommandsAlone := by
  unfold Obligations.KeyRamChangesByItsCommandsAlone
  exact fun c s t h => (frame_of_exec h).keys

/-- Without an overrun of the snapshot slot no late snapshot is taken before the edge (R627). -/
theorem State.beforeEdge_noOverrun {s : State} {x : TickIn} (h : bitAt (((s.missedPost x).benchEdge x.bench).overrunAt x) 13 = false) :
    s.beforeEdge x = (s.missedPost x).benchEdge x.bench := by
  simp [State.beforeEdge, h]

/-- Settles O57: the edge latches what stands before it; the other commands keep to their frames. -/
theorem edgeLatchAndFetchOrderHaveTheirCommands : Obligations.EdgeLatchAndFetchOrderHaveTheirCommands := by
  unfold Obligations.EdgeLatchAndFetchOrderHaveTheirCommands
  refine ⟨fun s x hrun hov => ⟨s.tickEdge x, ?_, ?_⟩, fun c s t h => (frame_of_exec h).latch, fun c s t h => (frame_of_exec h).place⟩
  · show Host.Outcome.next (s.anyEdge x) = _
    rw [State.anyEdge, if_pos hrun]
  · have h := s.tickEdge_still_latch x
    rw [State.beforeEdge_noOverrun hov] at h
    simp only [State.still, Prod.mk.injEq] at h
    obtain ⟨-, -, hlatch, hprev, -⟩ := h
    exact ⟨hlatch, hprev⟩

end Sys2Proof.Machine
end

section
/-! SUPPORT. Dword accesses of the PF to registers without actions: reserved addresses and plain fields (R13 to R17, R628, R693), and the statements
O50 and O51. -/

namespace Sys2Proof.Machine

/-! ### Reserved addresses -/

theorem isRegister_eq_false {a : Nat} (hal : a % 4 = 0) (hlt : a < 0x100000) (h : isRegister a = false) :
    fldsAt a = [] ∧ a ≠ clkNow ∧ isShown a = false ∧ (4 ≤ a → isWide (a - 4) = false) := by
  simpa [isRegister, hal, hlt, not_or, and_assoc] using h

theorem isWide_of_noFlds {a : Nat} (hf : fldsAt a = []) (hclk : a ≠ clkNow) : isWide a = false := by
  simp [isWide, hf, hclk]

/-- A reserved address outside the debug window holds no half of a 64-bit register. -/
theorem plainReg_of_reserved {a : Nat} (hal : a % 4 = 0) (hlt : a < 0x100000) (hdbg : a / 0x1000 ≠ 0x29) (h : isRegister a = false) : plainReg a := by
  obtain ⟨hf, hclk, -, hhigh⟩ := isRegister_eq_false hal hlt h
  have hwide := isWide_of_noFlds hf hclk
  refine ⟨hlt, by omega, hwide, ?_⟩
  by_cases h4 : 4 ≤ a
  · exact hhigh h4
  · have hzero : a = 0 := by omega
    subst hzero
    exact hwide

/-- Fields stand at every pad register of ports B to D, which show a constant before the pin configuration (R141). -/
theorem fldsAt_pads {o : Nat} (h : 0x50 ≤ o ∧ o < 0x80) (hal : o % 4 = 0) : fldsAt (0x4000 + o) ≠ [] := by
  have hall : ∀ j < 12, fldsAt (0x4000 + (0x50 + 4 * j)) ≠ [] := by decide
  have ho : o = 0x50 + 4 * ((o - 0x50) / 4) := by omega
  rw [ho]
  exact hall _ (by omega)

/-- Fields stand at every register whose write has an action. -/
theorem fldsAt_of_actsOnWrite {a : Nat} (hal : a % 4 = 0) (hdbg : a / 0x1000 ≠ 0x29) (h : actsOnWrite a = true) : fldsAt a ≠ [] := by
  have hmask : ∀ j < 6, fldsAt (0xE020 + 4 * j) ≠ [] := by decide
  have htrc : ∀ j < 4, fldsAt (0x20048 + 0x2000 * j) ≠ [] := by decide
  have hact : a ∈ [0x84, 0xE070, 0x28020, 0x28048, 0x10004, 0x10048] ∨ (∃ j < 6, a = 0xE020 + 4 * j) ∨ ∃ j < 4, a = 0x20048 + 0x2000 * j := by
    simp only [actsOnWrite, Bool.or_eq_true, Bool.and_eq_true, beq_iff_eq, decide_eq_true_eq] at h
    rcases h with (((((((h | h) | h) | h) | h) | h) | h) | h) | h
    · simp [h]
    · exact .inr (.inl ⟨(a - 0xE020) / 4, by omega, by omega⟩)
    · simp [h]
    · simp [h]
    · simp [h]
    · simp [h]
    · simp [h]
    · omega
    · exact .inr (.inr ⟨(a - 0x20048) / 0x2000, by omega, by omega⟩)
  have hone : ∀ b ∈ [0x84, 0xE070, 0x28020, 0x28048, 0x10004, 0x10048], fldsAt b ≠ [] := by decide
  rcases hact with hmem | ⟨j, hj, rfl⟩ | ⟨j, hj, rfl⟩
  · exact hone a hmem
  · exact hmask j hj
  · exact htrc j hj

/-- No register shows a part of the state at a reserved address outside the windows. -/
theorem State.shown_reserved (s : State) {a : Nat} (hal : a % 4 = 0) (hlt : a < 0xC0000) (hwin : a / 0x1000 ∉ [0x21, 0x23, 0x25, 0x27, 0x29])
    (hf : fldsAt a = []) (h : isShown a = false) : s.shown a = none := by
  have hpad : a / 4096 = 4 → s.padShown (a % 4096) = none := by
    intro hb
    have hpads := fun hr => fldsAt_pads (o := a % 4096) hr (by omega)
    rw [show 0x4000 + a % 4096 = a by omega] at hpads
    have hout : ¬ (0x50 ≤ a % 4096 ∧ a % 4096 < 0x80) := fun hr => hpads hr hf
    rw [State.padShown, if_neg fun hr => hout ⟨hr.1, hr.2.1⟩]
  simp only [List.mem_cons, List.not_mem_nil, or_false, not_or] at hwin
  simp only [State.shown]
  split
  case h_1 hb =>
    have ht : ¬ (0x84 ≤ a % 4096 ∧ a % 4096 < 0xA0 ∧ (a % 4096 - 0x84) % 8 = 0) := by simpa [isShown, hb] using h
    rw [if_neg ht, hpad hb]
  case h_2 hb =>
    have ht : ¬ (a % 4096 < 0x400 ∧ a % 4096 % 256 = 0x10) := by simpa [isShown, hb] using h
    rw [if_neg ht]
  case h_3 hb =>
    have ht : ¬ (0x80 ≤ a % 4096 % 0x400 ∧ a % 4096 % 0x400 ≤ 0x100) := by simpa [isShown, hb] using h
    rw [if_neg (by omega), if_neg (by omega), if_neg (by omega)]
  case h_4 hb => rw [if_neg (by simpa [isShown, hb] using h)]
  case h_5 hb =>
    have ht : ¬ (a % 4096 = 0x40 ∨ a % 4096 = 0x48 ∨ a % 4096 = 0x4C ∨ (0x60 ≤ a % 4096 ∧ a % 4096 < 0x70)) := by
      simpa [isShown, hb, and_assoc] using h
    rw [if_neg (by omega), if_neg (by omega), if_neg (by omega), if_neg (by omega)]
  case h_6 hb => rw [if_neg (by simpa [isShown, hb] using h)]
  case h_7 =>
    have hlow : ¬ (0xC0 ≤ a / 4096 ∧ a / 4096 < 0x100) := by omega
    by_cases hmqp : a / 4096 = 16
    · have ht : ¬ (a % 4096 = 0x2C ∨ a % 4096 = 0x30 ∨ a % 4096 = 0x34) := by simpa [isShown, hmqp, and_assoc] using h
      rw [if_pos (by omega), if_neg (by omega), if_neg (by omega), if_neg (by omega)]
    · rw [if_neg (by omega)]
      by_cases hctl : 0x20 ≤ a / 4096 ∧ a / 4096 < 0x28
      · have ht : ¬ (a / 4096 % 2 = 0 ∧ a % 4096 = 0x24) := by
          intro ht
          have hs : isShown a = true := by
            have hcases : a / 4096 = 0x20 ∨ a / 4096 = 0x22 ∨ a / 4096 = 0x24 ∨ a / 4096 = 0x26 := by omega
            rcases hcases with hb | hb | hb | hb <;> simp [isShown, hb, ht.2]
          simp [h] at hs
        rw [if_pos hctl, if_neg (by omega), if_neg (by omega)]
      · rw [if_neg hctl, if_neg hlow]

/-- A reserved address reads 0. -/
theorem State.regValue_reserved (s : State) {a : Nat} (hal : a % 4 = 0) (hlt : a < 0xC0000) (hwin : a / 0x1000 ∉ [0x21, 0x23, 0x25, 0x27, 0x29])
    (h : isRegister a = false) : s.regValue a = 0 := by
  obtain ⟨hf, hclk, hshown, -⟩ := isRegister_eq_false hal (by omega) h
  have hnone := s.shown_reserved hal hlt hwin hf hshown
  simp [State.regValue, hclk, hnone, State.fldsValue, hf]

/-! ### Writes of fields -/

/-- A write of a register without actions takes its fields, where the chart declares the register. -/
theorem State.regWrite_plain (s : State) (v : Nat) {a : Nat} (hlt : a < 0x100000) (h : actsOnWrite a = false) :
    s.regWrite a v = if s.declared a then s.writeFlds a v else s := by
  simp only [actsOnWrite, Bool.or_eq_false_iff, Bool.and_eq_false_iff, beq_eq_false_iff_ne, decide_eq_false_iff_not] at h
  obtain ⟨⟨⟨⟨⟨⟨⟨⟨hrst, hmask⟩, hpop⟩, hdbg⟩, hsnap⟩, hmqp⟩, hthaw⟩, hwin⟩, htrc⟩ := h
  cases hd : s.declared a with
  | false => simp [State.regWrite, hd]
  | true =>
    simp only [State.regWrite, hd, Bool.not_true, Bool.false_eq_true, if_false, if_true]
    rw [if_neg hrst, if_neg (by omega), if_neg hpop, if_neg hdbg, if_neg hsnap, if_neg (by omega), if_neg (by omega), if_neg (by omega),
      if_neg (by omega)]

/-- A reserved address ignores writes. -/
theorem State.regWrite_reserved (s : State) (v : Nat) {a : Nat} (hal : a % 4 = 0) (hlt : a < 0x100000) (hdbg : a / 0x1000 ≠ 0x29)
    (h : isRegister a = false) : s.regWrite a v = s := by
  obtain ⟨hf, -, -, -⟩ := isRegister_eq_false hal hlt h
  have hact : actsOnWrite a = false := Bool.eq_false_iff.mpr fun hacts => fldsAt_of_actsOnWrite hal hdbg hacts hf
  rw [s.regWrite_plain v hlt hact]
  simp [State.writeFlds, hf]

/-- Settles O50 (R628, R693): no field, no 64-bit register and nothing shown stands at the address, so the value is 0 and a write finds no field. -/
theorem reservedRegistersReadZeroAndIgnoreWrites : Obligations.ReservedRegistersReadZeroAndIgnoreWrites := by
  unfold Obligations.ReservedRegistersReadZeroAndIgnoreWrites
  intro s a v hfn hal hlt hwin hreg
  have hdbg : a.toNat / 0x1000 ≠ 0x29 := fun h => hwin (by simp [h])
  have hplain := plainReg_of_reserved hal (by omega) hdbg hreg
  refine ⟨?read, ?write⟩
  case read =>
    rw [exec_readLowDword_plainReg hfn hal hplain, s.regValue_reserved hal hlt hwin hreg]
    rfl
  case write => rw [exec_regWrite_plainReg hfn hal hplain, s.regWrite_reserved _ hal (by omega) hdbg hreg]

/-! ### A field's write changes the register file under its key alone -/

/-- `t` is `s` but for registers stored under a key of `ks`. -/
def State.regsWithin (ks : List Nat) (s t : State) : Prop := s.onlyRegs t ∧ s.regsBut ks t

theorem State.regsWithin_refl (ks : List Nat) (s : State) : s.regsWithin ks s := ⟨rfl, fun _ _ _ _ => rfl⟩

theorem State.regsWithin_trans {ks : List Nat} {s t u : State} (h : s.regsWithin ks t) (h' : t.regsWithin ks u) : s.regsWithin ks u := by
  obtain ⟨hst, hkeys⟩ := h
  obtain ⟨htu, hkeys'⟩ := h'
  refine ⟨?_, State.regsBut_trans hkeys hkeys'⟩
  rw [State.onlyRegs] at *
  rw [htu, hst]

theorem State.regsWithin_foldl {α : Type} {ks : List Nat} (f : State → α → State) (l : List α)
    (h : ∀ s : State, ∀ a ∈ l, s.regsWithin ks (f s a)) (s : State) : s.regsWithin ks (l.foldl f s) := by
  induction l generalizing s with
  | nil => exact s.regsWithin_refl ks
  | cons a l ih =>
    exact State.regsWithin_trans (h s a (List.mem_cons_self ..)) (ih (fun t b hb => h t b (List.mem_cons_of_mem _ hb)) _)

theorem State.regsWithin_pki {ks : List Nat} (s : State) (F : Fld) (k i v : Nat) (h : F.key k i ∈ ks) : s.regsWithin ks (s.pki F k i v) :=
  ⟨rfl, s.regsBut_pki F k i v h⟩

theorem State.regsWithin_writeFld {ks : List Nat} (s : State) (F : Fld) (k i v : Nat) (h : F.key k i ∈ ks) : s.regsWithin ks (s.writeFld F k i v) := by
  unfold State.writeFld
  split
  · exact s.regsWithin_pki F k i _ h
  · refine State.regsWithin_foldl _ _ (fun t b _ => ?_) s
    split
    · exact t.regsWithin_pki F k i _ h
    · exact t.regsWithin_refl ks
  · exact s.regsWithin_refl ks

/-- The keys of listed fields. -/
def fldKeys (l : List (Fld × Nat × Nat)) : List Nat := l.map fun e => e.1.key e.2.1 e.2.2

theorem mem_fldKeys {l : List (Fld × Nat × Nat)} {e : Fld × Nat × Nat} (h : e ∈ l) : e.1.key e.2.1 e.2.2 ∈ fldKeys l := List.mem_map.mpr ⟨e, h, rfl⟩

theorem State.regsWithin_writeEach (l : List (Fld × Nat × Nat)) (s : State) (v : Nat) :
    s.regsWithin (fldKeys l) (l.foldl (fun s e => s.writeFld e.1 e.2.1 e.2.2 v) s) := by
  refine State.regsWithin_foldl _ l (fun t e he => ?_) s
  exact t.regsWithin_writeFld e.1 e.2.1 e.2.2 v (mem_fldKeys he)

theorem State.regsWithin_writeFlds (s : State) (a v : Nat) : s.regsWithin (fldKeys (fldsAt a)) (s.writeFlds a v) := by
  unfold State.writeFlds
  split
  · exact s.regsWithin_refl _
  · exact State.regsWithin_writeEach (fldsAt a) s v

theorem State.writeFld_rw (s : State) {F : Fld} (k i v : Nat) (h : F.acc = .rw) : (s.writeFld F k i v).gki F k i = bitsOf v (F.bit i) F.w := by
  simp only [State.writeFld, h, State.gki_pki_same, bitsOf, Nat.mod_mod]

theorem State.writeFld_readOnly (s : State) {F : Fld} (k i v : Nat) (hrw : F.acc ≠ .rw) (hw1c : F.acc ≠ .w1c) : s.writeFld F k i v = s := by
  unfold State.writeFld
  split
  · next h => exact absurd h hrw
  · next h => exact absurd h hw1c
  · rfl

/-- Settles O51 (R13, R14): the write is the fold of its fields' writes, each of which stores under its own key alone. -/
theorem registerWritesReachTheirFieldsAlone : Obligations.RegisterWritesReachTheirFieldsAlone := by
  unfold Obligations.RegisterWritesReachTheirFieldsAlone
  refine ⟨fun s a v hfn hal hlt hlow hhigh hact => ?fields, fun s F k i v => ⟨s.writeFld_rw k i v, s.writeFld_readOnly k i v⟩⟩
  case fields =>
    have hdbg : ¬ (0x29000 ≤ a.toNat ∧ a.toNat < 0x2A000) := by
      intro hd
      simp [actsOnWrite, hd] at hact
    have hwithin : s.regsWithin (fldKeys (fldsAt a.toNat)) (s.regWrite a.toNat v.toNat) := by
      rw [s.regWrite_plain _ hlt hact]
      split
      · exact s.regsWithin_writeFlds ..
      · exact s.regsWithin_refl _
    exact ⟨_, exec_regWrite_plainReg hfn hal ⟨hlt, hdbg, hlow, hhigh⟩ v, hwithin.1, hwithin.2⟩

end Sys2Proof.Machine
end

section
/-! SUPPORT. Byte strings in a memory, the debug window, MSI-X pending bits and the statistics of the Gazetteer: the statements O52, O53 and O54. -/

namespace Sys2Proof.Machine

/-! ### A byte string written into a memory -/

theorem Memory.get_write_outside {d : Byte} (m : Memory) {a x : Nat} {l : List Byte} (h : x < a ∨ a + l.length ≤ x) :
    Memory.get d (Memory.write d m a l) x = Memory.get d m x := by
  induction l generalizing m a with
  | nil => rfl
  | cons b t ih =>
    rw [List.length_cons] at h
    rw [Memory.write, ih _ (by omega), Memory.get_put_ne m b (by omega)]

/-- In canonical form a byte string reads back as it was written. -/
theorem Memory.read_write {d : Byte} {m : Memory} (a : Nat) (l : List Byte) (w : Memory.wf d m = true) :
    Memory.read d (Memory.write d m a l) a l.length = l := by
  induction l generalizing m a with
  | nil => rfl
  | cons b t ih =>
    have hhead : Memory.get d (Memory.write d (Memory.put d m a b) (a + 1) t) a = b := by
      rw [Memory.get_write_outside _ (.inl (Nat.lt_succ_self a)), Memory.get_put_same a b w]
    rw [List.length_cons, Memory.write, Memory.read, hhead, ih _ (Memory.put_wf a b w)]

theorem leBytes_length (v n : Nat) : (leBytes v n).length = n := by
  induction n generalizing v with
  | zero => rfl
  | succ n ih => rw [leBytes, List.length_cons, ih]

/-! ### The open debug window (R663) -/

theorem State.dbgWrite_discarded {s : State} (hopen : s.on TST_DBGCTL_OPEN) (hdev : s.on TST_FUSE_DEVMODE = false) (i v : Nat) :
    s.dbgWrite i v = s.bump TST_DBGCTL_WDROP 1 := by
  simp [State.dbgWrite, hopen, hdev]

theorem State.dbgWrite_stores {s : State} {i : Nat} (hopen : s.on TST_DBGCTL_OPEN) (hdev : s.on TST_FUSE_DEVMODE) (hsolid : s.solidAt (s.dbgAddr i) = none)
    (v : Nat) : s.dbgWrite i v = { s with buf := Memory.write 0 s.buf (s.dbgAddr i) (leBytes v 4) } := by
  simp [State.dbgWrite, hopen, hdev, hsolid, State.bufWrite]

theorem State.dbgRead_open {s : State} {i : Nat} (hopen : s.on TST_DBGCTL_OPEN) (hsolid : s.solidAt (s.dbgAddr i) = none) :
    s.dbgRead i = (Memory.read 0 s.buf (s.dbgAddr i) 4, s) := by
  simp [State.dbgRead, hopen, hsolid]

/-- Settles O52 (R663): the write is one byte string of length 4 in the buffer, and the read is the four bytes there. -/
theorem debugWindowWritesReachFourBytes : Obligations.DebugWindowWritesReachFourBytes := by
  unfold Obligations.DebugWindowWritesReachFourBytes
  intro s i v hbar hopen
  refine ⟨fun hdev => ?discarded, fun hdev hsolid => ?stored, fun hsolid => ?read⟩
  case discarded => rw [exec_tstDbgwinWrite_open hbar, State.dbgWrite_discarded hopen hdev]
  case stored =>
    have hlen := leBytes_length v.toNat 4
    refine ⟨_, exec_tstDbgwinWrite_open hbar i v, ?_⟩
    rw [State.dbgWrite_stores hopen hdev hsolid]
    refine ⟨rfl, fun a ha => ?_, fun hmem => ?_⟩
    · exact Memory.get_write_outside _ (by rwa [hlen])
    · have hread := Memory.read_write (s.dbgAddr i) (leBytes v.toNat 4) hmem.1
      rwa [hlen] at hread
  case read => rw [exec_tstDbgwinRead_open hbar, State.dbgRead_open hopen hsolid]

/-! ### MSI-X pending bits (R435) -/

/-- While the host reaches a function, PERST_N is released and no power loss is declared. -/
theorem State.linkUp_of_fnOpen {s : State} {fn : Nat} (h : s.fnOpen fn) : s.boot.perst = false ∧ s.pwr.loss = none := by
  simp only [State.fnOpen, State.barOpen, Bool.and_eq_true, Bool.not_eq_true', Option.isNone_iff_eq_none] at h
  obtain ⟨⟨⟨⟨⟨-, hperst⟩, -⟩, hloss⟩, -⟩, -⟩ := h
  exact ⟨hperst, hloss⟩

theorem State.sendMsix_masked {s : State} {fn v : Nat} (hfn : s.fnOpen fn) (hmask : (s.msixAt fn v).masked = true ∨ fn ∈ s.msixFnMask) :
    s.sendMsix fn v = { s with msix := Tbl.put s.msix (fn * 256 + v) { s.msixAt fn v with pend := true } } := by
  obtain ⟨hperst, hloss⟩ := State.linkUp_of_fnOpen hfn
  simp [State.sendMsix, hperst, hloss, hmask]

theorem State.sendMsix_unmasked {s : State} {fn v : Nat} (hperst : s.boot.perst = false) (hloss : s.pwr.loss = none)
    (hvec : (s.msixAt fn v).masked = false) (hfnm : fn ∉ s.msixFnMask) : s.sendMsix fn v = s.emit (.msix fn v) := by
  simp [State.sendMsix, hperst, hloss, hvec, hfnm]

/-- A table entry of a function is stored. -/
def State.putMsix (s : State) (fn v : Nat) (m : Msix) : State := { s with msix := Tbl.put s.msix (fn * 256 + v) m }

@[simp] theorem State.msixAt_putMsix (s : State) (fn v : Nat) (m : Msix) : (s.putMsix fn v m).msixAt fn v = m := by
  simp [State.msixAt, State.putMsix, Tbl.getD, Tbl.find_put_same]

theorem State.find_putMsix_ne (s : State) {fn v k : Nat} (m : Msix) (h : k ≠ fn * 256 + v) :
    Tbl.find (s.putMsix fn v m).msix k = Tbl.find s.msix k := Tbl.find_put_ne _ _ h

/-- The unmask of a vector without its pending bit stores the mask bit alone. -/
theorem State.unmask_quiet {s : State} {fn v : Nat} (hpend : (s.msixAt fn v).pend = false) :
    s.unmask fn v = s.putMsix fn v { s.msixAt fn v with masked := false, pend := false } := by
  simp [State.unmask, State.putMsix, hpend]

/-- The unmask of a vector with its pending bit clears both bits and sends the message. -/
theorem State.unmask_sends {s : State} {fn v : Nat} (hfn : s.fnOpen fn) (hpend : (s.msixAt fn v).pend = true) (hfnm : fn ∉ s.msixFnMask) :
    s.unmask fn v = ((s.putMsix fn v { s.msixAt fn v with masked := false }).putMsix fn v
      { s.msixAt fn v with masked := false, pend := false }).emit (.msix fn v) := by
  obtain ⟨hperst, hloss⟩ := State.linkUp_of_fnOpen hfn
  have hsend := fun m : Msix => State.sendMsix_unmasked (s := (s.putMsix fn v { s.msixAt fn v with masked := false }).putMsix fn v m) (v := v)
    hperst hloss (fn := fn)
  rw [← hsend _ (by rw [State.msixAt_putMsix]) hfnm]
  simp [State.unmask, State.putMsix, hpend, hfnm]

theorem exec_msixUnmask_open {s : State} {fn : Fin 16} (hfn : s.fnOpen fn) (v : Fin 256) : exec (.msixUnmask fn (some v)) s = .next (s.unmask fn v) := by
  have harm : exec (.msixUnmask fn (some v)) s = execMsixUnmask fn (some v) s := rfl
  rw [harm, execMsixUnmask, if_pos hfn]

/-- Settles O53 (R435): the two halves are the two branches of the sending, the second met through the unmask. -/
theorem msixPendingBitsCollectWhileMasked : Obligations.MsixPendingBitsCollectWhileMasked := by
  unfold Obligations.MsixPendingBitsCollectWhileMasked
  intro s fn v hfn
  refine ⟨State.sendMsix_masked hfn, fun hfnm => ⟨_, exec_msixUnmask_open hfn v, ?_⟩⟩
  cases hpend : (s.msixAt fn v).pend with
  | false =>
    rw [State.unmask_quiet hpend]
    exact ⟨rfl, rfl, State.msixAt_putMsix .., fun k hk => State.find_putMsix_ne _ _ hk⟩
  | true =>
    rw [State.unmask_sends hfn hpend hfnm]
    refine ⟨rfl, rfl, State.msixAt_putMsix .., fun k hk => ?_⟩
    exact (State.find_putMsix_ne _ _ hk).trans (State.find_putMsix_ne _ _ hk)

/-! ### Histograms and extremes (R622, R623) -/

theorem binOf_cons_le {e v : Int} (edges : List Int) (h : e ≤ v) : binOf (e :: edges) v = binOf edges v + 1 := by
  simp [binOf, countP, h]

/-- Edges above a value are not counted for it. -/
theorem binOf_above {edges : List Int} {v : Int} (h : ∀ e ∈ edges, v < e) : binOf edges v = 0 := by
  simpa [binOf, countP, List.filter_eq_nil_iff] using h

theorem binOf_le_length (edges : List Int) (v : Int) : binOf edges v ≤ edges.length := List.length_filter_le ..

/-- For rising edges the edges at or below a value are the first ones. -/
theorem lt_binOf_iff {edges : List Int} (v : Int) (hrise : edges.Pairwise (· < ·)) {i : Nat} (h : i < edges.length) :
    i < binOf edges v ↔ edges[i] ≤ v := by
  induction edges generalizing i with
  | nil => cases h
  | cons e t ih =>
    obtain ⟨hfirst, htail⟩ := List.pairwise_cons.mp hrise
    by_cases hev : e ≤ v
    · rw [binOf_cons_le t hev]
      cases i with
      | zero => simp [hev]
      | succ i => simpa using ih htail (Nat.lt_of_succ_lt_succ h)
    · have habove : ∀ x ∈ e :: t, v < x := by
        intro x hx
        rcases List.mem_cons.mp hx with rfl | hx
        · omega
        · have := hfirst x hx
          omega
      have hgt := habove _ (List.getElem_mem h)
      rw [binOf_above habove]
      omega

/-- The counts that a sample finds: those of the histogram, or zeros before its first sample. -/
theorem histAdd_counts (edges : List Int) (h : Hist) (v : Int) (tick : Bool) (hlen : h.counts = [] ∨ h.counts.length = edges.length + 1) :
    ∃ c : List Nat, c.length = edges.length + 1 ∧ (∀ i ≤ edges.length, c.getD i 0 = h.counts.getD i 0) ∧
      (histAdd edges h v tick).counts = c.set (binOf edges v) (satAdd 32 (c.getD (binOf edges v) 0) 1) := by
  cases hlen with
  | inl hnil =>
    refine ⟨List.replicate (edges.length + 1) 0, List.length_replicate, fun i hi => ?_, by simp only [histAdd, hnil, List.isEmpty_nil, if_true]⟩
    rw [hnil, List.getD_eq_getElem?_getD, List.getElem?_replicate_of_lt (Nat.lt_succ_of_le hi), List.getD_nil, Option.getD_some]
  | inr hfull =>
    have hne : h.counts.isEmpty = false := by
      rw [List.isEmpty_eq_false_iff, ← List.length_pos_iff]
      omega
    exact ⟨h.counts, hfull, fun _ _ => rfl, by simp only [histAdd, hne, Bool.false_eq_true, if_false]⟩

theorem getD_set {c : List Nat} {b i : Nat} (x : Nat) (hi : i < c.length) : (c.set b x).getD i 0 = if i = b then x else c.getD i 0 := by
  rw [List.getD_eq_getElem?_getD, List.getD_eq_getElem?_getD]
  by_cases hib : i = b
  · subst hib
    rw [if_pos rfl, List.getElem?_set_self hi, Option.getD_some]
  · rw [if_neg hib, List.getElem?_set_ne (Ne.symm hib)]

/-- A sample replaces an extreme that it passes, and its timestamp with it; an equal one replaces nothing. -/
theorem extAdd_some (e : Ext) (v : Int) (ts : Nat) (h : e.min ≤ e.max) :
    (extAdd (some e) v ts).min = min e.min v ∧ (extAdd (some e) v ts).max = max e.max v ∧
      (extAdd (some e) v ts).minTs = (if v < e.min then ts else e.minTs) ∧ (extAdd (some e) v ts).maxTs = (if e.max < v then ts else e.maxTs) := by
  by_cases hlow : v < e.min
  · have hnot : ¬ e.max < v := by omega
    simp [extAdd, hlow, hnot]
    omega
  · by_cases hhigh : e.max < v
    · simp [extAdd, hlow, hhigh]
      omega
    · simp [extAdd, hlow, hhigh]
      omega

/-- Settles O54 (R622, R623), by induction on the edges for the bin and by the cases of an extreme. -/
theorem statisticsBinSamplesByTheirEdges : Obligations.StatisticsBinSamplesByTheirEdges := by
  unfold Obligations.StatisticsBinSamplesByTheirEdges
  refine ⟨fun edges v hrise => ⟨binOf_le_length edges v, fun i h => lt_binOf_iff v hrise h⟩, fun edges h v tick hlen => ?hist, extAdd_some⟩
  case hist =>
    obtain ⟨c, hc, hget, hcounts⟩ := histAdd_counts edges h v tick hlen
    have hb := binOf_le_length edges v
    refine ⟨by rw [hcounts, List.length_set, hc], fun i hi => ?_⟩
    rw [hcounts, getD_set _ (by omega), hget i hi, hget _ hb]
    split
    · next heq => rw [heq]
    · rfl

end Sys2Proof.Machine
end

section
/-! SUPPORT. What a reset leaves: the chart flash and the state of a chart update through the drop of the gates, the retract and the coast that precede
it (R196), and the statement O55. -/

namespace Sys2Proof.Machine

/-! ### The flash and CHT_UPD.STATE, which says whether a session is open -/

/-- What the end of an update session depends on and changes (R188). -/
def State.session (s : State) : Memory × Nat := (s.flash, s.g CHT_UPD_STATE)

theorem State.session_eq {s t : State} (hflash : t.flash = s.flash) (hregs : t.g CHT_UPD_STATE = s.g CHT_UPD_STATE) : t.session = s.session := by
  rw [State.session, hflash, hregs, State.session]

theorem State.session_foldl {α : Type} (f : State → α → State) (l : List α) (h : ∀ (s : State) a, (f s a).session = s.session) (s : State) :
    (l.foldl f s).session = s.session :=
  List.foldlRecOn (motive := fun t : State => t.session = s.session) l f rfl fun t ht a _ => (h t a).trans ht

/-- A field of a block above the chart's stands under another key than CHT_UPD.STATE, in every copy. -/
theorem updState_key_ne {F : Fld} (k i : Nat) (h : CHT_UPD_STATE.addr < F.addr) : CHT_UPD_STATE.key 0 0 ≠ F.key k i := by
  have hlow : CHT_UPD_STATE.key 0 0 = CHT_UPD_STATE.addr * 64 := rfl
  have hfld : F.key k i = (F.addr + F.bs * k + F.stride * (i / F.per)) * 64 + F.bit i := rfl
  rw [hlow, hfld]
  generalize F.bs * k = b, F.stride * (i / F.per) = c
  omega

theorem State.pk_session (s : State) {F : Fld} (k v : Nat) (h : CHT_UPD_STATE.addr < F.addr) : (s.pk F k v).session = s.session :=
  State.session_eq rfl (State.gki_pki_ne s v (updState_key_ne k 0 h))

theorem State.setAct_session (s : State) (k : Nat) (f : Act → Act) : (s.setAct k f).session = s.session := rfl

theorem State.raise_session (s : State) {e : Nat} (h : CHT_UPD_STATE.key 0 0 ∉ raiseKeys e) : (s.raise e).session = s.session :=
  State.session_eq (State.raise_flash s e) (s.raise_g e h)

theorem State.record_session (s : State) (r : Rec) : (s.record r).session = s.session :=
  State.session_eq (State.record_flash s r) (s.record_g r (by decide))

theorem State.gateDrop_session (s : State) (k : Nat) : (s.gateDrop k).session = s.session := by
  obtain ⟨-, hsame⟩ | ⟨pin, pwr, wr, hdrop⟩ := s.gateDrop_cases k
  · rw [hsame]
  · rw [hdrop]; rfl

theorem State.gateDropAll_session (s : State) : s.gateDropAll.session = s.session := State.session_foldl _ _ State.gateDrop_session s

theorem State.setActSt_session (s : State) (k st : Nat) : (s.setActSt k st).session = s.session := by
  unfold State.setActSt
  split
  · exact s.pk_session k st (by decide)
  · rw [State.setAct_session, State.gateDrop_session, State.pk_session _ _ _ (by decide), State.pk_session _ _ _ (by decide),
      State.pk_session _ _ _ (by decide)]

theorem State.zeroHeater_session (s : State) (k h : Nat) : (s.zeroHeater k h).session = s.session := by
  have hheater := s.pk_session (F := CHN_FH_HTR) h 0 (by decide)
  unfold State.zeroHeater
  dsimp only
  split
  · split
    · exact hheater
    · exact hheater
  · exact hheater

theorem State.heaterOff_session (s : State) (k : Nat) : (s.heaterOff k).session = s.session :=
  State.session_foldl (fun t h => (t.zeroHeater k h).loopHold (loopId 1 h)) (s.headsOf k) (fun t h => t.zeroHeater_session k h) s

theorem State.abandonSlice_session (s : State) (k : Nat) : (s.abandonSlice k).session = s.session := by
  obtain hsame | ⟨chan, v, hslice⟩ := s.abandonSlice_eq k
  · rw [hsame]
  · rw [hslice]
    exact State.pk_session _ 0 v (by decide)

theorem State.beginMotion_session (s : State) (k kind trig : Nat) : (s.beginMotion k kind trig).session = s.session := by
  unfold State.beginMotion
  extract_lets m s1 s2 e s3 s4 s5 s6
  have hslice : s2.session = s.session := s1.abandonSlice_session k
  split
  · exact hslice
  · split
    · have hmove : s4.session = s2.session := ((s3.setActSt k 8).heaterOff_session k).trans (s3.setActSt_session k 8)
      have hsafe : s5.session = s4.session := by simp only [s5]; split <;> rfl
      exact hsafe.trans (hmove.trans hslice)
    · have hsafe : s6.session = s2.session := by simp only [s6]; split <;> rfl
      split
      · have hoff := ((s6.setActSt k 7).heaterOff_session k).trans (s6.setActSt_session k 7)
        exact (((s6.setActSt k 7).heaterOff k).raise_session (by decide)).trans (hoff.trans (hsafe.trans hslice))
      · exact (s6.setActSt_session k 6).trans (hsafe.trans hslice)

theorem State.orderMotion_session (s : State) (k kind trig : Nat) : (s.orderMotion k kind trig).session = s.session := by
  unfold State.orderMotion
  (repeat' split)
  · exact s.beginMotion_session k kind trig
  · rfl
  · rfl
  · rfl
  · exact s.beginMotion_session k kind trig
  · rfl

theorem State.retractAll_session (s : State) : s.retractAll.session = s.session :=
  State.session_foldl _ _ (fun t k => t.orderMotion_session k 3 0) s

theorem State.enterSpn_session (s : State) (st : Nat) : (s.enterSpn st).session = s.session := by
  unfold State.enterSpn
  have hstate : (s.p SPN_STAT_STATE st).session = s.session := State.pk_session s 0 st (by decide)
  have hclear : ∀ u : State, ((u.p SPN_STAT_AT_SPEED 0).p SPN_STAT_WB_OK 0).session = u.session := fun u =>
    (State.pk_session _ (F := SPN_STAT_WB_OK) 0 0 (by decide)).trans (State.pk_session u (F := SPN_STAT_AT_SPEED) 0 0 (by decide))
  dsimp only
  split
  · exact hstate
  · exact (hclear _).trans hstate

theorem State.lossRecord_session (s : State) (outcome : Nat) : (s.lossRecord outcome).session = s.session := by
  unfold State.lossRecord
  split
  · rfl
  · exact State.record_session _ _

theorem State.spindleCoast_session (s : State) : s.spindleCoast.session = s.session := by
  unfold State.spindleCoast
  dsimp only
  split
  · exact s.lossRecord_session 1
  · exact (State.enterSpn_session _ 9).trans (s.lossRecord_session 1)

/-- Without an open session nothing of the flash is voided. -/
theorem State.sessionVoid_flash {s : State} (h1 : s.g CHT_UPD_STATE ≠ 1) (h2 : s.g CHT_UPD_STATE ≠ 2) : s.sessionVoid.flash = s.flash := by
  rw [State.sessionVoid, if_neg (not_or.mpr ⟨h1, h2⟩)]

/-! ### Entering a reset -/

/-- The state in which the block is when its core resets: gates down, heads retracting, the spindle coasting, the session void (R196). -/
def State.halted (s : State) : State := s.gateDropAll.retractAll.spindleCoast.sessionVoid

theorem State.halted_flash {s : State} (h1 : s.g CHT_UPD_STATE ≠ 1) (h2 : s.g CHT_UPD_STATE ≠ 2) : s.halted.flash = s.flash := by
  have hkeep : s.gateDropAll.retractAll.spindleCoast.session = s.session :=
    (State.spindleCoast_session _).trans ((State.retractAll_session _).trans s.gateDropAll_session)
  obtain ⟨hflash, hupd⟩ := Prod.mk.inj hkeep
  rw [State.halted, State.sessionVoid_flash (by rwa [hupd]) (by rwa [hupd]), hflash]

/-- A reset is the reset of the core, up to registers, the Gazetteer and what a record sends, with its cause standing. -/
theorem State.enterReset_reported (s : State) (cause : Nat) :
    ∃ u : State, ((s.halted.resetCore (cause == 0)).reported u) ∧
      s.enterReset cause = ({ u with pwr := { u.pwr with inReset := some cause } } : State).emit .xspiReset := by
  have hcause : ∀ (u : State) (prev : Nat), u.reported ((u.p SVY_RSTCAUSE_PREV prev).p SVY_RSTCAUSE_CAUSE cause) := fun _ _ => rfl
  unfold State.enterReset State.halted
  dsimp only
  split
  · split
    · exact ⟨_, State.reported_refl _, rfl⟩
    · exact ⟨_, State.reported_trans (hcause _ _) (State.record_reported _ _), rfl⟩
  · split
    · exact ⟨_, State.reported_refl _, rfl⟩
    · exact ⟨_, hcause _ _, rfl⟩

theorem State.enterReset_inReset (s : State) (cause : Nat) : (s.enterReset cause).pwr.inReset = some cause := by
  obtain ⟨u, -, hreset⟩ := s.enterReset_reported cause
  rw [hreset]; rfl

theorem State.running_of_inReset {s : State} {cause : Nat} (h : s.pwr.inReset = some cause) : s.running = false := by
  simp [State.running, h]

/-- Reports reach neither the keys, the clock nor the flash. -/
theorem State.reported_core {s t : State} (h : s.reported t) : t.keys = s.keys ∧ t.clk = s.clk ∧ t.flash = s.flash := by
  rw [State.reported] at h
  exact ⟨by rw [h], by rw [h], by rw [h]⟩

theorem State.resetCore_core (s : State) (cold : Bool) :
    (s.resetCore cold).keys = [] ∧ (s.resetCore cold).clk = {} ∧ (s.resetCore cold).flash = s.flash := ⟨rfl, rfl, rfl⟩

/-- What a reset leaves of the keys, the clock and the flash is what the reset of the core leaves of them. -/
theorem State.enterReset_core (s : State) (cause : Nat) :
    (s.enterReset cause).keys = [] ∧ (s.enterReset cause).clk = {} ∧ (s.enterReset cause).flash = s.halted.flash := by
  obtain ⟨u, hu, hreset⟩ := s.enterReset_reported cause
  obtain ⟨hkeys, hclk, hflash⟩ := State.reported_core hu
  obtain ⟨hkeys', hclk', hflash'⟩ := s.halted.resetCore_core (cause == 0)
  rw [hreset]
  exact ⟨hkeys.trans hkeys', hclk.trans hclk', hflash.trans hflash'⟩

theorem State.still_pending (s : State) : s.still.1 = s.pending := rfl

theorem State.enterReset_pending (s : State) (cause : Nat) : (s.enterReset cause).pending = s.pending :=
  (State.still_pending _).symm.trans ((s.enterReset_still cause).trans (State.still_pending s))

theorem State.reset_gki (F : Fld) (k i : Nat) : State.reset.gki F k i = F.dflt := rfl

theorem State.enterReset_running (s : State) (cause : Nat) : (s.enterReset cause).running = false :=
  State.running_of_inReset (s.enterReset_inReset cause)

/-- Settles O55 (R195 to R197): the core resets to the power-on state, and what precedes that reset leaves the flash alone outside a session. -/
theorem resetsRestoreTheRegisters : Obligations.ResetsRestoreTheRegisters := by
  unfold Obligations.ResetsRestoreTheRegisters
  refine ⟨State.reset_gki, fun s cause => ⟨?block, fun F k i hkept hrec => s.enterReset_gki hkept hrec cause⟩⟩
  case block =>
    obtain ⟨hkeys, -, hflash⟩ := s.enterReset_core cause
    refine ⟨s.enterReset_inReset cause, s.enterReset_running cause, hkeys, fun h1 h2 => ?_, s.enterReset_pending cause⟩
    rw [hflash, State.halted_flash h1 h2]

end Sys2Proof.Machine
end

section
/-! SUPPORT. Commands whose conditions hold: how a guarded command answers, shared by the statements of single commands. -/

namespace Sys2Proof.Machine

/-- A command that acts under a condition which holds. -/
theorem next_of_cond {c : Prop} [Decidable c] (h : c) (a b : State) : (.next (if c then a else b) : Out) = .next a := by rw [if_pos h]

/-- A command that acts under a condition which fails. -/
theorem next_of_not {c : Prop} [Decidable c] (h : ¬ c) (a b : State) : (.next (if c then a else b) : Out) = .next b := by rw [if_neg h]

end Sys2Proof.Machine
end

section
/-! SUPPORT. The commands of the clock and tick, and the statement O2. -/

namespace Sys2Proof.Machine

theorem State.clockFault_declared (s : State) (e : Nat) : (s.clockFault e).clk.fault.isSome := by
  unfold State.clockFault
  extract_lets s1 s2 s3 s4 s5
  split
  · next h => rw [h]; rfl
  · rfl

theorem State.atCycle_regs (s : State) (c : Nat) : (s.atCycle c).regs = s.regs := by
  unfold State.atCycle
  split <;> rfl

theorem State.atCycle_req (s : State) (c : Nat) : (s.atCycle c).clk.req = s.clk.req ∧ (s.atCycle c).clk.reqLate = s.clk.reqLate ∧
    (s.atCycle c).clk.commit = s.clk.commit := by
  unfold State.atCycle
  split <;> exact ⟨rfl, rfl, rfl⟩

/-- The state in which the commit slot looks at the request. -/
def State.inCommitSlot (s : State) : State := (s.atCycle 3900).slotDone 14

theorem State.inCommitSlot_req (s : State) : s.inCommitSlot.clk.req = s.clk.req ∧ s.inCommitSlot.clk.reqLate = s.clk.reqLate ∧
    s.inCommitSlot.clk.commit = s.clk.commit := s.atCycle_req 3900

theorem exec_commitSlot {s : State} (hslot : s.slotOpen 14) : exec .commitSlot s = .next s.inCommitSlot.commitReq := next_of_cond hslot _ _

theorem State.commitReq_taken {s : State} {r : Bool} (hreq : s.clk.req = some r) (hlate : s.clk.reqLate = false) :
    s.commitReq = { s with clk := { s.clk with commit := some r, req := none } } := by
  simp [State.commitReq, hreq, hlate]

theorem State.commitReq_left {s : State} (h : s.clk.req = none ∨ s.clk.reqLate) : s.commitReq = s := by
  unfold State.commitReq
  split
  · next hreq =>
    rw [hreq] at h
    rw [if_pos (by simpa using h)]
  · rfl

theorem State.wakeEdge_clk (s : State) (low high : Nat) : (s.wakeEdge low high).clk.tick = s.clk.tick := by
  unfold State.wakeEdge
  split <;> rfl

theorem State.wakeEdge_regs (s : State) (low high : Nat) : (s.wakeEdge low high).regs = s.regs := by
  unfold State.wakeEdge
  split <;> rfl

/-- Settles O2 (R48, R52, R53, R56 to R58, R74, R76), clause by clause. -/
theorem clockCommandsComplete : Obligations.ClockCommandsComplete := by
  unfold Obligations.ClockCommandsComplete
  refine ⟨?taken, ?left, ?reference, ?unlock, ?faultReset, ?lock, ?trim, ?pinned, ?load, ?edge, ?vigil⟩
  case taken =>
    intro s r hslot hreq hlate
    obtain ⟨hreq', hlate', -⟩ := s.inCommitSlot_req
    refine ⟨_, exec_commitSlot hslot, State.commitReq_taken (hreq'.trans hreq) (hlate'.trans hlate), ?_⟩
    rw [State.commitReq_taken (hreq'.trans hreq) (hlate'.trans hlate)]
    exact ⟨rfl, rfl, s.atCycle_regs 3900⟩
  case left =>
    intro s hslot h
    obtain ⟨hreq, hlate', hcommit⟩ := s.inCommitSlot_req
    have hleft : s.inCommitSlot.commitReq = s.inCommitSlot := State.commitReq_left (by rwa [hreq, hlate'])
    refine ⟨_, exec_commitSlot hslot, hleft, ?_⟩
    rw [hleft]
    exact ⟨hcommit, hreq, s.atCycle_regs 3900⟩
  case reference =>
    intro s ns hrun hns
    exact ⟨_, next_of_cond (by simp [hrun, hns]) _ _, rfl, State.clockFault_declared _ _⟩
  case unlock =>
    intro s n hrun hn
    exact ⟨_, next_of_cond (by simp [hrun, hn]) _ _, rfl, State.clockFault_declared _ _⟩
  case faultReset =>
    intro s e hrun hfault hdue
    have harm : exec .clockFaultReset s = execClockFaultReset s := rfl
    refine ⟨_, ?_, rfl, s.enterReset_inReset 2, (s.enterReset_core 2).2.1⟩
    rw [harm, execClockFaultReset, hfault]
    exact next_of_cond (by simp [hrun, hdue]) _ _
  case lock =>
    intro s hreset hvigil hstage hcore
    refine ⟨_, if_pos ⟨hreset, hstage, hcore, hvigil⟩, rfl, ?_, ?_, rfl⟩
    · have hlock : (((s.p CLK_STAT_LOCK 1).p CLK_STAT_REF_OK 1).p SYS_BOOT_STAGE 1).g CLK_STAT_LOCK = 1 := by
        rw [State.g_p_ne _ 1 (by decide), State.g_p_ne _ 1 (by decide), State.g_p_same]
        rfl
      exact hlock
    · exact State.g_p_same _ _ _
  case trim =>
    intro s hrun hlimit hticks hraised
    exact ⟨_, if_pos (by simp [hrun, hlimit, hticks, hraised]), rfl, by simp, State.raise_evtPend _ (by decide)⟩
  case pinned =>
    intro s k i hrun hticks hraised
    exact ⟨_, if_pos (by simp [hrun, hticks, hraised]), rfl, State.raise_evtPend _ (by omega), by simp [State.loopAt, State.hwSet, Tbl.getD, Tbl.find_put_same]⟩
  case load =>
    intro s x hrun hload
    exact next_of_cond (by simp [hrun, hload]) _ _
  case edge =>
    intro s x hrun
    exact next_of_cond hrun _ _
  case vigil =>
    intro s x hrun hvigil
    have hedge : exec (.tickEdge x) s = .next (s.anyEdge x) := rfl
    have hkept : s.keptCount := by simp [State.keptCount, hvigil]
    rw [hedge, State.anyEdge, hrun, if_neg Bool.false_ne_true, if_pos hkept]
    exact ⟨_, rfl, rfl, State.wakeEdge_clk _ _ _, State.wakeEdge_regs _ _ _⟩

end Sys2Proof.Machine
end

section
/-! SUPPORT. The commands of the supplies, of the power sequences and of the Surveyor: the statements O3, O4, O5 and O6. -/

namespace Sys2Proof.Machine

/-! ### Supply crossings (R80 to R84, R90, R152) -/

/-- A crossing raises the warning event of its supply. -/
theorem State.holdCross_evtPend (s : State) (i : Nat) : (s.holdCross i).evtPend (if i = 2 then 34 else 32) := by
  rw [s.holdCross_eq]
  exact State.raise_evtPend _ (by split <;> decide)

theorem lasting_of_le {ns : Nat} (h : 20 ≤ ns) : lasting ns = true := by simp [lasting, h]

theorem exec_vmLossCrossing {s : State} {mv ns : Nat} (hrun : s.running) (hmv : mv ≤ 8000) (hns : 20 ≤ ns) :
    ∃ u : State, exec (.vmLossCrossing mv ns) s = .next (({ u with pwr := { u.pwr with vmLoss := true } } : State).raise 36) :=
  ⟨_, if_pos (by simp [hrun, hmv, lasting_of_le hns])⟩

theorem exec_vinResetCrossing {s : State} {mv ns : Nat} (hmv : mv ≤ 2450) (hns : 20 ≤ ns) :
    exec (.vinResetCrossing mv ns) s = match s.pwr.inReset with
      | none => .next (s.enterReset 1)
      | some 0 => .next s
      | some _ => .next { (s.p SVY_RSTCAUSE_PREV (s.g SVY_RSTCAUSE_CAUSE)).p SVY_RSTCAUSE_CAUSE 1 with pwr := { s.pwr with inReset := some 1 } } :=
  if_pos (by simp [hmv, lasting_of_le hns])

/-- In a cold reset the VIN reset crossing does nothing, however long it lasts. -/
theorem exec_vinResetCrossing_cold {s : State} (mv ns : Nat) (hreset : s.pwr.inReset = some 0) : exec (.vinResetCrossing mv ns) s = .next s := by
  have harm : exec (.vinResetCrossing mv ns) s = execVinResetCrossing s mv ns := rfl
  rw [harm, execVinResetCrossing]
  split
  · rw [hreset]
    rfl
  · rfl

/-- Settles O3 (R80, R81, R83, R84, R90, R152), clause by clause. -/
theorem supplyCrossingsComplete : Obligations.SupplyCrossingsComplete := by
  unfold Obligations.SupplyCrossingsComplete
  refine ⟨?vinLow, ?vinHigh, ?vmLow, ?vmLoss, ?vinReset, ?vinWarm, ?vinCold, ?rail, ?alwaysOn, ?resetN, ?glitch⟩
  case vinLow =>
    intro s mv ns hrun hmv hns
    exact ⟨_, exec_vinWarningCrossing_crosses hrun (lasting_of_le hns) hmv, rfl, s.holdCross_evtPend 0⟩
  case vinHigh =>
    intro s mv ns hrun hmv hns
    exact ⟨_, exec_vinOverCrossing_crosses hrun (lasting_of_le hns) hmv, rfl, s.holdCross_evtPend 1⟩
  case vmLow =>
    intro s mv ns hrun hmv hns
    exact ⟨_, exec_vmWarningCrossing_crosses hrun (lasting_of_le hns) hmv, rfl, s.holdCross_evtPend 2⟩
  case vmLoss =>
    intro s mv ns hrun hmv hns
    obtain ⟨u, hu⟩ := exec_vmLossCrossing hrun hmv hns
    exact ⟨_, hu, State.raise_evtPend _ (by decide), by simp⟩
  case vinReset =>
    intro s mv ns hmv hns hreset
    refine ⟨_, ?_, rfl, s.enterReset_inReset 1⟩
    rw [exec_vinResetCrossing hmv hns, hreset]
  case vinWarm =>
    intro s mv ns c hmv hns hreset
    refine ⟨_, ?_, rfl, rfl, State.g_p_same ..⟩
    rw [exec_vinResetCrossing hmv hns, hreset]
    rfl
  case vinCold =>
    intro s mv ns hreset
    exact exec_vinResetCrossing_cold mv ns hreset
  case rail =>
    intro s rail v ns hreset hvigil hrail hns
    exact ⟨_, next_of_cond (by simp [hreset, hvigil, hrail, hns]) _ _, rfl, s.enterReset_inReset 5⟩
  case alwaysOn =>
    intro s mv hmv
    exact ⟨_, next_of_cond hmv _ _, rfl, s.enterReset_inReset 0⟩
  case resetN =>
    intro s ns hns
    have harm : exec (.resetNAssert ns) s = execResetNAssert s ns := rfl
    exact ⟨_, by rw [harm, execResetNAssert, if_neg (by omega), if_pos hns], rfl, s.enterReset_inReset 0⟩
  case glitch =>
    intro s ns hns
    exact if_pos hns

/-! ### The causes of a hold (R86) -/

/-- The place of a hold cause in the power unit. -/
def Pwr.cause (p : Pwr) : Fin 3 → Cause
  | 0 => p.vinLo
  | 1 => p.vinHi
  | 2 => p.vmLo

/-- The state in which a hold cause has cleared; VM raises event 35. -/
def State.causeOff (s : State) : Fin 3 → State
  | 0 => ({ s with pwr := { s.pwr with vinLo := {} } } : State).p PWR_HOLD_VIN_LO 0
  | 1 => ({ s with pwr := { s.pwr with vinHi := {} } } : State).p PWR_HOLD_VIN_HI 0
  | 2 => (({ s with pwr := { s.pwr with vmLo := {} } } : State).p PWR_HOLD_VM_LO 0).raise 35

theorem exec_holdCauseClear {s : State} {i : Fin 3} (hrun : s.running) (hhold : s.holding) (hactive : (s.pwr.cause i).active)
    (hcount : 25 ≤ (s.pwr.cause i).count) :
    exec (.holdCauseClear i) s = if (s.causeOff i).pwr.vinLo.active || (s.causeOff i).pwr.vinHi.active || (s.causeOff i).pwr.vmLo.active
      then .next ((s.causeOff i).p PWR_HOLD_RCVCNT (s.causeOff i).rcvCount) else .next (s.causeOff i).holdEnd := by
  have hcond : (s.running && s.holding && (s.pwr.cause i).active && decide (25 ≤ (s.pwr.cause i).count)) = true := by
    simp [hrun, hhold, hactive, hcount]
  match i with
  | 0 => exact if_pos hcond
  | 1 => exact if_pos hcond
  | 2 => exact if_pos hcond

theorem State.causeOff_pwr_vm (s : State) : (s.causeOff 2).pwr = { s.pwr with vmLo := {} } := State.raise_pwr ..

/-- Settles O4 (R86): for each of the three causes, with and without another one active. -/
theorem holdCausesClear : Obligations.HoldCausesClear := by
  unfold Obligations.HoldCausesClear
  refine ⟨?vinLowLast, ?vinLow, ?vinHighLast, ?vinHigh, ?vmLast, ?vm⟩
  case vinLowLast =>
    intro s hrun hhold hactive hcount h1 h2
    exact (exec_holdCauseClear (i := 0) hrun hhold hactive hcount).trans (if_neg (by simp [State.causeOff, h1, h2]))
  case vinLow =>
    intro s hrun hhold hactive hcount hother
    exact ⟨_, (exec_holdCauseClear (i := 0) hrun hhold hactive hcount).trans (if_pos (by simpa [State.causeOff] using hother)), rfl, rfl⟩
  case vinHighLast =>
    intro s hrun hhold hactive hcount h1 h2
    exact (exec_holdCauseClear (i := 1) hrun hhold hactive hcount).trans (if_neg (by simp [State.causeOff, h1, h2]))
  case vinHigh =>
    intro s hrun hhold hactive hcount hother
    exact ⟨_, (exec_holdCauseClear (i := 1) hrun hhold hactive hcount).trans (if_pos (by simpa [State.causeOff] using hother)), rfl, rfl⟩
  case vmLast =>
    intro s hrun hhold hactive hcount h1 h2
    exact (exec_holdCauseClear (i := 2) hrun hhold hactive hcount).trans (if_neg (by simp [s.causeOff_pwr_vm, h1, h2]))
  case vm =>
    intro s hrun hhold hactive hcount hother
    refine ⟨_, (exec_holdCauseClear (i := 2) hrun hhold hactive hcount).trans (if_pos (by simpa [s.causeOff_pwr_vm] using hother)), rfl, ?_⟩
    rw [State.p_pwr, s.causeOff_pwr_vm]

/-! ### Power sequences -/

theorem exec_resetRelease {s : State} {cause : Nat} (x : ReleaseIn) (hreset : s.pwr.inReset = some cause)
    (hok : (x.die.foldl State.filterDie s).releaseOk x cause) (hscan : x.straps / 8 % 2 = 0) :
    ∃ u : State, exec (.resetRelease x) s =
      .next (({ ((u.p PIN_STRAP_PCIEW (x.straps / 2 % 4)).p PIN_STRAP_SCANHOLD 0) with pwr := { u.pwr with inReset := none } } : State).p SYS_BOOT_WARM (b2n (cause != 0))) := by
  have harm : exec (.resetRelease x) s = execResetRelease x s := rfl
  refine ⟨(x.die.foldl State.filterDie s).p PIN_STRAP_XSPI1 (x.straps % 2), ?_⟩
  rw [harm, execResetRelease, hreset]
  dsimp only
  rw [if_pos hok, hscan, if_neg (by rw [State.on_p_zero]; exact Bool.false_ne_true)]
  rfl

theorem exec_resetRelease_refused {s : State} {cause : Nat} (x : ReleaseIn) (hreset : s.pwr.inReset = some cause)
    (hok : (x.die.foldl State.filterDie s).releaseOk x cause = false) : exec (.resetRelease x) s = .next (x.die.foldl State.filterDie s) := by
  have harm : exec (.resetRelease x) s = execResetRelease x s := rfl
  rw [harm, execResetRelease, hreset]
  dsimp only
  rw [if_neg (by simp [hok])]

/-- Idle is entered with event 43. -/
theorem State.powerState_idle {s : State} (hcur : s.g PWR_STATE_CUR = 0) :
    (s.powerState 1).g PWR_STATE_CUR = 1 ∧ (s.powerState 1).evtPend 43 := by
  have hentered : s.powerState 1 = ((s.p PWR_STATE_CUR 1).p DRM_STAT_STATE (if s.g DRM_STAT_STATE = 4 then 3 else s.g DRM_STAT_STATE)).raise 43 := by
    simp [State.powerState, hcur]
  rw [hentered]
  refine ⟨?_, State.raise_evtPend _ (by decide)⟩
  rw [State.raise_g _ _ (by decide), State.g_p_ne _ _ (by decide), State.g_p_same]
  rfl

/-- Settles O5 (R89, R94, R104, R105, R198, R705), clause by clause. -/
theorem powerSequencesComplete : Obligations.PowerSequencesComplete := by
  unfold Obligations.PowerSequencesComplete
  refine ⟨?unload, ?release, ?refused, ?pin, ?supplies, ?journal, ?idle, ?standby, ?pending, ?vigilBegin, ?vigilEnter⟩
  case unload =>
    intro s hrun hhold helapsed hcount hdone hloaded
    refine ⟨_, if_pos (by simp [hrun, hhold, helapsed, hcount, hdone, hloaded]), rfl, State.raise_evtPend _ (by decide), ?_⟩
    rw [State.raise_g _ _ (by decide), State.g_p_same]
    rfl
  case release =>
    intro s x cause hreset hok hscan
    obtain ⟨u, hu⟩ := exec_resetRelease x hreset hok hscan
    refine ⟨_, hu, rfl, ?_, ?_⟩
    · rw [State.g_p_same]
      cases cause <;> rfl
    · rw [State.g_p_ne _ _ (by decide)]
      have hstrap : ((u.p PIN_STRAP_PCIEW (x.straps / 2 % 4)).p PIN_STRAP_SCANHOLD 0).g PIN_STRAP_PCIEW = x.straps / 2 % 4 := by
        rw [State.g_p_ne _ _ (by decide), State.g_p_same]
        exact Nat.mod_mod ..
      exact hstrap
  case refused =>
    intro s x cause hreset hok
    exact exec_resetRelease_refused x hreset hok
  case pin =>
    intro s hrun hen hlow hloss
    exact next_of_cond (by simp [hrun, hen, hlow, hloss]) _ _
  case supplies =>
    intro s hrun hvin hvm hloss
    exact next_of_cond (by simp [hrun, hvin, hvm, hloss]) _ _
  case journal =>
    intro s hloss hbusy hreset
    exact ⟨_, next_of_cond (by simp [hloss, hbusy, hreset]) _ _, rfl, s.enterReset_inReset 3⟩
  case idle =>
    intro s hrun hstage hcur hticks
    exact ⟨_, next_of_cond (by simp [hrun, hstage, hcur, hticks]) _ _, rfl, State.powerState_idle hcur⟩
  case standby =>
    intro s hrun hstage hcur htimer hticks hpend hentering
    exact next_of_cond (by simp [hrun, hstage, hcur, htimer, hticks, hpend, hentering]) _ _
  case pending =>
    intro s hrun hpend hmay hentering
    have harm : exec .pendingTransitionProceed s = execPendingTransitionProceed s := rfl
    rw [harm, execPendingTransitionProceed]
    simp [hpend, hrun, hmay, hentering]
  case vigilBegin =>
    intro s hrun hpend hcur hmay hadmin hentering
    have harm : exec .pendingTransitionProceed s = execPendingTransitionProceed s := rfl
    rw [harm, execPendingTransitionProceed]
    simp only [hpend, hrun, hmay, hcur, hadmin, hentering]
    rfl
  case vigilEnter =>
    intro s n hrun hpend hcur hmay hadmin hentering
    have harm : exec .pendingTransitionProceed s = execPendingTransitionProceed s := rfl
    rw [harm, execPendingTransitionProceed]
    simp only [hpend, hrun, hmay, hcur, hadmin, hentering]
    rfl

end Sys2Proof.Machine
end

section
/-! SUPPORT. The commands of the Surveyor, and the statement O6. -/

namespace Sys2Proof.Machine

/-- Write inhibit begins, its quiet time anew, with event 39 (R110, R111). -/
def State.inhibitWrites (s : State) : State :=
  ({ s.p SVY_SHOCK_INH 1 with svy := { (s.p SVY_SHOCK_INH 1).svy with quietRun := 0 } } : State).raise 39

theorem State.inhibitWrites_effect (s : State) :
    s.inhibitWrites.evtPend 39 ∧ s.inhibitWrites.svy.quietRun = 0 ∧ s.inhibitWrites.g SVY_SHOCK_INH = 1 := by
  refine ⟨State.raise_evtPend _ (by decide), by rw [State.inhibitWrites, State.raise_svy], ?_⟩
  rw [State.inhibitWrites, State.raise_g _ _ (by decide)]
  exact State.g_p_same ..

/-- A shock drops the gates, abandons the slices and stops the loads before it inhibits writes (R110, R282). -/
theorem exec_shockCrossing {s : State} {mg : Nat} (hrun : s.running) (hmg : 500 * s.g SVY_SHKCFG_THR < mg) :
    exec (.shockCrossing mg) s = .next s.gateDropAll.abandonSlices.shockLoads.inhibitWrites := by
  have harm : exec (.shockCrossing mg) s = execShockCrossing s mg := rfl
  rw [harm, execShockCrossing, if_pos (by simp [hrun, hmg])]
  rfl

/-- A board sensor that answers: its value is stored and its failures are forgotten (R116). -/
theorem State.sensorRead_answer (s : State) (k : Nat) (b : List Byte) :
    ∃ out : List Output, s.sensorRead k (some b) = { s with
      out := out
      svy := { s.svy with board := Tbl.put s.svy.board k (sensorValue (s.gki SVY_BSENS_FORMAT 0 k) b), boardFail := Tbl.put s.svy.boardFail k 0 } } :=
  ⟨_, rfl⟩

/-- The periodic read of a board sensor begins its period anew. -/
def State.periodBegun (s : State) (k : Nat) : State := { s with svy := { s.svy with boardTicks := Tbl.put s.svy.boardTicks k 0 } }

theorem exec_boardSensorRead {s : State} {k : Fin 4} (b : Option (List Byte)) (hrun : s.running) (hchart : s.chart.applied)
    (hen : s.gki SVY_BSENS_EN 0 k = 1) (hdue : 25000 ≤ Tbl.getD s.svy.boardTicks k 0) :
    exec (.boardSensorRead k b) s = .next ((s.periodBegun k).sensorRead k b) :=
  if_pos (by simp [hrun, hchart, hen, hdue])

theorem exec_avsStep {s : State} (m : Nat) (hslot : s.slotOpen 8) (hchart : s.chart.applied) :
    exec (.avsStep m) s =
      if m < 12 && !(s.avsMargin m).on SVY_AVS_MTHROT then .next (((s.avsMargin m).marginThrottle).loopHold 0)
      else if (s.avsMargin m).svy.hotL || (s.avsMargin m).on SVY_AVS_MTHROT then .next ((s.avsMargin m).loopHold 0)
      else .next ((s.avsMargin m).avsFree m) :=
  if_pos (by simp [hslot, hchart])

theorem State.atCycle_svy (s : State) (c : Nat) : (s.atCycle c).svy = s.svy := by
  unfold State.atCycle
  split <;> rfl

theorem State.avsMargin_hotL (s : State) (m : Nat) : (s.avsMargin m).svy.hotL = s.svy.hotL := by
  have hsame : (s.avsMargin m).svy.hotL = (s.atCycle 1400).svy.hotL := rfl
  rw [hsame, s.atCycle_svy]

/-- The sample of the margin is stored; no other field of registers moves. -/
theorem State.avsMargin_regs (s : State) (m : Nat) : (s.avsMargin m).regs = s.regs.put SVY_AVS_MARGIN 0 0 (min m 255) :=
  congrArg (fun r : RegFile => r.put SVY_AVS_MARGIN 0 0 (min m 255)) (s.atCycle_regs 1400)

theorem State.avsMargin_mthrot (s : State) (m : Nat) : (s.avsMargin m).on SVY_AVS_MTHROT = s.on SVY_AVS_MTHROT := by
  rw [State.on, State.g, s.avsMargin_regs, RegFile.get_put_ne _ _ (by decide)]
  rfl

theorem State.avsMargin_margin (s : State) (m : Nat) : (s.avsMargin m).g SVY_AVS_MARGIN = min m 255 := by
  rw [State.g, s.avsMargin_regs, RegFile.get_put_same]
  exact Nat.mod_eq_of_lt (Nat.lt_of_le_of_lt (Nat.min_le_right m 255) (by decide))

/-- Settles O6 (R109 to R111, R113, R114, R116, R118, R120), clause by clause. -/
theorem surveyorCommandsComplete : Obligations.SurveyorCommandsComplete := by
  unfold Obligations.SurveyorCommandsComplete
  refine ⟨?post, ?closed, ?cool, ?critical, ?shock, ?quiet, ?sensor, ?silent, ?alert, ?free, ?low, ?hot, ?marginEnd⟩
  case post =>
    intro s x hslot
    exact next_of_cond hslot _ _
  case closed =>
    intro s x hslot
    exact next_of_not (by simp [hslot]) _ _
  case cool =>
    intro s hrun hhot hcool
    exact ⟨_, if_pos (by simp [hrun, hhot, hcool]), rfl, by simp, State.raise_evtPend _ (by decide)⟩
  case critical =>
    intro s e hrun hcritical hdue
    have harm : exec .criticalTempReset s = execCriticalTempReset s := rfl
    refine ⟨_, ?_, rfl, s.enterReset_inReset 4⟩
    rw [harm, execCriticalTempReset, hcritical]
    exact next_of_cond (by simp [hrun, hdue]) _ _
  case shock =>
    intro s mg hrun hmg
    exact ⟨_, exec_shockCrossing hrun hmg, State.inhibitWrites_effect _⟩
  case quiet =>
    intro s hrun hinhibit hquiet
    exact next_of_cond (by simp [hrun, hinhibit, hquiet]) _ _
  case sensor =>
    intro s k b hrun hchart hen hdue
    obtain ⟨out, hread⟩ := (s.periodBegun k).sensorRead_answer k b
    refine ⟨_, exec_boardSensorRead (some b) hrun hchart hen hdue, ?_⟩
    rw [hread]
    exact ⟨by simp [Tbl.getD, Tbl.find_put_same, State.periodBegun, State.gki], by simp [Tbl.getD, Tbl.find_put_same, State.periodBegun], rfl⟩
  case silent =>
    intro s k hrun hchart hen hdue
    exact exec_boardSensorRead none hrun hchart hen hdue
  case alert =>
    intro s k b hrun hchart hen halert
    exact next_of_cond (by simp [hrun, hchart, hen, halert]) _ _
  case free =>
    intro s m hslot hchart hm hhot hmthrot
    refine ⟨_, ?_, rfl, s.avsMargin_margin m⟩
    rw [exec_avsStep m hslot hchart, s.avsMargin_mthrot, s.avsMargin_hotL, hhot, hmthrot, if_neg (by simpa using hm)]
    rfl
  case low =>
    intro s m hslot hchart hm hmthrot
    rw [exec_avsStep m hslot hchart, s.avsMargin_mthrot, hmthrot, if_pos (by simpa using hm)]
  case hot =>
    intro s m hslot hchart hm hhot
    rw [exec_avsStep m hslot hchart, if_neg (by simp; omega), if_pos (by simpa [s.avsMargin_hotL] using hhot)]
  case marginEnd =>
    intro s hrun hmthrot hticks
    exact ⟨_, if_pos (by simp [hrun, hmthrot, hticks]), rfl, State.raise_evtPend _ (by decide), by simp⟩

end Sys2Proof.Machine
end

section
/-! SUPPORT. The commands of the pins, of the event registers and of start-up: the statements O7, O8 and O9. -/

namespace Sys2Proof.Machine

/-! ### External interrupts (R133, R136) -/

/-- The change of line `n` to level `r` is an edge of the line's mode. -/
def State.extEdgeOf (s : State) (n : Fin 16) (r : Bool) : Prop :=
  s.gki PIN_EXTCFG_MODE 0 n = 3 ∨ (s.gki PIN_EXTCFG_MODE 0 n = 1 ∧ r = true) ∨ (s.gki PIN_EXTCFG_MODE 0 n = 2 ∧ r = false)

theorem exec_extintEdge {s : State} {n : Fin 16} {r : Bool} {held : Nat} (hacc : s.extAccepts n r held) (hmode : s.extEdgeOf n r) :
    exec (.extintEdge n r held) s = .next ((if bitAt (s.g PIN_EXTPEND_PEND) n then ((s.extTake n r).extStamp n).hwSet PIN_EXTPEND_OVF 0 0 n
      else ((s.extTake n r).extStamp n).hwSet PIN_EXTPEND_PEND 0 0 n).raise (48 + n)) := by
  have hlow : s.gki PIN_EXTCFG_MODE 0 n < 4 := by rcases hmode with h | h | h <;> omega
  have hedge : s.gki PIN_EXTCFG_MODE 0 n = 3 ∨ (s.gki PIN_EXTCFG_MODE 0 n = 1 ∧ r) ∨ (s.gki PIN_EXTCFG_MODE 0 n = 2 ∧ !r) := by
    simpa [State.extEdgeOf] using hmode
  exact (if_pos (by simp [hacc, hlow])).trans (if_pos hedge)

theorem exec_extintEdge_refused {s : State} {n : Fin 16} {r : Bool} {held : Nat} (hacc : s.extAccepts n r held = false) :
    exec (.extintEdge n r held) s = .next s := if_neg (by simp [hacc])

/-- Line `n` at `v` stands at the active level of its mode, or at the other one, as `act` says. -/
def State.extLevelOf (s : State) (n : Fin 16) (v act : Bool) : Prop :=
  (s.gki PIN_EXTCFG_MODE 0 n = 4 ∧ v = act) ∨ (s.gki PIN_EXTCFG_MODE 0 n = 5 ∧ v = !act)

/-- A level line takes a change: to its active level or away from it. -/
theorem exec_extintLevel {s : State} {n : Fin 16} {v act : Bool} {held : Nat} (hacc : s.extAccepts n v held) (hmode : s.extLevelOf n v act) :
    exec (.extintLevel n v held) s =
      if act && !bitAt s.pin.active n then
        .next (({ ((s.extTake n v).hwSet PIN_EXTPEND_PEND 0 0 n).extStamp n with
          pin := { (s.extTake n v).pin with active := setBit s.pin.active n } } : State).raise (48 + n))
      else if !act && bitAt s.pin.active n then
        .next { (s.extTake n v).hwClr PIN_EXTPEND_PEND 0 0 n with pin := { (s.extTake n v).pin with active := clrBit s.pin.active n } }
      else .next (s.extTake n v) := by
  have hlevel : (s.gki PIN_EXTCFG_MODE 0 n == 4 || s.gki PIN_EXTCFG_MODE 0 n == 5) = true := by
    rcases hmode with h | h <;> simp [h.1]
  have hact : ((s.gki PIN_EXTCFG_MODE 0 n == 4) == v) = act := by
    rcases hmode with h | h <;> cases act <;> simp [h.1, h.2]
  have harm : exec (.extintLevel n v held) s = execExtintLevel n v s held := rfl
  rw [harm, execExtintLevel]
  simp only [hact, hlevel, hacc, Bool.and_self, if_true]
  rfl

theorem exec_extintLevel_refused {s : State} {n : Fin 16} {v : Bool} {held : Nat} (hacc : s.extAccepts n v held = false) :
    exec (.extintLevel n v held) s = .next s := if_neg (by simp [hacc])

/-! ### Wake (R148, R149, R213) -/

/-- The pins whose wake condition qualifies at the sampled levels. -/
def State.wakePins (s : State) (levels : BitVec 16) : Nat := maskOf 16 fun i => s.qualifies i (bitAt levels.toNat i)

theorem State.wake_effect (s : State) (pins : Nat) (perst : Bool) :
    (s.wake pins perst).pwr.inReset = some 6 ∧ (s.wake pins perst).clk.tick = s.clk.tick := by
  simp only [State.wake]
  exact ⟨State.enterReset_inReset _ 6, rfl⟩

/-- A wake by PERST_N releases it. -/
def State.perstTaken (s : State) (perst : Bool) : State := { s with boot := { s.boot with perst := s.boot.perst && !perst } }

theorem exec_wakeQualify {s : State} {levels : BitVec 16} {perst : Bool} (harmed : s.pin.armed) (hwake : s.wakePins levels ≠ 0 ∨ perst = true) :
    exec (.wakeQualify levels perst) s =
      if s.pwr.vigil && s.pwr.inReset.isNone then .next ((s.perstTaken perst).wake (s.wakePins levels) perst)
      else if s.running && s.pwr.entering == some 3 then .next { s with pin := { s.pin with latched := some (s.wakePins levels, perst) } }
      else .next s := by
  have hquiet : ¬ ((!s.pin.armed || (s.wakePins levels == 0 && !perst)) = true) := by
    simp only [harmed, Bool.not_true, Bool.false_or, Bool.and_eq_true, beq_iff_eq, Bool.not_eq_true']
    rintro ⟨h0, hp⟩
    exact hwake.elim (fun h => h h0) (fun h => by simp [h] at hp)
  have htaken : (if perst then { s with boot := { s.boot with perst := false } } else s : State) = s.perstTaken perst := by
    cases perst <;> simp [State.perstTaken]
  rw [← htaken]
  exact if_neg hquiet

theorem exec_wakeQualify_unarmed {s : State} (levels : BitVec 16) (perst : Bool) (harmed : s.pin.armed = false) :
    exec (.wakeQualify levels perst) s = .next s := if_pos (by simp [harmed])

theorem exec_pinConfigApply {s : State} (hrun : s.running) (hchart : s.chart.applied) (hpins : s.pin.applied = false) (hcycle : s.clk.cycle = 0)
    (hedge : Tbl.getD s.boot.began 0 0 < s.clk.edges) :
    ∃ u : State, exec .pinConfigApply s = .next { u with pin := { u.pin with applied := true, asleep := [] } } :=
  ⟨_, if_pos (by simp [hrun, hchart, hpins, hcycle, hedge])⟩

/-- Settles O7 (R133, R136, R139, R143, R149, R151, R213), clause by clause. -/
theorem pinCommandsComplete : Obligations.PinCommandsComplete := by
  unfold Obligations.PinCommandsComplete
  refine ⟨?edge, ?edgeAgain, ?edgeRefused, ?level, ?levelOver, ?levelRefused, ?pulse, ?config, ?wake, ?wakeEntering, ?unarmed, ?perst, ?perstAgain, ?release⟩
  case edge =>
    intro s n r held hacc hmode hpend
    refine ⟨_, exec_extintEdge hacc hmode, ?_, State.raise_evtPend _ (by omega)⟩
    rw [hpend]
    rfl
  case edgeAgain =>
    intro s n r held hacc hmode hpend
    refine ⟨_, exec_extintEdge hacc hmode, ?_, State.raise_evtPend _ (by omega)⟩
    rw [if_pos hpend]
  case edgeRefused =>
    intro s n r held hacc
    exact exec_extintEdge_refused hacc
  case level =>
    intro s n v held hacc hmode hactive
    exact ⟨_, (exec_extintLevel (act := true) hacc hmode).trans (if_pos (by simp [hactive])), rfl, State.raise_evtPend _ (by omega)⟩
  case levelOver =>
    intro s n v held hacc hmode hactive
    exact (exec_extintLevel (act := false) hacc hmode).trans ((if_neg (by simp)).trans (if_pos (by simp [hactive])))
  case levelRefused =>
    intro s n v held hacc
    exact exec_extintLevel_refused hacc
  case pulse =>
    intro s n e hrun hpulse hend
    have harm : exec (.evoPulseEnd n) s = execEvoPulseEnd n s := rfl
    rw [harm, execEvoPulseEnd, hpulse]
    exact next_of_cond (by simp [hrun, hend]) _ _
  case config =>
    intro s hrun hchart hpins hcycle hedge
    obtain ⟨u, hu⟩ := exec_pinConfigApply hrun hchart hpins hcycle hedge
    exact ⟨_, hu, rfl, rfl⟩
  case wake =>
    intro s l perst harmed hvigil hreset hwake
    exact ⟨_, (exec_wakeQualify harmed hwake).trans (if_pos (by simp [hvigil, hreset])), rfl, State.wake_effect _ _ _⟩
  case wakeEntering =>
    intro s l perst harmed hrun hvigil hentering hwake
    exact (exec_wakeQualify harmed hwake).trans ((if_neg (by simp [hvigil])).trans (if_pos (by simp [hrun, hentering])))
  case unarmed =>
    intro s l perst harmed
    exact exec_wakeQualify_unarmed l perst harmed
  case perst =>
    intro s hperst
    exact next_of_not (by simp [hperst]) _ _
  case perstAgain =>
    intro s hperst
    exact next_of_cond hperst _ _
  case release =>
    intro s
    rfl

/-! ### The event registers (R636, R640) -/

/-- A mask write stores the mask; the messages that it lets go touch no register. -/
theorem State.evtMaskWrite_regs (s : State) (r v : Nat) : (s.evtMaskWrite r v).regs = (s.pki EVT_MASK 0 r v).regs := by
  unfold State.evtMaskWrite
  extract_lets old s1
  refine List.foldlRecOn (motive := fun t : State => t.regs = s1.regs) _ _ rfl fun t ht b _ => ?_
  dsimp only
  split
  · exact (t.evtMsg_regs _).trans ht
  · exact ht

/-- Settles O8 (R636, R640), clause by clause. -/
theorem eventRegisterCommandsComplete : Obligations.EventRegisterCommandsComplete := by
  unfold Obligations.EventRegisterCommandsComplete
  refine ⟨?mask, ?pop, ?received, ?full⟩
  case mask =>
    intro s r v hbar
    exact ⟨_, next_of_cond hbar _ _, rfl, s.evtMaskWrite_regs r v.toNat⟩
  case pop =>
    intro s hbar
    exact next_of_cond hbar _ _
  case received =>
    intro s b hrun hroom
    have hreceive : s.evtReceive b = _ := if_pos hroom
    exact ⟨_, (next_of_cond hrun _ _).trans (by rw [hreceive]), rfl, State.raise_evtPend _ (by decide)⟩
  case full =>
    intro s b hrun hfull hepi
    have hnot : ¬ s.evt.recvQ.length < 16 := by omega
    have hreceive : s.evtReceive b = ({ s.bump EVT_FABCTL_DROPIN 1 with evt := { s.evt with fullEpi := true } } : State).raise 188 :=
      (if_neg hnot).trans (if_neg (by rw [show (s.bump EVT_FABCTL_DROPIN 1).evt = s.evt from rfl, hepi]; exact Bool.false_ne_true))
    exact ⟨_, (next_of_cond hrun _ _).trans (by rw [hreceive]), rfl, State.raise_evtPend _ (by decide)⟩

end Sys2Proof.Machine
end

section
/-! SUPPORT. The commands of start-up, and the statement O9. -/

namespace Sys2Proof.Machine

/-- Fault mode is entered with its code and event 2 (R202). -/
theorem State.faultMode_effect (s : State) {code : Nat} (hcode : code < 2 ^ SYS_BOOT_FCODE.w) :
    (s.faultMode code).g SYS_BOOT_STAGE = 0xE ∧ (s.faultMode code).g SYS_BOOT_FCODE = code ∧ (s.faultMode code).evtPend 2 := by
  unfold State.faultMode
  refine ⟨?_, ?_, State.raise_evtPend _ (by decide)⟩
  · rw [State.raise_g _ _ (by decide), State.g_p_ne _ _ (by decide), State.g_p_same]
    rfl
  · rw [State.raise_g _ _ (by decide), State.g_p_same, Nat.mod_eq_of_lt hcode]

/-- Chart-absent mode is entered with event 66 (R174). -/
theorem State.chartAbsent_effect (s : State) :
    s.chartAbsent.g SYS_BOOT_STAGE = 0xF ∧ s.chartAbsent.g CHT_STAT_ABSENT = 1 ∧ s.chartAbsent.evtPend 66 := by
  unfold State.chartAbsent
  refine ⟨?_, ?_, State.raise_evtPend _ (by decide)⟩
  · rw [State.raise_g _ _ (by decide), State.g_p_same]
    rfl
  · rw [State.raise_g _ _ (by decide), State.g_p_ne _ _ (by decide), State.g_p_same]
    rfl

theorem exec_bistEnd {s : State} (fail : Option (BitVec 8 × BitVec 16)) (hrun : s.running) (hstage : s.g SYS_BOOT_STAGE = 1)
    (hscan : s.on PIN_STRAP_SCANHOLD = false) :
    ∃ u : State, exec (.bistEnd fail) s =
      .next (if fail.isSome then u.faultMode 0x01 else ((u.p SYS_BOOT_STAGE 2).stageEndAt 1).stageBegin 3) :=
  ⟨_, if_pos (by simp [hrun, hstage, hscan])⟩

/-- The chart stage's start leaves the stage that was stored for it. -/
theorem State.stageTwo (s : State) : (((s.p SYS_BOOT_STAGE 2).stageEndAt 1).stageBegin 3).g SYS_BOOT_STAGE = 2 := s.g_p_same SYS_BOOT_STAGE 2

theorem exec_chartStage {s : State} (d : List Bool) (hstage : s.g SYS_BOOT_STAGE = 2) (hreset : s.pwr.inReset = none) :
    exec (.chartStage d) s =
      .next (if (s.chartScan d).g CHT_STAT_ACTIVE = 3 then (s.chartScan d).chartAbsent else (s.chartScan d).applyChart) := if_pos ⟨hstage, hreset⟩

theorem exec_dramInitComplete {s : State} (ok : Bool) (g h : Nat) (hrun : s.running) (hstage : s.g SYS_BOOT_STAGE = 3) :
    exec (.dramInitComplete ok g h) s = .next (if s.g SYS_BOOT_DRAM = 1 then s.dramTrained ok g h
      else if s.g SYS_BOOT_DRAM = 2 ∧ s.dramEdge + s.dramInitTicks ≤ s.clk.edges then s.dramReady else s) := if_pos (by simp [hrun, hstage])

theorem State.dramTrained_effect {s : State} {g h : Nat} (hg : g = s.secLe 0x51 0 0 1 0) (hh : h = s.secLe 0x51 0 0 1 0) :
    (s.dramTrained true g h).g SYS_BOOT_DRAM = 2 ∧ (s.dramTrained true g h).g DRM_STAT_STATE = 2 := by
  have htrained : s.dramTrained true g h =
      { (s.p SYS_BOOT_DRAM 2).p DRM_STAT_STATE 2 with dram := [], dramAcc := [], dramEdge := s.clk.edges } := if_pos (by simp [hg, hh])
  have hdram : ((s.p SYS_BOOT_DRAM 2).p DRM_STAT_STATE 2).g SYS_BOOT_DRAM = 2 := (State.g_p_ne _ 2 (by decide)).trans (s.g_p_same SYS_BOOT_DRAM 2)
  rw [htrained]
  exact ⟨hdram, State.g_p_same _ DRM_STAT_STATE 2⟩

theorem State.dramTrained_fails {s : State} {ok : Bool} {g h : Nat} (hbad : ok = false ∨ g ≠ s.secLe 0x51 0 0 1 0 ∨ h ≠ s.secLe 0x51 0 0 1 0) :
    s.dramTrained ok g h = s.dramFail := by
  refine if_neg fun hall => ?_
  simp only [Bool.and_eq_true, beq_iff_eq] at hall
  obtain ⟨⟨hok, hg⟩, hh⟩ := hall
  rcases hbad with hbad | hbad | hbad
  · rw [hok] at hbad
    cases hbad
  · exact hbad hg
  · exact hbad hh

/-- An ordered reset stands with its journal (R220). -/
theorem State.hostReset_orders {s : State} (hnone : s.pwr.hostReset = none) (hloss : s.pwr.loss = none) : s.hostReset.pwr.hostReset.isSome := by
  have hfree : ¬ (s.pwr.hostReset.isSome || s.pwr.loss.isSome) = true := by simp [hnone, hloss]
  simp only [State.hostReset, if_neg hfree, Option.isSome_some]

/-- Settles O9, clause by clause. -/
theorem startUpCommandsComplete : Obligations.StartUpCommandsComplete := by
  unfold Obligations.StartUpCommandsComplete
  refine ⟨?bistGood, ?bistBad, ?chart, ?trained, ?untrained, ?dramReady, ?handover, ?late, ?ready, ?order, ?enter⟩
  case bistGood =>
    intro s hrun hstage hscan
    obtain ⟨u, hu⟩ := exec_bistEnd none hrun hstage hscan
    exact ⟨_, hu, u.stageTwo⟩
  case bistBad =>
    intro s b d hrun hstage hscan
    obtain ⟨u, hu⟩ := exec_bistEnd (some (b, d)) hrun hstage hscan
    exact ⟨_, hu, u.faultMode_effect (by decide)⟩
  case chart =>
    intro s d hstage hreset
    refine ⟨_, exec_chartStage d hstage hreset, rfl, fun hactive => ?_⟩
    rw [if_pos hactive]
    exact State.chartAbsent_effect _
  case trained =>
    intro s ok g h hrun hstage hdram hok hg hh
    subst hok
    exact ⟨_, (exec_dramInitComplete true g h hrun hstage).trans (by rw [if_pos hdram]), State.dramTrained_effect hg hh⟩
  case untrained =>
    intro s ok g h hrun hstage hdram hbad
    exact ⟨_, (exec_dramInitComplete ok g h hrun hstage).trans (by rw [if_pos hdram, State.dramTrained_fails hbad]), rfl,
      State.faultMode_effect _ (by decide)⟩
  case dramReady =>
    intro s ok g h hrun hstage hdram hticks
    rw [exec_dramInitComplete ok g h hrun hstage, if_neg (by omega), if_pos ⟨hdram, hticks⟩]
  case handover =>
    intro s hrun hstage hmedia hvm hpower htemp
    exact if_pos (by simp [hrun, hstage, hmedia, hvm, hpower, htemp])
  case late =>
    intro s st us hreset hvigil hruns hlate
    exact next_of_cond (by simp [hreset, hvigil, hruns, hlate]) _ _
  case ready =>
    intro s hrun hstage hdram hmedia hfab
    exact next_of_cond (by simp [hrun, hstage, hdram, hmedia, hfab]) _ _
  case order =>
    intro s hbar hnone hloss
    exact ⟨_, next_of_cond (by simp [hbar]) _ _, rfl, State.hostReset_orders hnone hloss⟩
  case enter =>
    intro s hreset hparked hbusy
    obtain ⟨r, hr⟩ := Option.isSome_iff_exists.mp hreset
    have harm : exec .hostResetEnter s = execHostResetEnter s := rfl
    refine ⟨_, ?_, rfl, s.enterReset_inReset 7⟩
    rw [harm, execHostResetEnter, hr]
    exact next_of_not (by simp [hparked, hbusy]) _ _

end Sys2Proof.Machine
end

section
/-! SUPPORT. The commands of the flash, the Gazetteer and the control engines: the statements O10, O11 and O12. -/

namespace Sys2Proof.Machine

/-! ### Flash operations (spec/05_chart.md) -/

/-- With no erase in progress or waiting, the background erase takes a half-erased sector that is neither worn nor of the chart. -/
theorem exec_flashBackgroundErase_half {s : State} {n : Nat} (hstage : 3 ≤ s.g SYS_BOOT_STAGE) (hreset : s.pwr.inReset = none)
    (hloss : s.pwr.loss = none) (hhalf : s.chart.half = [n]) (hworn : (s.wearOf n).state ≠ 2) (hchart : isChartSector (s.logicalSector n) = false)
    (hjobs : s.chart.jobs = []) (hbusy : s.chart.busy = none) :
    exec .flashBackgroundErase s = .next (s.flashAsk { prio := 6, erase := true, addr := s.logicalSector n * 65536, why := .half }) := by
  have harm : exec .flashBackgroundErase s = execFlashBackgroundErase s := rfl
  have hopen : ¬ (s.g SYS_BOOT_STAGE < 3 ∨ s.pwr.inReset.isSome = true ∨ s.pwr.loss.isSome = true) := by
    simp [hreset, hloss, hstage]
  rw [harm, execFlashBackgroundErase, if_neg hopen]
  simp [hhalf, hworn, hchart, hjobs, hbusy]

/-- With no half-erased sector it takes the used journal sector. -/
theorem exec_flashBackgroundErase_journal {s : State} (hstage : 3 ≤ s.g SYS_BOOT_STAGE) (hreset : s.pwr.inReset = none)
    (hloss : s.pwr.loss = none) (hhalf : s.chart.half = []) (hused : s.journalUsed 0) (hjobs : s.chart.jobs = []) (hbusy : s.chart.busy = none) :
    exec .flashBackgroundErase s = .next (s.flashAsk { prio := 6, erase := true, addr := 516 * 65536, why := .journal }) := by
  have harm : exec .flashBackgroundErase s = execFlashBackgroundErase s := rfl
  have hopen : ¬ (s.g SYS_BOOT_STAGE < 3 ∨ s.pwr.inReset.isSome = true ∨ s.pwr.loss.isSome = true) := by
    simp [hreset, hloss, hstage]
  rw [harm, execFlashBackgroundErase, if_neg hopen]
  simp [hhalf, hused, hjobs, hbusy]

/-- Settles O10, clause by clause. -/
theorem flashCommandsComplete : Obligations.FlashCommandsComplete := by
  unfold Obligations.FlashCommandsComplete
  refine ⟨?erase, ?page, ?mark, ?half, ?journal⟩
  case erase =>
    intro s n ok j hbusy herase hphase hreset
    have harm : exec (.flashEraseComplete n ok) s = execFlashEraseComplete n ok s := rfl
    rw [harm, execFlashEraseComplete, hbusy]
    exact next_of_not (by simp [herase, hphase, hreset]) _ _
  case page =>
    intro s ok us j hbusy herase hreset
    have harm : exec (.flashProgramComplete ok us) s = execFlashProgramComplete ok s us := rfl
    rw [harm, execFlashProgramComplete, hbusy]
    simp [herase, hreset]
  case mark =>
    intro s ok us j hbusy herase hphase hreset
    have harm : exec (.flashProgramComplete ok us) s = execFlashProgramComplete ok s us := rfl
    rw [harm, execFlashProgramComplete, hbusy]
    simp [herase, hphase, hreset]
  case half =>
    intro s n hstage hreset hloss hhalf hworn hchart hjobs hbusy
    exact exec_flashBackgroundErase_half hstage hreset hloss hhalf hworn hchart hjobs hbusy
  case journal =>
    intro s hstage hreset hloss hhalf hused hjobs hbusy
    exact exec_flashBackgroundErase_journal hstage hreset hloss hhalf hused hjobs hbusy

/-! ### The Gazetteer (spec/18_gazetteer.md) -/

theorem State.slotDone_slot (s : State) (b : Nat) : bitAt (s.slotDone b).clk.slots b = true := by
  rw [bitAt_testBit]
  exact setBit_testBit ..

theorem exec_persistentWrite {s : State} {e : PRec} {rest : List PRec} (hqueue : s.pqueue = e :: rest) (hrun : s.running)
    (hready : s.on GAZ_STAT_PREADY) (hdis : s.on GAZ_STAT_PDIS = false) (hloss : s.pwr.loss = none) (hwriting : s.gazWriting = false) :
    exec .persistentWrite s = .next (if s.sectorRoom e.r.len then s.programRecord e rest
      else if s.on GAZ_STAT_SEALED then { s with gaz := { s.gaz with pq := [] } }
      else if s.gaz.nextReady then s.gazTakeNext
      else s) := by
  have harm : exec .persistentWrite s = execPersistentWrite s := rfl
  rw [harm, execPersistentWrite, hqueue]
  exact if_pos (by simp [hrun, hready, hdis, hloss, hwriting])

/-- Settles O11, clause by clause. -/
theorem gazetteerCommandsComplete : Obligations.GazetteerCommandsComplete := by
  unfold Obligations.GazetteerCommandsComplete
  refine ⟨?snapshot, ?statistics, ?page, ?second, ?record, ?next, ?release⟩
  case snapshot =>
    intro s c hslot hchart hfree
    exact if_pos (by simp [hslot, hchart, hfree])
  case statistics =>
    intro s hslot
    exact ⟨_, next_of_cond hslot _ _, rfl, State.slotDone_slot _ 7⟩
  case page =>
    intro s hrun hpaged hdue
    exact next_of_cond (by simp [hrun, hpaged, hdue]) _ _
  case second =>
    intro s hrun hready hdue
    exact next_of_cond (by simp [hrun, hready, hdue]) _ _
  case record =>
    intro s e rest hqueue hrun hready hdis hloss hwriting hroom
    rw [exec_persistentWrite hqueue hrun hready hdis hloss hwriting, if_pos hroom]
  case next =>
    intro s e rest hqueue hrun hready hdis hloss hwriting hroom hsealed hnext
    rw [exec_persistentWrite hqueue hrun hready hdis hloss hwriting, if_neg (by simp [hroom]), if_neg (by simp [hsealed]), if_pos hnext]
  case release =>
    intro s n x e hxfer hrun hx he
    have harm : exec (.ringHoldRelease n) s = execRingHoldRelease n s := rfl
    have hin : ¬ (n < x ∨ e < n ∨ (!s.running) = true) := by
      rw [hrun]
      simp
      omega
    rw [harm, execRingHoldRelease, hxfer]
    exact (if_neg hin).trans (if_pos he)

/-! ### The control engines (spec/09_control_engine.md) -/

/-- An armed trace is triggered: the samples left are those after the trigger, and the one of this tick where it has not been written yet. -/
theorem State.trcTrigger_left {s : State} {k : Nat} (post : Nat) (harmed : s.gk CTL_TRCSTAT_STATE k = 1) :
    Tbl.getD (s.trcTrigger k post).trcLeft k 0 = post + if Tbl.find s.trcTick k = some s.clk.tick then 0 else 1 := by
  rw [State.trcTrigger, if_pos harmed]
  simp [Tbl.getD, Tbl.find_put_same]

/-- Settles O12, clause by clause. -/
theorem engineCommandsComplete : Obligations.EngineCommandsComplete := by
  unfold Obligations.EngineCommandsComplete
  refine ⟨?run, ?safe, ?arm, ?stop, ?trig, ?captured⟩
  case run =>
    intro s k x hslot hact hstop
    exact next_of_cond (by simp [hslot, hact, hstop]) _ _
  case safe =>
    intro s k h hsafe hrun hclean hend
    have harm : exec (.safeHoldEnd k) s = execSafeHoldEnd k s := rfl
    rw [harm, execSafeHoldEnd, hsafe]
    exact next_of_cond (by simp [hrun, hclean, hend]) _ _
  case arm =>
    intro s k hbar hbench
    have harmed : s.traceArm k = _ := if_neg (by simpa using Option.isSome_iff_ne_none.mp hbench)
    exact (next_of_cond hbar _ _).trans (by rw [harmed]; rfl)
  case stop =>
    intro s k hbar hstate
    refine ⟨_, next_of_cond hbar _ _, rfl, ?_⟩
    exact (State.trcTrigger_left 0 hstate).trans (Nat.zero_add _)
  case trig =>
    intro s k hbar hstate
    exact ⟨_, next_of_cond hbar _ _, rfl, State.trcTrigger_left _ hstate⟩
  case captured =>
    intro s k hrun hstate hleft
    exact ⟨_, next_of_cond (by simp [hrun, hstate, hleft]) _ _, rfl, State.raise_evtPend _ (by decide)⟩

end Sys2Proof.Machine
end

section
/-! SUPPORT. The commands of the boundary-scan port, of the debug port and of the endpoint: the statements O13, O14 and O15. -/

namespace Sys2Proof.Machine

/-! ### The boundary-scan port (R659, Table TST-7) -/

theorem State.tapDrive_enabled {s : State} (h : s.on PIN_STRAP_SCANHOLD) (op : Nat) (f : Tap → Tap) :
    s.tapDrive op f = s.setTap (f { s.tst.tap with ir := op, driven := 0 }) := if_pos h

theorem State.tapDrive_disabled {s : State} (h : s.on PIN_STRAP_SCANHOLD = false) (op : Nat) (f : Tap → Tap) :
    s.tapDrive op f = s.tapBypass op := if_neg (by simp [h])

/-- A test instruction with the compliance enable drives the pins from its cells. -/
theorem State.tapTest_enabled {s : State} (h : s.on PIN_STRAP_SCANHOLD) (op cells pins : Nat) :
    s.tapTest op cells pins =
      s.setTap { s.tst.tap with ir := op, sel := 2, cells := cells, capture := pins, drive := 1, driven := drivingCells } :=
  State.tapDrive_enabled h op _

/-- A code that no instruction has selects bypass. -/
theorem exec_bypass {s : State} {op : BitVec 8} (hop : op.toNat = 3 ∨ 8 ≤ op.toNat) : exec (.bypass op) s = .next (s.tapBypass op.toNat) := by
  refine next_of_not ?_ _ _
  simp only [List.contains_eq_mem, List.mem_cons, List.not_mem_nil, or_false, decide_eq_true_eq]
  omega

/-- Settles O13 (R659), clause by clause. -/
theorem testPortCommandsComplete : Obligations.TestPortCommandsComplete := by
  unfold Obligations.TestPortCommandsComplete
  refine ⟨fun s => rfl, ?extest, ?pulse, ?train, ?extestOff, ?pulseOff, ?trainOff, fun s => rfl, fun s cells pins => rfl, ?highz, ?highzOff,
    ?clamp, ?clampOff, fun s op hop => exec_bypass hop⟩
  case extest => exact fun s cells pins h => congrArg _ (State.tapTest_enabled h 0 _ _)
  case pulse => exact fun s cells pins h => congrArg _ (State.tapTest_enabled h 6 _ _)
  case train => exact fun s cells pins h => congrArg _ (State.tapTest_enabled h 7 _ _)
  case extestOff => exact fun s cells pins h => congrArg _ (State.tapDrive_disabled h 0 _)
  case pulseOff => exact fun s cells pins h => congrArg _ (State.tapDrive_disabled h 6 _)
  case trainOff => exact fun s cells pins h => congrArg _ (State.tapDrive_disabled h 7 _)
  case highz => exact fun s h => congrArg _ (State.tapDrive_enabled h 4 _)
  case highzOff => exact fun s h => congrArg _ (State.tapDrive_disabled h 4 _)
  case clamp => exact fun s h => congrArg _ (State.tapDrive_enabled h 5 _)
  case clampOff => exact fun s h => congrArg _ (State.tapDrive_disabled h 5 _)

/-! ### The debug port (R662, R663, R666) -/

/-- Settles O14 (R662, R663, R666), clause by clause. -/
theorem debugCommandsComplete : Obligations.DebugCommandsComplete := by
  unfold Obligations.DebugCommandsComplete
  refine ⟨?opens, ?closes, ?write, ?read, ?arm⟩
  case opens =>
    intro s hbar hchart hlock hclosed
    have hopens : s.dbgCtl true 0x0DB6 = (s.p TST_DBGCTL_OPEN 1).raise 27 := State.dbgCtl_opens ⟨hchart, hlock⟩ hclosed
    refine ⟨_, next_of_cond hbar _ _, hopens, State.dbgCtl_opens_on ⟨hchart, hlock⟩ hclosed⟩
  case closes =>
    intro s hbar
    exact ⟨_, next_of_cond hbar _ _, rfl, s.on_p_zero TST_DBGCTL_OPEN⟩
  case write =>
    intro s i v hbar hopen hdev hsolid
    rw [exec_tstDbgwinWrite_open hbar, State.dbgWrite_stores hopen hdev hsolid]
    rfl
  case read =>
    intro s i hbar hopen hsolid
    rw [exec_tstDbgwinRead_open hbar, State.dbgRead_open hopen hsolid]
  case arm =>
    intro s m hbar
    exact next_of_cond hbar _ _

/-! ### The endpoint (R680, R691) -/

/-- The answer to a configuration request of function `fn`, with retry status or without. -/
def State.configAnswer (s : State) (fn : Fin 16) (retry : Bool) : State :=
  s.emit (.config fn retry (s.secLe 0x60 0 0 1 0) (s.secLe 0x60 0 2 2 0) (s.secLe 0x60 0 4 2 0) (128 * 2 ^ s.secLe 0x60 0 6 1 0)
    (s.gk MQP_CAP_VECN fn - 1))

theorem exec_pcieConfigRequest {s : State} (fn : Fin 16) (dc : Option DevCtl) (hrun : s.running) (hperst : s.boot.perst = false)
    (hup : s.on MQP_PCIE_UP) :
    exec (.pcieConfigRequest fn dc) s = .next ((match dc with
      | some d => if decide (s.g SYS_BOOT_STAGE < 3) || !s.fnOn fn then s else { s with devctl := Tbl.put s.devctl fn d }
      | none => s : State).configAnswer fn (decide (s.g SYS_BOOT_STAGE < 3))) :=
  next_of_cond (by simp [hrun, hperst, hup]) _ _

/-- Settles O15 (R680, R691), clause by clause. -/
theorem endpointCommandsComplete : Obligations.EndpointCommandsComplete := by
  unfold Obligations.EndpointCommandsComplete
  refine ⟨?link, ?untaken, ?taken, ?i2c⟩
  case link =>
    intro s sp l hrun hperst hstage
    exact next_of_cond (by simp [hrun, hperst, hstage]) _ _
  case untaken =>
    intro s fn dc hrun hperst hup hnot
    rw [exec_pcieConfigRequest fn dc hrun hperst hup]
    cases dc with
    | none => rfl
    | some d =>
      have hskip : (decide (s.g SYS_BOOT_STAGE < 3) || !s.fnOn fn) = true := by
        rcases hnot with h | h | h
        · simp [h]
        · simp [h]
        · cases h
      dsimp only
      rw [if_pos hskip]
      rfl
  case taken =>
    intro s fn d hrun hperst hup hstage hfn
    have htake : ¬ (decide (s.g SYS_BOOT_STAGE < 3) || !s.fnOn fn) = true := by simp [hfn, hstage]
    have hretry : decide (s.g SYS_BOOT_STAGE < 3) = false := by simp [hstage]
    refine ⟨_, exec_pcieConfigRequest fn (some d) hrun hperst hup, ?_, ?_⟩
    · dsimp only
      rw [if_neg htake, hretry]
      rfl
    · dsimp only
      rw [if_neg htake]
      exact Tbl.find_put_same ..
  case i2c =>
    intro s a hrun h0 h1 haddr
    exact next_of_cond (by simp [hrun, h0, h1, haddr]) _ _

end Sys2Proof.Machine
end

section
/-! SUPPORT. The commands of benches, DRAM, slabs and credits, and the statement O16. -/

namespace Sys2Proof.Machine

/-! ### DRAM reads -/

/-- The fetch of a block counts accesses and touches nothing else. -/
theorem State.dramFetch_eq (s : State) (k b : Nat) : ∃ acc : Tbl Nat, s.dramFetch k b = { s with dramAcc := acc } :=
  List.foldlRecOn (motive := fun t : State => ∃ acc : Tbl Nat, t = { s with dramAcc := acc }) _ _ ⟨_, rfl⟩ fun t ht i _ => by
    obtain ⟨acc, rfl⟩ := ht
    exact ⟨_, rfl⟩

/-- A DRAM read of a good line that still is wanted: the block is fetched where a slab holds it, and served. -/
theorem exec_dramReadComplete {s : State} {r l v : Nat} (n : Fin 64) (o : Bool) (hvol : s.readerVol r = some v) (hrun : s.running)
    (hstate : 3 ≤ s.g DRM_STAT_STATE) (hread : s.dreads.contains (r, l)) (hbad : s.slabBad v l = false) :
    exec (.dramReadComplete r l n .ok o) s = .next (match s.slabOf false v (l / 256) with
      | some e => ({ s.dramFetch e.1 (l % 256) with dreads := s.dreads.erase (r, l) } : State).dramServed r v l
      | none => ({ s with dreads := s.dreads.erase (r, l) } : State).dramServed r v l) := by
  have harm : exec (.dramReadComplete r l n .ok o) s = execDramReadComplete r l n .ok s o := rfl
  have hwanted : ¬ (!s.dreads.contains (r, l) || s.slabBad v l) = true := by
    rw [hread, hbad]
    exact Bool.false_ne_true
  rw [harm, execDramReadComplete, hvol]
  dsimp only
  rw [hrun, decide_eq_true hstate, hread, hbad, if_pos (by decide)]
  cases s.slabOf false v (l / 256) with
  | none => exact next_of_not hwanted _ _
  | some e =>
    obtain ⟨acc, hfetch⟩ := s.dramFetch_eq e.1 (l % 256)
    simp only [State.lineCheck, hfetch]
    exact next_of_not hwanted _ _

/-! ### The scrub (R401) -/

/-- The state in which the patrol looks at a line: its read is counted. -/
def State.scrubbed (s : State) : State := s.dramCount (dramCh (512 * s.g DRM_SCRUB + 64 * s.scrubLine)) false 1

/-- The patrol's read of a line that is not the first and needs no write-back. -/
theorem exec_scrubRead {s : State} {c : DramCls} {u : TableUse} {o : Bool} (hmay : s.scrubMay) (hline : s.scrubLine ≠ 0)
    (hwrite : c ≠ .corrected ∨ o = true) :
    exec (.scrubRead c u o) s = .next ((s.scrubbed.lineCheck (512 * s.g DRM_SCRUB + 64 * s.scrubLine) u c o).scrubNext) := by
  have harm : exec (.scrubRead c u o) s = execScrubRead c u s o := rfl
  have hmiddle : ¬ (s.scrubLine = 0 ∧ s.g DRM_SCRUB = 0) := fun h => hline h.1
  have hclean : ¬ (c = .corrected ∧ o = false) := by
    rintro ⟨h, h'⟩
    exact hwrite.elim (fun hc => hc h) (fun ho => by simp [ho] at h')
  rw [harm, execScrubRead, if_pos hmay]
  simp only [if_neg hmiddle, if_neg hclean]
  rfl

/-! ### Credits -/

theorem exec_creditRefresh {s : State} (a b : Nat) (hslot : s.slotOpen 6) (hchart : s.chart.applied) :
    ∃ t : State, exec (.creditRefresh a b) s = .next t ∧
      t.credit = (List.range 16).map fun fn => (fn, (((s.atCycle 520).benchPublish (a + b)).slotDone 6).creditOf fn) := by
  refine ⟨_, if_pos (by simp [hslot, hchart]), ?_⟩
  exact List.foldlRecOn (motive := fun t : State => t.credit = _) _ _ rfl fun t ht fn _ => ht

/-- Settles O16, clause by clause. -/
theorem memorySystemCommandsComplete : Obligations.MemorySystemCommandsComplete := by
  unfold Obligations.MemorySystemCommandsComplete
  refine ⟨?lost, ?counted, ?absent, ?fetched, ?write, ?scrub, ?scrubOther, ?training, fun s m => ?trained, ?masters, fun s a b => exec_creditRefresh a b⟩
  case lost =>
    intro s m o hrun hlast
    have hfresh : ¬ (Tbl.find s.bench.last m).any (·.2) = true := by simp only [hlast, Bool.false_eq_true, not_false_eq_true]
    exact (next_of_not (by simp [hrun]) _ _).trans (congrArg _ (if_neg hfresh))
  case counted =>
    intro s m o hrun hlast
    exact (next_of_not (by simp [hrun]) _ _).trans (congrArg _ (if_pos hlast))
  case absent =>
    intro s r l v n o hvol hrun hstate hread hbad hslab
    rw [exec_dramReadComplete n o hvol hrun hstate hread hbad, hslab]
  case fetched =>
    intro s r l v n o e hvol hrun hstate hread hbad hslab
    rw [exec_dramReadComplete n o hvol hrun hstate hread hbad, hslab]
  case write =>
    intro s i p e hpiece hrun hphase hread hstaged hstate hslab
    have harm : exec (.dramWriteComplete i) s = execDramWriteComplete i s := rfl
    rw [harm, execDramWriteComplete, hpiece]
    exact (if_pos (by simp [hrun, hphase, hread, hstaged, hstate])).trans (by rw [hslab])
  case scrub =>
    intro s u o hmay hline
    exact exec_scrubRead hmay hline (.inl (by decide))
  case scrubOther =>
    intro s c u o hmay hline hwrite
    exact exec_scrubRead hmay hline hwrite
  case training =>
    intro s m hrun hstate hfault
    have hfaulty : s.channelFault m = _ := if_neg (by simp [hfault])
    exact ⟨_, (next_of_cond (by simp [hrun, hstate]) _ _).trans (by rw [hfaulty]), rfl, State.raise_evtPend _ (by decide)⟩
  case trained => exact next_of_not (by simp) _ _
  case masters =>
    intro s c hrun
    exact next_of_cond hrun _ _

end Sys2Proof.Machine
end

section
/-! SUPPORT. The commands of a spindle start, and the statement O17. -/

namespace Sys2Proof.Machine

/-- The spindle machine is in the state that it enters (Table SPN-2). -/
theorem State.enterSpn_state (s : State) {st : Nat} (hst : st < 2 ^ SPN_STAT_STATE.w) : (s.enterSpn st).g SPN_STAT_STATE = st := by
  have hstored : (s.p SPN_STAT_STATE st).g SPN_STAT_STATE = st := (s.g_p_same SPN_STAT_STATE st).trans (Nat.mod_eq_of_lt hst)
  have hclear : ∀ u : State, ((u.p SPN_STAT_AT_SPEED 0).p SPN_STAT_WB_OK 0).g SPN_STAT_STATE = u.g SPN_STAT_STATE := fun u =>
    (State.g_p_ne _ 0 (by decide)).trans (u.g_p_ne 0 (by decide))
  unfold State.enterSpn
  extract_lets s1 b x s2 s3
  split
  · exact hstored
  · exact (hclear s2).trans hstored

theorem exec_spindleStartOrder {s : State} {src : Nat} (horder : s.spn.order = some src) (hrun : s.running) (hrect : s.on SPN_STAT_RECT = false)
    (hfailed : s.g SPN_STAT_STATE ≠ 10)
    (hready : (s.g SPN_STAT_STATE ≠ 2 ∧ s.g SPN_STAT_STATE ≠ 9) ∨ s.spn.orderEdge < s.clk.edges) :
    exec .spindleStartOrder s = .next (((s.p SPN_STAT_ATTEMPT 0).enterSpn 1).setSpn fun p => { p with
      order := none, source := some src, brakeTicks := 0, confRun := 0, spin := none, listen := { start := ((s.p SPN_STAT_ATTEMPT 0).enterSpn 1).instant } }) := by
  have harm : exec .spindleStartOrder s = execSpindleStartOrder s := rfl
  rw [harm, execSpindleStartOrder, horder]
  exact if_pos (by simp [hrun, hrect, hfailed, hready])

/-- The end of a brake goes by what the spindle was braked for (R231, R250, R253). -/
theorem exec_brakeEnd {s : State} {a b : Nat} (hrun : s.running) (hstate : s.g SPN_STAT_STATE = 2) (hwin : 2 ≤ s.spn.winRun) (ha : a < 30 * s.ke)
    (hb : b < 30 * s.ke) :
    exec (.brakeEnd a b) s = match s.spn.brakeWhy with
      | 0 => .next ((s.setSpn fun p => { p with brakeTicks := p.brakeTicks + s.spnFor }).attempt 3)
      | 1 => .next ((s.enterSpn 0).standbyReached)
      | _ => .next ((s.lossRecord 2).spindleFail) :=
  if_pos (by simp [hrun, hstate, hwin, ha, hb])

theorem State.attempt_state (s : State) {st : Nat} (hst : st < 2 ^ SPN_STAT_STATE.w) : (s.attempt st).g SPN_STAT_STATE = st :=
  State.enterSpn_state (s.p SPN_STAT_ATTEMPT (min 3 (s.g SPN_STAT_ATTEMPT + 1))) hst

theorem exec_atSpeed {s : State} (hrun : s.running) (hstate : s.g SPN_STAT_STATE = 7) (hspeed : s.on SPN_STAT_AT_SPEED = false)
    (hband : 250 ≤ s.spn.bandRun) :
    exec .atSpeed s = match s.spn.source with
      | none => .next ((s.p SPN_STAT_AT_SPEED 1).raise 80)
      | some src => .next (((s.p SPN_STAT_AT_SPEED 1).raise 80).orderDone src) := by
  have hsource : ((s.p SPN_STAT_AT_SPEED 1).raise 80).spn.source = s.spn.source := by rw [State.raise_spn, State.p_spn]
  rw [← hsource]
  exact if_pos (by simp [hrun, hstate, hspeed, hband])

/-- Settles O17, clause by clause. -/
theorem spindleStartCommandsComplete : Obligations.SpindleStartCommandsComplete := by
  unfold Obligations.SpindleStartCommandsComplete
  refine ⟨?order, ?listened, ?silent, ?brakeAttempt, ?brakeStandby, ?brakeFailed, ?align, ?success, ?fail, ?band, ?speed, ?speedFor, ?limit⟩
  case order =>
    intro s src horder hrun hrect hfailed hready
    exact ⟨_, exec_spindleStartOrder horder hrun hrect hfailed hready, rfl, State.enterSpn_state _ (by decide), rfl, rfl⟩
  case listened =>
    intro s i c n v hcase hrun hstate
    have harm : exec (.listenEnd i) s = execListenEnd i s := rfl
    rw [harm, execListenEnd, hcase]
    exact next_of_cond (by simp [hrun, hstate]) _ _
  case silent =>
    intro s i hcase
    have harm : exec (.listenEnd i) s = execListenEnd i s := rfl
    rw [harm, execListenEnd, hcase]
  case brakeAttempt =>
    intro s a b hrun hstate hwin ha hb hwhy
    exact ⟨_, (exec_brakeEnd hrun hstate hwin ha hb).trans (by rw [hwhy]; rfl), rfl, State.attempt_state _ (by decide)⟩
  case brakeStandby =>
    intro s a b hrun hstate hwin ha hb hwhy
    rw [exec_brakeEnd hrun hstate hwin ha hb, hwhy]
    rfl
  case brakeFailed =>
    intro s a b hrun hstate hwin ha hb hwhy
    rw [exec_brakeEnd hrun hstate hwin ha hb, hwhy]
    rfl
  case align =>
    intro s hrun hstate hticks
    exact ⟨_, next_of_cond (by simp [hrun, hstate, hticks]) _ _, rfl, s.enterSpn_state (by decide)⟩
  case success =>
    intro s hrun hhandoff hconf
    exact ⟨_, next_of_cond (by simp [hrun, hhandoff, hconf]) _ _, rfl, s.enterSpn_state (by decide)⟩
  case fail =>
    intro s hrun hhandoff hconf hlimit
    exact next_of_cond (by simp only [hrun, hhandoff, hconf, hlimit, decide_true, Bool.and_self]) _ _
  case band =>
    intro s hrun hstate hband
    exact ⟨_, next_of_cond (by simp [hrun, hstate, hband]) _ _, rfl, s.enterSpn_state (by decide)⟩
  case speed =>
    intro s hrun hstate hspeed hband hsource
    refine ⟨_, (exec_atSpeed hrun hstate hspeed hband).trans (by rw [hsource]), rfl, ?_, State.raise_evtPend _ (by decide)⟩
    rw [State.on, State.raise_g _ _ (by decide)]
    exact s.on_p_one rfl
  case speedFor =>
    intro s src hrun hstate hspeed hband hsource
    rw [exec_atSpeed hrun hstate hspeed hband, hsource]
  case limit =>
    intro s hrun hsource hlimit
    exact ⟨_, next_of_cond (by simp [hrun, hsource, hlimit]) _ _, rfl, State.raise_evtPend _ (by decide)⟩

end Sys2Proof.Machine
end

section
/-! SUPPORT. The commands of the running spindle, and the statement O18. -/

namespace Sys2Proof.Machine

theorem State.brakeUpdate_regs (s : State) (x : ObsIn) : (s.brakeUpdate x).regs = s.regs := by
  unfold State.brakeUpdate
  split
  · rfl
  · split <;> rfl

/-- The observer's update stores the confidence that it computes (R242). -/
theorem State.observed_conf (s : State) (x : ObsIn) : (s.observed x).g SPN_OBS_CONF = s.newConf x % 256 := by
  have hstored : (((s.p SPN_OBS_CONF (s.newConf x)).p SPN_SPEED_SPEED (ofSigned 21 x.speed)).p SPN_OBS_IAMP x.iamp).g SPN_OBS_CONF = s.newConf x % 256 := by
    rw [State.g_p_ne _ _ (by decide), State.g_p_ne _ _ (by decide), State.g_p_same]
    rfl
  unfold State.observed
  extract_lets c s1 s2 st r w s3 s4
  have hlisten : s4.regs = s1.regs := by
    simp only [s4]
    split
    · rfl
    · split
      · exact s3.brakeUpdate_regs x
      · rfl
  have hconf : s4.g SPN_OBS_CONF = s.newConf x % 256 := (congrArg (fun r : RegFile => r.get SPN_OBS_CONF 0 0) hlisten).trans hstored
  split
  · exact (s4.g_p_ne 0 (by decide)).trans hconf
  · exact hconf

theorem exec_observerUpdate {s : State} (x : ObsIn) (hrun : s.running) :
    exec (.observerUpdate x) s = .next (if decide (s.newConf x < s.spnLe 22 1) && (s.g SPN_STAT_STATE == 6 || s.g SPN_STAT_STATE == 7)
      then (s.observed x).rotorLoss 1 else s.observed x) := if_pos hrun

/-- The write band is in force again; its event goes with the band that was left (R240). -/
theorem exec_writeBandResume {s : State} (hrun : s.running) (hstate : s.g SPN_STAT_STATE = 7) (hok : s.on SPN_STAT_WB_OK = false)
    (hticks : 25 ≤ s.spn.wbRun) :
    exec .writeBandResume s = .next (if s.spn.wbOut then (((s.p SPN_STAT_WB_OK 1).setSpn fun p => { p with wbOut := false }).reissue.raise 88)
      else (s.p SPN_STAT_WB_OK 1).setSpn fun p => { p with wbOut := false }) := if_pos (by simp [hrun, hstate, hok, hticks])

/-- A listen window of the rotor-loss sequence ends (R246, R247). -/
theorem exec_recoverListenWindow {s : State} {l : Loss} (hloss : s.spn.loss = some l) (hrun : s.running) (hstate : s.g SPN_STAT_STATE = 8)
    (hwindow : (l.periods + 1) * coastPeriod ≤ (s.instant - l.at_) * l.fc) {ok : Bool}
    (hok : decide (s.spnLe 22 1 + s.spnLe 23 1 ≤ s.g SPN_OBS_CONF) = ok) :
    exec .recoverListenWindow s = .next (s.setSpn fun p => { p with loss := some { l with
      periods := l.periods + 1
      okRun := if ok then l.okRun + 1 else 0
      back := decide (2 ≤ if ok then l.okRun + 1 else 0) && nearFc s.speed.natAbs s.poles l.fc } }) := by
  subst hok
  have harm : exec .recoverListenWindow s = execRecoverListenWindow s := rfl
  rw [harm, execRecoverListenWindow, hloss]
  exact if_pos (by simp [hrun, hstate, hwindow])

theorem exec_reacquisitionFail {s : State} {l : Loss} (hloss : s.spn.loss = some l) (hrun : s.running) (hstate : s.g SPN_STAT_STATE = 8)
    (hperiods : 16 ≤ l.periods) (hback : l.back = false) :
    ∃ (u : State) (r : Option (List Nat)), exec .reacquisitionFail s = .next ((u.enterSpn 9).setSpn fun p => { p with restart := r }) := by
  have harm : exec .reacquisitionFail s = execReacquisitionFail s := rfl
  rw [harm, execReacquisitionFail, hloss]
  exact ⟨_, _, if_pos (by simp [hrun, hstate, hperiods, hback])⟩

/-- In COAST the bridge is off (R225). -/
theorem State.enterSpn_bridge (s : State) : (s.enterSpn 9).spn.bridge = .off := rfl

theorem exec_standbyBrakeStart {s : State} (hrun : s.running) (hentering : s.pwr.entering.isSome) (hparked : s.allParked) :
    exec .standbyBrakeStart s = .next (if s.g SPN_STAT_STATE = 7 ∨ s.g SPN_STAT_STATE = 9 then s.spindleBrakeFor 1
      else if s.g SPN_STAT_STATE = 0 ∨ s.g SPN_STAT_STATE = 10 then s.standbyReached else s) := if_pos (by simp [hrun, hentering, hparked])

theorem exec_brakeMaxExpiry {s : State} (hrun : s.running) (hstate : s.g SPN_STAT_STATE = 2) (hlimit : 25000 * s.spnLe 26 2 ≤ s.spnFor) :
    exec .brakeMaxExpiry s = if s.spn.brakeWhy = 1 then .next (((s.enterSpn 9).raise 90).standbyReached)
      else .next (((s.lossRecord 2).spindleFail).raise 90) := if_pos (by simp [hrun, hstate, hlimit])

/-- Settles O18, clause by clause. -/
theorem spindleRunCommandsComplete : Obligations.SpindleRunCommandsComplete := by
  unfold Obligations.SpindleRunCommandsComplete
  refine ⟨?slot, ?observe, ?observeRunning, ?resume, ?resumeOut, ?overcurrent, ?windowBad, ?windowGood, ?reacquire, ?restart, ?relock, ?brake,
    ?noBrake, ?standbyLimit, ?brakeLimit, ?retract⟩
  case slot =>
    intro s hslot
    exact if_pos hslot
  case observe =>
    intro s x hrun h6 h7
    exact ⟨_, (exec_observerUpdate x hrun).trans (congrArg _ (if_neg (by simp [h6, h7]))), rfl, s.observed_conf x⟩
  case observeRunning =>
    intro s x hrun hstate
    have hon : (s.g SPN_STAT_STATE == 6 || s.g SPN_STAT_STATE == 7) = true := by simpa using hstate
    rw [exec_observerUpdate x hrun, hon]
    simp only [Bool.and_true, decide_eq_true_eq]
  case resume =>
    intro s hrun hstate hok hticks hout
    refine ⟨_, (exec_writeBandResume hrun hstate hok hticks).trans (congrArg _ (if_neg (by simp [hout]))), rfl, ?_⟩
    exact s.on_p_one (F := SPN_STAT_WB_OK) rfl
  case resumeOut =>
    intro s hrun hstate hok hticks hout
    refine ⟨_, (exec_writeBandResume hrun hstate hok hticks).trans (congrArg _ (if_pos hout)), rfl, State.raise_evtPend _ (by decide), ?_⟩
    rw [State.raise_spn]
    rfl
  case overcurrent =>
    intro s i hrun htrip hstate
    refine (if_pos (by simp only [hrun, htrip, decide_true, Bool.and_self])).trans (congrArg _ ?_)
    exact (if_neg (by omega)).trans (if_pos hstate)
  case windowBad =>
    intro s l hloss hrun hstate hwindow hconf
    rw [exec_recoverListenWindow hloss hrun hstate hwindow (decide_eq_false (by omega))]
    simp
  case windowGood =>
    intro s l hloss hrun hstate hwindow hconf
    rw [exec_recoverListenWindow hloss hrun hstate hwindow (decide_eq_true hconf)]
    simp only [if_true]
  case reacquire =>
    intro s l hloss hrun hstate hperiods hback
    obtain ⟨u, r, hu⟩ := exec_reacquisitionFail hloss hrun hstate hperiods hback
    exact ⟨_, hu, u.enterSpn_state (by decide), u.enterSpn_bridge⟩
  case restart =>
    intro s hrun hstate hrestart hparked horder
    refine ⟨_, next_of_cond (by simp [hrun, hstate, hrestart, hparked, horder]) _ _, rfl, ?_⟩
    rw [State.spindleStart, if_neg (by omega)]
  case relock =>
    intro s hrun hticks
    exact next_of_cond (by simp [hrun, hticks]) _ _
  case brake =>
    intro s hrun hentering hparked hstate
    exact ⟨_, (exec_standbyBrakeStart hrun hentering hparked).trans (congrArg _ (if_pos hstate)), rfl, rfl, s.enterSpn_state (by decide)⟩
  case noBrake =>
    intro s hrun hentering hparked hstate
    exact (exec_standbyBrakeStart hrun hentering hparked).trans (congrArg _ ((if_neg (by omega)).trans (if_pos hstate)))
  case standbyLimit =>
    intro s hrun hstate hlimit hwhy
    exact (exec_brakeMaxExpiry hrun hstate hlimit).trans (if_pos hwhy)
  case brakeLimit =>
    intro s hrun hstate hlimit hwhy
    exact ⟨_, (exec_brakeMaxExpiry hrun hstate hlimit).trans (if_neg hwhy), rfl, State.raise_evtPend _ (by decide)⟩
  case retract =>
    intro s hrect hretr
    exact next_of_cond (by simp [hrect, hretr]) _ _

end Sys2Proof.Machine
end

section
/-! SUPPORT. The commands of the servo, and the statement O19. -/

namespace Sys2Proof.Machine

/-- A seek that is ordered stands as the actuator's seek, to begin at the next estimate (R265). -/
theorem State.orderSeek_act (s : State) (k : Nat) (q : Seek) : ((s.orderSeek k q).act k).seek = some q ∧ ((s.orderSeek k q).act k).go := by
  rw [State.orderSeek, State.act_setAct_same]
  exact ⟨rfl, rfl⟩

/-- The guard re-enables the gate: its episode is over, the flag clears, and the guard record is made (R277). -/
theorem exec_guardReenable {s : State} {k : Fin 4} {g : Guard} (hguard : (s.act k).guard = some g) (hrun : s.running) (hticks : s.wgN k ≤ g.run) :
    exec (.guardReenable k) s = .next ((((s.setAct k fun a => { a with guard := none }).pk SRV_STAT_GUARD k 0).fresh).record
      (mkRec 0x0D 48 [(16, 8, g.ts), (24, 8, ((s.setAct k fun a => { a with guard := none }).pk SRV_STAT_GUARD k 0).fresh.now), (32, 1, k.val), (33, 1, g.cause),
        (34, 2, min (roundFree g.peak 64 (((s.setAct k fun a => { a with guard := none }).pk SRV_STAT_GUARD k 0).freeAt 0)) 65535),
        (36, 2, g.abandoned)])) := by
  have harm : exec (.guardReenable k) s = execGuardReenable k s := rfl
  rw [harm, execGuardReenable, hguard]
  exact if_pos (by simp [hrun, hticks])

theorem State.guardOff_act (s : State) (k : Nat) (r : Rec) :
    (((((s.setAct k fun a => { a with guard := none }).pk SRV_STAT_GUARD k 0).fresh).record r).act k).guard = none := by
  have hacts : ∀ u : State, (((u.pk SRV_STAT_GUARD k 0).fresh).record r).act k = u.act k := by
    intro u
    rw [State.act, State.record_acts]
    rfl
  rw [hacts, State.act_setAct_same]

/-- A seek passes its time limit (R267): a second time it fails. -/
theorem exec_seekTimeout {s : State} {k : Fin 4} {q : Seek} (hseek : (s.act k).seek = some q) (hrun : s.running) (harriving : (s.act k).arriving = false)
    (hstate : s.actSt k = 3 ∨ s.actSt k = 4 ∨ (s.actSt k = 2 ∧ s.onk SRV_STAT_RREADY k = false))
    (hlimit : (s.prof k (s.act k).row).tmax ≤ s.clk.edges - (s.act k).seekEdge) (hsafe : (Tbl.getD s.eng k.val {}).safe = none)
    (hgo : (s.act k).go = false) :
    ∃ u : State, exec (.seekTimeout k) s = if (s.act k).again then .next (s.seekFail k q)
      else .next (u.setAct k fun a => { a with go := true, again := true, cur := none }) := by
  have harm : exec (.seekTimeout k) s = execSeekTimeout k s := rfl
  have hopen : (s.actSt k == 3 || s.actSt k == 4 || (s.actSt k == 2 && !s.onk SRV_STAT_RREADY k)) = true := by
    simpa [or_assoc] using hstate
  rw [harm, execSeekTimeout, hseek]
  exact ⟨_, if_pos (by simp only [hrun, harriving, hgo, hopen, hsafe, hlimit, Option.isNone_none, decide_true, Bool.not_false, Bool.and_self])⟩

/-- Sixteen estimates with the ID in a row: the seek that waited begins, or the one of a load to where the heads came down (R281). -/
theorem exec_headSwitchAcquire {s : State} {k : Fin 4} (hrun : s.running) (hacq : 16 ≤ (s.act k).acq) (hstate : s.actSt k = 5) {q : Seek}
    (hseek : (s.act k).seek = some q) : exec (.headSwitchAcquire k) s = .next (s.startSeek k q) := by
  refine (if_pos (by simp [hrun, hacq, hstate])).trans ?_
  rw [hseek]

/-- Settles O19, clause by clause. -/
theorem servoCommandsComplete : Obligations.ServoCommandsComplete := by
  unfold Obligations.ServoCommandsComplete
  refine ⟨?estimate, ?guard, ?loss, ?seek, ?switch, ?settle, ?underway, ?readReady, ?writeReady, ?timeoutAgain, ?timeout, ?acquire, ?acquireLoad,
    ?acquireFail⟩
  case estimate =>
    intro s k j x hrun hact
    exact next_of_cond (by simp [hrun, hact]) _ _
  case guard =>
    intro s k g hguard hrun hticks
    exact ⟨_, exec_guardReenable hguard hrun hticks, rfl, s.guardOff_act k _⟩
  case loss =>
    intro s k hrun hlow hhigh hinv
    exact next_of_cond (by simp [hrun, hlow, hhigh, hinv]) _ _
  case seek =>
    intro s k h tr w hmay
    exact ⟨_, next_of_cond hmay _ _, rfl, s.orderSeek_act k _⟩
  case switch =>
    intro s k h tr w hmay hhead
    exact ⟨_, next_of_cond (by simp [hmay, hhead]) _ _, rfl, ((s.gateDrop k).orderSeek_act k _).2⟩
  case settle =>
    intro s k hrun hstate hreached
    exact if_pos (by simp only [hrun, hreached, Bool.true_and, Bool.and_true, Bool.or_eq_true, Bool.and_eq_true, beq_iff_eq]; exact hstate)
  case underway =>
    intro s k m hrun hstate hmotion hreached
    have harm : exec (.seekSettleEntry k) s = execSeekSettleEntry k s := rfl
    rw [harm, execSeekSettleEntry]
    simp only [hstate, hmotion, hrun, hreached]
    rfl
  case readReady =>
    intro s k hrun hstate hready hticks hsafe
    exact next_of_cond (by
      simp only [hrun, hready, hticks, hsafe, Option.isNone_none, decide_true, Bool.not_false, Bool.true_and, Bool.and_true, Bool.or_eq_true,
        Bool.and_eq_true, beq_iff_eq, Bool.not_eq_true']
      exact hstate) _ _
  case writeReady =>
    intro s k hrun hstate hready hchg hticks
    exact next_of_cond (by simp [hrun, hstate, hready, hchg, hticks]) _ _
  case timeoutAgain =>
    intro s k q hseek hrun harriving hstate hlimit hagain hsafe hgo
    obtain ⟨u, hu⟩ := exec_seekTimeout hseek hrun harriving hstate hlimit hsafe hgo
    rw [hu, if_pos hagain]
  case timeout =>
    intro s k q hseek hrun harriving hstate hlimit hagain hsafe hgo
    obtain ⟨u, hu⟩ := exec_seekTimeout hseek hrun harriving hstate hlimit hsafe hgo
    refine ⟨_, hu.trans (if_neg (by simp [hagain])), ?_⟩
    rw [State.act_setAct_same]
    exact ⟨rfl, rfl, rfl⟩
  case acquire =>
    intro s k q hrun hacq hstate hseek
    exact exec_headSwitchAcquire hrun hacq hstate hseek
  case acquireLoad =>
    intro s k hrun hacq hstate harriving
    refine (if_neg ?_).trans (if_pos ?_)
    · simp [hstate]
    · simp [hrun, hacq, hstate, harriving]
  case acquireFail =>
    intro s k hrun hstate hseen hacq
    exact next_of_cond (by simp [hrun, hstate, hseen, hacq]) _ _

end Sys2Proof.Machine
end

section
/-! SUPPORT. The commands of the channels, preamps and fly-height loops, and the statement O21. -/

namespace Sys2Proof.Machine

theorem State.hd_setHd_same (s : State) (h : Nat) (f : HeadCtx → HeadCtx) : (s.setHd h f).hd h = f (s.hd h) := by
  simp only [State.hd, State.setHd, Tbl.getD, Tbl.find_put_same, Option.getD_some]

theorem State.chn_setChn_same (s : State) (k : Nat) (f : Chan → Chan) : (s.setChn k f).chn k = f (s.chn k) := by
  simp only [State.chn, State.setChn, Tbl.getD, Tbl.find_put_same, Option.getD_some]

/-! ### Frames of the preamp link (R319 to R325) -/

/-- The frame that the link sends next leaves its queue. -/
def State.frameSent (s : State) (k : Nat) (f : LFrame) : State := s.setChn k fun c => { c with link := c.link.erase f }

theorem exec_linkFrame {s : State} {k : Fin 4} {w : BitVec 32} {f : LFrame} (d crc : BitVec 16) (hit : Bool) (hrun : s.running) (hact : k.val < s.nAct)
    (hfail : s.onk CHN_PLINK_FAIL k = false) (hnext : nextFrame (s.chn k).link = some f) (hword : w.toNat = f.word) :
    exec (.linkFrame k w d crc hit) s =
      if !(f.rd || f.back) then .next ((s.frameSent k f).linkWrite k f)
      else if crc.toNat ≠ responseCrc f.word d.toNat ∨ (f.back ∧ d.toNat ≠ f.data) then .next (((s.frameSent k f).linkEmit k f).linkError k f)
      else if f.back then .next ((s.frameSent k f).linkEmit k f)
      else .next (((s.frameSent k f).linkEmit k f).statusRead k f d.toNat hit) := by
  refine (if_pos (by simp [hrun, hact, hfail])).trans ?_
  rw [hnext]
  exact if_neg (by simp [hword])

/-- Without a frame in the queue, or with another word, the link does nothing. -/
theorem exec_linkFrame_idle {s : State} {k : Fin 4} {w : BitVec 32} (d crc : BitVec 16) (hit : Bool)
    (h : ∀ f, nextFrame (s.chn k).link = some f → w.toNat ≠ f.word) : exec (.linkFrame k w d crc hit) s = .next s := by
  have harm : exec (.linkFrame k w d crc hit) s = execLinkFrame k w d crc hit s := rfl
  rw [harm, execLinkFrame]
  split
  · split
    · rfl
    · next f hf => rw [if_pos (h f hf)]
  · rfl

/-! ### Preamp faults (R325) -/

/-- The storing of the head of a fault touches no pending bit. -/
theorem plinkHead_notPend (k : Fin 4) : EVT_PEND.key 0 (119 / 32) ≠ CHN_PLINK_FHEAD.key k 0 := by
  revert k
  decide

/-- A preamp fault is taken with event 119; with the third of a second the head is disabled (R325). -/
theorem exec_preampFault {s : State} {k : Fin 4} {n : Nat} (hrun : s.running) (hact : k.val < s.nAct) (hfault : (s.chn k).fault = none) (hn : 16 ≤ n) :
    ∃ u : State, exec (.preampFault k n) s =
        .next (if 3 ≤ (u.hd (s.selHead k)).faults.length then u.disableHead (s.selHead k) else u) ∧ u.evtPend 119 := by
  have hpend : (((s.gateDrop k).raise 119).pk CHN_PLINK_FHEAD k (s.selHead k)).evtPend 119 := by
    rw [State.evtPend_pk _ _ _ _ (plinkHead_notPend k)]
    exact State.raise_evtPend _ (by decide)
  exact ⟨_, if_pos (by simp [hrun, hact, hfault, hn]), hpend⟩

theorem exec_preampFaultClear {s : State} {k : Fin 4} {n : Nat} (hfault : (s.chn k).fault = some n) :
    exec (.preampFaultClear k) s = .next (if s.instant ≤ n + 20000 then s.setChn k fun c => { c with fault := none }
      else { s.setChn k fun c => { c with fault := none } with
        wr := s.wr.map fun w => if (s.setChn k fun c => { c with fault := none }).locAct w.1 = k.val ∧ w.2.phase = 2 then (w.1, { w.2 with phase := 0 }) else w }) := by
  have harm : exec (.preampFaultClear k) s = execPreampFaultClear k s := rfl
  rw [harm, execPreampFaultClear, hfault]
  rfl

/-! ### Touchdown and calibration (R333) -/

theorem exec_touchdownStep {s : State} {k : Fin 4} {c : Bool} {x : Touch} (htouch : (s.chn k).touch = some x) (hrun : s.running) (hended : x.ended = none)
    (hticks : x.edge + 25 ≤ s.clk.edges) (hstate : s.actSt k = 2) (hhead : s.selHead k = x.head) (hslice : (s.chn k).slice = none) {y : Touch}
    (hy : s.touchNext false { x with hit := x.hit || c } = y) :
    exec (.touchdownStep k c) s =
      .next ((s.setChn k fun z => { z with touch := some y }).pk CHN_FH_HTR y.head (if y.ended.isSome then 0 else y.htr)) := by
  have harm : exec (.touchdownStep k c) s = execTouchdownStep k c s := rfl
  rw [harm, execTouchdownStep, htouch]
  simp only [hslice, Option.isSome_none, Bool.false_eq_true, if_false, hy]
  exact if_pos (by simp [hrun, hended, hticks, hstate, hhead])

/-- A calibration that is due on the selected head goes by its frames and by its touchdown. -/
theorem exec_headCalibration {s : State} {h : Fin 20} (x : CalIn) (hwanted : s.calWanted h) (hsel : s.selHead (s.headAct h) = h) :
    exec (.headCalibration h x) s = match (s.chn (s.headAct h)).calAt.filter (fun b => b.1 == h.val), (s.chn (s.headAct h)).touch with
      | none, _ => .next (((s.setChn (s.headAct h) fun c => { c with calAt := some (h, s.clk.edges) }).sidebandGo (s.headAct h)).configFrames (s.headAct h) h)
      | some b, t => if b.2 + 70000 ≤ s.clk.edges then .next (s.calFail (s.headAct h) h) else match t with
        | none => .next (s.calTouch (s.headAct h) h x)
        | some t => match t.ended with
          | none => .next s
          | some (some p) => .next (if x.track && decide ((s.sepDiff (s.headAct h) h x.sep).natAbs ≤ 8) then s.calPass (s.headAct h) h p x
            else s.calFail (s.headAct h) h)
          | some none => .next (s.calFail (s.headAct h) h) :=
  (if_neg (by simp [hwanted])).trans (if_neg (by simp [hsel]))

/-- Settles O21, clause by clause. -/
theorem channelCommandsComplete : Obligations.ChannelCommandsComplete := by
  unfold Obligations.ChannelCommandsComplete
  refine ⟨?written, ?error, ?status, ?empty, ?otherWord, ?contact, ?fault, ?clear, ?clearLate, ?sideband, ?channelStep, ?flyHeight, ?touchdown,
    ?noTouchdown, ?calSeek, ?calBegin, ?calLate, ?calTouch, ?calEnd⟩
  case written =>
    intro s k w d crc hit f hrun hact hfail hnext hword hrd hback
    rw [exec_linkFrame d crc hit hrun hact hfail hnext hword, if_pos (by simp [hrd, hback])]
    rfl
  case error =>
    intro s k w d crc hit f hrun hact hfail hnext hword hread hbad
    rw [exec_linkFrame d crc hit hrun hact hfail hnext hword, if_neg (by rcases hread with h | h <;> simp [h]), if_pos hbad]
    rfl
  case status =>
    intro s k w d crc hit f hrun hact hfail hnext hword hrd hback hcrc
    rw [exec_linkFrame d crc hit hrun hact hfail hnext hword, if_neg (by simp [hrd]), if_neg (by simp [hcrc, hback]), if_neg (by simp [hback])]
    rfl
  case empty =>
    intro s k w d crc hit hnext
    exact exec_linkFrame_idle d crc hit fun f hf => by simp [hnext] at hf
  case otherWord =>
    intro s k w d crc hit f hnext hword
    exact exec_linkFrame_idle d crc hit fun g hg => by
      rw [hnext] at hg
      cases hg
      exact hword
  case contact =>
    intro s h n hcontact hrun hticks
    have harm : exec (.contactHoldEnd h) s = execContactHoldEnd h s := rfl
    refine ⟨_, ?_, rfl, by rw [State.hd_setHd_same]⟩
    rw [harm, execContactHoldEnd, hcontact]
    exact next_of_cond (by simp [hrun, hticks]) _ _
  case fault =>
    intro s k n hrun hact hfault hn
    obtain ⟨u, hu, hpend⟩ := exec_preampFault hrun hact hfault hn
    exact ⟨_, hu, u, hpend, rfl⟩
  case clear =>
    intro s k n hfault hsoon
    exact ⟨_, (exec_preampFaultClear hfault).trans (congrArg _ (if_pos hsoon)), rfl, by rw [State.chn_setChn_same]⟩
  case clearLate =>
    intro s k n hfault hlate
    exact (exec_preampFaultClear hfault).trans (congrArg _ (if_neg (by omega)))
  case sideband =>
    intro s k a b hrun hact hticks
    exact if_pos (by simp [hrun, hact, hticks])
  case channelStep =>
    intro s x hslot hchart
    exact if_pos (by simp [hslot, hchart])
  case flyHeight =>
    intro s x hslot hchart
    exact if_pos (by simp [hslot, hchart])
  case touchdown =>
    intro s k c x htouch hrun hended hticks hstate hhead hslice
    exact exec_touchdownStep htouch hrun hended hticks hstate hhead hslice rfl
  case noTouchdown =>
    intro s k c htouch
    have harm : exec (.touchdownStep k c) s = execTouchdownStep k c s := rfl
    rw [harm, execTouchdownStep, htouch]
  case calSeek =>
    intro s h x hwanted hsel
    exact (if_neg (by simp [hwanted])).trans (if_pos hsel)
  case calBegin =>
    intro s h x hwanted hsel hframes
    rw [exec_headCalibration x hwanted hsel, hframes]
  case calLate =>
    intro s h x b hwanted hsel hframes hlate
    rw [exec_headCalibration x hwanted hsel, hframes]
    exact if_pos hlate
  case calTouch =>
    intro s h x b hwanted hsel hframes hsoon htouch
    rw [exec_headCalibration x hwanted hsel, hframes, htouch]
    exact if_neg (by omega)
  case calEnd =>
    intro s h x b u p hwanted hsel hframes hsoon htouch hended
    rw [exec_headCalibration x hwanted hsel, hframes, htouch]
    refine (if_neg (by omega)).trans ?_
    simp only [hended]

end Sys2Proof.Machine
end

section
/-! SUPPORT. The commands of the media, and the statement O22. -/

namespace Sys2Proof.Machine

/-- A verify result of a job whose gate is down (R339 to R342). -/
theorem exec_verifyResult {s : State} {k : Fin 4} {h : Fin 20} {tr : BitVec 24} {p : BitVec 12} {j : WJob} (x : ReadIn) (n : Nat)
    (hjob : Tbl.find s.wr (mkLoc h tr.toNat p.toNat) = some j) (hrun : s.running) (hact : s.locAct (mkLoc h tr.toNat p.toNat) = k)
    (hverified : s.locVerified (mkLoc h tr.toNat p.toNat)) (hphase : j.phase = 1) (hgate : (s.act k).gate = none) :
    exec (.verifyResult k h tr p x n) s = .next (if s.verifyGood h x n then s.jobDone (mkLoc h tr.toNat p.toNat) j
      else (s.verifyFail k (mkLoc h tr.toNat p.toNat) j).landCuts j.vol j.lba) := by
  have harm : exec (.verifyResult k h tr p x n) s = execVerifyResult k h tr p x n s := rfl
  rw [harm, execVerifyResult]
  simp [hjob, hrun, hact, hverified, hphase, hgate]

/-- The abort of a recovery ends its command with status 0600 (R349). -/
theorem exec_recoveryAbortEnd {s : State} {k : Fin 4} {v : Recov} {j : RJob} {i : Nat} {c : Cmd} (hrcv : s.rcvHead k = some (v, j))
    (hcmd : s.rcvCmd j = some (i, c)) (hrun : s.running) (haborter : c.aborter ≠ []) (hdue : s.abortDue v c.abortAt) :
    exec (.recoveryAbortEnd k) s =
      .next ((((((((s.bumpk CHN_RCVSTOP_ABORT k 1).raise 116).stepClear k).rcvRecord k v j 0xFF 3).rcvDrop k v.loc).endIo i 0x0600).rcvGo k)) := by
  have harm : exec (.recoveryAbortEnd k) s = execRecoveryAbortEnd k s := rfl
  rw [harm, execRecoveryAbortEnd, hrcv]
  simp only [hcmd]
  exact if_pos (by simp [hrun, haborter, hdue])

/-- Settles O22, clause by clause. -/
theorem mediaCommandsComplete : Obligations.MediaCommandsComplete := by
  unfold Obligations.MediaCommandsComplete
  refine ⟨?decode, ?step, ?abort, ?write, ?rewrite, ?verify, ?landed, ?refresh, ?placement, ?map⟩
  case decode =>
    intro s k h tr p x j hjob hreadable hrecov
    have harm : exec (.sectorDecode k h tr p x) s = execSectorDecode k h tr p x s := rfl
    rw [harm, execSectorDecode]
    simp only [hjob, hreadable, hrecov]
    rfl
  case step =>
    intro s k x v j hrcv hrun hgoing hpassed habort
    have harm : exec (.recoveryStepEnd k x) s = execRecoveryStepEnd k x s := rfl
    rw [harm, execRecoveryStepEnd, hrcv]
    simp only [hrun, hgoing, hpassed, habort]
    rfl
  case abort =>
    intro s k v j i c hrcv hcmd hrun haborter hdue
    exact exec_recoveryAbortEnd hrcv hcmd hrun haborter hdue
  case write =>
    intro s k h tr p b j hjob hphase hmay
    have harm : exec (.sectorWrite k h tr p b) s = execSectorWrite k h tr p b s := rfl
    rw [harm, execSectorWrite, hjob]
    exact next_of_cond ⟨hphase, hmay⟩ _ _
  case rewrite =>
    intro s k h tr p b j hjob hphase hmay
    have harm : exec (.sectorRewrite k h tr p b) s = execSectorRewrite k h tr p b s := rfl
    rw [harm, execSectorRewrite, hjob]
    exact next_of_cond ⟨hphase, hmay⟩ _ _
  case verify =>
    intro s k h tr p x n j hjob hrun hact hverified hphase hgate
    exact exec_verifyResult x n hjob hrun hact hverified hphase hgate
  case landed =>
    intro s i a b p pe e hpiece hpe hmap hrun hmedia
    have harm : exec (.pieceLanded i a b) s = execPieceLanded i a s b := rfl
    rw [harm, execPieceLanded, hpiece]
    simp only [hpe, hmap]
    exact next_of_cond (by simp [hrun, hmedia]) _ _
  case refresh =>
    intro s k v l r hrefresh hmedia hon hwaits hlocks hslice
    have harm : exec (.marginalRefresh k) s = execMarginalRefresh k s := rfl
    rw [harm, execMarginalRefresh, hrefresh]
    exact if_pos (by simp only [hmedia, hon, hwaits, hlocks, hslice, Option.isNone_none, Bool.not_false, Bool.and_self])
  case placement =>
    intro s hslot hchart
    exact next_of_cond (by simp [hslot, hchart]) _ _
  case map =>
    intro s l hrun hstage hmedia hloaded
    exact ⟨_, if_pos (by simp [hrun, hstage, hmedia, hloaded]), rfl, rfl⟩

end Sys2Proof.Machine
end

section
/-! SUPPORT. The commands of the queue registers and of the flow of entries: the statements O23 and O24. -/

namespace Sys2Proof.Machine

/-! ### Doorbells and push writes in range (R425, R428) -/

theorem State.tailWrite_inRange {s : State} {fn q t : Nat} {x : Sq} (hq : s.sq fn q = some x) (ht : t < x.depth)
    (hforward : ¬ (t + x.depth - x.head) % x.depth < (x.tail + x.depth - x.head) % x.depth) : s.tailWrite fn q t = s.setSq fn q { x with tail := t } := by
  simp only [State.tailWrite, hq, if_neg (Nat.not_le.mpr ht), if_neg hforward]

theorem State.headWrite_inRange {s : State} {fn q h : Nat} {x : Cq} (hq : s.cq fn q = some x) (hh : h < x.depth)
    (hwritten : ¬ (x.tail + x.depth - x.head) % x.depth < (h + x.depth - x.head) % x.depth) : s.headWrite fn q h = s.setCq fn q { x with head := h } := by
  have hin : ¬ (x.depth ≤ h ∨ (x.tail + x.depth - x.head) % x.depth < (h + x.depth - x.head) % x.depth) := not_or.mpr ⟨Nat.not_le.mpr hh, hwritten⟩
  simp only [State.headWrite, hq, if_neg hin]

theorem State.pushWrite_taken {s : State} {fn q : Nat} {x : Sq} {b : List Byte} (hq : s.sq fn q = some x) (hpush : x.push = true) (hb : b.length = 64)
    (hroom : ¬ ((x.tail + 1) % x.depth + x.depth - x.head) % x.depth < (x.tail + x.depth - x.head) % x.depth) :
    s.pushWrite fn q b true =
      s.setSq fn q { x with tail := (x.tail + 1) % x.depth, buf := if x.buf.length < 8 then Tbl.put x.buf x.tail b else x.buf } := by
  simp [State.pushWrite, hq, hpush, hb, hroom]

/-! ### Enabling and disabling a function (R416, R417, R449) -/

theorem State.fnReset_eq (s : State) (fn : Nat) : s.fnReset fn = (s.clearFn fn).raise 148 := rfl

theorem exec_adminReady {s : State} {fn : Fin 16} {e : Nat} (hedge : Tbl.find s.enEdge fn = some e) (hfn : s.fnOpen fn) (hticks : e + 2 ≤ s.clk.edges)
    (hstopped : s.stopped = false) :
    exec (.adminReady fn) s = .next (((({ s with enEdge := Tbl.del s.enEdge fn } : State).setSq fn 0
      { depth := s.gk MQP_AQSZ_ASQS fn + 1, base := 4096 * s.gk MQP_ASQB_BASE fn }).setCq fn 0
      { depth := s.gk MQP_AQSZ_ACQS fn + 1, base := 4096 * s.gk MQP_ACQB_BASE fn }).pk MQP_STS_RDY fn 1) := by
  have harm : exec (.adminReady fn) s = execAdminReady fn s := rfl
  rw [harm, execAdminReady, hedge]
  exact if_pos (by simp [hfn, hticks, hstopped])

/-- Settles O23, clause by clause. -/
theorem queueRegisterCommandsComplete : Obligations.QueueRegisterCommandsComplete := by
  unfold Obligations.QueueRegisterCommandsComplete
  refine ⟨?enable, ?ready, ?disable, ?reset, ?resetAll, ?tail, ?head, ?push, ?unmask, ?unmaskAll, ?coalesce⟩
  case enable =>
    intro s fn hfn hen
    have henable : s.adminEnable fn = _ := if_neg (by simp [hen])
    exact ⟨_, (next_of_cond hfn _ _).trans (congrArg _ henable), rfl, Tbl.find_put_same ..⟩
  case ready =>
    intro s fn e hedge hfn hticks hstopped
    exact exec_adminReady hedge hfn hticks hstopped
  case disable =>
    intro s fn hfn hen
    exact ⟨_, next_of_cond (by simp [hfn, hen]) _ _, rfl, State.raise_evtPend _ (by decide)⟩
  case reset =>
    intro s fn hfn hpf
    exact ⟨_, (next_of_cond hfn _ _).trans (congrArg _ (if_neg hpf)), rfl, State.raise_evtPend _ (by decide)⟩
  case resetAll =>
    intro s hbar
    have hfn : s.fnOpen (0 : Fin 16) := by
      rw [State.fnOpen, hbar, Bool.true_and]
      rfl
    exact ⟨_, (next_of_cond hfn _ _).trans (congrArg _ (if_pos rfl)), rfl, State.raise_evtPend _ (by decide)⟩
  case tail =>
    intro s fn q t x hfn hq ht hforward
    exact (next_of_cond hfn _ _).trans (congrArg _ (State.tailWrite_inRange hq ht hforward))
  case head =>
    intro s fn q h x hfn hq hh hwritten
    exact (next_of_cond hfn _ _).trans (congrArg _ (State.headWrite_inRange hq hh hwritten))
  case push =>
    intro s fn q b x hfn hq hpush hb hroom
    exact (next_of_cond hfn _ _).trans (congrArg _ (State.pushWrite_taken hq hpush hb hroom))
  case unmask =>
    intro s fn v hfn hpend hmask
    have hsends : s.unmask fn v = _ := if_pos (by simp only [hpend, hmask, Bool.not_false, Bool.and_self])
    rw [exec_msixUnmask_open hfn, hsends]
  case unmaskAll =>
    intro s fn hfn
    exact next_of_cond hfn _ _
  case coalesce =>
    intro s fn q x hq hrun hunsig hctime hdue hvec
    have harm : exec (.coalesceTimer fn q) s = execCoalesceTimer fn q s := rfl
    rw [harm, execCoalesceTimer, hq]
    refine (next_of_cond (by simp [hrun, hunsig, hctime, hdue]) _ _).trans ?_
    simp [State.cqSignal, hq, hvec]

/-! ### Entries (R421, R422, R429, R432, R450, R454, R458) -/

/-- The fetch engine takes the admin queue's turn: it keeps the place of the I/O queues. -/
def State.adminTurn (s : State) (fn : Nat) (v : List Nat) (burst : Nat) : State :=
  { s with lastFn := fn, visit := 0 :: v, burst := burst - 1, lastSq := s.lastSq }

/-- The fetch of an entry of an admin queue without a pushed one. -/
theorem exec_fetch_admin {s : State} {fn : Nat} {v : List Nat} {burst slot : Nat} {x : Sq} (r : HRead) (hnext : s.fetchNext = some (fn, 0 :: v, burst))
    (hrun : s.running) (hbar : s.barOpen) (hstopped : s.hostStopped = false) (hq : s.sq fn 0 = some x) (hslot : s.freeSlot 0 = some slot)
    (hbuf : Tbl.find x.buf x.head = none) :
    execSqEntryFetch r s = .next (match r with
      | .ok b => (s.adminTurn fn v burst).takeEntry fn 0 slot x (b.take 64 ++ zeros (64 - b.length)) false
      | .err aer => (s.adminTurn fn v burst).entryError fn 0 x aer) := by
  refine (if_pos (by simp [hrun, hbar, hstopped])).trans ?_
  simp only [hnext, List.headD_cons, hq, hslot, hbuf, if_true]
  cases r <;> rfl

theorem exec_cqEntryPost {s : State} {fn : Fin 16} {q : Fin 4096} {x : Cq} (hrun : s.running) (hbar : s.barOpen) (hstopped : s.hostStopped = false)
    (hq : s.cq fn q = some x) (hfull : x.isFull = false) :
    exec (.cqEntryPost fn q) s = .next (((s.postEntry fn q).latencySample (((x.wait.head?).bind (·.slot)).bind s.cmd)).aborterDone
      (((((x.wait.head?).bind (·.slot)).bind s.cmd).map (·.aborter)).getD [])) := by
  refine (if_pos (by simp [hrun, hbar, hstopped])).trans ?_
  rw [hq]
  exact if_neg (by simp [hfull])

theorem exec_unknownOpcode {s : State} {i : Nat} {c : Cmd} (hcmd : s.cmd i = some c) (hstarts : s.starts i c)
    (hunknown : (if c.sq = 0 then !(adminTable.any fun r => r.1 == c.opc) else decide (2 < c.opc)) = true) :
    exec (.unknownOpcode i) s = .next (s.complete i 0x0100) := by
  have harm : exec (.unknownOpcode i) s = execUnknownOpcode i s := rfl
  rw [harm, execUnknownOpcode, hcmd]
  exact next_of_cond (by simp only [hstarts, hunknown, Bool.and_self]) _ _

/-- Settles O24, clause by clause. -/
theorem queueFlowCommandsComplete : Obligations.QueueFlowCommandsComplete := by
  unfold Obligations.QueueFlowCommandsComplete
  refine ⟨?fetch, ?post, ?unknownIo, ?unknownAdmin, ?drained, ?timeout, ?fetchError, ?deadline⟩
  case fetch =>
    intro s b fn q v burst slot x hnext hrun hbar hstopped hq hslot hadmin hbuf
    subst hadmin
    exact exec_fetch_admin (.ok b) hnext hrun hbar hstopped hq hslot hbuf
  case post =>
    intro s fn q x hrun hbar hstopped hq hfull
    exact exec_cqEntryPost hrun hbar hstopped hq hfull
  case unknownIo =>
    intro s i c hcmd hstarts hsq hopc
    exact exec_unknownOpcode hcmd hstarts (by simp [hsq, hopc])
  case unknownAdmin =>
    intro s i c hcmd hstarts hsq hopc
    exact exec_unknownOpcode hcmd hstarts (by simp only [hsq, hopc, if_true, Bool.not_false])
  case drained =>
    intro s fn q x i hq hrun hst hnone hdeleter
    have harm : exec (.sqDrained fn q) s = execSqDrained fn q s := rfl
    rw [harm, execSqDrained, hq]
    refine (if_pos (by simp only [hrun, hst, hnone, beq_self_eq_true, Bool.and_self])).trans ?_
    rw [hdeleter]
  case timeout =>
    intro s i a c hcmd hrun hphase
    have harm : exec (.completionTimeout (some i) a) s = execCompletionTimeout (some i) a s := rfl
    rw [harm, execCompletionTimeout]
    simp only [hcmd]
    exact if_pos (by simp [hrun, hphase])
  case fetchError =>
    intro s a fn q v burst slot x hnext hrun hbar hstopped hq hslot hadmin hbuf
    subst hadmin
    exact exec_fetch_admin (.err a) hnext hrun hbar hstopped hq hslot hbuf
  case deadline =>
    intro s i c hcmd hrun hsq hphase hoverdue
    have harm : exec (.deadlineExpiry i) s = execDeadlineExpiry i s := rfl
    rw [harm, execDeadlineExpiry, hcmd]
    exact if_pos (by simp [hrun, hsq, hphase, hoverdue])

end Sys2Proof.Machine
end

section
/-! SUPPORT. Reads, writes, flushes, locks and slabs, and the admin commands of queues, abort and thaw: the statements O25 and O26. -/

namespace Sys2Proof.Machine

/-! ### Reads and writes (R420, R433, R452, R460) -/

/-- A read or write of a volume that passes its checks presents its lock request. -/
theorem State.rw_starts {s : State} {i opc v : Nat} {d : DescIn} {c : Cmd} {l : List (Nat × Nat)} (hcmd : s.cmd i = some c) (hstarts : s.starts i c)
    (hsq : c.sq ≠ 0) (hopc : c.opc = opc) (htest : s.testBlocks c = false) (hcheck : s.rwCheck c (opc == 1) = none) (hvol : volCode c.vol = some v)
    (hv : v < 64) (hdptr : c.dptr d = .segs l) (hlen : segSum l = 4112 * c.nlb) :
    s.rw i opc d = (s.setCmd i { c with phase := 1, segs := l }).present
      { vol := v, lba := c.slba, n := c.nlb, excl := opc == 1, req := c.fn, who := .slot i } := by
  have hopen : (s.starts i c && c.sq != 0 && c.opc == opc && !s.testBlocks c) = true := by simp [hstarts, hsq, hopc, htest]
  have hsegs : s.withSegs i c d (fun n => n == 4112 * c.nlb) (fun l s => s.rwStart i c (opc == 1) l) = s.rwStart i c (opc == 1) l :=
    State.withSegs_ok _ hdptr (by simp [hlen])
  rw [State.rw, hcmd]
  simp only [hopen, if_true, hcheck, hdptr]
  rw [hsegs]
  simp [State.rwStart, hvol, hv]

/-! ### Flush (R463, R464) -/

theorem exec_flush_all {s : State} {i : Nat} {c : Cmd} (hcmd : s.cmd i = some c) (hstarts : s.starts i c) (hsq : c.sq ≠ 0) (hopc : c.opc = 0)
    (htest : s.testBlocks c = false) (hreserved : c.reserved [] = false) (hdeadline : c.badDeadline = false) (hall : c.vol = 0xFFFF) (hdata : c.noData) :
    exec (.flush i) s = .next (s.setCmd i { c with phase := 2 }) := by
  have harm : exec (.flush i) s = execFlush i s := rfl
  have hchecks : firstFail [(c.reserved [] || c.badDeadline, 0x0101), (c.vol != 0xFFFF && (s.volBad c.fn c.vol).isSome,
      if c.vol = 0xFFFF then 0 else (s.volBad c.fn c.vol).getD 0), (!c.noData, 0x0112)] = none := by
    simp [firstFail, hreserved, hdeadline, hall, hdata]
  rw [harm, execFlush, hcmd]
  refine (next_of_cond (by simp [hstarts, hsq, hopc, htest]) _ _).trans ?_
  rw [hchecks]

theorem exec_hostDataBlock {s : State} {i : Nat} {b : List Byte} {c : Cmd} {v : Nat} (hcmd : s.cmd i = some c) (hvol : volCode c.vol = some v)
    (hrun : s.running) (hstopped : s.hostStopped = false) (hsq : c.sq ≠ 0) (hopc : c.opc = 1) (hphase : c.phase = 2) (hcut : c.cut = false)
    (hmoved : c.moved < c.nlb) (hroom : s.stagingRoom) (hchain : c.chainShort c.moved = none) :
    exec (.hostDataBlock i (.ok b)) s = .next (s.ingest i c v b) := by
  have harm : exec (.hostDataBlock i (.ok b)) s = execHostDataBlock i (.ok b) s := rfl
  rw [harm, execHostDataBlock, hcmd]
  simp only [hvol]
  refine (if_pos (by simp [hrun, hstopped, hsq, hopc, hphase, hcut, hmoved, hroom])).trans ?_
  rw [hchain]

/-! ### Locks (R441, R442, R448) -/

/-- A request goes from the requests to the table. -/
def State.lockEntered (s : State) (l : Lock) : State :=
  { s with locks := { s.locks with reqs := s.locks.reqs.erase l, table := s.locks.table ++ [l] } }

/-- The table takes the lowest request where it has room: it is granted at once unless a lock stands against it or its command is late. -/
theorem exec_lockRequest {s : State} {l : Lock} (hlow : lowestReq s.locks.reqs = some l) (hrun : s.running) (hroom : s.locks.room l)
    (hempty : s.locks.queue.isEmpty) :
    exec .lockRequest s = .next (if !(s.locks.table.any fun b => b.conflicts l) && !(s.lockEntered l).lockLate l then ((s.lockEntered l).headWord l).granted l
      else s.lockEntered l) := by
  have harm : exec .lockRequest s = execLockRequest s := rfl
  rw [harm, execLockRequest, hlow]
  refine (if_neg (by simp [hrun])).trans (if_pos ?_)
  have hin : (({ s with locks := { s.locks with reqs := s.locks.reqs.erase l } } : State).locks.room l &&
    ({ s with locks := { s.locks with reqs := s.locks.reqs.erase l } } : State).locks.queue.isEmpty) = true :=
    Bool.and_eq_true_iff.mpr ⟨hroom, hempty⟩
  rw [hin, Bool.true_or, Bool.true_or]

/-- Settles O25, clause by clause. -/
theorem ioCommandsComplete : Obligations.IoCommandsComplete := by
  unfold Obligations.IoCommandsComplete
  refine ⟨?write, ?read, ?flush, ?flushed, ?data, ?lock, ?conflict, ?grant, ?slab, ?parity⟩
  case write =>
    intro s i d c v l hcmd hstarts hsq hopc htest hcheck hvol hv hdptr hlen
    exact congrArg _ (State.rw_starts (opc := 1) hcmd hstarts hsq hopc htest hcheck hvol hv hdptr hlen)
  case read =>
    intro s i d c v l hcmd hstarts hsq hopc htest hcheck hvol hv hdptr hlen
    exact congrArg _ (State.rw_starts (opc := 2) hcmd hstarts hsq hopc htest hcheck hvol hv hdptr hlen)
  case flush =>
    intro s i c hcmd hstarts hsq hopc htest hreserved hdeadline hall hdata
    exact exec_flush_all hcmd hstarts hsq hopc htest hreserved hdeadline hall hdata
  case flushed =>
    intro s i c hcmd hrun hsq hopc hphase hflushed
    have harm : exec (.flushComplete i true) s = execFlushComplete i true s := rfl
    rw [harm, execFlushComplete, hcmd]
    exact if_pos (by simp [hrun, hsq, hopc, hphase, hflushed])
  case data =>
    intro s i b c v hcmd hvol hrun hstopped hsq hopc hphase hcut hmoved hroom hchain
    exact exec_hostDataBlock hcmd hvol hrun hstopped hsq hopc hphase hcut hmoved hroom hchain
  case lock =>
    intro s l hlow hrun hroom hempty hfree hlate
    refine (exec_lockRequest hlow hrun hroom hempty).trans (congrArg _ (if_pos ?_))
    rw [hfree, State.lockEntered, hlate]
    rfl
  case conflict =>
    intro s l hlow hrun hroom hempty hconflict
    refine (exec_lockRequest hlow hrun hroom hempty).trans (congrArg _ (if_neg ?_))
    rw [hconflict]
    simp
  case grant =>
    intro s l hgrant hrun hlate
    have harm : exec .lockGrant s = execLockGrant s := rfl
    rw [harm, execLockGrant, hgrant]
    exact next_of_cond (by simp [hrun, hlate]) _ _
  case slab =>
    intro s w k r p hwait hfree hpiece hfind hslab
    have harm : exec .slabGrant s = execSlabGrant s := rfl
    rw [harm, execSlabGrant, hwait, hfree]
    refine (if_pos hpiece).trans ?_
    rw [show Tbl.find ({ s with slabWait := r, poolFull := !r.isEmpty } : State).pieces w = some p from hfind]
    dsimp only
    rw [hslab]
  case parity =>
    intro s v hrun hkey
    exact next_of_cond (by simp [hrun, hkey]) _ _

/-! ### Thaw (R486, R521 to R525) -/

/-- The admin queue of a function is thawed through its register (R525). -/
theorem State.admThaw_frozen {s : State} {fn : Nat} (action : Nat) (hfrozen : s.sqFrozen fn 0) (hsettled : s.unsettled fn 0 = false) :
    s.admThaw fn action = if action = 1 then
        ((((s.pk MQP_ADMTHAW_ACTION fn action).thaw fn 0 action).2.pk MQP_ADMTHAW_RES fn 1).pk MQP_STS_AFRZ fn 0).pk MQP_ADMTHAW_DISC fn
          ((s.pk MQP_ADMTHAW_ACTION fn action).thaw fn 0 action).1
      else (((s.pk MQP_ADMTHAW_ACTION fn action).thaw fn 0 action).2.pk MQP_ADMTHAW_RES fn 1).pk MQP_STS_AFRZ fn 0 := by
  have hfrozen' : ¬ (!(s.pk MQP_ADMTHAW_ACTION fn action).sqFrozen fn 0) = true := by
    rw [show (s.pk MQP_ADMTHAW_ACTION fn action).sqFrozen fn 0 = s.sqFrozen fn 0 from rfl, hfrozen]
    exact Bool.false_ne_true
  have hsettled' : ¬ (s.pk MQP_ADMTHAW_ACTION fn action).unsettled fn 0 = true := by
    rw [show (s.pk MQP_ADMTHAW_ACTION fn action).unsettled fn 0 = s.unsettled fn 0 from rfl, hsettled]
    exact Bool.false_ne_true
  exact (if_neg hfrozen').trans (if_neg hsettled')

/-- A thaw command whose checks pass. -/
theorem State.thawCmd_runs {s : State} {i : Nat} {c : Cmd} {sel : Nat → Bool} {a : Nat} (hrun : s.adminRuns i 9 c [(32, 3)]) (ha : c.le 34 1 = a)
    (hsel : sel a = true) (hlow : a < 2) (hqid : s.badQid c (c.le 32 2) = false) (hfrozen : (!s.sqFrozen c.fn (c.le 32 2)) = false)
    (hsettled : s.unsettled c.fn (c.le 32 2) = false) (hdata : c.noData) :
    s.thawCmd i sel = ((s.begun i c).thaw c.fn (c.le 32 2) a).2.completeWith i 0 ((s.begun i c).thaw c.fn (c.le 32 2) a).1 := by
  subst ha
  have hin : decide (2 ≤ c.le 34 1) = false := decide_eq_false (Nat.not_le.mpr hlow)
  exact State.adminPlain_runs _ hrun hsel (by simp only [firstFail, hin, hqid, hfrozen, hsettled, Bool.false_eq_true, if_false]) hdata

/-! ### Abort (R484, R485) -/

/-- The aborted command notes the aborting one and when it was aborted. -/
def State.abortNoted (s : State) (i j r : Nat) : State :=
  (s.modCmd i fun c => { c with result := r }).modCmd j fun t => { t with aborter := t.aborter ++ [i], abortAt := (s.modCmd i fun c => { c with result := r }).instant }

theorem exec_abort {s : State} {i : Nat} {c : Cmd} (hrun : s.adminRuns i 8 c [(32, 4)])
    (hqid : (decide (s.gk MQP_CAP_QMAX c.fn < c.le 32 2) || (s.sq c.fn (c.le 32 2)).isNone) = false) (hdata : c.noData) :
    exec (.abort i) s = .next (match ((s.begun i c).inFlight c.fn (c.le 32 2)).find? (fun e => e.2.cid == c.le 34 2 && e.1 != i) with
      | none => (s.begun i c).completeWith i 0 1
      | some (j, t) => if abortOutcome t = 0 then ((s.begun i c).abortNoted i j (abortOutcome t)).abortTarget j t
        else (s.begun i c).abortNoted i j (abortOutcome t)) :=
  congrArg _ (State.adminPlain_runs _ hrun rfl (by simp only [firstFail, hqid, Bool.false_eq_true, if_false]) hdata)

/-- Settles O26, clause by clause: every admin command that runs and passes its checks does its work on the state in which it has begun. -/
theorem adminQueueCommandsComplete : Obligations.AdminQueueCommandsComplete := by
  unfold Obligations.AdminQueueCommandsComplete
  refine ⟨?deleteSq, ?createSq, ?deleteCq, ?createCq, ?abortNone, ?abort, ?resume, ?discard, ?adminResume, ?adminDiscard⟩
  case deleteSq =>
    intro s i c x hrun hsq hqid hdata
    have hchecks : firstFail [(s.badQid c (c.le 32 2) || (s.sq c.fn (c.le 32 2)).isNone, 0x0104)] = none := by simp [firstFail, hqid, hsq]
    refine congrArg _ ((State.adminPlain_runs _ hrun rfl hchecks hdata).trans ?_)
    rw [show (s.begun i c).sq c.fn (c.le 32 2) = some x from hsq]
  case createSq =>
    intro s i c hrun hflags hqid hfresh hdepth hbase hcq hdata
    exact congrArg _ (State.adminPlain_runs _ hrun rfl
      (by simp only [firstFail, hflags, hqid, hfresh, hdepth, hbase, hcq, Bool.false_eq_true, if_false]) hdata)
  case deleteCq =>
    intro s i c hrun hqid hunnamed hdata
    exact congrArg _ (State.adminPlain_runs _ hrun rfl (by simp only [firstFail, hqid, hunnamed, Bool.false_eq_true, if_false]) hdata)
  case createCq =>
    intro s i c hrun hqid hfresh hdepth hbase hvec hdata
    exact congrArg _ (State.adminPlain_runs _ hrun rfl
      (by simp only [firstFail, hqid, hfresh, hdepth, hbase, hvec, Bool.false_eq_true, if_false]) hdata)
  case abortNone =>
    intro s i c hrun hnone hqid hdata
    rw [exec_abort hrun hqid hdata, hnone]
  case abort =>
    intro s i c j u hrun hfound houtcome hqid hdata
    rw [exec_abort hrun hqid hdata, hfound]
    simp only [houtcome, if_true]
    rfl
  case resume =>
    intro s i c hrun haction hqid hfrozen hsettled hdata
    exact congrArg _ (State.thawCmd_runs hrun haction rfl (by decide) hqid hfrozen hsettled hdata)
  case discard =>
    intro s i c hrun haction hqid hfrozen hsettled hdata
    exact congrArg _ (State.thawCmd_runs hrun haction rfl (by decide) hqid hfrozen hsettled hdata)
  case adminResume =>
    intro s fn hfn hfrozen hsettled
    exact (next_of_cond hfn _ _).trans (congrArg _ (State.admThaw_frozen 0 hfrozen hsettled))
  case adminDiscard =>
    intro s fn hfn hfrozen hsettled
    exact (next_of_cond hfn _ _).trans (congrArg _ (State.admThaw_frozen 1 hfrozen hsettled))

end Sys2Proof.Machine
end

section
/-! SUPPORT. Identify, log pages, chart updates and tunables: the statements O27 and O28. -/

namespace Sys2Proof.Machine

/-! ### The two page commands (R480, R481) -/

/-- An Identify whose checks pass writes its page and completes. -/
theorem State.identify_runs {s : State} {i cns : Nat} {c : Cmd} {d : DescIn} {l : List (Nat × Nat)} {checks : Cmd → List (Bool × Nat)}
    (page : Cmd → List Byte) (hrun : s.adminRuns i 6 c [(32, 1)]) (hcns : c.le 32 1 = cns) (hchecks : firstFail (checks c) = none) (hkind : c.dkind = 1)
    (hdptr : c.dptr d = .segs l) (hlen : segSum l = 4096) :
    s.identify i cns d checks page = (((s.begun i c).toHost { c with segs := l } 0 (pageBytes (page c) 0 4096)).modCmd i fun c => { c with segs := l }).complete i 0 := by
  have hpass : firstFail ((c.le 32 1 != cns, 0x0101) :: checks c ++ [(c.dkind != 1, 0x0112)]) = none := by
    rw [firstFail_none_iff] at hchecks ⊢
    simp only [List.cons_append, List.forall_mem_cons, List.forall_mem_append]
    exact ⟨by simp [hcns], hchecks, by simp [hkind]⟩
  rw [State.identify, State.admin_runs _ hrun (by simp [hcns]) hpass, State.withSegs_ok _ hdptr (by simp [hlen])]

/-- A log page command whose checks pass writes the bytes asked for and does what its page does afterwards. -/
theorem State.logPage_runs {s : State} {i lid : Nat} {c : Cmd} {d : DescIn} {l : List (Nat × Nat)} {checks : Cmd → List (Bool × Nat)}
    (page : Cmd → List Byte) (after : Cmd → Nat → State → State) (hrun : s.adminRuns i 2 c [(32, 8)]) (hlid : c.le 32 1 = lid)
    (hchecks : firstFail (checks c) = none) (hflags : c.le 33 1 < 2) (hoff : c.off % 4 = 0)
    (hclear : (c.clear && (lid != 2 || c.fn != 0 || c.off != 0 || decide (c.asked d < (page c).length))) = false)
    (hdptr : c.dptr d = .segs l) (hfour : segSum l % 4 = 0) (hmax : segSum l ≤ 2 ^ 20) :
    s.logPage i lid d checks page after = after c (segSum l) ((s.begun i c).toHost { c with segs := l } 0 (pageBytes (page c) c.off (segSum l))) := by
  have hpass : firstFail ((decide (2 ≤ c.le 33 1), 0x0101) :: (c.le 32 1 != lid, 0x0101) :: checks c ++ [(c.off % 4 != 0, 0x0101),
      (c.clear && (lid != 2 || c.fn != 0 || c.off != 0 || decide (c.asked d < (page c).length)), 0x0101)]) = none := by
    rw [firstFail_none_iff] at hchecks ⊢
    simp only [List.cons_append, List.forall_mem_cons, List.forall_mem_append]
    exact ⟨decide_eq_false (Nat.not_le.mpr hflags), by simp [hlid], hchecks, by simp [hoff], hclear, by simp⟩
  rw [State.logPage, State.admin_runs _ hrun (by simp [hlid]) hpass, State.withSegs_ok _ hdptr (by simp only [hfour, hmax, decide_true, beq_self_eq_true, Bool.and_self])]

/-- The one check of a page, on its selector, passes. -/
theorem firstFail_one {b : Bool} {st : Nat} (hb : b = false) : firstFail [(b, st)] = none := by simp [firstFail, hb]

theorem not_clearing {c : Cmd} (b : Bool) (hclear : c.clear = false) : (c.clear && b) = false := by simp [hclear]

/-- Settles O27: every page by the rule of its command, `State.identify_runs` or `State.logPage_runs`. -/
theorem identifyAndLogCommandsComplete : Obligations.IdentifyAndLogCommandsComplete := by
  unfold Obligations.IdentifyAndLogCommandsComplete
  refine ⟨?node, ?function, ?volume, ?errors, ?lost, ?lostCleared, ?results, ?statistics, ?ring, ?sector, ?histogram, ?extremes⟩
  case node =>
    intro s i c d l hrun hcns hkind hdptr hlen
    exact congrArg _ (State.identify_runs (fun _ => s.nodeData) hrun hcns rfl hkind hdptr hlen)
  case function =>
    intro s i c d l hrun hcns hkind hdptr hlen
    exact congrArg _ (State.identify_runs (fun c => s.fnData c.fn) hrun hcns rfl hkind hdptr hlen)
  case volume =>
    intro s i c d l hrun hcns hvol hkind hdptr hlen
    exact congrArg _ (State.identify_runs (fun c => s.volData ((volCode c.vol).getD 0)) hrun hcns (firstFail_one hvol) hkind hdptr hlen)
  case errors =>
    intro s i c d l hrun hlid hsq hflags hoff hclear hdptr hfour hmax
    exact congrArg _ (State.logPage_runs _ _ hrun hlid (firstFail_one hsq) hflags hoff (not_clearing _ hclear) hdptr hfour hmax)
  case lost =>
    intro s i c d l hrun hlid hlsp hflags hoff hclear hdptr hfour hmax
    refine congrArg _ ((State.logPage_runs _ _ hrun hlid (firstFail_one hlsp) hflags hoff (not_clearing _ hclear) hdptr hfour hmax).trans ?_)
    rw [hclear]
    rfl
  case lostCleared =>
    intro s i c d l hrun hlid hlsp hflags hoff hclear hdptr hfour hmax hfn hstart hall
    have hwhole : (c.clear && ((2 : Nat) != 2 || c.fn != 0 || c.off != 0 || decide (c.asked d < s.lostPage.length))) = false := by
      simp [hfn, hstart, hall]
    refine congrArg _ ((State.logPage_runs _ _ hrun hlid (firstFail_one hlsp) hflags hoff hwhole hdptr hfour hmax).trans ?_)
    rw [hclear]
    rfl
  case results =>
    intro s i c d l hrun hlid hlsp hflags hoff hclear hdptr hfour hmax
    exact congrArg _ (State.logPage_runs _ _ hrun hlid (firstFail_one hlsp) hflags hoff (not_clearing _ hclear) hdptr hfour hmax)
  case statistics =>
    intro s i c d l hrun hlid hvol hseen hflags hoff hclear hdptr hfour hmax
    exact congrArg _ (State.logPage_runs _ _ hrun hlid (by simp [firstFail, hvol, hseen]) hflags hoff (not_clearing _ hclear) hdptr hfour hmax)
  case ring =>
    intro s i c d l hrun hlid hlsp hflags hoff hclear hdptr hfour hmax
    exact congrArg _ (State.logPage_runs _ _ hrun hlid (firstFail_one hlsp) hflags hoff (not_clearing _ hclear) hdptr hfour hmax)
  case sector =>
    intro s i c d l hrun hlid hlsp hflags hoff hclear hdptr hfour hmax
    exact congrArg (fun u : State => (.next u.fresh : Out))
      (State.logPage_runs _ _ hrun hlid (firstFail_one hlsp) hflags hoff (not_clearing _ hclear) hdptr hfour hmax)
  case histogram =>
    intro s i c d l hrun hlid hlsp hflags hoff hclear hdptr hfour hmax
    exact congrArg _ (State.logPage_runs _ _ hrun hlid (firstFail_one hlsp) hflags hoff (not_clearing _ hclear) hdptr hfour hmax)
  case extremes =>
    intro s i c d l hrun hlid hlsp hflags hoff hclear hdptr hfour hmax
    exact congrArg (fun u : State => (.next u.fresh : Out))
      (State.logPage_runs _ _ hrun hlid (firstFail_one hlsp) hflags hoff (not_clearing _ hclear) hdptr hfour hmax)

/-! ### Chart updates and tunables (R184 to R187, R471, R472, R479) -/

/-- Settles O28, clause by clause. -/
theorem chartAndTunableCommandsComplete : Obligations.ChartAndTunableCommandsComplete := by
  unfold Obligations.ChartAndTunableCommandsComplete
  refine ⟨?write, ?commit, ?set, ?get⟩
  case write =>
    intro s i c d b l hrun hplace hdptr hmin hmax hpages hfits
    refine congrArg _ ((State.admin_runs _ hrun rfl (firstFail_one hplace)).trans ((State.withSegs_ok _ hdptr rfl).trans ?_))
    refine (if_neg ?_).trans rfl
    omega
  case commit =>
    intro s i c hrun hstate hdata
    exact congrArg _ (State.adminPlain_runs _ hrun rfl (firstFail_one hstate) hdata)
  case set =>
    intro s i c hrun hsubset hknown hvol hdata
    exact congrArg _ (State.adminPlain_runs _ hrun rfl (by simp only [firstFail, hsubset, hknown, hvol, Bool.false_eq_true, if_false]) hdata)
  case get =>
    intro s i c l hrun hknown hvol hkind hdptr hlen
    refine congrArg (fun u : State => (.next u.fresh : Out)) ((State.admin_runs _ hrun rfl ?_).trans (State.withSegs_ok _ hdptr (by simp [hlen])))
    simp only [firstFail, hknown, hvol, hkind, Bool.false_eq_true, if_false]

end Sys2Proof.Machine
end

section
/-! SUPPORT. Volumes, spans, keys, power states, reset, self-tests and calibration slices: the statements O29 and O30. -/

namespace Sys2Proof.Machine

/-! ### Volumes and spans (R465 to R470) -/

/-- A volume management command whose checks pass does its work and completes: with action 0 the volume may be absent, with another it exists. -/
theorem State.volManage_runs {s : State} {i action : Nat} {c : Cmd} {used : List (Nat × Nat)} {checks : Cmd → List (Bool × Nat)} (f : Cmd → State → State)
    (hrun : s.adminRuns i 0x10 c ([(32, 4)] ++ used)) (haction : c.action = action) (hvol : decide (64 ≤ c.vol) = false)
    (hexists : action = 0 ∨ (s.volAt c.vol).isNone = false) (hchecks : firstFail (checks c) = none) (hdata : c.noData) :
    s.volManage i action used checks f = (f c (s.begun i c)).complete i 0 := by
  refine State.adminPlain_runs _ hrun (by simp [haction]) ?_ hdata
  rw [firstFail_none_iff] at hchecks ⊢
  simp only [List.forall_mem_cons]
  refine ⟨?_, by simp [haction], hchecks⟩
  rcases hexists with h | h <;> simp [hvol, h]

/-- A span management command whose checks pass does its work and completes. -/
theorem State.spanManage_runs {s : State} {i action : Nat} {c : Cmd} {checks : Cmd → List (Bool × Nat)} (f : Cmd → State → State)
    (hrun : s.adminRuns i 0x11 c [(32, 4)]) (haction : c.action = action) (hvol : decide (c.vol < 64) = false) (hknown : s.volUnknown c.vol = false)
    (hchecks : firstFail (checks c) = none) (hdata : c.noData) :
    s.spanManage i action checks f = (f c (s.begun i c)).complete i 0 := by
  refine State.adminPlain_runs _ hrun (by simp [haction]) ?_ hdata
  rw [firstFail_none_iff] at hchecks ⊢
  simp only [List.forall_mem_cons]
  exact ⟨by simp [hvol, hknown], by simp [haction], hchecks⟩

theorem firstFail_append_none {l l' : List (Bool × Nat)} (h : firstFail l = none) (h' : firstFail l' = none) : firstFail (l ++ l') = none := by
  rw [firstFail_none_iff] at h h' ⊢
  exact List.forall_mem_append.mpr ⟨h, h'⟩

/-- Settles O29: every volume command by `State.volManage_runs`, every span command by `State.spanManage_runs`, the key commands by their own checks. -/
theorem volumeAndKeyCommandsComplete : Obligations.VolumeAndKeyCommandsComplete := by
  unfold Obligations.VolumeAndKeyCommandsComplete
  refine ⟨?create, ?delete, ?grow, ?modes, ?attach, ?detach, ?spanModes, ?load, ?clear⟩
  case create =>
    intro s i c hrun haction hvol hwords hfresh hroom hdata hmodes
    have hfirst : firstFail [(badModes c.vmodes || c.badCap, 0x0101), ((s.volAt c.vol).isSome, 0x0113), (decide (s.forReserve < c.capExt), 0x0500)] = none := by
      simp only [firstFail, hwords, hfresh, hroom, Bool.false_eq_true, if_false]
    exact congrArg _ (State.volManage_runs _ hrun haction hvol (.inl rfl) (firstFail_append_none hfirst hmodes) hdata)
  case delete =>
    intro s i c hrun haction hvol hexists hbusy hdata
    refine congrArg _ (State.volManage_runs _ hrun haction hvol (.inr hexists) ?_ hdata)
    simp only [firstFail, hbusy, Bool.false_eq_true, if_false]
  case grow =>
    intro s i c hrun haction hvol hexists hcap hroom hdata
    refine congrArg _ (State.volManage_runs _ hrun haction hvol (.inr hexists) ?_ hdata)
    simp only [firstFail, hcap, hroom, Bool.false_eq_true, if_false]
  case modes =>
    intro s i c hrun haction hvol hexists hwords hdata hmodes
    refine congrArg _ (State.volManage_runs _ hrun haction hvol (.inr hexists) ?_ hdata)
    simp only [firstFail, hwords, hmodes, Bool.false_eq_true, if_false]
  case attach =>
    intro s i c hrun haction hvol hknown hwords hmember hdata hmodes
    refine congrArg _ (State.spanManage_runs _ hrun haction hvol hknown (firstFail_append_none ?_ hmodes) hdata)
    simp only [firstFail, hwords, hmember, Bool.false_eq_true, if_false]
  case detach =>
    intro s i c hrun haction hvol hknown hattached hidle hdata
    refine congrArg _ (State.spanManage_runs _ hrun haction hvol hknown ?_ hdata)
    simp only [firstFail, hattached, hidle, Bool.false_eq_true, if_false]
  case spanModes =>
    intro s i c hrun haction hvol hknown hattached hwords hdata hmodes
    refine congrArg _ (State.spanManage_runs _ hrun haction hvol hknown (firstFail_append_none ?_ hmodes) hdata)
    simp only [firstFail, hattached, hwords, Bool.false_eq_true, if_false]
  case load =>
    intro s i c b l hrun hknown henc hkind hdptr hlen
    refine congrArg _ ((State.admin_runs _ hrun rfl ?_).trans (State.withSegs_ok _ hdptr (by simp [hlen])))
    simp only [firstFail, hknown, henc, hkind, Bool.false_eq_true, if_false]
  case clear =>
    intro s i c hrun hknown hidle hdata
    refine congrArg _ (State.adminPlain_runs _ hrun rfl ?_ hdata)
    simp only [firstFail, hknown, hidle, Bool.false_eq_true, if_false]

/-! ### Power states and self-tests (R476 to R478, R654 to R657) -/

/-- A Power State command with its own target does its work. -/
theorem State.powerCmd_runs {s : State} {i target : Nat} {c : Cmd} (f : State → State) (hrun : s.adminRuns i 0x18 c [(32, 1)]) (htarget : c.le 32 1 = target)
    (hdata : c.noData) : s.powerCmd i target f = f (s.begun i c) :=
  State.adminPlain_runs _ hrun (by simp [htarget]) (by simp [firstFail, htarget]) hdata

/-- A self-test command whose checks pass starts its test: one of actuators names some, the free slab test none, and an exclusive one finds them quiesced. -/
theorem State.selfTest_runs {s : State} {i : Nat} {c : Cmd} {sel : Nat → Bool} (f : Nat → State → State) (hrun : s.adminRuns i 0x1C c [(32, 2)])
    (hsel : sel c.test = true) (hcode : testCodes.contains c.test = true) (hacts : ((c.actmask == 0) != (c.test == 0x20)) = false)
    (hmask : decide (2 ^ s.nAct ≤ c.actmask) = false) (hopen : s.testMasked c.test = false)
    (hquiet : exclusiveTests.contains c.test = false ∨ (!s.quiesced c.actmask) = false) (hdata : c.noData) :
    s.selfTest i sel f = f c.actmask ((s.begun i c).testStart i c) := by
  have hexclusive : (exclusiveTests.contains c.test && !s.quiesced c.actmask) = false := Bool.and_eq_false_iff.mpr hquiet
  refine State.adminPlain_runs _ hrun hsel ?_ hdata
  simp only [firstFail, hcode, hacts, hmask, hopen, hexclusive, Bool.not_true, Bool.false_eq_true, if_false]

/-- A test of actuators names at least one. -/
theorem actuatorTest_mask {c : Cmd} {t : Nat} (htest : c.test = t) (hother : t ≠ 0x20) (hmask : c.actmask ≠ 0) :
    ((c.actmask == 0) != (c.test == 0x20)) = false := by
  rw [htest, beq_false_of_ne hmask, beq_false_of_ne hother]
  rfl

/-- Settles O30, clause by clause. -/
theorem powerAndTestCommandsComplete : Obligations.PowerAndTestCommandsComplete := by
  unfold Obligations.PowerAndTestCommandsComplete
  refine ⟨?run, ?standby, ?vigil, ?reset, ?touchdown, ?separation, ?sweep, ?scan, ?recalibrate, ?slabs, ?complete, ?start, ?sepEnd, ?touchEnd, ?timeEnd⟩
  case run =>
    intro s i c hrun htarget hdata
    exact congrArg _ (State.powerCmd_runs _ hrun htarget hdata)
  case standby =>
    intro s i c hrun htarget hdata
    exact congrArg _ (State.powerCmd_runs _ hrun htarget hdata)
  case vigil =>
    intro s i c hrun htarget hdata
    exact congrArg _ (State.powerCmd_runs _ hrun htarget hdata)
  case reset =>
    intro s i c hrun hdata
    exact congrArg _ (State.adminPlain_runs _ hrun rfl rfl hdata)
  case touchdown =>
    intro s i c hrun htest hacts hmask hopen hdata
    exact congrArg _ (State.selfTest_runs _ hrun (by rw [htest]; rfl) (by rw [htest]; rfl) (actuatorTest_mask htest (by decide) hacts) hmask hopen
      (.inl (by rw [htest]; rfl)) hdata)
  case separation =>
    intro s i c hrun htest hacts hmask hopen hdata
    exact congrArg _ (State.selfTest_runs _ hrun (by rw [htest]; rfl) (by rw [htest]; rfl) (actuatorTest_mask htest (by decide) hacts) hmask hopen
      (.inl (by rw [htest]; rfl)) hdata)
  case sweep =>
    intro s i c hrun htest hacts hmask hopen hquiet hdata
    exact congrArg _ (State.selfTest_runs _ hrun (by rw [htest]; rfl) (by rw [htest]; rfl) (actuatorTest_mask htest (by decide) hacts) hmask hopen
      (.inr hquiet) hdata)
  case scan =>
    intro s i c hrun htest hacts hmask hopen hquiet hdata
    exact congrArg _ (State.selfTest_runs _ hrun (by rw [htest]; rfl) (by rw [htest]; rfl) (actuatorTest_mask htest (by decide) hacts) hmask hopen
      (.inr hquiet) hdata)
  case recalibrate =>
    intro s i c hrun htest hacts hmask hopen hquiet hdata
    exact congrArg _ (State.selfTest_runs _ hrun (by rw [htest]; rfl) (by rw [htest]; rfl) (actuatorTest_mask htest (by decide) hacts) hmask hopen
      (.inr hquiet) hdata)
  case slabs =>
    intro s i c hrun htest hacts hmask hopen hdata
    exact congrArg _ (State.selfTest_runs _ hrun (by rw [htest]; rfl) (by rw [htest]; rfl) (by rw [htest, hacts]; rfl) hmask hopen
      (.inl (by rw [htest]; rfl)) hdata)
  case complete =>
    intro s n r htst hrun hfree hover
    have harm : exec (.selfTestComplete n) s = execSelfTestComplete n s := rfl
    rw [harm, execSelfTestComplete, htst]
    exact next_of_cond (by simp [hrun, hfree, hover]) _ _
  case start =>
    intro s h b hmay
    exact next_of_cond hmay _ _
  case sepEnd =>
    intro s k d x hslice hrun hkind
    have harm : exec (.calSliceEnd k (some d)) s = execCalSliceEnd k (some d) s := rfl
    rw [harm, execCalSliceEnd, hslice]
    simp [hrun, hkind]
  case touchEnd =>
    intro s k x t r hslice hrun hkind htouch hended hagain
    have harm : exec (.calSliceEnd k none) s = execCalSliceEnd k none s := rfl
    rw [harm, execCalSliceEnd, hslice]
    simp [hrun, hkind, htouch, hended, hagain]
  case timeEnd =>
    intro s k x hslice hrun hkind hlate
    have harm : exec (.calSliceEnd k none) s = execCalSliceEnd k none s := rfl
    rw [harm, execCalSliceEnd, hslice]
    simp [hrun, hkind, hlate]

end Sys2Proof.Machine
end

section
/-! SUPPORT. The fabric ports, fabric time and discovery: the statements O31 and O32. -/

namespace Sys2Proof.Machine

/-! ### Ports (R532 to R541, R566) -/

/-- The error counters of a port stand beside its state. -/
theorem pstat_key_ne_counters : ∀ p : Fin 4, FAB_PSTAT_STATE.key p 0 ≠ FAB_PCORR_COUNT.key p 0 ∧ FAB_PSTAT_STATE.key p 0 ≠ FAB_PERR_UNCORR.key p 0 := by
  decide

/-- An up port takes flits. -/
theorem State.portUp_takesFlits {s : State} {p : Nat} (hup : s.portUp p) :
    (decide (1 ≤ s.gk FAB_PSTAT_STATE p) && decide (s.gk FAB_PSTAT_STATE p ≤ 3)) = true := by
  simp only [State.portUp, Bool.or_eq_true, beq_iff_eq] at hup
  rcases hup with h | h <;> simp [h]

/-- Correcting a flit leaves the port as it was. -/
theorem State.portUp_corrected (s : State) (p : Fin 4) (n : Nat) : (s.bumpk FAB_PCORR_COUNT p n).portUp p = s.portUp p := by
  have hkeep : (s.bumpk FAB_PCORR_COUNT p n).gk FAB_PSTAT_STATE p = s.gk FAB_PSTAT_STATE p := State.gk_pk_ne s _ (pstat_key_ne_counters p).1
  simp only [State.portUp, hkeep]

/-- Counting an uncorrectable flit leaves the port as it was. -/
theorem State.portUp_uncorrectable (s : State) (p : Fin 4) (n : Nat) : (s.bumpk FAB_PERR_UNCORR p n).portUp p = s.portUp p := by
  have hkeep : (s.bumpk FAB_PERR_UNCORR p n).gk FAB_PSTAT_STATE p = s.gk FAB_PSTAT_STATE p := State.gk_pk_ne s _ (pstat_key_ne_counters p).2
  simp only [State.portUp, hkeep]

/-- Settles O31, clause by clause. -/
theorem fabricPortCommandsComplete : Obligations.FabricPortCommandsComplete := by
  unfold Obligations.FabricPortCommandsComplete
  refine ⟨?good, ?bad, ?failure, ?training, ?up, ?timeout, ?hold, ?hello, ?greet, ?delay, ?measure, ?lanes⟩
  case good =>
    intro s p f hrun hup hdecoded hfcrc
    refine (if_pos (by simp only [hrun, Bool.true_and, State.portUp_takesFlits hup])).trans ?_
    simp only [hdecoded, if_true]
    refine (if_neg ?_).trans (if_neg ?_)
    · rw [State.portUp_corrected, hup]
      exact Bool.false_ne_true
    · rw [FlitIn.good, hdecoded, hfcrc]
      exact Bool.false_ne_true
  case bad =>
    intro s p f hrun hup hdecoded hidle
    refine (if_pos (by simp only [hrun, Bool.true_and, State.portUp_takesFlits hup])).trans ?_
    simp only [hdecoded, hidle, Bool.false_eq_true, if_false]
    refine (if_neg ?_).trans (if_pos ?_)
    · rw [State.portUp_uncorrectable, hup]
      exact Bool.false_ne_true
    · rw [FlitIn.good, hdecoded]
      rfl
  case failure =>
    intro s p c hrun hdead
    exact next_of_cond (by simp [hrun, hdead]) _ _
  case training =>
    intro s p hrun hpower hstage hfab hon hstate hagain
    refine if_pos ?_
    simp only [hrun, hpower, hon, hfab, hagain, decide_true, Bool.and_true, Bool.true_and, Bool.and_eq_true, Bool.or_eq_true, beq_iff_eq]
    exact ⟨hstage, hstate⟩
  case up =>
    intro s p b l hrun hpower hstate hpeer hdelays htime
    exact next_of_cond (by simp [hrun, hpower, hstate, hpeer, hdelays, htime]) _ _
  case timeout =>
    intro s p hrun hstate htime
    exact if_pos (by simp [hrun, hstate, htime])
  case hold =>
    intro s p e hrun hstate hbad huntil htime
    exact next_of_cond (by simp [hrun, hstate, hbad, huntil, htime]) _ _
  case hello =>
    intro s p b q id m hrun hstate hup hpeer hport
    exact (if_neg (by simp [hrun])).trans ((if_neg hstate).trans ((if_pos hup).trans (if_neg (by simp [hpeer, hport]))))
  case greet =>
    intro s p b q id m hrun hstate hport hmode hnode hpeer
    have hnamed : ¬ (s.g FAB_CFG_MODE = 0 ∧ id ≠ s.chartedNbr p) := fun h => hnode (hmode.trans h.1)
    have hfirst : ¬ (s.port p).peerSerial.isNone = true := by
      rw [Option.isNone_iff_eq_none, ← Option.not_isSome_iff_eq_none]
      exact not_not_intro hpeer
    exact (if_neg (by simp [hrun])).trans ((if_pos hstate).trans ((if_neg (by simp [hport, hmode])).trans ((if_neg hnamed).trans (next_of_not hfirst _ _))))
  case delay =>
    intro s p a b c d hrun hup hfew
    have hlast : ((s.port p).delays ++ [d - a - (c - b)]).length < 16 := by
      rw [List.length_append, List.length_singleton]
      omega
    exact (if_pos (by simp [hrun, hup]; omega)).trans (if_pos hlast)
  case measure =>
    intro s p hrun hup hfull htime
    exact next_of_cond (by simp [hrun, hup, hfull, htime]) _ _
  case lanes =>
    intro s x hopen
    exact if_pos hopen

/-! ### Time and discovery (R549, R554, R557 to R569) -/

theorem State.on_p_ne (s : State) {F G : Fld} (v : Nat) (h : G.key 0 0 ≠ F.key 0 0) : (s.p F v).on G = s.on G := by
  simp only [State.on, State.g_p_ne s v h]

/-- Giving back the credits of a parcel leaves the routes as they were. -/
theorem State.leaveBuffer_tabled (s : State) (p : Parcel) : (s.leaveBuffer p).fab.tabled = s.fab.tabled := by
  unfold State.leaveBuffer
  split <;> rfl

/-- What follows an election: the node with the lowest serial walks the rings where its own links are up (R559). -/
def State.electionEnded (s : State) : State :=
  if s.lowest ≠ Config.serial then s else if [0, 2].any fun p => s.portOn p && !s.portUp p then s.discFail 3 else s.ringStart 0 3

theorem State.electionEnded_next (s : State) : (if s.lowest ≠ Config.serial then (.next s : Out)
    else if [0, 2].any fun p => s.portOn p && !s.portUp p then .next (s.discFail 3) else .next (s.ringStart 0 3)) = .next s.electionEnded := by
  simp only [State.electionEnded, apply_ite Host.Outcome.next]

/-- Settles O32, clause by clause. -/
theorem fabricTimeCommandsComplete : Obligations.FabricTimeCommandsComplete := by
  unfold Obligations.FabricTimeCommandsComplete
  refine ⟨?time, ?aligned, ?elect, ?elected, ?ring, ?passed, ?walkTimeout, ?assign, ?view, ?found, ?timeout, ?switch, ?forward⟩
  case time =>
    intro s p a b r hrun hup hport hroot hleaf hstate hloaded
    have hkeep : ({ s with timeNow := true, fab := { s.fab with quiet := 0, err := r - (a - b + s.gk FAB_PDLY_DELAY p) } } : State).on CLK_STAT_TICK_LOADED = true :=
      hloaded
    refine (if_pos (by simp [hrun, hup, hport, hroot, hleaf, hstate])).trans (if_pos (Bool.or_eq_true_iff.mpr (.inl ?_)))
    rw [State.on_p_ne _ _ (by decide), hkeep]
  case aligned =>
    intro s hrun hleaf hquiet
    exact next_of_cond (by simp [hrun, hleaf, hquiet]) _ _
  case elect =>
    intro s p b hrun hup hstate hlower
    exact (if_pos (by simp [hrun, hup, hstate, hlower])).trans (next_of_cond hstate _ _)
  case elected =>
    intro s hrun hstate htime
    exact (if_pos (by simp [hrun, hstate, htime])).trans (State.electionEnded_next _)
  case ring =>
    intro s p d n e hrun hup hwalk hport
    refine (if_pos (by simp [hrun, hup])).trans ?_
    rw [hwalk]
    exact if_pos ⟨rfl, hport⟩
  case passed =>
    intro s p d n hrun hup hwalk hstate
    refine (if_pos (by simp [hrun, hup])).trans ?_
    rw [hwalk]
    exact next_of_cond (.inr hstate) _ _
  case walkTimeout =>
    intro s d e hwalk hrun hstate htime
    have harm : exec .ringWalkTimeout s = execRingWalkTimeout s := rfl
    rw [harm, execRingWalkTimeout, hwalk]
    exact next_of_cond (by simp [hrun, hstate, htime]) _ _
  case assign =>
    intro s p w h x y hrun hup hmode hnode hstate
    refine (if_neg (by simp [hrun, hup, hmode])).trans ((if_pos hnode).trans ((if_pos (.inr (.inr hstate))).trans ?_))
    exact congrArg (fun u : State => (.next ((u.upPorts p).foldl State.assign u).originate : Out)) (if_neg (by rw [hstate]; decide))
  case view =>
    intro s p id x hrun hup hstate hother hnew
    refine (if_neg (by simp [hrun, hup, hstate])).trans ((if_neg fun h => hother h.1).trans (if_pos ?_))
    rw [hnew]
    rfl
  case found =>
    intro s hrun hstate hnode htime hswitch htabled hloaded
    exact next_of_cond (by simp [hrun, hstate, hnode, htime, hswitch, htabled, hloaded]) _ _
  case timeout =>
    intro s hrun hstate htime
    exact next_of_cond (by simp [hrun, hstate, htime]) _ _
  case switch =>
    intro s n hswitch hrun htime hnode hstate
    have harm : exec .routeEpochSwitch s = execRouteEpochSwitch s := rfl
    rw [harm, execRouteEpochSwitch, hswitch]
    exact next_of_cond (by simp [hrun, htime, hnode, hstate]) _ _
  case forward =>
    intro s p hrun hother hkind hhops htabled
    have hpass : ¬ (s.takes p && !known5 p.kind) = true := by simp [State.takes, hother]
    have hleft : ¬ 64 ≤ p.hops + 1 := by omega
    have hready : ¬ (!(s.leaveBuffer p).fab.tabled) = true := by
      rw [State.leaveBuffer_tabled, htabled]
      exact Bool.false_ne_true
    exact (if_neg hpass).trans ((if_pos (by simp [hrun, hother, hkind])).trans ((if_neg hleft).trans (if_neg hready)))

end Sys2Proof.Machine
end

section
/-! SUPPORT. Pieces of spans and their parcels: the statement O34. -/

namespace Sys2Proof.Machine

/-- A piece of a read or write moves on only while its command waits for its pieces (R576 to R578). -/
theorem exec_pieceSend {s : State} {i j : Nat} {c : Cmd} {q : IPiece} (hcmd : s.cmd i = some c) (hpiece : c.pieces[j]? = some q) (hrun : s.running)
    (hstopped : s.hostStopped = false) (hphase : c.phase = 2) (hsq : c.sq ≠ 0) :
    exec (.pieceSend i j) s = if q.phase = 0 then .next (if s.keyClash i c q then s else s.pieceGo i j c q)
      else if q.phase = 1 ∧ c.opc = 1 then .next (s.sendBlocks i j) else .next s := by
  have harm : exec (.pieceSend i j) s = execPieceSend i j s := rfl
  rw [harm, execPieceSend, hcmd]
  dsimp only
  rw [hpiece]
  exact if_pos (by simp [hrun, hstopped, hphase, hsq])

/-- What the owner of a stripe does depends on the state it does it in alone. -/
theorem State.asOwner_congr {s : State} (p : Parcel) {f g : State → State} (h : f s = g s) : s.asOwner p f = s.asOwner p g := by
  simp only [State.asOwner, h]

/-- A block of a piece already begun joins it. -/
theorem State.parcelPiece_again {s : State} {p : Parcel} {e : Nat × OPiece} (hnew : s.known p = false) (hpiece : s.pieceFor p false = some e) :
    s.parcelPiece p = s.asOwner p fun u => u.transit p (p.span + 64) (encOf p.modes) (fun b n v => v.blockIn e.1 p b n) fun st v => v.blockBad e.1 p st := by
  refine (if_neg (by simp [hnew])).trans (State.asOwner_congr p ?_)
  dsimp only
  rw [hpiece]

/-- Settles O34: a parcel that this node consumes does its work in the state in which it was received. -/
theorem spanCommandsComplete : Obligations.SpanCommandsComplete := by
  unfold Obligations.SpanCommandsComplete
  refine ⟨?send, ?blocks, ?retry, ?settle, ?again, ?piece, ?read, ?answered, ?unanswered, ?remap, ?remapped, ?accept, ?done, ?rdata, ?notready, ?resend, ?resendq⟩
  case send =>
    intro s i j c q hcmd hpiece hrun hstopped hphase hsq hq hclash
    exact (exec_pieceSend hcmd hpiece hrun hstopped hphase hsq).trans ((if_pos hq).trans (next_of_not (by simp [hclash]) _ _))
  case blocks =>
    intro s i j c q hcmd hpiece hrun hstopped hphase hsq hq hopc
    exact (exec_pieceSend hcmd hpiece hrun hstopped hphase hsq).trans ((if_neg (by simp [hq])).trans (if_pos ⟨hq, hopc⟩))
  case retry =>
    intro s i j c q hcmd hpiece hrun hstopped hphase hq hretry
    have harm : exec (.pieceRetry i j) s = execPieceRetry i j s := rfl
    rw [harm, execPieceRetry, hcmd]
    dsimp only
    rw [hpiece]
    exact next_of_cond (by simp [hrun, hstopped, hphase, hq, hretry]) _ _
  case settle =>
    intro s e hlow hrun
    have harm : exec .settleRelease s = execSettleRelease s := rfl
    rw [harm, execSettleRelease, hlow]
    exact next_of_cond hrun _ _
  case again =>
    intro s p e hconsumed hroom hnew hpiece
    exact (if_pos hroom).trans ((State.consume_next _ hconsumed).trans (congrArg _ (State.parcelPiece_again hnew hpiece)))
  case piece =>
    intro s p hconsumed hroom
    exact (if_pos hroom).trans (State.consume_next _ hconsumed)
  case read =>
    intro s p hconsumed
    exact State.consume_next (·.parcelReadParcel p) hconsumed
  case answered =>
    intro s p st hconsumed hhere hstatus
    refine (State.consume_next (·.parcelQuery p) hconsumed).trans (congrArg _ ?_)
    simp only [State.parcelQuery, hhere, hstatus]
  case unanswered =>
    intro s p hconsumed hhere hstatus
    refine (State.consume_next (·.parcelQuery p) hconsumed).trans (congrArg _ ?_)
    simp only [State.parcelQuery, hhere, hstatus]
  case remap =>
    intro s p hconsumed
    exact State.consume_next (·.parcelRemap p) hconsumed
  case remapped =>
    intro s p r hconsumed hremap hpeer hstep hresult
    refine (State.consume_next (·.parcelRemapr p) hconsumed).trans (congrArg _ ?_)
    rw [State.parcelRemapr]
    simp only [hremap]
    exact (if_neg (by simp [hpeer, hstep])).trans (if_pos hresult)
  case accept =>
    intro s p hconsumed _
    exact State.consume_next (·.parcelAccept p) hconsumed
  case done =>
    intro s p hconsumed
    exact State.consume_next (fun u => (u.gather.parcelDone p).inOrder) hconsumed
  case rdata =>
    intro s p hconsumed
    exact State.consume_next (·.parcelRdata p) hconsumed
  case notready =>
    intro s p hconsumed hpiece
    exact (State.consume_next (·.parcelNotready p) hconsumed).trans (congrArg _ (if_neg (by simp [hpiece])))
  case resend =>
    intro s p x hconsumed hawaited
    refine (State.consume_next (·.parcelResendq p) hconsumed).trans (congrArg _ ?_)
    rw [State.parcelResendq, hawaited]
  case resendq =>
    intro s p hconsumed
    exact State.consume_next (·.parcelResendq p) hconsumed

end Sys2Proof.Machine
end
